-- ==== Sys2Proof/Word.lean ====
section
/-!
DEFINITION. Word.lean: the word types of the register space and of the packets (R2, R5, R6).
-/

namespace Sys2Proof

/-- A byte of a packet or of a memory. -/
abbrev Byte := BitVec 8

/-- A register or packet word (R2). -/
abbrev Word := BitVec 32

/-- Meridian time: an unsigned 64-bit count of nanoseconds (R6). -/
abbrev Time := BitVec 64

/-- The 48 gate command or status lines, bit g for channel Gg (R44). -/
abbrev Lines := BitVec 48

/-- Ticks of 5 ns in one millisecond (R7). -/
abbrev ticksPerMs : Nat := 200000

/-- Ticks of 5 ns in one microsecond (R7). -/
abbrev ticksPerUs : Nat := 200

/-- Ticks of 5 ns in one second (R7). -/
abbrev ticksPerS : Nat := 200000000

end Sys2Proof
end

