-- ==== Sys2Proof/Syntax.lean ====
section
/-!
DEFINITION. Syntax.lean: the commands of the part, one constructor of Instr per row of opcode_table.json, and the plain
data their operands are made of. A row that stands for an event carries what the outside decides about it (how much time
has passed, a level, a measured quantity); `dt` is always the number of 5 ns ticks since the command before it.
-/

namespace Sys2Proof

/-- The transports of R102; CAN is the command transport on either controller. -/
inductive Transport where
  | spi | udp | can0 | can1
  deriving DecidableEq, Repr, Inhabited

/-- The roles of a session (R96). -/
inductive Role where
  | operator | installer | maker
  deriving DecidableEq, Repr, Inhabited

/-- The writers of R30 with their index within the rank; `host` is the interpreter writing for a session's role. -/
inductive Writer where
  | lantern
  | lamplighter
  | le (n : Fin 8)
  | oe (n : Fin 2)
  | me (n : Fin 2)
  | pairA (core : Fin 2)
  | pairB (core : Fin 2)
  | host (r : Role)
  deriving DecidableEq, Repr, Inhabited

/-- How a write addresses the register (R32): at its own address, through an address with bit 30 set, with bit 31 set, or
with both. -/
inductive WKind where
  | plain | set | clr | both
  deriving DecidableEq, Repr, Inhabited

/-- One write of a cycle: who, how, what, and how many times its fabric transfer failed parity (R24). (log 29 DEDUCED) -/
structure Write where
  who : Writer
  kind : WKind
  value : Word
  fails : Nat
  deriving DecidableEq, Repr, Inhabited

/-- The writes that reach one register in one cycle of its domain (R29), after dt ticks; hwSet are the W1C bits that a
hardware event sets in the same cycle (R119). (log 1 DESIGN CHOICE; log 8 DESIGN CHOICE; log 29 DEDUCED) -/
structure WCycle where
  dt : Nat
  ws : List Write
  hwSet : Word
  deriving DecidableEq, Repr, Inhabited

/-- The initiators of fabric reads (R118, R123), engines included. -/
inductive Initiator where
  | pairA | pairB | interp | ethMover | canMover | mailboxes | engine (e : Fin 10)
  deriving DecidableEq, Repr, Inhabited

/-- A read by an initiator, and how many times its fabric transfer failed parity (R24). (log 31 DEDUCED) -/
structure Rd where
  by_ : Initiator
  fails : Nat
  deriving DecidableEq, Repr, Inhabited

/-- How a frame or packet came through the shared SRAM (R24, R27): how many times the fabric transfer that moved it failed parity,
and how many bits of a word of it had flipped in the SRAM. (log 31 DEDUCED; log 118 DEDUCED) -/
structure Moved where
  fails : Nat
  flips : Nat
  deriving DecidableEq, Repr, Inhabited

/-- A word of the Timed Action Table or of the position compare list that a read meets with flipped bits: one bit (corrected) or two
(R27). (log 118 DEDUCED) -/
structure MemErr where
  cmp : Bool
  word : Nat
  double : Bool
  deriving DecidableEq, Repr, Inhabited

/-- A received command packet (R83) apart from its opcode, which the row gives. Over UDP it has a source and a destination, and
may be a fragment (R106). `frame` is the number of words that the transport's framing carried (R105, R107); `rivals` are writes by
others that reach the same register in the same cycle; `moved` says how the packet came through the fabric and `fails` how often each
of the fabric transfers of its command failed, in order (R24); `errs` are the words that its reads meet with flipped bits (R27); `out` says
how its reply came out through the fabric; `nvFails` says that its NV write, if it makes one, fails (R451). (log 1 DESIGN CHOICE; log 31
DEDUCED; log 107 DESIGN CHOICE; log 118 DEDUCED) -/
structure Pkt where
  dt : Nat
  via : Transport
  srcIp : Word
  srcPort : Nat
  dstIp : Word
  dstPort : Nat
  fragment : Bool
  tag : BitVec 8
  flags : BitVec 8
  length : BitVec 16
  unit : BitVec 16
  session : Word
  hcrc : Word
  payload : List Word
  pcrc : Word
  frame : Nat
  rivals : List Write
  moved : Moved
  fails : List Nat
  errs : List MemErr
  out : Moved
  nvFails : Bool
  deriving DecidableEq, Repr, Inhabited

/-- What becomes of the packet that a CAN frame completes (R108): the operands that a packet row has beside the packet itself. (log 22
DESIGN CHOICE) -/
structure Fate where
  rivals : List Write
  moved : Moved
  fails : List Nat
  errs : List MemErr
  out : Moved
  nvFails : Bool
  deriving DecidableEq, Repr, Inhabited

/-- An access to engine memory through LE_MDATA (R203). -/
inductive MAccess where
  | read (by_ : Rd)
  | write (c : List Write)
  deriving DecidableEq, Repr, Inhabited

/-- The registers of an encoder channel's mode and setup (R126). -/
inductive EnSetup where
  | cfg | cpr | idxCfg | ssiCfg | ssiTim
  deriving DecidableEq, Repr, Inhabited

/-- The self-tests of BOOT that can fail (R75). -/
inductive SelfTest where
  | lockstep | sram | lantern | fabric
  deriving DecidableEq, Repr, Inhabited

/-- What BOOT finds (R58, R59, R73 to R75): the BOOTSEL level, the triples of switch reads in order, a failed self-test,
whether the PWM PLL locked within 5 ms, whether the engine memories loaded without parity error, the Candle baseline of the
device (ring-oscillator drift in ppm, oscillator drift, NV margin, and whether it is in range), whether the NV CRC of the safety
parameter record and of the envelope record is good, which external clocks are present, and whether VDRV is above its
threshold. (log 8 DESIGN CHOICE) -/
structure BootSeen where
  bootsel : Bool
  switches : List (Nat × Nat × Nat)
  failed : Option SelfTest
  pllLocked : Bool
  enginesOk : Bool
  roDrift : Int
  oscDrift : Int
  nvMargin : Nat
  inRange : Bool
  paramCrc : Bool
  envCrc : Bool
  eth0 : Bool
  eth1 : Bool
  stclk : Bool
  vdrv : Bool
  deriving DecidableEq, Repr, Inhabited

/-- One window of the clock supervision: for each internal clock, whether its count was more than 2 % off nominal (R19). (log 8 DESIGN CHOICE) -/
structure ClockWin where
  pwm : Bool
  meridian : Bool
  system : Bool
  reference : Bool
  deriving DecidableEq, Repr, Inhabited

/-- The kinds of JTAG instruction R54 tells apart. -/
inductive JtagIns where
  | boundaryScan | bypass | debug
  deriving DecidableEq, Repr, Inhabited

/-- Where a safety PDU came from (R428). -/
inductive PduSrc where
  | constellation (unit : BitVec 16)
  | udp (ip : Word) (port : Nat)
  | can (c : Fin 2) (id : BitVec 29) (ide : Bool)
  deriving DecidableEq, Repr, Inhabited

/-- An engine instruction issues: on which engine, how many reads of its program word in a row failed parity, and how many
of the data or mailbox word it reads (R202); and how the word that the mailboxes move with it came through the fabric (R24, R27, R204).
(log 76 DEDUCED; log 77 DEDUCED) -/
structure Issue where
  e : Fin 10
  prog : Nat
  data : Nat
  mail : Moved
  deriving DecidableEq, Repr, Inhabited


/-- The header of a PTP message (R333): the port it came on, whether over UDP, domainNumber, the sender's clockIdentity,
sequenceId, correctionField in 2^-16 ns, and how the frame came through the fabric. -/
structure PtpHead where
  port : Fin 2
  udp : Bool
  domain : Byte
  id : Time
  seq : BitVec 16
  corr : Int
  moved : Moved
  deriving DecidableEq, Repr, Inhabited

/-- A received Ethernet frame that may be a Constellation frame (R346, R348): EtherType, destination MAC, the number of 802.1Q tags, and
its words after the EtherType, how it came through the fabric, and how often the transfer that enters its timed action failed parity. -/
structure EthFrame where
  ethertype : BitVec 16
  mac : BitVec 48
  tags : Nat
  words : List Word
  moved : Moved
  post : Nat
  deriving DecidableEq, Repr, Inhabited

/-- The commands, one constructor per row of the opcode table. -/
inductive Instr where
  /-- ECHO (R97): Returns the payload words unchanged. -/
  | echo (p : Pkt)
  /-- GET_INFO (R97): Returns part code, revision, firmware version, state flags, unit ID, serial number and the transport's maximum LENGTH. -/
  | getInfo (p : Pkt)
  /-- SESSION_OPEN (R96): Opens a session slot under a proposed nonzero identifier and role, and returns a 32-byte challenge. -/
  | sessionOpen (p : Pkt)
  /-- SESSION_AUTH (R442): Checks the HMAC response against the role key; authenticates the session or frees its slot. -/
  | sessionAuth (p : Pkt)
  /-- SESSION_CLOSE (R443): Closes the header's session and drops its reply cache entries. -/
  | sessionClose (p : Pkt)
  /-- DEVICE_RESET (R72): Replies OK, then resets the module as a RESET# low would, without driving RESET#. -/
  | deviceReset (p : Pkt)
  /-- DEVICE_RESET_APPLY (R72): The reset requested by DEVICE_RESET takes effect within 1 ms of the reply: off sequence, then a new BOOT. -/
  | deviceResetApply (dt : Nat)
  /-- FUNC_REINIT (R473): Starts reinitialisation of one function instance, after checking its condition; interim ACCEPTED. -/
  | funcReinit (p : Pkt)
  /-- FUNC_REINIT_DONE (R473): The reinitialisation completes within its stated time and the final reply OK is sent. -/
  | funcReinitDone (func : Nat) (inst : Nat) (dt : Nat) (ok : Bool)
  /-- STATE_REQUEST (R77): Requests a device transition to SAFE, READY or ARMED, taken only if its condition holds. -/
  | stateRequest (p : Pkt)
  /-- REG_READ (R113): Reads one mapped, aligned register for the host. -/
  | regRead (p : Pkt)
  /-- REG_WRITE (R115): Writes one register, or an alias, as a rank 8 writer, subject to role, value and envelope checks. -/
  | regWrite (p : Pkt)
  /-- REG_MODIFY (R99): Reads a register and writes the masked value back as one locked pair, replying with old and new values. -/
  | regModify (p : Pkt)
  /-- BLOCK_READ (R114): Checks a whole address range, then reads its words in rising address order. -/
  | blockRead (p : Pkt)
  /-- AXIS_CONFIG (R230): Writes a list of offset/value pairs into a disabled axis's registers, all or none. -/
  | axisConfig (p : Pkt)
  /-- AXIS_ENABLE (R227): Takes a DISABLED axis to CATCH, ALIGN or RUN; Deferred until the axis reaches RUN. -/
  | axisEnable (p : Pkt)
  /-- AXIS_DISABLE (R227): Takes the axis into STOPPING, or from CATCH or ALIGN straight to DISABLED; Deferred until DISABLED. -/
  | axisDisable (p : Pkt)
  /-- AXIS_SETPOINT (R231): Writes a set-point or a power or torque limit chosen by QUANTITY. -/
  | axisSetpoint (p : Pkt)
  /-- AXIS_MODE (R232): Changes MODE and SRC of an axis, effective at the next outer-loop sample. -/
  | axisMode (p : Pkt)
  /-- AXIS_STATUS (R233): Returns the eight-word axis status block. -/
  | axisStatus (p : Pkt)
  /-- AXIS_EMERGENCY (R273): Requests entry or exit of an emergency mode on an axis; Deferred. -/
  | axisEmergency (p : Pkt)
  /-- MOTION_MOVE (R314): Starts a profile move of a resting motion engine to a target. -/
  | motionMove (p : Pkt)
  /-- MOVE_COMPLETE (R315): A profile reaches its target at zero speed; the final reply OK carries ME_POS. -/
  | moveComplete (me : Fin 2)
  /-- MOTION_STOP (R317): Stops a motion engine, freezing its angle, and replies with ME_POS and ME_STAT. -/
  | motionStop (p : Pkt)
  /-- MOTION_HOME (R323): Starts homing of a motion engine against a hard stop at the given stall current. -/
  | motionHome (p : Pkt)
  /-- HOME_COMPLETE (R324): After stall, hold and back-off, redefines ME_POS, clears UNCERTAIN and replies OK. -/
  | homeComplete (me : Fin 2)
  /-- GEAR_CONFIG (R320): Stores a ratio list and engages or disengages electronic gearing of a motion engine. -/
  | gearConfig (p : Pkt)
  /-- ACTION_POST (R341): Checks and enters one Timed Action Table entry, replying with its index. -/
  | actionPost (p : Pkt)
  /-- ACTION_CANCEL (R344): Carries a cancel to an entry; a pending entry not yet due becomes CANCELLED. -/
  | actionCancel (p : Pkt)
  /-- ACTION_LIST (R342): Returns the images of a range of Timed Action Table entries. -/
  | actionList (p : Pkt)
  /-- MEMBER_JOIN (R353): Starts a rejoin, takeover, spare join or leave of the Constellation domain. -/
  | memberJoin (p : Pkt)
  /-- MEMBER_JOIN_LISTEN_END (R354): After listening for (MISS + 1) × PERIOD, completes the join with a new epoch or refuses it. -/
  | memberJoinListenEnd 
  /-- MEMBER_STATUS (R357): Returns the membership record of the unit itself or of a named unit. -/
  | memberStatus (p : Pkt)
  /-- SAFETY_STATUS (R438): Returns switch word, identity, STO and SBC state, functions, profile and range, and the non-safe flag. -/
  | safetyStatus (p : Pkt)
  /-- SAFETY_PARAM_LOAD (R411): Checks a signed safety parameter record and starts its commit. -/
  | safetyParamLoad (p : Pkt)
  /-- ENVELOPE_LOAD (R411): Checks an installer-signed envelope record and starts its commit. -/
  | envelopeLoad (p : Pkt)
  /-- SAFETY_RECORD_COMMITTED (R411): A loaded record is committed to the NV store and applied; the final reply carries the new identity. -/
  | safetyRecordCommitted (dt : Nat) (nvOk : Bool)
  /-- IO_READ (R395): Returns field input states, invalid mask and commanded outputs, all from one barrier frame. -/
  | ioRead (p : Pkt)
  /-- IO_WRITE (R400): Sets the commanded states of the masked field outputs and ends their safe states. -/
  | ioWrite (p : Pkt)
  /-- IO_RESTORE (R401): Releases the masked outputs from safe state, hold-off or latch-off, as far as their causes have gone. -/
  | ioRestore (p : Pkt)
  /-- LOG_READ (R455): Returns fault log records in SEQ order from a sequence number. -/
  | logRead (p : Pkt)
  /-- AUDIT_READ (R455): Returns audit log records in SEQ order from a sequence number. -/
  | auditRead (p : Pkt)
  /-- FAULT_ACK (R495): Acknowledges the device and named axes, all or nothing, clearing latched faults and FR1 alerts. -/
  | faultAck (p : Pkt)
  /-- STREAM_CONFIG (R392): Writes one word into STR_CTRL, effective at the next frame start. -/
  | streamConfig (p : Pkt)
  /-- CAPTURE_ARM (R388): Arms a waveform capture on an axis's sample grid with a trigger and a list of registers. -/
  | captureArm (p : Pkt)
  /-- CAPTURE_COMPLETE (R389): The EOF of the closing frame of a capture series is sent, and CAPTURE_ARM receives its final reply. -/
  | captureComplete (dt : Nat)
  /-- NV_READ (R497): Returns words of the NV store from an offset. -/
  | nvRead (p : Pkt)
  /-- NV_WRITE (R447): Writes data atomically into one NV region that the role may write. -/
  | nvWrite (p : Pkt)
  /-- FW_LOAD (R449): Writes one image segment into the inactive bank; the first segment erases it and enters UPDATE. -/
  | fwLoad (p : Pkt)
  /-- FW_VERIFY_DONE (R449): Verification of a completely loaded image ends, with the final reply OK or IMAGE_INVALID. -/
  | fwVerifyDone (dt : Nat)
  /-- FW_ACTIVATE (R450): Writes the chosen bank to the boot record and starts a new BOOT. -/
  | fwActivate (p : Pkt)
  /-- CANDLE_REPORT (R469): Returns the eight-word Candle record chosen by the selector. -/
  | candleReport (p : Pkt)
  /-- MARGIN_REPLAN (R459): Starts a commanded Candle re-plan, or joins one that is running. -/
  | marginReplan (p : Pkt)
  /-- SPI_CS_FALL (R103): SPI_CS# falls: the SPI status word is sampled and a transaction begins. -/
  | spiCsFall (dt : Nat)
  /-- SPI_CS_RISE (R105): SPI_CS# rises: the transaction ends, a cut packet is discarded and the receiver resynchronises. -/
  | spiCsRise (dt : Nat) (words : Nat) (idle : List Nat) (cut : Bool)
  /-- REPLY_BUFFER_SPACE (R104): A reply that waited for room in the 64 KiB SPI reply buffer is queued once the space exists. -/
  | replyBufferSpace (dt : Nat)
  /-- CAN_CMD_SEGMENT_TIMEOUT (R109): More than 50 ms without a segment discards the packet under assembly. -/
  | canCmdSegmentTimeout (can : Fin 2)
  /-- ARP_REQUEST (R106): An ARP request to the unit's address is answered. -/
  | arpRequest (dt : Nat) (port : Fin 2) (target : Word) (sender : Word) (moved out : Moved)
  /-- ICMP_ECHO_REQUEST (R106): An ICMP echo request is answered with an echo reply. -/
  | icmpEchoRequest (dt : Nat) (src : Word) (dst : Word) (data : List Byte) (fragment : Bool) (moved out : Moved)
  /-- SESSION_AUTH_TIMEOUT (R442): A session not authenticated within 10 s of SESSION_OPEN is closed and its slot freed. -/
  | sessionAuthTimeout (session : Word)
  /-- AUTH_LOCKOUT_END (R442): The 60 s refusal of SESSION_AUTH for a role after five wrong responses ends. -/
  | authLockoutEnd (role : Role)
  /-- REGISTER_WRITE (R30): A write by any writer to a register without a row of its own, arbitrated at the register and checked against the envelope. -/
  | registerWrite (addr : Word) (c : WCycle)
  /-- RC_COUNTER_READ (R119): A read of a read-to-clear register returns the value and then clears it. -/
  | rcCounterRead (dt : Nat) (addr : Word) (by_ : List Rd) (hwInc : List Nat)
  /-- PAIR_LO_READ (R118): A read of the _LO half of a 64-bit pair latches the _HI half for that initiator. -/
  | pairLoRead (dt : Nat) (addr : Word) (by_ : Rd)
  /-- BR_COMMIT (R158): Copies the shadow voltage set of a bridge, or of both bridges of a two-bridge axis, into the committed set. -/
  | brCommit (b : Fin 8) (c : WCycle)
  /-- AX_TUNE_COMMIT (R226): Puts every shadow gain of the axis into use together at the next sample instant. -/
  | axTuneCommit (a : Fin 4) (c : WCycle)
  /-- PWM_CTRL_RUN_WRITE (R153): A start or stop request for bridges; a start is checked against the configuration rules. -/
  | pwmCtrlRunWrite (c : WCycle)
  /-- BRIDGE_START (R156): At the first grid valley after RUN and the Lantern release, the bridge begins switching with state O. -/
  | bridgeStart (b : Fin 8)
  /-- LE_CTRL_CHECK (R192): Writing CHECK starts the static check of an engine program. -/
  | leCtrlCheck (e : Fin 10) (c : WCycle)
  /-- STATIC_CHECK_DONE (R192): The static check ends within 2 ms with PROG_OK and WCETs, or PROG_ERR and the offending address. -/
  | staticCheckDone (e : Fin 10) (dt : Nat)
  /-- LE_CTRL_RUN_WRITE (R197): Setting RUN runs the schedule check and starts the engine's tasks if it passes. -/
  | leCtrlRunWrite (e : Fin 10) (c : WCycle)
  /-- LE_MDATA_ACCESS (R203): An access to engine memory through LE_MDATA, staged while RUN is set, advancing ADDR. -/
  | leMdataAccess (e : Fin 10) (dt : Nat) (access : MAccess)
  /-- EN_POS_WRITE (R132): Presets the encoder position by changing only the user offset; a jump for the comparator. -/
  | enPosWrite (ch : Fin 4) (c : WCycle)
  /-- EN_CFG_CHANGE (R126): An accepted change of encoder mode or setup clears VALID and REFERENCED and restarts the channel. -/
  | enCfgChange (ch : Fin 4) (reg : EnSetup) (c : WCycle)
  /-- CMP_RANGE_ARM (R147): Arming a compare range checks its entries, outputs and overlaps and takes effect within 25 µs. -/
  | cmpRangeArm (ch : Fin 4) (c : WCycle)
  /-- SYS_UNIT_WRITE (R121): Changes the unit ID for packets that arrive after the reply; refused while a member. -/
  | sysUnitWrite (c : WCycle)
  /-- SYS_SPLIT_WRITE (R122): Writes the split configuration to the boot record atomically with its audit record. -/
  | sysSplitWrite (c : WCycle)
  /-- AX_T_LOAD_WRITE (R493): The axis's observer engine writes the load observer estimate; other writers change nothing. -/
  | axTLoadWrite (a : Fin 4) (c : WCycle)
  /-- AX_PL_HOLD_RELEASE (R270): A host write of RELEASE ends the power hold on the axis. -/
  | axPlHoldRelease (a : Fin 4) (c : WCycle)
  /-- OBS_KE_MEASURE (R254): A write of MEASURE starts a back-EMF measurement, in RUN through a catch or in DISABLED with gates off. -/
  | obsKeMeasure (a : Fin 4) (c : WCycle)
  /-- KE_MEASURE_WINDOW_END (R254): The gates-off measurement window ends, records a value if it qualifies, and stops the sample grid. -/
  | keMeasureWindowEnd (a : Fin 4) (dt : Nat)
  /-- OBS_KE_REF_WRITE (R255): Writing OBS_KE_REF or setting COMMISSION makes the motor identity unconfirmed. -/
  | obsKeRefWrite (a : Fin 4) (c : WCycle) (commission : Bool)
  /-- ME_POS_WRITE (R319): An installer write of ME_POS at rest redefines the position, clears UNCERTAIN and is audited. -/
  | mePosWrite (me : Fin 2) (c : WCycle)
  /-- MER_SET_HI_WRITE (R336): Applies the set time as a step, at once under SRC 0 or at the next PPS_IN edge under SRC 2. -/
  | merSetHiWrite (c : WCycle)
  /-- MER_SET_DROP (R336): No PPS_IN edge within 1.5 s of a set: the pending value is dropped and SET_DROP is set. -/
  | merSetDrop 
  /-- CDL_REBASE_WRITE (R457): Requests a new power-stage baseline at the next re-plan; audited. -/
  | cdlRebaseWrite (c : WCycle)
  /-- LAN_SBC_REQ_WRITE (R425): Sets or clears the brake release request, which Lantern honours only under its conditions. -/
  | lanSbcReqWrite (c : WCycle)
  /-- FIO_DO_WRITE (R400): A register write of commanded field output states, leaving compare-owned bits unchanged. -/
  | fioDoWrite (c : WCycle)
  /-- CAN_INIT_WRITE (R362): Setting INIT takes the controller off the bus at the frame end; clearing it starts the rejoin. -/
  | canInitWrite (can : Fin 2) (c : WCycle)
  /-- CAN_INIT_RELEASE_DONE (R362): After 11 recessive bits the controller joins the bus with its error counters at zero. -/
  | canInitReleaseDone (can : Fin 2) (dt : Nat)
  /-- CAN_TXREQ_SET (R368): Requests transmission of a message buffer and sets PENDING. -/
  | canTxreqSet (can : Fin 2) (hi : Bool) (c : WCycle)
  /-- CAN_TX_CANCEL (R371): A clear of a transmit request cancels it, at once or at the end of the attempt. -/
  | canTxCancel (can : Fin 2) (hi : Bool) (c : WCycle)
  /-- CAN_MB_WORD0_READ (R365): A read of word 0 of a full receive buffer locks it. -/
  | canMbWord0Read (can : Fin 2) (mb : Fin 64) (dt : Nat) (by_ : Rd)
  /-- CAN_MB_LASTW_READ (R365): A read of word LASTW releases the lock and clears FULL. -/
  | canMbLastwRead (can : Fin 2) (mb : Fin 64) (dt : Nat) (by_ : Rd)
  /-- CAN_LOCK_TIMEOUT (R365): A lock held for 1 ms is released without clearing FULL, and CAN_LOCK_TMO counts. -/
  | canLockTimeout (can : Fin 2) (mb : Fin 64)
  /-- NOP (R186): Engine instruction doing nothing for one cycle. -/
  | nop (u : Issue)
  /-- MOV (R186): Engine instruction copying a register. -/
  | mov (u : Issue) (d : Fin 16) (a : Fin 16)
  /-- LIL (R186): Engine instruction loading a sign-extended 16-bit immediate. -/
  | lil (u : Issue) (d : Fin 16) (imm : BitVec 16)
  /-- LIH (R186): Engine instruction loading the upper half of a register. -/
  | lih (u : Issue) (d : Fin 16) (imm : BitVec 16)
  /-- ADD (R186): Engine instruction adding two registers with saturation. -/
  | add (u : Issue) (d : Fin 16) (a : Fin 16) (b : Fin 16)
  /-- SUB (R186): Engine instruction subtracting with saturation. -/
  | sub (u : Issue) (d : Fin 16) (a : Fin 16) (b : Fin 16)
  /-- NEG (R186): Engine instruction negating with saturation. -/
  | neg (u : Issue) (d : Fin 16) (a : Fin 16)
  /-- ABS (R186): Engine instruction forming the absolute value. -/
  | abs (u : Issue) (d : Fin 16) (a : Fin 16)
  /-- MIN (R186): Engine instruction taking the minimum of two registers. -/
  | minReg (u : Issue) (d : Fin 16) (a : Fin 16) (b : Fin 16)
  /-- MAX (R186): Engine instruction taking the maximum of two registers. -/
  | maxReg (u : Issue) (d : Fin 16) (a : Fin 16) (b : Fin 16)
  /-- CLIP (R186): Engine instruction limiting a value to ±|xB|. -/
  | clip (u : Issue) (d : Fin 16) (a : Fin 16) (b : Fin 16)
  /-- AND (R186): Engine instruction, bitwise AND. -/
  | andReg (u : Issue) (d : Fin 16) (a : Fin 16) (b : Fin 16)
  /-- OR (R186): Engine instruction, bitwise OR. -/
  | orReg (u : Issue) (d : Fin 16) (a : Fin 16) (b : Fin 16)
  /-- XOR (R186): Engine instruction, bitwise XOR. -/
  | xorReg (u : Issue) (d : Fin 16) (a : Fin 16) (b : Fin 16)
  /-- SHL (R186): Engine instruction shifting left with saturation. -/
  | shl (u : Issue) (d : Fin 16) (a : Fin 16) (sh : Fin 32)
  /-- SHR (R183): Engine instruction shifting right with rounding. -/
  | shr (u : Issue) (d : Fin 16) (a : Fin 16) (sh : Fin 32)
  /-- ADDW (R182): Engine instruction adding modulo 2^32 for angles and counts. -/
  | addw (u : Issue) (d : Fin 16) (a : Fin 16) (b : Fin 16)
  /-- SUBW (R182): Engine instruction subtracting modulo 2^32. -/
  | subw (u : Issue) (d : Fin 16) (a : Fin 16) (b : Fin 16)
  /-- MULC (R183): Engine instruction multiplying by a coefficient with its shift and rounding. -/
  | mulc (u : Issue) (d : Fin 16) (a : Fin 16) (k : Fin 512)
  /-- MUL (R186): Engine instruction forming a pu24 product. -/
  | mul (u : Issue) (d : Fin 16) (a : Fin 16) (b : Fin 16)
  /-- MULW (R186): Engine instruction returning the low 32 bits of a product. -/
  | mulw (u : Issue) (d : Fin 16) (a : Fin 16) (b : Fin 16)
  /-- MAC (R186): Engine instruction accumulating a coefficient product. -/
  | mac (u : Issue) (a : Fin 16) (k : Fin 512) (n : Fin 4)
  /-- ACCR (R186): Engine instruction reading an accumulator with a rounding shift. -/
  | accr (u : Issue) (d : Fin 16) (n : Fin 4) (sh : Fin 32)
  /-- ACCZ (R186): Engine instruction clearing an accumulator. -/
  | accz (u : Issue) (n : Fin 4)
  /-- SINCOS (R186): Engine instruction forming sine and cosine of an angle. -/
  | sincos (u : Issue) (d : Fin 16) (a : Fin 16)
  /-- ATAN2 (R186): Engine instruction forming the angle of a vector. -/
  | atan2 (u : Issue) (d : Fin 16) (a : Fin 16) (b : Fin 16)
  /-- DIV (R187): Engine instruction dividing in pu24, saturating on division by zero. -/
  | div (u : Issue) (d : Fin 16) (a : Fin 16) (b : Fin 16)
  /-- SQRT (R186): Engine instruction forming a pu24 square root. -/
  | sqrt (u : Issue) (d : Fin 16) (a : Fin 16)
  /-- LD (R196): Engine instruction loading a data word, staged value first within the state window. -/
  | ld (u : Issue) (d : Fin 16) (a : Fin 16) (off : Fin 16384)
  /-- ST (R196): Engine instruction storing a data word, staged within the state window. -/
  | st (u : Issue) (d : Fin 16) (a : Fin 16) (off : Fin 16384)
  /-- IN (R201): Engine instruction reading a register of the permitted PWM-domain blocks. -/
  | inReg (u : Issue) (d : Fin 16) (a : Fin 16) (off : Fin 16384)
  /-- OUT (R188): Engine instruction writing a register, arbitrated, with RT set on loss. -/
  | outReg (u : Issue) (d : Fin 16) (a : Fin 16) (off : Fin 16384) (rivals : List Write)
  /-- MBR (R189): Engine instruction reading the inbound mailbox, setting E when empty. -/
  | mbr (u : Issue) (d : Fin 16)
  /-- MBW (R189): Engine instruction writing the outbound mailbox, dropping the word when full. -/
  | mbw (u : Issue) (d : Fin 16)
  /-- TST (R184): Engine instruction setting flags from a register. -/
  | tst (u : Issue) (a : Fin 16)
  /-- CMP (R184): Engine instruction setting flags from a saturated difference. -/
  | cmp (u : Issue) (a : Fin 16) (b : Fin 16)
  /-- BR (R190): Engine instruction branching forward on a condition code. -/
  | branch (u : Issue) (cond : Fin 16) (target : Fin 8192)
  /-- LOOP (R186): Engine instruction executing the following body N times. -/
  | loop (u : Issue) (passes : Fin 256) (len : Fin 64)
  /-- END (R196): Engine instruction ending the task and committing its state window. -/
  | endTask (u : Issue)
  /-- TASK_RELEASE (R193): A task slot is released at its sample instant plus START, or START after the currents are available. -/
  | taskRelease (e : Fin 10) (slot : Fin 4)
  /-- TASK_START (R193): An idle engine starts the waiting task of lowest slot, applying staged data and preloading registers. -/
  | taskStart (e : Fin 10)
  /-- TASK_DEADLINE (R195): At the deadline a running task is aborted or a waiting one dropped, counted as an overrun. -/
  | taskDeadline (e : Fin 10) (slot : Fin 4)
  /-- SAMPLE_INSTANT (R210): At each sample instant of an axis, feedback is latched and the torque reference is formed. -/
  | sampleInstant (a : Fin 4)
  /-- SD_VALUE_AVAILABLE (R169): A measured or projected current becomes available 1.5·OSR bits plus 2 ticks after its instant. -/
  | sdValueAvailable (ch : Fin 16) (bits : List Bool)
  /-- EN_SPEED_UPDATE (R140): Every 100 µs the speed of an encoder channel without an owner is computed. -/
  | enSpeedUpdate (dt : Nat) (ch : Fin 4)
  /-- ENCODER_EDGE (R128): An accepted quadrature edge changes the count, is timestamped and may fire compare entries. -/
  | encoderEdge (dt : Nat) (ch : Fin 4) (a : Bool) (b : Bool) (held : Nat) (errs : List MemErr)
  /-- COMPARE_PULSE_END (R146): A compare pulse ends after its width. -/
  | comparePulseEnd 
  /-- PULSE_EDGE (R138): An accepted pulse in pulse/direction mode counts with the direction level. -/
  | pulseEdge (dt : Nat) (ch : Fin 4) (rising : Bool) (b : Bool) (held : Nat) (since : Nat) (errs : List MemErr)
  /-- INDEX_EVENT (R133): An index pulse references or checks the counter under the index policy. -/
  | indexEvent (dt : Nat) (ch : Fin 4) (rising : Bool) (held : Nat)
  /-- SSI_FRAME (R137): An SSI frame read at its period is unwrapped into the counter, or predicted when in error. -/
  | ssiFrame (dt : Nat) (ch : Fin 4) (raw : Word) (par : Bool) (err : Bool) (errs : List MemErr)
  /-- ENCODER_LINE_FAULT (R142): Differential amplitude below 200 mV for over 1 µs makes the channel lost. -/
  | encoderLineFault (dt : Nat) (ch : Fin 4) (line : Fin 3)
  /-- ENC_SUPPLY_OVERLOAD (R42): An encoder supply above 300 mA is switched off for 100 ms and its channel is lost. -/
  | encSupplyOverload (dt : Nat) (ch : Fin 4)
  /-- ENC_SUPPLY_RETRY (R42): After 100 ms the encoder supply is switched on again. -/
  | encSupplyRetry (ch : Fin 4)
  /-- HALL_EDGE (R144): An accepted Hall or switch edge is stamped and updates the sector code. -/
  | hallEdge (dt : Nat) (h : Fin 8) (level : Bool) (held : Nat)
  /-- AI_CONVERSION (R176): Every 50 µs an analog input is converted, filtered and scaled. -/
  | aiConversion (dt : Nat) (n : Fin 8) (code : BitVec 16)
  /-- OVERCURRENT_FAST (R170): The fast sigma-delta comparator crosses a threshold and Lantern begins the off sequence. -/
  | overcurrentFast (dt : Nat) (ch : Fin 16) (bits : List Bool)
  /-- SD_STREAM_FAULT (R170): 64 identical bits on an enabled channel raise an FR4. -/
  | sdStreamFault (dt : Nat) (ch : Fin 16) (bits : List Bool)
  /-- GS_EDGE (R289): A filtered gate status change is judged as acknowledgement, latch or fault. -/
  | gsEdge (dt : Nat) (levels : BitVec 48) (held : Nat)
  /-- BLANK_WINDOW_END (R290): At the end of a blanking window, latched levels and missing acknowledgements are judged. -/
  | blankWindowEnd (g : Fin 48)
  /-- OFF_SEQ_INNER (R293): When t_seq expires the inner switches of 3-level bridges go low. -/
  | offSeqInner 
  /-- GATE_RAIL_LOW (R286): The gate drive rail below 4.5 V for 1 µs starts the off sequence of every bridge. -/
  | gateRailLow (dt : Nat)
  /-- CHOPPER_EVAL (R301): Every 10 ticks a chopper switches on or off against its DC-link thresholds. -/
  | chopperEval (dt : Nat) (bits : List (List Bool))
  /-- AUX_PERIOD_UPDATE (R311): Each auxiliary period the motion engine updates position, profile, gearing and electrical angle. -/
  | auxPeriodUpdate (hb : BitVec 4) (par : List Nat)
  /-- AUX_CURRENT_SAMPLE (R325): Every 10 ticks the coil current is compared with its band for hysteresis chopping. -/
  | auxCurrentSample (hb : BitVec 4) (xcs : List Int)
  /-- AUX_OVERCURRENT (R309): An auxiliary sense above its limit for 20 ticks puts every aux half-bridge in high impedance. -/
  | auxOvercurrent (dt : Nat) (mv : List Int) (held : Nat)
  /-- AUX_UVLO (R306): A bootstrap supply below 8 V puts its half-bridge in high impedance and starts refresh. -/
  | auxUvlo (dt : Nat) (x : Fin 4)
  /-- LOGIC_SUPPLY_LOW (R66): The logic supply below 17 V for 50 µs starts the off sequence and commits NV records. -/
  | logicSupplyLow (dt : Nat)
  /-- LOGIC_SUPPLY_LOST (R66): The logic supply below 15.5 V causes an internal reset. -/
  | logicSupplyLost (dt : Nat)
  /-- LOGIC_SUPPLY_BACK (R66): The logic supply above 17.5 V for 20 ms starts BOOT, or removes the supply-low cause. -/
  | logicSupplyBack (dt : Nat)
  /-- LOGIC_SUPPLY_HIGH (R66): The logic supply above 33 V reacts as supply low. -/
  | logicSupplyHigh (dt : Nat)
  /-- VDRV_UNDERVOLTAGE (R66): VDRV below 10.5 V stops auxiliary motion with its position uncertain. -/
  | vdrvUndervoltage (dt : Nat)
  /-- VDRV_RESTORED (R66): VDRV above 11 V releases the VDRV low condition. -/
  | vdrvRestored (dt : Nat)
  /-- RESET_PIN (R71): An external low on RESET# of 10 µs or more resets the module after the off sequence. -/
  | resetPin (dt : Nat) (nanos : Nat) (taken : Bool)
  /-- BOOT_END (R74): BOOT completes into SAFE, QUARANTINE or UPDATE, SPI_RDY goes high. -/
  | bootEnd (dt : Nat) (seen : BootSeen)
  /-- SW1_POLL (R60): Every 10 ms SW1 is read; a stable change raises SEAL_CHANGED and is audited. -/
  | sw1Poll (dt : Nat) (word : BitVec 12)
  /-- CLOCK_SUPERVISION_WINDOW (R19): Every 1.6 µs the supervision oscillator checks each internal clock for loss or return. -/
  | clockSupervisionWindow (dt : Nat) (off : ClockWin)
  /-- PWM_REF_RETURN (R496): Once no bridge runs, the PWM PLL returns to MERIDIAN and reloads its time copy. -/
  | pwmRefReturn (dt : Nat)
  /-- PWM_TIME_COMPARE (R18): Every 10.24 µs the PWM copy of Meridian time is compared and reloaded on difference. -/
  | pwmTimeCompare (dt : Nat) (slip : Int)
  /-- SCRUB_READ (R28): The scrubber reads and corrects one shared SRAM word when the port is idle. -/
  | scrubRead (dt : Nat) (flips : Nat)
  /-- PTP_SYNC (R335): A Sync message gives one measurement that steers or steps Meridian time. -/
  | ptpSync (dt : Nat) (h : PtpHead) (twoStep : Bool) (interval : Nat) (origin : Time)
  /-- PTP_FOLLOW_UP (R333): A Follow_Up completes a two-step Sync measurement. -/
  | ptpFollowUp (dt : Nat) (h : PtpHead) (origin : Time)
  /-- PTP_DELAY_RESP (R333): A Delay_Resp completes a path delay measurement. -/
  | ptpDelayResp (dt : Nat) (h : PtpHead) (rxAt : Time)
  /-- PTP_PDELAY_REQ (R333): A Pdelay_Req is answered for peer-to-peer delay. -/
  | ptpPdelayReq (dt : Nat) (h : PtpHead) (out : Moved)
  /-- PTP_PDELAY_RESP (R333): A Pdelay_Resp gives a peer delay measurement. -/
  | ptpPdelayResp (dt : Nat) (h : PtpHead) (twoStep : Bool) (rxAt : Time)
  /-- PTP_PDELAY_RESP_FOLLOW_UP (R333): A Pdelay_Resp_Follow_Up completes a two-step peer delay measurement. -/
  | ptpPdelayRespFollowUp (dt : Nat) (h : PtpHead) (txAt : Time)
  /-- PTP_ANNOUNCE (R333): An Announce feeds the best time transmitter selection and the UTC offset. -/
  | ptpAnnounce (dt : Nat) (h : PtpHead) (rank : List Nat) (interval : Nat) (tai : Bool) (utc : BitVec 16) (utcValid : Bool)
  /-- PPS_IN_EDGE (R336): A PPS_IN rising edge marks a whole second or applies a pending set. -/
  | ppsInEdge (dt : Nat)
  /-- MERIDIAN_UNLOCKED (R334): No measurement for 4 Sync intervals or 1.5 s takes Meridian to HOLDOVER. -/
  | meridianUnlocked 
  /-- MERIDIAN_HOLDOVER_EXPIRED (R334): HOLD_MAX in HOLDOVER elapses and Meridian goes to FREE. -/
  | meridianHoldoverExpired 
  /-- PPS_OUT_PULSE (R337): At each whole Meridian second PPS_OUT rises for 100 ms. -/
  | ppsOutPulse 
  /-- ACTION_LAUNCH (R342): An entry launches in the tick Meridian reaches its launch time, writing its register. -/
  | actionLaunch (rivals : List (Word × Write)) (errs : List MemErr)
  /-- ACTION_LATE_LAUNCH (R345): After a forward step, passed entries launch late in consecutive ticks. -/
  | actionLateLaunch (rivals : List (Word × Write)) (errs : List MemErr)
  /-- ACTION_RETAIN_EXPIRY (R342): RETAIN ms after its final status an entry becomes FREE. -/
  | actionRetainExpiry 
  /-- POWER_HOLD_EXPIRY (R270): The power hold ends when AX_PL_HOLD.TIME expires. -/
  | powerHoldExpiry (a : Fin 4)
  /-- BEACON_TX (R349): Every PERIOD ms a member or spare sends its beacon. -/
  | beaconTx (out : Moved)
  /-- BEACON_RX (R349): A beacon marks its role live and may supersede this unit. -/
  | beaconRx (dt : Nat) (f : EthFrame)
  /-- ROLE_DEAD (R349): No beacon for MISS × PERIOD marks a role dead. -/
  | roleDead (role : Fin 16384)
  /-- CYCLIC_FRAME_RX (R350): A cyclic frame delivers share records and user data. -/
  | cyclicFrameRx (dt : Nat) (f : EthFrame)
  /-- ACTION_FRAME_RX (R351): An action frame posts an entry as an operator-role ACTION_POST. -/
  | actionFrameRx (dt : Nat) (f : EthFrame)
  /-- CAN_FRAME_RX (R366): A received CAN frame is stored in the lowest qualifying buffer or lost. -/
  | canFrameRx (can : Fin 2) (dt : Nat) (sof : Nat) (id : BitVec 29) (ide : Bool) (rtr : Bool) (fdf : Bool) (brs : Bool) (esi : Bool) (dlc : Fin 16) (data : List Byte) (fate : Fate)
  /-- CAN_TX_COMPLETE (R370): A frame ends without error and its buffer gets TX_DONE. -/
  | canTxComplete (can : Fin 2) (dt : Nat) (tdcv : BitVec 7)
  /-- CAN_BUSOFF_RECOVERY (R373): After 128 × 11 recessive bits a bus-off controller rejoins. -/
  | canBusoffRecovery (can : Fin 2) (dt : Nat)
  /-- CAN_TXD_DOMINANT (R372): TXD dominant over 1 ms releases the bus and forces bus-off. -/
  | canTxdDominant (can : Fin 2) (dt : Nat)
  /-- CAN_TT_CYCLE_START (R375): A time-triggered basic cycle starts. -/
  | canTtCycleStart (can : Fin 2)
  /-- CAN_TT_COLUMN_START (R377): A schedule column starts and its buffer is offered. -/
  | canTtColumnStart (can : Fin 2)
  /-- CAN_TT_WINDOW_END (R377): An exclusive window ends without a start and its buffer gets MISSED. -/
  | canTtWindowEnd (can : Fin 2)
  /-- LINK_RESET (R383): A back-channel LINK_RESET sets credit, empties replay and restarts SEQ. -/
  | linkReset (dt : Nat) (value : BitVec 12) (sent : Nat)
  /-- CREDIT (R383): A back-channel CREDIT adds words of credit. -/
  | credit (dt : Nat) (value : BitVec 12)
  /-- NAK (R386): A back-channel NAK replays from the named frame, or answers GONE. -/
  | nak (dt : Nat) (value : BitVec 12) (sent : Nat)
  /-- STREAM_FRAME_START (R384): A stream frame starts when data and credit are available. -/
  | streamFrameStart (dt : Nat) (bad : List Nat)
  /-- STCLK_LOST (R385): Loss of STCLK stops the lanes and clears credit, replay and LINK. -/
  | stclkLost (dt : Nat) (sent : Nat)
  /-- FIELD_FRAME_TX (R22): Every 100 µs the logic side sends a barrier frame with output commands. -/
  | fieldFrameTx (dt : Nat) (ok : Bool)
  /-- FIELD_FRAME_RX (R395): A field frame updates input states, validity and FIO_FAULT on the logic side. -/
  | fieldFrameRx (dt : Nat) (ok : Bool)
  /-- FIELD_INPUT_SAMPLE (R393): Every 25 µs the field side samples and classifies the inputs. -/
  | fieldInputSample (dt : Nat) (mv : List Int)
  /-- DO_CURRENT_LIMIT_LATCH (R397): An output or group in limit for 10 ms is latched off. -/
  | doCurrentLimitLatch (dt : Nat) (ma : List Nat) (held : Nat) (hot : BitVec 16)
  /-- DO_READBACK_FAULT (R398): An off output reading above 6 V for 2 ms sets FIO_FAULT. -/
  | doReadbackFault (dt : Nat) (mv : List Int) (held : Nat)
  /-- VF_LOW (R399): VF below 18 V for 1 ms switches outputs off and inputs invalid. -/
  | vfLow (dt : Nat) (mv : Nat) (held : Nat)
  /-- VF_RESTORED (R399): VF above 19.5 V for 10 ms restores inputs and auto-restore outputs. -/
  | vfRestored (dt : Nat) (mv : Nat) (held : Nat)
  /-- BARRIER_TIMEOUT (R402): The field side without valid frames for TMO ms puts outputs into safe states. -/
  | barrierTimeout 
  /-- FIELD_LINK_LOST (R402): The logic side without field frames for 1 ms invalidates inputs and raises FIELD_LINK_LOST. -/
  | fieldLinkLost 
  /-- STO_LOW_ACCEPTED (R418): A filtered STO channel low is a demand that starts STO or SS1. -/
  | stoLowAccepted (dt : Nat) (chB : Bool) (held : Nat)
  /-- STO_RELEASE_ACCEPTED (R418): A STO channel high for 10 ms becomes a release request. -/
  | stoReleaseAccepted (dt : Nat) (chB : Bool) (held : Nat)
  /-- STO_DISCREPANCY (R419): Channels differing longer than STO_DISC latch DISC. -/
  | stoDiscrepancy (dt : Nat)
  /-- SAFE_SPEED_UPDATE (R417): Every 1 ms Lantern forms the safe speed and checks SS1, SLS and SMS. -/
  | safeSpeedUpdate (dt : Nat)
  /-- SS1_END (R422): All axes below SS1_ZERO, or SS1_TMAX reached, puts STO in force. -/
  | ss1End (dt : Nat)
  /-- VDC_LO_COMPARE (R416): Every 1 ms the DC link is compared with VDC_LO; 10 failures raise DC_LINK_LOW. -/
  | vdcLoCompare (dt : Nat) (bits : List (List Bool))
  /-- SBC_TEST_PULSE (R426): Every SBC_TEST s each brake output is switched off for 500 µs and read back. -/
  | sbcTestPulse (dt : Nat) (okA : Bool) (okB : Bool)
  /-- SAFETY_PDU_TX (R428): A producer sends a safety PDU every WD/4. -/
  | safetyPduTx (dt : Nat) (conn : Fin 8) (out : Moved)
  /-- SAFETY_PDU_RX (R429): A consumed safety PDU is checked and its permits taken. -/
  | safetyPduRx (dt : Nat) (src : PduSrc) (pdu : List Word) (moved : Moved)
  /-- SAFETY_WD_EXPIRY (R431): A connection without an accepted PDU for WD enters fail-safe. -/
  | safetyWdExpiry (conn : Fin 8)
  /-- LOCKSTEP_DIGEST (R432): Every 10 ms a lockstep pair compares its architectural registers. -/
  | lockstepDigest (dt : Nat) (pairB : Bool) (equal : Bool)
  /-- LOCKSTEP_RESYNC_DONE (R433): After a latent divergence the pair runs again from its checkpoint within 2 ms. -/
  | lockstepResyncDone (dt : Nat) (pairB : Bool)
  /-- LOCKSTEP_MISMATCH (R434): A mismatch on a bus output blocks the write and halts the pair. -/
  | lockstepMismatch (dt : Nat) (pairB : Bool)
  /-- CATCH_END (R246): At TMIN or the end of the window, a catch decides standstill, lock, refusal or failure. -/
  | catchEnd (a : Fin 4) (dt : Nat)
  /-- ALIGN_COMPLETE (R242): ALIGN finds the polarity and enters RUN, or fails with ALIGN_FAILED. -/
  | alignComplete (a : Fin 4) (dt : Nat)
  /-- RELOCK_DECISION (R251): At the end of the relock window the catch decision is made against the speed before loss. -/
  | relockDecision (a : Fin 4) (dt : Nat)
  /-- RELOCK_RAMP_END (R252): The 200 ms torque ramp after a relock completes and resets the failure count. -/
  | relockRampEnd (a : Fin 4)
  /-- STOP_COMPLETE (R227): Speed below 0.01 pu for 100 ms ends STOPPING in DISABLED or FAULTED. -/
  | stopComplete (a : Fin 4) (dt : Nat)
  /-- SOURCE_HOLD_EXPIRY (R221): A lost set-point source held for HOLD ms becomes zero. -/
  | sourceHoldExpiry (a : Fin 4)
  /-- LEVER_HOST_TIMEOUT (R278): No host set-point for HOST_TMO ms enters EM-LEVER. -/
  | leverHostTimeout (a : Fin 4)
  /-- TORQUE_PROVING_END (R280): The proving window ends: the brake is released or TORQUE_PROVING_FAILED is raised. -/
  | torqueProvingEnd (a : Fin 4)
  /-- RENDER_END (R281): Tension below AX_EM_REND_REC for 1 s ends EM-RENDER. -/
  | renderEnd (a : Fin 4)
  /-- SHARE_IMBALANCE (R263): A share correction at its clip for 1 s sets IMB. -/
  | shareImbalance (a : Fin 4)
  /-- DROOP_RESTORE (R268): After RESTORE samples without cause, droop ends and sharing returns. -/
  | droopRestore (a : Fin 4)
  /-- CIRCULATING_CURRENT (R219): A difference current above AX_CIRC_LIM for 10 ms stops the axis. -/
  | circulatingCurrent (a : Fin 4)
  /-- NP_IMBALANCE (R166): A neutral-point deviation at or above TRIP for 1 ms raises an FR3. -/
  | npImbalance (b : Fin 8) (dt : Nat)
  /-- DIE_TEMP_SAMPLE (R490): Every 10 ms the die temperature is checked against its limits. -/
  | dieTempSample (dt : Nat) (deci : Int)
  /-- REPLAN_PERIODIC (R459): 3,600 s after the last re-plan a periodic re-plan starts. -/
  | replanPeriodic 
  /-- REPLAN_COMPLETE (R464): A re-plan ends and all planned margins apply in one tick. -/
  | replanComplete (dt : Nat) (ro : Int) (osc : Int) (nv : Nat)
  /-- CANDLE_WINDOW (R458): A qualifying 1 s window yields a loss fit and impedance sample. -/
  | candleWindow
  /-- CANDLE_COUNTER_SAVE (R468): Once a minute the lifetime counters are written to the NV store. -/
  | candleCounterSave 
  /-- RESET_RELEASE (R71): Release of RESET# by every driver of the line, after which BOOT starts (no earlier than 20 µs after the reset began). -/
  | resetRelease (dt : Nat)
  /-- LOGIC_SUPPLY_HIGH_GONE (R66): The logic supply has stayed at or below 32.5 V for 20 ms, so the cause of LOGIC_SUPPLY_HIGH is gone. -/
  | logicSupplyHighGone (dt : Nat)
  /-- GATE_RAIL_RESTORED (R286): The gate drive rail has stayed above 4.7 V for 1 ms, so the cause of GATE_RAIL_LOW is gone. -/
  | gateRailRestored (dt : Nat)
  /-- ENCODER_LINE_RESTORED (R143): The differential amplitude of a lost channel's lines returns above 200 mV, so the cause of the line fault is gone and an unowned channel becomes VALID at once. -/
  | encoderLineRestored (dt : Nat) (ch : Fin 4)
  /-- COMMAND_EDGE (R289): A placed gate command edge reaches its tick: Lantern checks the pattern and dead time, the GC line changes and the channel's blanking window opens. -/
  | commandEdge 
  /-- CAN_START_OF_FRAME (R369): A pending transmit buffer is offered and begins its attempt at its start-of-frame bit once the bus is idle. -/
  | canStartOfFrame (can : Fin 2) (dt : Nat)
  /-- CAN_ARBITRATION_LOST (R370): A transmitting buffer reads a dominant bit against its recessive one; it stays pending, or becomes CANCELLED when a cancel has landed. -/
  | canArbitrationLost (can : Fin 2) (dt : Nat)
  /-- CAN_ERROR_FRAME (R372): An error is detected on the bus: error frame, error counters, LEC, error-passive or bus-off, and resolution of a landed cancel. -/
  | canErrorFrame (can : Fin 2) (dt : Nat) (lec : Fin 7) (dom : Bool) (exempt : Bool) (tdcv : Option (BitVec 7))
  /-- STCLK_PRESENT (R384): STCLK becomes present: STCLK_OK is set and IDLE symbols start, while frames wait for the first LINK_RESET. -/
  | stclkPresent (dt : Nat)
  /-- BACK_CHANNEL_PARITY_ERROR (R383): A back-channel symbol with a parity error is ignored and counts in STR_BK_ERR. -/
  | backChannelParityError (dt : Nat)
  /-- SBC_OUTPUT_FAULT (R426): An SBC output commanded off reads back energised, outside any test, raising SBC_OUTPUT_FAULT and latching SBC_FAULT. -/
  | sbcOutputFault (dt : Nat) (outB : Bool) (energised : Bool)
  /-- JTAG_ACCESS (R54): A JTAG instruction on the TCK/TMS/TDI lines selects boundary scan, bypass or, with DEBUG_PERMIT and a maker session, debug access. -/
  | jtagAccess (dt : Nat) (ins : JtagIns)
  /-- BAD_OPCODE (R97): A command packet whose opcode is not in the table, class 0x0Bxx included, is refused with BAD_OPCODE. -/
  | badOpcode (opcode : BitVec 16) (p : Pkt)
  /-- CUT_THROUGH_FORWARD (R346): A frame arriving on one Ethernet port is forwarded out of the other within 2.5 µs, with correctionField updated on PTP frames. -/
  | cutThroughForward (dt : Nat) (port : Fin 2) (sync : Bool) (corr : Int) (residence : Nat)
  /-- PTP_DELAY_REQ (R333): The time receiver sends a Delay_Req to measure the path delay. -/
  | ptpDelayReq (dt : Nat) (port : Fin 2) (out : Moved)
  deriving DecidableEq, Repr, Inhabited

end Sys2Proof
end

