-- ==== Sys2Proof/Config.lean ====
section
/-!
DEFINITION. Config.lean: what the spec leaves to an implementation or leaves open. Every constant here has no body, so
nothing can be proved about its value; a step that needs a fresh one applies it to State.free and advances that counter.
-/

namespace Sys2Proof.Config

/-- A free bit (which way an unstated rounding or an unstated choice goes). (log 10 DESIGN CHOICE) -/
opaque freeBit : Nat → Bool

/-- A free word (a result the spec does not state). (log 10 DESIGN CHOICE) -/
opaque freeWord : Nat → Word

/-- A free number (a latency or a count the spec bounds; the caller reduces it to the bound). -/
opaque freeNat : Nat → Nat

/-- A free integer (an error term the spec bounds; the caller clips it to the bound). -/
opaque freeInt : Nat → Int

/-- Word k of the c-th 32-byte challenge of the on-die random generator (R441). (log 13 DESIGN CHOICE) -/
opaque random : Nat → Nat → Word

/-- Whether the image held by these bank words passes the SECDED read and the ECDSA P-256 check against the fused
maker key (R26, R74, R445); the key and the image layout are not given. (log 13 DESIGN CHOICE) -/
opaque imageValid : List (Nat × Word) → Bool

/-- The firmware version that an image carries (R97, R120); its place in the image is not given. (log 13 DESIGN CHOICE) -/
opaque imageVersion : List (Nat × Word) → Word

/-- The words of the program (true) or data memory of engine e that an image carries (R74, R473); their place in the image is not
given. (log 13 DESIGN CHOICE; log 78 DESIGN CHOICE) -/
opaque imageEngine : List (Nat × Word) → Nat → Bool → List Word

/-- The serial number fixed at manufacture (R120). (log 13 DESIGN CHOICE) -/
opaque serialLo : Word
opaque serialHi : Word

/-- The role keys at delivery (R444): word k of the key of role r. (log 13 DESIGN CHOICE) -/
opaque deliveryKey : Nat → Nat → Word

/-- The unit's own IPv4 address, its subnet broadcast address and its up to four multicast groups (R106): their place in
the configuration is not given. (log 13 DESIGN CHOICE) -/
opaque ipOwn : Word
opaque ipBroadcast : Word
opaque ipGroup : Nat → Option Word

/-- The UDP port of the command service (R106): configurable, but no register or record that configures it is given. (log 13 DESIGN CHOICE) -/
def udpPort : Nat := 4816

/-- The sine, cosine and arc tangent error that the engines give for an operand (R187: equal operands give equal
results); the caller clips them to the stated error. (log 12 DEDUCED) -/
opaque sine : Word → Int
opaque cosine : Word → Int
opaque arcErr : Word → Word → Int

/-- Whether SQRT gives the upper neighbour of an inexact root (R187). (log 12 DEDUCED) -/
opaque sqrtUp : Word → Bool

/-- The tick within the 10 of a bit at which SDCLK0 or SDCLK1 rises; the spec does not place it (R167). (log 124 DESIGN CHOICE) -/
opaque sdPhase : Nat → Nat

/-- The current magnitude of the last of the 64 points of the table of maximum torque per ampere (R217). (log 55 DESIGN CHOICE) -/
opaque mtpaTop : Int

/-- Whether a gear's place that lies between two steps of its fraction bits, given as a fraction, is rounded up (R321). (log 80 DEDUCED) -/
opaque gearUp : Int → Int → Bool

/-- The auxiliary bus voltage in mV that a value of its analog input stands for (R328). (log 82 DESIGN CHOICE) -/
opaque busMv : Word → Int

/-- The words (place and content) that the image's standard axis programs put into an engine's program memory for a value of AX_CFG
(R209): 0 the current loop, 1 the outer loops, 2 the load observer. (log 58 DESIGN CHOICE) -/
opaque axisProgram : Nat → Word → List (Nat × Word)

end Sys2Proof.Config
end

