-- ==== Sys2Proof/Machine/Bits.lean ====
section
/-!
DEFINITION. Machine/Bits.lean: bit fields of words, signed readings, saturation and byte order (R2, R4, "Multi-byte values
in packets and memories are little-endian").
-/

namespace Sys2Proof.Machine

/-- The bits hi down to lo of a word, as a number. -/
def bitsOf (w : Word) (hi lo : Nat) : Nat := (w.toNat >>> lo) % 2 ^ (hi + 1 - lo)

/-- The word with ones in bits hi down to lo. -/
def maskOf (hi lo : Nat) : Word := BitVec.ofNat 32 ((2 ^ (hi + 1 - lo) - 1) <<< lo)

/-- The word with bits hi down to lo replaced by v. -/
def putBits (w : Word) (hi lo v : Nat) : Word :=
  (w &&& ~~~(maskOf hi lo)) ||| (BitVec.ofNat 32 ((v % 2 ^ (hi + 1 - lo)) <<< lo))

/-- Bit n of a word. -/
def bitOf (w : Word) (n : Nat) : Bool := w.getLsbD n

/-- One or zero. -/
def b2n (b : Bool) : Nat := if b then 1 else 0

/-- A number as a word. -/
def wd (n : Nat) : Word := BitVec.ofNat 32 n

/-- An integer as a word, modulo 2^32. -/
def wi (i : Int) : Word := BitVec.ofInt 32 i

/-- The largest pu24 integer (R4). -/
def satMax : Int := 2147483647

/-- The smallest pu24 integer (R4). -/
def satMin : Int := -2147483648

/-- Saturation of R4 and R182: an out-of-range result goes to the nearest limit. -/
def satI (i : Int) : Int := if i > satMax then satMax else if i < satMin then satMin else i

/-- The saturated integer as a word. -/
def satW (i : Int) : Word := wi (satI i)

/-- Limit of an integer to lo .. hi. -/
def clampI (lo hi i : Int) : Int := if i < lo then lo else if hi < i then hi else i

/-- Low half of a 64-bit value (R118). -/
def lo32 (t : Time) : Word := t.truncate 32

/-- High half of a 64-bit value (R118). -/
def hi32 (t : Time) : Word := (t >>> 32).truncate 32

/-- A 64-bit value from its halves. -/
def mk64 (hi lo : Word) : Time := (hi ++ lo : BitVec 64)

/-- Byte k (0 to 3) of a word, little-endian. -/
def byteOf (w : Word) (k : Nat) : Byte := (w >>> (8 * k)).truncate 8

/-- The four bytes of a word, least significant first. -/
def wordBytes (w : Word) : List Byte := [byteOf w 0, byteOf w 1, byteOf w 2, byteOf w 3]

/-- The bytes of a list of words in packet order. -/
def bytesOf (ws : List Word) : List Byte := ws.flatMap wordBytes

/-- A word from up to four bytes, least significant first; missing bytes are zero. -/
def wordOf (bs : List Byte) : Word :=
  (bs.take 4).foldr (fun b acc => (acc <<< 8) ||| (b.zeroExtend 32)) 0

/-- Words from bytes, the last one padded with zero bytes; n bounds the number of words. -/
def wordsOf : Nat → List Byte → List Word
  | 0, _ => []
  | _, [] => []
  | n + 1, bs => wordOf bs :: wordsOf n (bs.drop 4)

/-- The element of index i, or the default of the type past the end. -/
def nth {α : Type} [Inhabited α] (l : List α) (i : Nat) : α := l.getD i default

/-- The list with f applied at index i. -/
def upd {α : Type} (l : List α) (i : Nat) (f : α → α) : List α := l.modify i f

/-- The numbers 0 to n − 1. -/
def upTo (n : Nat) : List Nat := List.range n

/-- A set of lines with line k at a level. -/
def putBit {w : Nat} (v : BitVec w) (k : Nat) (b : Bool) : BitVec w := if b then v ||| (1#w <<< k) else v &&& ~~~(1#w <<< k)

end Sys2Proof.Machine
end

