-- ==== Sys2Proof/Machine/RegId.lean ====
section
/-!
DEFINITION. Machine/RegId.lean: the names of the registers the spec's chapters lay down (R110, R120, R123 and the
register table of every block), each with the address of its first copy and the count and stride of its copies.
-/

namespace Sys2Proof.Machine

/-- One constructor per register of the spec, under the spec's own name; numbered copies (instances) share one. -/
inductive RegId where
  | SYS_ID | SYS_REV | SYS_FW_VER | SYS_SERIAL_LO | SYS_SERIAL_HI | SYS_UNIT | SYS_STATE | SYS_FAULT | SYS_CLK_STAT
  | SYS_TIME_SLIP | SYS_SW1 | SYS_SCRATCH | SYS_SPLIT | FAB_PAR_REPLAY | FAB_PAR_FAULT | FAB_ERR_STAT | FAB_ERR_ADDR
  | FAB_SECDED | FAB_SCRUB | FAB_ARB_STAT | FAB_ARB_ADDR | FAB_LOSS | AX_CTRL | AX_STAT | AX_CFG | AX_POLES
  | AX_ANG_OFS | AX_BASE_V | AX_BASE_I | AX_BASE_F | AX_BASE_T | AX_BASE_N | AX_SPD_SCALE | AX_MECH_TM | AX_MOT_RS
  | AX_MOT_LD | AX_MOT_LQ | AX_MOT_PSI | AX_MOT_LM | AX_MOT_KR | AX_MOT_TR | AX_MOT_KT | AX_ILIM | AX_TLIM_P
  | AX_TLIM_N | AX_TRATE | AX_PLIM | AX_PLIM_GEN | AX_PL_RATE | AX_VLIM | AX_ID_MAX | AX_FW_MARGIN | AX_RAMP_ACC
  | AX_RAMP_DEC | AX_RAMP_JERK | AX_STOP_DEC | AX_RAMP_VMAX | AX_TEN_CFG | AX_TEN_K | AX_TEN_VLIM | AX_SP_HOST
  | AX_SP_ACTIVE | AX_SRC_CFG | AX_PULSE_SCALE | AX_KP_ID | AX_KI_ID | AX_KP_IQ | AX_KI_IQ | AX_KP_SPD | AX_KI_SPD
  | AX_KP_POS | AX_KP_TEN | AX_KI_TEN | AX_KP_CIRC | AX_KI_CIRC | AX_KI_FW | AX_TUNE_COMMIT | AX_LOBS_BW
  | AX_PLAUS_ANG | AX_PLAUS_SPD | AX_PLAUS_CFG | AX_RESID_I | AX_FOLLOW | AX_CIRC_LIM | AX_T_OUT | AX_THETA
  | AX_SPEED | AX_ID | AX_IQ | AX_T_REF | AX_T_EST | AX_T_LOAD | AX_IMAG | AX_VMAG | AX_FAULT | AX_SH_CFG | AX_SH_W
  | AX_SH_SCALE | AX_SH_KS | AX_SH_CLIM | AX_SH_DROOP | AX_SH_TMO | AX_SH_STAT | AX_SH_CORR | AX_SH_TSUM
  | AX_SH_STALE | AX_PL_HOLD | AX_PL_HELD | AX_PL_HELD_GEN | AX_EM_CFG | AX_EM_ADMIT | AX_EM_STAT | AX_EM_TLIM
  | AX_EM_VLIM | AX_EM_PLIM | AX_EM_MATCH | AX_EM_PROVE | AX_EM_PROVE_T | AX_EM_REND_T | AX_EM_REND_REC
  | AX_EM_REND_LEN | AX_EM_REND_POS | PWM_STAT | PWM_CTRL | CHOP_CFG | BR_CFG | BR_HALF | BR_PHASE | BR_DT
  | BR_MINPULSE | BR_MAP0 | BR_MAP1 | BR_MAP2 | BR_WOFS | BR_VDC_NOM | BR_ADV | BR_NP_LIM | BR_VD | BR_VQ | BR_V0
  | BR_THETA | BR_OMEGA | BR_COMMIT | BR_STAT | BR_HELD_CNT | BR_CLIP_CNT | BR_COMMIT_OVER | BR_NP_DEV | BR_GRID_OFF
  | GC_CFG | GATE_TSEQ | GATE_STAT | GATE_FLT_MASK_LO | GATE_FLT_MASK_HI | GATE_FLT_TIME_LO | GATE_FLT_TIME_HI
  | GATE_FLT_CNT | GATE_BLANK_CNT | GATE_RT_LIM | GATE_FLT_REC | GATE_RT | GATE_RT_MAX | CHOP_ON | CHOP_OFF
  | CHOP_TIM | CHOP_DUTY | CHOP_STAT | GATE_AUX_CFG | GATE_AUX_OC | GATE_AUX_STAT | GATE_AUX_UV_CNT | SD_CFG
  | SD_GAIN | SD_OFFSET | SD_VALUE | SD_OC_CFG | SD_OC_HI | SD_OC_LO | SD_STAT | SNS_CTRL | AI_CFG | AI_GAIN
  | AI_OFFSET | AI_VALUE | SNS_GUARD | SNS_SHIFT | SNS_STAT | SNS_SKIP_CNT | SNS_SHIFT_CNT | SNS_DEGR_CNT
  | SNS_SHIFT_LAST | SNS_EFF_GUARD | EN_CFG | EN_FILT | EN_CPR | EN_POS | EN_ANGLE | EN_SPEED | EN_STAT | EN_ILLEGAL
  | EN_IDX_CFG | EN_IDX_REF | EN_IDX_DEV | EN_IDX_MISMATCH | EN_EDGE_TS | EN_SPD_CFG | EN_SSI_CFG | EN_SSI_TIM
  | EN_SSI_RAW | EN_SSI_ERR | H_FILT | H_CFG | H_STATE | H_SECT_OFS | H_SECT_ANGLE | H_EDGE_TS | CMP_RANGE
  | CMP_OUT_SEL | CMP_STAT | CMP_FIRED | CMP_LAST_TIME_LO | CMP_LAST_TIME_HI | LE_CTRL | LE_STAT | LE_MADDR
  | LE_MDATA | LE_MSTAT | LE_PAR_REPLAY | LE_RETRY_CNT | LE_EXC_INFO | LE_SAT_CNT | LE_MBX_BASE | LE_MBX_OPTR
  | LE_MBX_IPTR | LE_TASK_CFG | LE_TASK_START | LE_TASK_DEADLINE | LE_TASK_WCET | LE_TASK_BUDGET | LE_TASK_OVR
  | LE_TASK_LAST | LE_TASK_STATE | OBS_CFG | OBS_STAT | OBS_THETA | OBS_SPEED | OBS_WEIGHT | OBS_INJ_V | OBS_INJ_MIN
  | OBS_KP_INJ | OBS_KI_INJ | OBS_KP_EMF | OBS_KI_EMF | OBS_LOSS_RESID | OBS_ALIGN | OBS_POL_I | OBS_POL_MIN
  | OBS_CATCH_CFG | OBS_CATCH_VMIN | OBS_CATCH_SPEED | OBS_RELOCK_DSPD | OBS_SS_I | OBS_SS_RATE | OBS_IF_I
  | OBS_KE_CFG | OBS_KE_REF | OBS_KE_TC | OBS_KE_BASE | OBS_KE_LAST | OBS_KE_AVG | OBS_KE_DEV | OBS_RELOCK_CNT
  | OBS_ALIGN_DEV | ME_CFG | ME_STAT | ME_POS | ME_SPEED | ME_TARGET | ME_VMAX | ME_JERK | ME_HOME_V | ME_HOME_MAX
  | ME_HOME_BACK | ME_HOME_POS | ME_STALL | ME_GEAR_CFG | ME_GEAR_M | ME_GEAR_JUMP | ME_LOAD | ME_I | ME_UNC_CNT
  | AUX_I_LEVELS | AUX_I_MIN | AUX_I_RATE | AUX_LOAD_MAP | AUX_CHOP | AUX_SHUNT | AUX_MOT_R | AUX_MOT_L | AUX_VBUS
  | AUX_EMF_MIN | AUX_CHOP_OFS | AUX_I_MEAS | ME_GEAR_LIST | MER_CFG | MER_STAT | MER_TIME_LO | MER_TIME_HI
  | MER_OFFSET | MER_FREQ | MER_MPD | MER_ASYM | MER_LIM | MER_GM_ID_LO | MER_GM_ID_HI | MER_UTC_OFS | MER_SET_LO
  | MER_SET_HI | MER_PPS_BAD | LAMP_CFG | LAMP_STAT | LAMP_HEAD | LAMP_NEXT_LO | LAMP_NEXT_HI | LAMP_LAUNCH_CNT
  | LAMP_PREEMPT_CNT | LAMP_LATE_CNT | LAMP_WITHHELD_CNT | LAMP_STALE_CNT | LAMP_SYNC | MEM_CFG | MEM_BEACON
  | MEM_STAT | MEM_VLAN | MEM_GROUPS | MEM_LIVE | MEM_STALE_CNT | MEM_CRC_CNT | MEM_LOSS_CNT | MEM_ACT_REFUSED
  | CAN_CTRL | CAN_STAT | CAN_ERRCNT | CAN_NBT | CAN_DBT | CAN_TDC | CAN_CMD_REQ | CAN_CMD_RSP | CAN_TXREQ_LO
  | CAN_TXREQ_HI | CAN_RX_LOST | CAN_LOCK_TMO | CAN_TX_MISSED | CAN_TT_CFG | CAN_TT_PHASE | CAN_TT_REF | CAN_TT_STAT
  | CAN_TT_COL | CAN_MB | CAN_TT_MTX | STR_CTRL | STR_STAT | STR_CREDIT | STR_SEQ | STR_FRAMES | STR_NAK | STR_REPLAY
  | STR_GONE | STR_BK_ERR | STR_DROP | STR_SRC_ERR | STR_CAP_FILL | FIO_STAT | FIO_DI | FIO_DI_INVALID | FIO_DO
  | FIO_SAFE | FIO_CFG | FIO_DO_SLEW | FIO_DI_WB | FIO_DI_FILT | FIO_FAULT_CNT | FIO_LINK_ERR | LAN_STAT | LAN_STO_IN
  | LAN_ID | LAN_PROFILE | LAN_SBC | LAN_DEMAND_CNT | LAN_LS_DIGEST | LAN_LS_LATENT | LAN_LS_RESYNC | LAN_ENV_IMAX
  | LAN_ENV_VMAX | LAN_ENV_TMAX | LAN_ENV_TRATE | LAN_ENV_PMAX | LAN_ENV_EM | LAN_SPD_A | LAN_SPD_B | LAN_SPD_SAFE
  | LAN_SPD_STAT | LAN_SS1_LIM | LAN_ENV_DTMIN | LAN_ENV_TSEQ | LAN_ENV_VDC_HI | LAN_ENV_VDC_LO | LAN_CONN_STAT
  | LAN_CONN_DATA | LAN_CONN_ERR | CDL_CTRL | CDL_STAT | CDL_LAST_TIME_LO | CDL_LAST_TIME_HI | CDL_REPLAN_CNT
  | CDL_RO_DRIFT | CDL_OSC_DRIFT | CDL_NV_MARGIN | CDL_DEV_LIM | CDL_HOURS_ON | CDL_BR_CFG | CDL_DT_MAX
  | CDL_MARGIN_DT | CDL_RT_BASE | CDL_RT_NOW | CDL_VCE_DRIFT | CDL_CYCLES | CDL_HOURS_SW | CDL_CYC_CFG | CDL_AX_CFG
  | CDL_DERATE_MIN | CDL_MARGIN_DERATE | CDL_GUARD_MAX | CDL_MARGIN_GUARD | CDL_ENERGY_MOT | CDL_ENERGY_GEN
  | CDL_MARGIN_BUDGET | CMP_LIST
  deriving DecidableEq, Repr, Inhabited

/-- The address of the first copy (R110 and the block's table). -/
def RegId.base : RegId → Nat
  | .SYS_ID => 0x0
  | .SYS_REV => 0x4
  | .SYS_FW_VER => 0x8
  | .SYS_SERIAL_LO => 0xC
  | .SYS_SERIAL_HI => 0x10
  | .SYS_UNIT => 0x14
  | .SYS_STATE => 0x18
  | .SYS_FAULT => 0x1C
  | .SYS_CLK_STAT => 0x20
  | .SYS_TIME_SLIP => 0x24
  | .SYS_SW1 => 0x28
  | .SYS_SCRATCH => 0x2C
  | .SYS_SPLIT => 0x30
  | .FAB_PAR_REPLAY => 0x10000
  | .FAB_PAR_FAULT => 0x10004
  | .FAB_ERR_STAT => 0x10008
  | .FAB_ERR_ADDR => 0x1000C
  | .FAB_SECDED => 0x10010
  | .FAB_SCRUB => 0x10014
  | .FAB_ARB_STAT => 0x10018
  | .FAB_ARB_ADDR => 0x1001C
  | .FAB_LOSS => 0x10020
  | .AX_CTRL => 0x20000
  | .AX_STAT => 0x20004
  | .AX_CFG => 0x20008
  | .AX_POLES => 0x2000C
  | .AX_ANG_OFS => 0x20010
  | .AX_BASE_V => 0x20014
  | .AX_BASE_I => 0x20018
  | .AX_BASE_F => 0x2001C
  | .AX_BASE_T => 0x20020
  | .AX_BASE_N => 0x20024
  | .AX_SPD_SCALE => 0x20028
  | .AX_MECH_TM => 0x2002C
  | .AX_MOT_RS => 0x20030
  | .AX_MOT_LD => 0x20034
  | .AX_MOT_LQ => 0x20038
  | .AX_MOT_PSI => 0x2003C
  | .AX_MOT_LM => 0x20040
  | .AX_MOT_KR => 0x20044
  | .AX_MOT_TR => 0x20048
  | .AX_MOT_KT => 0x2004C
  | .AX_ILIM => 0x20060
  | .AX_TLIM_P => 0x20064
  | .AX_TLIM_N => 0x20068
  | .AX_TRATE => 0x2006C
  | .AX_PLIM => 0x20070
  | .AX_PLIM_GEN => 0x20074
  | .AX_PL_RATE => 0x20078
  | .AX_VLIM => 0x2007C
  | .AX_ID_MAX => 0x20080
  | .AX_FW_MARGIN => 0x20084
  | .AX_RAMP_ACC => 0x20090
  | .AX_RAMP_DEC => 0x20094
  | .AX_RAMP_JERK => 0x20098
  | .AX_STOP_DEC => 0x2009C
  | .AX_RAMP_VMAX => 0x200A0
  | .AX_TEN_CFG => 0x200A4
  | .AX_TEN_K => 0x200A8
  | .AX_TEN_VLIM => 0x200AC
  | .AX_SP_HOST => 0x200B0
  | .AX_SP_ACTIVE => 0x200B4
  | .AX_SRC_CFG => 0x200B8
  | .AX_PULSE_SCALE => 0x200BC
  | .AX_KP_ID => 0x200C0
  | .AX_KI_ID => 0x200C4
  | .AX_KP_IQ => 0x200C8
  | .AX_KI_IQ => 0x200CC
  | .AX_KP_SPD => 0x200D0
  | .AX_KI_SPD => 0x200D4
  | .AX_KP_POS => 0x200D8
  | .AX_KP_TEN => 0x200DC
  | .AX_KI_TEN => 0x200E0
  | .AX_KP_CIRC => 0x200E4
  | .AX_KI_CIRC => 0x200E8
  | .AX_KI_FW => 0x200EC
  | .AX_TUNE_COMMIT => 0x200F0
  | .AX_LOBS_BW => 0x200F4
  | .AX_PLAUS_ANG => 0x20100
  | .AX_PLAUS_SPD => 0x20104
  | .AX_PLAUS_CFG => 0x20108
  | .AX_RESID_I => 0x2010C
  | .AX_FOLLOW => 0x20110
  | .AX_CIRC_LIM => 0x20114
  | .AX_T_OUT => 0x20118
  | .AX_THETA => 0x20140
  | .AX_SPEED => 0x20144
  | .AX_ID => 0x20148
  | .AX_IQ => 0x2014C
  | .AX_T_REF => 0x20150
  | .AX_T_EST => 0x20154
  | .AX_T_LOAD => 0x20158
  | .AX_IMAG => 0x2015C
  | .AX_VMAG => 0x20160
  | .AX_FAULT => 0x20164
  | .AX_SH_CFG => 0x20180
  | .AX_SH_W => 0x20184
  | .AX_SH_SCALE => 0x20188
  | .AX_SH_KS => 0x2018C
  | .AX_SH_CLIM => 0x20190
  | .AX_SH_DROOP => 0x20194
  | .AX_SH_TMO => 0x20198
  | .AX_SH_STAT => 0x2019C
  | .AX_SH_CORR => 0x201A0
  | .AX_SH_TSUM => 0x201A4
  | .AX_SH_STALE => 0x201A8
  | .AX_PL_HOLD => 0x201B0
  | .AX_PL_HELD => 0x201B4
  | .AX_PL_HELD_GEN => 0x201B8
  | .AX_EM_CFG => 0x201C0
  | .AX_EM_ADMIT => 0x201C4
  | .AX_EM_STAT => 0x201C8
  | .AX_EM_TLIM => 0x201CC
  | .AX_EM_VLIM => 0x201D0
  | .AX_EM_PLIM => 0x201D4
  | .AX_EM_MATCH => 0x201D8
  | .AX_EM_PROVE => 0x201DC
  | .AX_EM_PROVE_T => 0x201E0
  | .AX_EM_REND_T => 0x201E4
  | .AX_EM_REND_REC => 0x201E8
  | .AX_EM_REND_LEN => 0x201EC
  | .AX_EM_REND_POS => 0x201F0
  | .PWM_STAT => 0x30000
  | .PWM_CTRL => 0x30040
  | .CHOP_CFG => 0x30080
  | .BR_CFG => 0x30100
  | .BR_HALF => 0x30104
  | .BR_PHASE => 0x30108
  | .BR_DT => 0x3010C
  | .BR_MINPULSE => 0x30110
  | .BR_MAP0 => 0x30114
  | .BR_MAP1 => 0x30118
  | .BR_MAP2 => 0x3011C
  | .BR_WOFS => 0x30120
  | .BR_VDC_NOM => 0x30124
  | .BR_ADV => 0x30128
  | .BR_NP_LIM => 0x3012C
  | .BR_VD => 0x30130
  | .BR_VQ => 0x30134
  | .BR_V0 => 0x30138
  | .BR_THETA => 0x3013C
  | .BR_OMEGA => 0x30140
  | .BR_COMMIT => 0x30144
  | .BR_STAT => 0x30148
  | .BR_HELD_CNT => 0x3014C
  | .BR_CLIP_CNT => 0x30150
  | .BR_COMMIT_OVER => 0x30154
  | .BR_NP_DEV => 0x30158
  | .BR_GRID_OFF => 0x3015C
  | .GC_CFG => 0x40000
  | .GATE_TSEQ => 0x40100
  | .GATE_STAT => 0x40140
  | .GATE_FLT_MASK_LO => 0x40144
  | .GATE_FLT_MASK_HI => 0x40148
  | .GATE_FLT_TIME_LO => 0x4014C
  | .GATE_FLT_TIME_HI => 0x40150
  | .GATE_FLT_CNT => 0x40154
  | .GATE_BLANK_CNT => 0x40158
  | .GATE_RT_LIM => 0x4015C
  | .GATE_FLT_REC => 0x40200
  | .GATE_RT => 0x40300
  | .GATE_RT_MAX => 0x40304
  | .CHOP_ON => 0x40500
  | .CHOP_OFF => 0x40504
  | .CHOP_TIM => 0x40508
  | .CHOP_DUTY => 0x4050C
  | .CHOP_STAT => 0x40580
  | .GATE_AUX_CFG => 0x40600
  | .GATE_AUX_OC => 0x40604
  | .GATE_AUX_STAT => 0x40608
  | .GATE_AUX_UV_CNT => 0x4060C
  | .SD_CFG => 0x50000
  | .SD_GAIN => 0x50004
  | .SD_OFFSET => 0x50008
  | .SD_VALUE => 0x5000C
  | .SD_OC_CFG => 0x50010
  | .SD_OC_HI => 0x50014
  | .SD_OC_LO => 0x50018
  | .SD_STAT => 0x5001C
  | .SNS_CTRL => 0x50400
  | .AI_CFG => 0x50600
  | .AI_GAIN => 0x50604
  | .AI_OFFSET => 0x50608
  | .AI_VALUE => 0x5060C
  | .SNS_GUARD => 0x50800
  | .SNS_SHIFT => 0x50804
  | .SNS_STAT => 0x50808
  | .SNS_SKIP_CNT => 0x5080C
  | .SNS_SHIFT_CNT => 0x50810
  | .SNS_DEGR_CNT => 0x50814
  | .SNS_SHIFT_LAST => 0x50818
  | .SNS_EFF_GUARD => 0x5081C
  | .EN_CFG => 0x60000
  | .EN_FILT => 0x60004
  | .EN_CPR => 0x60008
  | .EN_POS => 0x6000C
  | .EN_ANGLE => 0x60010
  | .EN_SPEED => 0x60014
  | .EN_STAT => 0x60018
  | .EN_ILLEGAL => 0x6001C
  | .EN_IDX_CFG => 0x60020
  | .EN_IDX_REF => 0x60024
  | .EN_IDX_DEV => 0x60028
  | .EN_IDX_MISMATCH => 0x6002C
  | .EN_EDGE_TS => 0x60030
  | .EN_SPD_CFG => 0x60034
  | .EN_SSI_CFG => 0x60038
  | .EN_SSI_TIM => 0x6003C
  | .EN_SSI_RAW => 0x60040
  | .EN_SSI_ERR => 0x60044
  | .H_FILT => 0x60400
  | .H_CFG => 0x60404
  | .H_STATE => 0x60408
  | .H_SECT_OFS => 0x6040C
  | .H_SECT_ANGLE => 0x60410
  | .H_EDGE_TS => 0x60420
  | .CMP_RANGE => 0x60800
  | .CMP_OUT_SEL => 0x60810
  | .CMP_STAT => 0x60814
  | .CMP_FIRED => 0x60818
  | .CMP_LAST_TIME_LO => 0x6081C
  | .CMP_LAST_TIME_HI => 0x60820
  | .LE_CTRL => 0x70000
  | .LE_STAT => 0x70004
  | .LE_MADDR => 0x70008
  | .LE_MDATA => 0x7000C
  | .LE_MSTAT => 0x70010
  | .LE_PAR_REPLAY => 0x70014
  | .LE_RETRY_CNT => 0x70018
  | .LE_EXC_INFO => 0x7001C
  | .LE_SAT_CNT => 0x70020
  | .LE_MBX_BASE => 0x70024
  | .LE_MBX_OPTR => 0x70028
  | .LE_MBX_IPTR => 0x7002C
  | .LE_TASK_CFG => 0x70100
  | .LE_TASK_START => 0x70104
  | .LE_TASK_DEADLINE => 0x70108
  | .LE_TASK_WCET => 0x7010C
  | .LE_TASK_BUDGET => 0x70110
  | .LE_TASK_OVR => 0x70114
  | .LE_TASK_LAST => 0x70118
  | .LE_TASK_STATE => 0x7011C
  | .OBS_CFG => 0x82000
  | .OBS_STAT => 0x82004
  | .OBS_THETA => 0x82008
  | .OBS_SPEED => 0x8200C
  | .OBS_WEIGHT => 0x82010
  | .OBS_INJ_V => 0x82014
  | .OBS_INJ_MIN => 0x82018
  | .OBS_KP_INJ => 0x8201C
  | .OBS_KI_INJ => 0x82020
  | .OBS_KP_EMF => 0x82024
  | .OBS_KI_EMF => 0x82028
  | .OBS_LOSS_RESID => 0x8202C
  | .OBS_ALIGN => 0x82030
  | .OBS_POL_I => 0x82034
  | .OBS_POL_MIN => 0x82038
  | .OBS_CATCH_CFG => 0x8203C
  | .OBS_CATCH_VMIN => 0x82040
  | .OBS_CATCH_SPEED => 0x82044
  | .OBS_RELOCK_DSPD => 0x82048
  | .OBS_SS_I => 0x8204C
  | .OBS_SS_RATE => 0x82050
  | .OBS_IF_I => 0x82054
  | .OBS_KE_CFG => 0x82060
  | .OBS_KE_REF => 0x82064
  | .OBS_KE_TC => 0x82068
  | .OBS_KE_BASE => 0x8206C
  | .OBS_KE_LAST => 0x82070
  | .OBS_KE_AVG => 0x82074
  | .OBS_KE_DEV => 0x82078
  | .OBS_RELOCK_CNT => 0x8207C
  | .OBS_ALIGN_DEV => 0x82080
  | .ME_CFG => 0x90000
  | .ME_STAT => 0x90004
  | .ME_POS => 0x90008
  | .ME_SPEED => 0x9000C
  | .ME_TARGET => 0x90010
  | .ME_VMAX => 0x90014
  | .ME_JERK => 0x90018
  | .ME_HOME_V => 0x9001C
  | .ME_HOME_MAX => 0x90020
  | .ME_HOME_BACK => 0x90024
  | .ME_HOME_POS => 0x90028
  | .ME_STALL => 0x9002C
  | .ME_GEAR_CFG => 0x90030
  | .ME_GEAR_M => 0x90034
  | .ME_GEAR_JUMP => 0x90038
  | .ME_LOAD => 0x9003C
  | .ME_I => 0x90040
  | .ME_UNC_CNT => 0x90044
  | .AUX_I_LEVELS => 0x90400
  | .AUX_I_MIN => 0x90404
  | .AUX_I_RATE => 0x90408
  | .AUX_LOAD_MAP => 0x9040C
  | .AUX_CHOP => 0x90410
  | .AUX_SHUNT => 0x90414
  | .AUX_MOT_R => 0x90418
  | .AUX_MOT_L => 0x9041C
  | .AUX_VBUS => 0x90420
  | .AUX_EMF_MIN => 0x90424
  | .AUX_CHOP_OFS => 0x90430
  | .AUX_I_MEAS => 0x90440
  | .ME_GEAR_LIST => 0x90800
  | .MER_CFG => 0xA0000
  | .MER_STAT => 0xA0004
  | .MER_TIME_LO => 0xA0008
  | .MER_TIME_HI => 0xA000C
  | .MER_OFFSET => 0xA0010
  | .MER_FREQ => 0xA0014
  | .MER_MPD => 0xA0018
  | .MER_ASYM => 0xA001C
  | .MER_LIM => 0xA0020
  | .MER_GM_ID_LO => 0xA0024
  | .MER_GM_ID_HI => 0xA0028
  | .MER_UTC_OFS => 0xA002C
  | .MER_SET_LO => 0xA0030
  | .MER_SET_HI => 0xA0034
  | .MER_PPS_BAD => 0xA0038
  | .LAMP_CFG => 0xA1000
  | .LAMP_STAT => 0xA1004
  | .LAMP_HEAD => 0xA1008
  | .LAMP_NEXT_LO => 0xA100C
  | .LAMP_NEXT_HI => 0xA1010
  | .LAMP_LAUNCH_CNT => 0xA1014
  | .LAMP_PREEMPT_CNT => 0xA1018
  | .LAMP_LATE_CNT => 0xA101C
  | .LAMP_WITHHELD_CNT => 0xA1020
  | .LAMP_STALE_CNT => 0xA1024
  | .LAMP_SYNC => 0xA1040
  | .MEM_CFG => 0xA2000
  | .MEM_BEACON => 0xA2004
  | .MEM_STAT => 0xA2008
  | .MEM_VLAN => 0xA200C
  | .MEM_GROUPS => 0xA2010
  | .MEM_LIVE => 0xA2030
  | .MEM_STALE_CNT => 0xA2034
  | .MEM_CRC_CNT => 0xA2038
  | .MEM_LOSS_CNT => 0xA203C
  | .MEM_ACT_REFUSED => 0xA2040
  | .CAN_CTRL => 0xB0000
  | .CAN_STAT => 0xB0004
  | .CAN_ERRCNT => 0xB0008
  | .CAN_NBT => 0xB000C
  | .CAN_DBT => 0xB0010
  | .CAN_TDC => 0xB0014
  | .CAN_CMD_REQ => 0xB0018
  | .CAN_CMD_RSP => 0xB001C
  | .CAN_TXREQ_LO => 0xB0020
  | .CAN_TXREQ_HI => 0xB0024
  | .CAN_RX_LOST => 0xB0028
  | .CAN_LOCK_TMO => 0xB002C
  | .CAN_TX_MISSED => 0xB0030
  | .CAN_TT_CFG => 0xB0040
  | .CAN_TT_PHASE => 0xB0044
  | .CAN_TT_REF => 0xB0048
  | .CAN_TT_STAT => 0xB004C
  | .CAN_TT_COL => 0xB0080
  | .CAN_MB => 0xB1000
  | .CAN_TT_MTX => 0xB3000
  | .STR_CTRL => 0xC0000
  | .STR_STAT => 0xC0004
  | .STR_CREDIT => 0xC0008
  | .STR_SEQ => 0xC000C
  | .STR_FRAMES => 0xC0010
  | .STR_NAK => 0xC0014
  | .STR_REPLAY => 0xC0018
  | .STR_GONE => 0xC001C
  | .STR_BK_ERR => 0xC0020
  | .STR_DROP => 0xC0024
  | .STR_SRC_ERR => 0xC0028
  | .STR_CAP_FILL => 0xC002C
  | .FIO_STAT => 0xD0000
  | .FIO_DI => 0xD0004
  | .FIO_DI_INVALID => 0xD0008
  | .FIO_DO => 0xD000C
  | .FIO_SAFE => 0xD0010
  | .FIO_CFG => 0xD0014
  | .FIO_DO_SLEW => 0xD0018
  | .FIO_DI_WB => 0xD001C
  | .FIO_DI_FILT => 0xD0020
  | .FIO_FAULT_CNT => 0xD002C
  | .FIO_LINK_ERR => 0xD0030
  | .LAN_STAT => 0xE0000
  | .LAN_STO_IN => 0xE0004
  | .LAN_ID => 0xE0008
  | .LAN_PROFILE => 0xE000C
  | .LAN_SBC => 0xE0010
  | .LAN_DEMAND_CNT => 0xE0014
  | .LAN_LS_DIGEST => 0xE0020
  | .LAN_LS_LATENT => 0xE0024
  | .LAN_LS_RESYNC => 0xE0028
  | .LAN_ENV_IMAX => 0xE0100
  | .LAN_ENV_VMAX => 0xE0104
  | .LAN_ENV_TMAX => 0xE0108
  | .LAN_ENV_TRATE => 0xE010C
  | .LAN_ENV_PMAX => 0xE0110
  | .LAN_ENV_EM => 0xE0114
  | .LAN_SPD_A => 0xE0120
  | .LAN_SPD_B => 0xE0124
  | .LAN_SPD_SAFE => 0xE0128
  | .LAN_SPD_STAT => 0xE012C
  | .LAN_SS1_LIM => 0xE0130
  | .LAN_ENV_DTMIN => 0xE0200
  | .LAN_ENV_TSEQ => 0xE0204
  | .LAN_ENV_VDC_HI => 0xE0208
  | .LAN_ENV_VDC_LO => 0xE020C
  | .LAN_CONN_STAT => 0xE0300
  | .LAN_CONN_DATA => 0xE0304
  | .LAN_CONN_ERR => 0xE0308
  | .CDL_CTRL => 0xF0000
  | .CDL_STAT => 0xF0004
  | .CDL_LAST_TIME_LO => 0xF0008
  | .CDL_LAST_TIME_HI => 0xF000C
  | .CDL_REPLAN_CNT => 0xF0010
  | .CDL_RO_DRIFT => 0xF0014
  | .CDL_OSC_DRIFT => 0xF0018
  | .CDL_NV_MARGIN => 0xF001C
  | .CDL_DEV_LIM => 0xF0020
  | .CDL_HOURS_ON => 0xF0024
  | .CDL_BR_CFG => 0xF0100
  | .CDL_DT_MAX => 0xF0104
  | .CDL_MARGIN_DT => 0xF0108
  | .CDL_RT_BASE => 0xF010C
  | .CDL_RT_NOW => 0xF0110
  | .CDL_VCE_DRIFT => 0xF0114
  | .CDL_CYCLES => 0xF0118
  | .CDL_HOURS_SW => 0xF011C
  | .CDL_CYC_CFG => 0xF0120
  | .CDL_AX_CFG => 0xF0400
  | .CDL_DERATE_MIN => 0xF0404
  | .CDL_MARGIN_DERATE => 0xF0408
  | .CDL_GUARD_MAX => 0xF040C
  | .CDL_MARGIN_GUARD => 0xF0410
  | .CDL_ENERGY_MOT => 0xF0414
  | .CDL_ENERGY_GEN => 0xF0418
  | .CDL_MARGIN_BUDGET => 0xF0800
  | .CMP_LIST => 0x300000

/-- Count and byte stride of each level of copies, outermost first; the empty list is a single register. -/
def RegId.dims : RegId → List (Nat × Nat)
  | .SYS_ID => []
  | .SYS_REV => []
  | .SYS_FW_VER => []
  | .SYS_SERIAL_LO => []
  | .SYS_SERIAL_HI => []
  | .SYS_UNIT => []
  | .SYS_STATE => []
  | .SYS_FAULT => []
  | .SYS_CLK_STAT => []
  | .SYS_TIME_SLIP => []
  | .SYS_SW1 => []
  | .SYS_SCRATCH => []
  | .SYS_SPLIT => []
  | .FAB_PAR_REPLAY => []
  | .FAB_PAR_FAULT => []
  | .FAB_ERR_STAT => []
  | .FAB_ERR_ADDR => []
  | .FAB_SECDED => []
  | .FAB_SCRUB => []
  | .FAB_ARB_STAT => []
  | .FAB_ARB_ADDR => []
  | .FAB_LOSS => [(8, 0x4)]
  | .AX_CTRL => [(4, 0x1000)]
  | .AX_STAT => [(4, 0x1000)]
  | .AX_CFG => [(4, 0x1000)]
  | .AX_POLES => [(4, 0x1000)]
  | .AX_ANG_OFS => [(4, 0x1000)]
  | .AX_BASE_V => [(4, 0x1000)]
  | .AX_BASE_I => [(4, 0x1000)]
  | .AX_BASE_F => [(4, 0x1000)]
  | .AX_BASE_T => [(4, 0x1000)]
  | .AX_BASE_N => [(4, 0x1000)]
  | .AX_SPD_SCALE => [(4, 0x1000)]
  | .AX_MECH_TM => [(4, 0x1000)]
  | .AX_MOT_RS => [(4, 0x1000)]
  | .AX_MOT_LD => [(4, 0x1000)]
  | .AX_MOT_LQ => [(4, 0x1000)]
  | .AX_MOT_PSI => [(4, 0x1000)]
  | .AX_MOT_LM => [(4, 0x1000)]
  | .AX_MOT_KR => [(4, 0x1000)]
  | .AX_MOT_TR => [(4, 0x1000)]
  | .AX_MOT_KT => [(4, 0x1000)]
  | .AX_ILIM => [(4, 0x1000)]
  | .AX_TLIM_P => [(4, 0x1000)]
  | .AX_TLIM_N => [(4, 0x1000)]
  | .AX_TRATE => [(4, 0x1000)]
  | .AX_PLIM => [(4, 0x1000)]
  | .AX_PLIM_GEN => [(4, 0x1000)]
  | .AX_PL_RATE => [(4, 0x1000)]
  | .AX_VLIM => [(4, 0x1000)]
  | .AX_ID_MAX => [(4, 0x1000)]
  | .AX_FW_MARGIN => [(4, 0x1000)]
  | .AX_RAMP_ACC => [(4, 0x1000)]
  | .AX_RAMP_DEC => [(4, 0x1000)]
  | .AX_RAMP_JERK => [(4, 0x1000)]
  | .AX_STOP_DEC => [(4, 0x1000)]
  | .AX_RAMP_VMAX => [(4, 0x1000)]
  | .AX_TEN_CFG => [(4, 0x1000)]
  | .AX_TEN_K => [(4, 0x1000)]
  | .AX_TEN_VLIM => [(4, 0x1000)]
  | .AX_SP_HOST => [(4, 0x1000)]
  | .AX_SP_ACTIVE => [(4, 0x1000)]
  | .AX_SRC_CFG => [(4, 0x1000)]
  | .AX_PULSE_SCALE => [(4, 0x1000)]
  | .AX_KP_ID => [(4, 0x1000)]
  | .AX_KI_ID => [(4, 0x1000)]
  | .AX_KP_IQ => [(4, 0x1000)]
  | .AX_KI_IQ => [(4, 0x1000)]
  | .AX_KP_SPD => [(4, 0x1000)]
  | .AX_KI_SPD => [(4, 0x1000)]
  | .AX_KP_POS => [(4, 0x1000)]
  | .AX_KP_TEN => [(4, 0x1000)]
  | .AX_KI_TEN => [(4, 0x1000)]
  | .AX_KP_CIRC => [(4, 0x1000)]
  | .AX_KI_CIRC => [(4, 0x1000)]
  | .AX_KI_FW => [(4, 0x1000)]
  | .AX_TUNE_COMMIT => [(4, 0x1000)]
  | .AX_LOBS_BW => [(4, 0x1000)]
  | .AX_PLAUS_ANG => [(4, 0x1000)]
  | .AX_PLAUS_SPD => [(4, 0x1000)]
  | .AX_PLAUS_CFG => [(4, 0x1000)]
  | .AX_RESID_I => [(4, 0x1000)]
  | .AX_FOLLOW => [(4, 0x1000)]
  | .AX_CIRC_LIM => [(4, 0x1000)]
  | .AX_T_OUT => [(4, 0x1000)]
  | .AX_THETA => [(4, 0x1000)]
  | .AX_SPEED => [(4, 0x1000)]
  | .AX_ID => [(4, 0x1000)]
  | .AX_IQ => [(4, 0x1000)]
  | .AX_T_REF => [(4, 0x1000)]
  | .AX_T_EST => [(4, 0x1000)]
  | .AX_T_LOAD => [(4, 0x1000)]
  | .AX_IMAG => [(4, 0x1000)]
  | .AX_VMAG => [(4, 0x1000)]
  | .AX_FAULT => [(4, 0x1000)]
  | .AX_SH_CFG => [(4, 0x1000)]
  | .AX_SH_W => [(4, 0x1000)]
  | .AX_SH_SCALE => [(4, 0x1000)]
  | .AX_SH_KS => [(4, 0x1000)]
  | .AX_SH_CLIM => [(4, 0x1000)]
  | .AX_SH_DROOP => [(4, 0x1000)]
  | .AX_SH_TMO => [(4, 0x1000)]
  | .AX_SH_STAT => [(4, 0x1000)]
  | .AX_SH_CORR => [(4, 0x1000)]
  | .AX_SH_TSUM => [(4, 0x1000)]
  | .AX_SH_STALE => [(4, 0x1000)]
  | .AX_PL_HOLD => [(4, 0x1000)]
  | .AX_PL_HELD => [(4, 0x1000)]
  | .AX_PL_HELD_GEN => [(4, 0x1000)]
  | .AX_EM_CFG => [(4, 0x1000)]
  | .AX_EM_ADMIT => [(4, 0x1000)]
  | .AX_EM_STAT => [(4, 0x1000)]
  | .AX_EM_TLIM => [(4, 0x1000)]
  | .AX_EM_VLIM => [(4, 0x1000)]
  | .AX_EM_PLIM => [(4, 0x1000)]
  | .AX_EM_MATCH => [(4, 0x1000)]
  | .AX_EM_PROVE => [(4, 0x1000)]
  | .AX_EM_PROVE_T => [(4, 0x1000)]
  | .AX_EM_REND_T => [(4, 0x1000)]
  | .AX_EM_REND_REC => [(4, 0x1000)]
  | .AX_EM_REND_LEN => [(4, 0x1000)]
  | .AX_EM_REND_POS => [(4, 0x1000)]
  | .PWM_STAT => []
  | .PWM_CTRL => []
  | .CHOP_CFG => [(8, 0x4)]
  | .BR_CFG => [(8, 0x100)]
  | .BR_HALF => [(8, 0x100)]
  | .BR_PHASE => [(8, 0x100)]
  | .BR_DT => [(8, 0x100)]
  | .BR_MINPULSE => [(8, 0x100)]
  | .BR_MAP0 => [(8, 0x100)]
  | .BR_MAP1 => [(8, 0x100)]
  | .BR_MAP2 => [(8, 0x100)]
  | .BR_WOFS => [(8, 0x100)]
  | .BR_VDC_NOM => [(8, 0x100)]
  | .BR_ADV => [(8, 0x100)]
  | .BR_NP_LIM => [(8, 0x100)]
  | .BR_VD => [(8, 0x100)]
  | .BR_VQ => [(8, 0x100)]
  | .BR_V0 => [(8, 0x100)]
  | .BR_THETA => [(8, 0x100)]
  | .BR_OMEGA => [(8, 0x100)]
  | .BR_COMMIT => [(8, 0x100)]
  | .BR_STAT => [(8, 0x100)]
  | .BR_HELD_CNT => [(8, 0x100)]
  | .BR_CLIP_CNT => [(8, 0x100)]
  | .BR_COMMIT_OVER => [(8, 0x100)]
  | .BR_NP_DEV => [(8, 0x100)]
  | .BR_GRID_OFF => [(8, 0x100)]
  | .GC_CFG => [(48, 0x4)]
  | .GATE_TSEQ => [(8, 0x4)]
  | .GATE_STAT => []
  | .GATE_FLT_MASK_LO => []
  | .GATE_FLT_MASK_HI => []
  | .GATE_FLT_TIME_LO => []
  | .GATE_FLT_TIME_HI => []
  | .GATE_FLT_CNT => []
  | .GATE_BLANK_CNT => []
  | .GATE_RT_LIM => []
  | .GATE_FLT_REC => [(48, 0x4)]
  | .GATE_RT => [(48, 0x8)]
  | .GATE_RT_MAX => [(48, 0x8)]
  | .CHOP_ON => [(8, 0x10)]
  | .CHOP_OFF => [(8, 0x10)]
  | .CHOP_TIM => [(8, 0x10)]
  | .CHOP_DUTY => [(8, 0x10)]
  | .CHOP_STAT => []
  | .GATE_AUX_CFG => []
  | .GATE_AUX_OC => []
  | .GATE_AUX_STAT => []
  | .GATE_AUX_UV_CNT => []
  | .SD_CFG => [(16, 0x20)]
  | .SD_GAIN => [(16, 0x20)]
  | .SD_OFFSET => [(16, 0x20)]
  | .SD_VALUE => [(16, 0x20)]
  | .SD_OC_CFG => [(16, 0x20)]
  | .SD_OC_HI => [(16, 0x20)]
  | .SD_OC_LO => [(16, 0x20)]
  | .SD_STAT => [(16, 0x20)]
  | .SNS_CTRL => []
  | .AI_CFG => [(8, 0x10)]
  | .AI_GAIN => [(8, 0x10)]
  | .AI_OFFSET => [(8, 0x10)]
  | .AI_VALUE => [(8, 0x10)]
  | .SNS_GUARD => [(4, 0x40)]
  | .SNS_SHIFT => [(4, 0x40)]
  | .SNS_STAT => [(4, 0x40)]
  | .SNS_SKIP_CNT => [(4, 0x40)]
  | .SNS_SHIFT_CNT => [(4, 0x40)]
  | .SNS_DEGR_CNT => [(4, 0x40)]
  | .SNS_SHIFT_LAST => [(4, 0x40)]
  | .SNS_EFF_GUARD => [(4, 0x40)]
  | .EN_CFG => [(4, 0x100)]
  | .EN_FILT => [(4, 0x100)]
  | .EN_CPR => [(4, 0x100)]
  | .EN_POS => [(4, 0x100)]
  | .EN_ANGLE => [(4, 0x100)]
  | .EN_SPEED => [(4, 0x100)]
  | .EN_STAT => [(4, 0x100)]
  | .EN_ILLEGAL => [(4, 0x100)]
  | .EN_IDX_CFG => [(4, 0x100)]
  | .EN_IDX_REF => [(4, 0x100)]
  | .EN_IDX_DEV => [(4, 0x100)]
  | .EN_IDX_MISMATCH => [(4, 0x100)]
  | .EN_EDGE_TS => [(4, 0x100)]
  | .EN_SPD_CFG => [(4, 0x100)]
  | .EN_SSI_CFG => [(4, 0x100)]
  | .EN_SSI_TIM => [(4, 0x100)]
  | .EN_SSI_RAW => [(4, 0x100)]
  | .EN_SSI_ERR => [(4, 0x100)]
  | .H_FILT => []
  | .H_CFG => []
  | .H_STATE => []
  | .H_SECT_OFS => []
  | .H_SECT_ANGLE => []
  | .H_EDGE_TS => [(8, 0x4)]
  | .CMP_RANGE => [(4, 0x4)]
  | .CMP_OUT_SEL => []
  | .CMP_STAT => []
  | .CMP_FIRED => []
  | .CMP_LAST_TIME_LO => []
  | .CMP_LAST_TIME_HI => []
  | .LE_CTRL => [(10, 0x1000)]
  | .LE_STAT => [(10, 0x1000)]
  | .LE_MADDR => [(10, 0x1000)]
  | .LE_MDATA => [(10, 0x1000)]
  | .LE_MSTAT => [(10, 0x1000)]
  | .LE_PAR_REPLAY => [(10, 0x1000)]
  | .LE_RETRY_CNT => [(10, 0x1000)]
  | .LE_EXC_INFO => [(10, 0x1000)]
  | .LE_SAT_CNT => [(10, 0x1000)]
  | .LE_MBX_BASE => [(10, 0x1000)]
  | .LE_MBX_OPTR => [(10, 0x1000)]
  | .LE_MBX_IPTR => [(10, 0x1000)]
  | .LE_TASK_CFG => [(10, 0x1000), (4, 0x20)]
  | .LE_TASK_START => [(10, 0x1000), (4, 0x20)]
  | .LE_TASK_DEADLINE => [(10, 0x1000), (4, 0x20)]
  | .LE_TASK_WCET => [(10, 0x1000), (4, 0x20)]
  | .LE_TASK_BUDGET => [(10, 0x1000), (4, 0x20)]
  | .LE_TASK_OVR => [(10, 0x1000), (4, 0x20)]
  | .LE_TASK_LAST => [(10, 0x1000), (4, 0x20)]
  | .LE_TASK_STATE => [(10, 0x1000), (4, 0x20)]
  | .OBS_CFG => [(4, 0x100)]
  | .OBS_STAT => [(4, 0x100)]
  | .OBS_THETA => [(4, 0x100)]
  | .OBS_SPEED => [(4, 0x100)]
  | .OBS_WEIGHT => [(4, 0x100)]
  | .OBS_INJ_V => [(4, 0x100)]
  | .OBS_INJ_MIN => [(4, 0x100)]
  | .OBS_KP_INJ => [(4, 0x100)]
  | .OBS_KI_INJ => [(4, 0x100)]
  | .OBS_KP_EMF => [(4, 0x100)]
  | .OBS_KI_EMF => [(4, 0x100)]
  | .OBS_LOSS_RESID => [(4, 0x100)]
  | .OBS_ALIGN => [(4, 0x100)]
  | .OBS_POL_I => [(4, 0x100)]
  | .OBS_POL_MIN => [(4, 0x100)]
  | .OBS_CATCH_CFG => [(4, 0x100)]
  | .OBS_CATCH_VMIN => [(4, 0x100)]
  | .OBS_CATCH_SPEED => [(4, 0x100)]
  | .OBS_RELOCK_DSPD => [(4, 0x100)]
  | .OBS_SS_I => [(4, 0x100)]
  | .OBS_SS_RATE => [(4, 0x100)]
  | .OBS_IF_I => [(4, 0x100)]
  | .OBS_KE_CFG => [(4, 0x100)]
  | .OBS_KE_REF => [(4, 0x100)]
  | .OBS_KE_TC => [(4, 0x100)]
  | .OBS_KE_BASE => [(4, 0x100)]
  | .OBS_KE_LAST => [(4, 0x100)]
  | .OBS_KE_AVG => [(4, 0x100)]
  | .OBS_KE_DEV => [(4, 0x100)]
  | .OBS_RELOCK_CNT => [(4, 0x100)]
  | .OBS_ALIGN_DEV => [(4, 0x100)]
  | .ME_CFG => [(2, 0x100)]
  | .ME_STAT => [(2, 0x100)]
  | .ME_POS => [(2, 0x100)]
  | .ME_SPEED => [(2, 0x100)]
  | .ME_TARGET => [(2, 0x100)]
  | .ME_VMAX => [(2, 0x100)]
  | .ME_JERK => [(2, 0x100)]
  | .ME_HOME_V => [(2, 0x100)]
  | .ME_HOME_MAX => [(2, 0x100)]
  | .ME_HOME_BACK => [(2, 0x100)]
  | .ME_HOME_POS => [(2, 0x100)]
  | .ME_STALL => [(2, 0x100)]
  | .ME_GEAR_CFG => [(2, 0x100)]
  | .ME_GEAR_M => [(2, 0x100)]
  | .ME_GEAR_JUMP => [(2, 0x100)]
  | .ME_LOAD => [(2, 0x100)]
  | .ME_I => [(2, 0x100)]
  | .ME_UNC_CNT => [(2, 0x100)]
  | .AUX_I_LEVELS => []
  | .AUX_I_MIN => []
  | .AUX_I_RATE => []
  | .AUX_LOAD_MAP => []
  | .AUX_CHOP => []
  | .AUX_SHUNT => []
  | .AUX_MOT_R => []
  | .AUX_MOT_L => []
  | .AUX_VBUS => []
  | .AUX_EMF_MIN => []
  | .AUX_CHOP_OFS => [(3, 0x4)]
  | .AUX_I_MEAS => [(3, 0x4)]
  | .ME_GEAR_LIST => [(2, 0x200), (96, 0x4)]
  | .MER_CFG => []
  | .MER_STAT => []
  | .MER_TIME_LO => []
  | .MER_TIME_HI => []
  | .MER_OFFSET => []
  | .MER_FREQ => []
  | .MER_MPD => []
  | .MER_ASYM => []
  | .MER_LIM => []
  | .MER_GM_ID_LO => []
  | .MER_GM_ID_HI => []
  | .MER_UTC_OFS => []
  | .MER_SET_LO => []
  | .MER_SET_HI => []
  | .MER_PPS_BAD => []
  | .LAMP_CFG => []
  | .LAMP_STAT => []
  | .LAMP_HEAD => []
  | .LAMP_NEXT_LO => []
  | .LAMP_NEXT_HI => []
  | .LAMP_LAUNCH_CNT => []
  | .LAMP_PREEMPT_CNT => []
  | .LAMP_LATE_CNT => []
  | .LAMP_WITHHELD_CNT => []
  | .LAMP_STALE_CNT => []
  | .LAMP_SYNC => []
  | .MEM_CFG => []
  | .MEM_BEACON => []
  | .MEM_STAT => []
  | .MEM_VLAN => []
  | .MEM_GROUPS => [(8, 0x4)]
  | .MEM_LIVE => []
  | .MEM_STALE_CNT => []
  | .MEM_CRC_CNT => []
  | .MEM_LOSS_CNT => []
  | .MEM_ACT_REFUSED => []
  | .CAN_CTRL => [(2, 0x8000)]
  | .CAN_STAT => [(2, 0x8000)]
  | .CAN_ERRCNT => [(2, 0x8000)]
  | .CAN_NBT => [(2, 0x8000)]
  | .CAN_DBT => [(2, 0x8000)]
  | .CAN_TDC => [(2, 0x8000)]
  | .CAN_CMD_REQ => [(2, 0x8000)]
  | .CAN_CMD_RSP => [(2, 0x8000)]
  | .CAN_TXREQ_LO => [(2, 0x8000)]
  | .CAN_TXREQ_HI => [(2, 0x8000)]
  | .CAN_RX_LOST => [(2, 0x8000)]
  | .CAN_LOCK_TMO => [(2, 0x8000)]
  | .CAN_TX_MISSED => [(2, 0x8000)]
  | .CAN_TT_CFG => [(2, 0x8000)]
  | .CAN_TT_PHASE => [(2, 0x8000)]
  | .CAN_TT_REF => [(2, 0x8000)]
  | .CAN_TT_STAT => [(2, 0x8000)]
  | .CAN_TT_COL => [(2, 0x8000), (16, 0x4)]
  | .CAN_MB => [(2, 0x8000), (64, 0x80), (24, 0x4)]
  | .CAN_TT_MTX => [(2, 0x8000), (256, 0x4)]
  | .STR_CTRL => []
  | .STR_STAT => []
  | .STR_CREDIT => []
  | .STR_SEQ => []
  | .STR_FRAMES => []
  | .STR_NAK => []
  | .STR_REPLAY => []
  | .STR_GONE => []
  | .STR_BK_ERR => []
  | .STR_DROP => []
  | .STR_SRC_ERR => []
  | .STR_CAP_FILL => []
  | .FIO_STAT => []
  | .FIO_DI => []
  | .FIO_DI_INVALID => []
  | .FIO_DO => []
  | .FIO_SAFE => []
  | .FIO_CFG => []
  | .FIO_DO_SLEW => []
  | .FIO_DI_WB => []
  | .FIO_DI_FILT => [(3, 0x4)]
  | .FIO_FAULT_CNT => []
  | .FIO_LINK_ERR => []
  | .LAN_STAT => []
  | .LAN_STO_IN => []
  | .LAN_ID => []
  | .LAN_PROFILE => []
  | .LAN_SBC => []
  | .LAN_DEMAND_CNT => []
  | .LAN_LS_DIGEST => []
  | .LAN_LS_LATENT => []
  | .LAN_LS_RESYNC => []
  | .LAN_ENV_IMAX => [(4, 0x40)]
  | .LAN_ENV_VMAX => [(4, 0x40)]
  | .LAN_ENV_TMAX => [(4, 0x40)]
  | .LAN_ENV_TRATE => [(4, 0x40)]
  | .LAN_ENV_PMAX => [(4, 0x40)]
  | .LAN_ENV_EM => [(4, 0x40)]
  | .LAN_SPD_A => [(4, 0x40)]
  | .LAN_SPD_B => [(4, 0x40)]
  | .LAN_SPD_SAFE => [(4, 0x40)]
  | .LAN_SPD_STAT => [(4, 0x40)]
  | .LAN_SS1_LIM => [(4, 0x40)]
  | .LAN_ENV_DTMIN => [(8, 0x10)]
  | .LAN_ENV_TSEQ => [(8, 0x10)]
  | .LAN_ENV_VDC_HI => [(8, 0x10)]
  | .LAN_ENV_VDC_LO => [(8, 0x10)]
  | .LAN_CONN_STAT => [(8, 0x10)]
  | .LAN_CONN_DATA => [(8, 0x10)]
  | .LAN_CONN_ERR => [(8, 0x10)]
  | .CDL_CTRL => []
  | .CDL_STAT => []
  | .CDL_LAST_TIME_LO => []
  | .CDL_LAST_TIME_HI => []
  | .CDL_REPLAN_CNT => []
  | .CDL_RO_DRIFT => []
  | .CDL_OSC_DRIFT => []
  | .CDL_NV_MARGIN => []
  | .CDL_DEV_LIM => []
  | .CDL_HOURS_ON => []
  | .CDL_BR_CFG => [(8, 0x40)]
  | .CDL_DT_MAX => [(8, 0x40)]
  | .CDL_MARGIN_DT => [(8, 0x40)]
  | .CDL_RT_BASE => [(8, 0x40)]
  | .CDL_RT_NOW => [(8, 0x40)]
  | .CDL_VCE_DRIFT => [(8, 0x40)]
  | .CDL_CYCLES => [(8, 0x40)]
  | .CDL_HOURS_SW => [(8, 0x40)]
  | .CDL_CYC_CFG => [(8, 0x40)]
  | .CDL_AX_CFG => [(4, 0x40)]
  | .CDL_DERATE_MIN => [(4, 0x40)]
  | .CDL_MARGIN_DERATE => [(4, 0x40)]
  | .CDL_GUARD_MAX => [(4, 0x40)]
  | .CDL_MARGIN_GUARD => [(4, 0x40)]
  | .CDL_ENERGY_MOT => [(4, 0x40)]
  | .CDL_ENERGY_GEN => [(4, 0x40)]
  | .CDL_MARGIN_BUDGET => [(10, 0x10), (4, 0x4)]
  | .CMP_LIST => [(4096, 0x4)]

/-- The registers whose table is headed "with SET/CLR" second addresses (R32). -/
def RegId.setClr (r : RegId) : Bool :=
  [RegId.AX_CTRL, RegId.PWM_CTRL, RegId.LAMP_SYNC, RegId.CAN_TXREQ_LO, RegId.CAN_TXREQ_HI, RegId.FIO_DO, RegId.LAN_SBC].contains r

/-- The registers of each 64 KiB block, for decoding an address (R110, R113). -/
def blockRegs : Nat → List RegId
  | 0x0 => [.SYS_ID, .SYS_REV, .SYS_FW_VER, .SYS_SERIAL_LO, .SYS_SERIAL_HI, .SYS_UNIT, .SYS_STATE, .SYS_FAULT,
      .SYS_CLK_STAT, .SYS_TIME_SLIP, .SYS_SW1, .SYS_SCRATCH, .SYS_SPLIT]
  | 0x1 => [.FAB_PAR_REPLAY, .FAB_PAR_FAULT, .FAB_ERR_STAT, .FAB_ERR_ADDR, .FAB_SECDED, .FAB_SCRUB, .FAB_ARB_STAT,
      .FAB_ARB_ADDR, .FAB_LOSS]
  | 0x2 => [.AX_CTRL, .AX_STAT, .AX_CFG, .AX_POLES, .AX_ANG_OFS, .AX_BASE_V, .AX_BASE_I, .AX_BASE_F, .AX_BASE_T,
      .AX_BASE_N, .AX_SPD_SCALE, .AX_MECH_TM, .AX_MOT_RS, .AX_MOT_LD, .AX_MOT_LQ, .AX_MOT_PSI, .AX_MOT_LM,
      .AX_MOT_KR, .AX_MOT_TR, .AX_MOT_KT, .AX_ILIM, .AX_TLIM_P, .AX_TLIM_N, .AX_TRATE, .AX_PLIM, .AX_PLIM_GEN,
      .AX_PL_RATE, .AX_VLIM, .AX_ID_MAX, .AX_FW_MARGIN, .AX_RAMP_ACC, .AX_RAMP_DEC, .AX_RAMP_JERK, .AX_STOP_DEC,
      .AX_RAMP_VMAX, .AX_TEN_CFG, .AX_TEN_K, .AX_TEN_VLIM, .AX_SP_HOST, .AX_SP_ACTIVE, .AX_SRC_CFG, .AX_PULSE_SCALE,
      .AX_KP_ID, .AX_KI_ID, .AX_KP_IQ, .AX_KI_IQ, .AX_KP_SPD, .AX_KI_SPD, .AX_KP_POS, .AX_KP_TEN, .AX_KI_TEN,
      .AX_KP_CIRC, .AX_KI_CIRC, .AX_KI_FW, .AX_TUNE_COMMIT, .AX_LOBS_BW, .AX_PLAUS_ANG, .AX_PLAUS_SPD, .AX_PLAUS_CFG,
      .AX_RESID_I, .AX_FOLLOW, .AX_CIRC_LIM, .AX_T_OUT, .AX_THETA, .AX_SPEED, .AX_ID, .AX_IQ, .AX_T_REF, .AX_T_EST,
      .AX_T_LOAD, .AX_IMAG, .AX_VMAG, .AX_FAULT, .AX_SH_CFG, .AX_SH_W, .AX_SH_SCALE, .AX_SH_KS, .AX_SH_CLIM,
      .AX_SH_DROOP, .AX_SH_TMO, .AX_SH_STAT, .AX_SH_CORR, .AX_SH_TSUM, .AX_SH_STALE, .AX_PL_HOLD, .AX_PL_HELD,
      .AX_PL_HELD_GEN, .AX_EM_CFG, .AX_EM_ADMIT, .AX_EM_STAT, .AX_EM_TLIM, .AX_EM_VLIM, .AX_EM_PLIM, .AX_EM_MATCH,
      .AX_EM_PROVE, .AX_EM_PROVE_T, .AX_EM_REND_T, .AX_EM_REND_REC, .AX_EM_REND_LEN, .AX_EM_REND_POS]
  | 0x3 => [.PWM_STAT, .PWM_CTRL, .CHOP_CFG, .BR_CFG, .BR_HALF, .BR_PHASE, .BR_DT, .BR_MINPULSE, .BR_MAP0, .BR_MAP1,
      .BR_MAP2, .BR_WOFS, .BR_VDC_NOM, .BR_ADV, .BR_NP_LIM, .BR_VD, .BR_VQ, .BR_V0, .BR_THETA, .BR_OMEGA, .BR_COMMIT,
      .BR_STAT, .BR_HELD_CNT, .BR_CLIP_CNT, .BR_COMMIT_OVER, .BR_NP_DEV, .BR_GRID_OFF]
  | 0x4 => [.GC_CFG, .GATE_TSEQ, .GATE_STAT, .GATE_FLT_MASK_LO, .GATE_FLT_MASK_HI, .GATE_FLT_TIME_LO,
      .GATE_FLT_TIME_HI, .GATE_FLT_CNT, .GATE_BLANK_CNT, .GATE_RT_LIM, .GATE_FLT_REC, .GATE_RT, .GATE_RT_MAX,
      .CHOP_ON, .CHOP_OFF, .CHOP_TIM, .CHOP_DUTY, .CHOP_STAT, .GATE_AUX_CFG, .GATE_AUX_OC, .GATE_AUX_STAT,
      .GATE_AUX_UV_CNT]
  | 0x5 => [.SD_CFG, .SD_GAIN, .SD_OFFSET, .SD_VALUE, .SD_OC_CFG, .SD_OC_HI, .SD_OC_LO, .SD_STAT, .SNS_CTRL, .AI_CFG,
      .AI_GAIN, .AI_OFFSET, .AI_VALUE, .SNS_GUARD, .SNS_SHIFT, .SNS_STAT, .SNS_SKIP_CNT, .SNS_SHIFT_CNT,
      .SNS_DEGR_CNT, .SNS_SHIFT_LAST, .SNS_EFF_GUARD]
  | 0x6 => [.EN_CFG, .EN_FILT, .EN_CPR, .EN_POS, .EN_ANGLE, .EN_SPEED, .EN_STAT, .EN_ILLEGAL, .EN_IDX_CFG,
      .EN_IDX_REF, .EN_IDX_DEV, .EN_IDX_MISMATCH, .EN_EDGE_TS, .EN_SPD_CFG, .EN_SSI_CFG, .EN_SSI_TIM, .EN_SSI_RAW,
      .EN_SSI_ERR, .H_FILT, .H_CFG, .H_STATE, .H_SECT_OFS, .H_SECT_ANGLE, .H_EDGE_TS, .CMP_RANGE, .CMP_OUT_SEL,
      .CMP_STAT, .CMP_FIRED, .CMP_LAST_TIME_LO, .CMP_LAST_TIME_HI]
  | 0x7 => [.LE_CTRL, .LE_STAT, .LE_MADDR, .LE_MDATA, .LE_MSTAT, .LE_PAR_REPLAY, .LE_RETRY_CNT, .LE_EXC_INFO,
      .LE_SAT_CNT, .LE_MBX_BASE, .LE_MBX_OPTR, .LE_MBX_IPTR, .LE_TASK_CFG, .LE_TASK_START, .LE_TASK_DEADLINE,
      .LE_TASK_WCET, .LE_TASK_BUDGET, .LE_TASK_OVR, .LE_TASK_LAST, .LE_TASK_STATE]
  | 0x8 => [.OBS_CFG, .OBS_STAT, .OBS_THETA, .OBS_SPEED, .OBS_WEIGHT, .OBS_INJ_V, .OBS_INJ_MIN, .OBS_KP_INJ,
      .OBS_KI_INJ, .OBS_KP_EMF, .OBS_KI_EMF, .OBS_LOSS_RESID, .OBS_ALIGN, .OBS_POL_I, .OBS_POL_MIN, .OBS_CATCH_CFG,
      .OBS_CATCH_VMIN, .OBS_CATCH_SPEED, .OBS_RELOCK_DSPD, .OBS_SS_I, .OBS_SS_RATE, .OBS_IF_I, .OBS_KE_CFG,
      .OBS_KE_REF, .OBS_KE_TC, .OBS_KE_BASE, .OBS_KE_LAST, .OBS_KE_AVG, .OBS_KE_DEV, .OBS_RELOCK_CNT, .OBS_ALIGN_DEV]
  | 0x9 => [.ME_CFG, .ME_STAT, .ME_POS, .ME_SPEED, .ME_TARGET, .ME_VMAX, .ME_JERK, .ME_HOME_V, .ME_HOME_MAX,
      .ME_HOME_BACK, .ME_HOME_POS, .ME_STALL, .ME_GEAR_CFG, .ME_GEAR_M, .ME_GEAR_JUMP, .ME_LOAD, .ME_I, .ME_UNC_CNT,
      .AUX_I_LEVELS, .AUX_I_MIN, .AUX_I_RATE, .AUX_LOAD_MAP, .AUX_CHOP, .AUX_SHUNT, .AUX_MOT_R, .AUX_MOT_L,
      .AUX_VBUS, .AUX_EMF_MIN, .AUX_CHOP_OFS, .AUX_I_MEAS, .ME_GEAR_LIST]
  | 0xA => [.MER_CFG, .MER_STAT, .MER_TIME_LO, .MER_TIME_HI, .MER_OFFSET, .MER_FREQ, .MER_MPD, .MER_ASYM, .MER_LIM,
      .MER_GM_ID_LO, .MER_GM_ID_HI, .MER_UTC_OFS, .MER_SET_LO, .MER_SET_HI, .MER_PPS_BAD, .LAMP_CFG, .LAMP_STAT,
      .LAMP_HEAD, .LAMP_NEXT_LO, .LAMP_NEXT_HI, .LAMP_LAUNCH_CNT, .LAMP_PREEMPT_CNT, .LAMP_LATE_CNT,
      .LAMP_WITHHELD_CNT, .LAMP_STALE_CNT, .LAMP_SYNC, .MEM_CFG, .MEM_BEACON, .MEM_STAT, .MEM_VLAN, .MEM_GROUPS,
      .MEM_LIVE, .MEM_STALE_CNT, .MEM_CRC_CNT, .MEM_LOSS_CNT, .MEM_ACT_REFUSED]
  | 0xB => [.CAN_CTRL, .CAN_STAT, .CAN_ERRCNT, .CAN_NBT, .CAN_DBT, .CAN_TDC, .CAN_CMD_REQ, .CAN_CMD_RSP,
      .CAN_TXREQ_LO, .CAN_TXREQ_HI, .CAN_RX_LOST, .CAN_LOCK_TMO, .CAN_TX_MISSED, .CAN_TT_CFG, .CAN_TT_PHASE,
      .CAN_TT_REF, .CAN_TT_STAT, .CAN_TT_COL, .CAN_MB, .CAN_TT_MTX]
  | 0xC => [.STR_CTRL, .STR_STAT, .STR_CREDIT, .STR_SEQ, .STR_FRAMES, .STR_NAK, .STR_REPLAY, .STR_GONE, .STR_BK_ERR,
      .STR_DROP, .STR_SRC_ERR, .STR_CAP_FILL]
  | 0xD => [.FIO_STAT, .FIO_DI, .FIO_DI_INVALID, .FIO_DO, .FIO_SAFE, .FIO_CFG, .FIO_DO_SLEW, .FIO_DI_WB,
      .FIO_DI_FILT, .FIO_FAULT_CNT, .FIO_LINK_ERR]
  | 0xE => [.LAN_STAT, .LAN_STO_IN, .LAN_ID, .LAN_PROFILE, .LAN_SBC, .LAN_DEMAND_CNT, .LAN_LS_DIGEST, .LAN_LS_LATENT,
      .LAN_LS_RESYNC, .LAN_ENV_IMAX, .LAN_ENV_VMAX, .LAN_ENV_TMAX, .LAN_ENV_TRATE, .LAN_ENV_PMAX, .LAN_ENV_EM,
      .LAN_SPD_A, .LAN_SPD_B, .LAN_SPD_SAFE, .LAN_SPD_STAT, .LAN_SS1_LIM, .LAN_ENV_DTMIN, .LAN_ENV_TSEQ,
      .LAN_ENV_VDC_HI, .LAN_ENV_VDC_LO, .LAN_CONN_STAT, .LAN_CONN_DATA, .LAN_CONN_ERR]
  | 0xF => [.CDL_CTRL, .CDL_STAT, .CDL_LAST_TIME_LO, .CDL_LAST_TIME_HI, .CDL_REPLAN_CNT, .CDL_RO_DRIFT,
      .CDL_OSC_DRIFT, .CDL_NV_MARGIN, .CDL_DEV_LIM, .CDL_HOURS_ON, .CDL_BR_CFG, .CDL_DT_MAX, .CDL_MARGIN_DT,
      .CDL_RT_BASE, .CDL_RT_NOW, .CDL_VCE_DRIFT, .CDL_CYCLES, .CDL_HOURS_SW, .CDL_CYC_CFG, .CDL_AX_CFG,
      .CDL_DERATE_MIN, .CDL_MARGIN_DERATE, .CDL_GUARD_MAX, .CDL_MARGIN_GUARD, .CDL_ENERGY_MOT, .CDL_ENERGY_GEN,
      .CDL_MARGIN_BUDGET]
  | 0x30 => [.CMP_LIST]
  | _ => []

end Sys2Proof.Machine
end

