-- ==== Sys2Proof/Machine/RegFields.lean ====
section
/-!
DEFINITION. Machine/RegFields.lean: the fields of every register as the spec's register tables give them: bits,
access code (R3), reset value, and the codes or the range outside which a write is refused (R117).
-/

namespace Sys2Proof.Machine

/-- The access codes of R3. -/
inductive Acc where
  | rw | ro | w1c | wo | rc | rl | ow
  deriving DecidableEq, Repr, Inhabited

/-- A field: its register, its bits, its access code, its reset value, and the ranges of the values a write may put
into it (R117); no range listed admits every value. -/
structure Fld where
  reg : RegId
  hi : Nat
  lo : Nat
  acc : Acc
  rst : Nat
  legal : List (Nat × Nat)
  deriving DecidableEq, Repr, Inhabited

namespace F

abbrev SYS_ID_PART : Fld := ⟨.SYS_ID, 15, 0, .ro, 0x4816, []⟩
abbrev SYS_REV_SILICON : Fld := ⟨.SYS_REV, 7, 0, .ro, 0xB1, []⟩
abbrev SYS_FW_VER_VERSION : Fld := ⟨.SYS_FW_VER, 31, 0, .ro, 0x0, []⟩
abbrev SYS_SERIAL_LO_SERIAL : Fld := ⟨.SYS_SERIAL_LO, 31, 0, .ro, 0x0, []⟩
abbrev SYS_SERIAL_HI_SERIAL : Fld := ⟨.SYS_SERIAL_HI, 31, 0, .ro, 0x0, []⟩
abbrev SYS_UNIT_UNIT : Fld := ⟨.SYS_UNIT, 15, 0, .rl, 0x0, [(0, 16383)]⟩
abbrev SYS_STATE_STATE : Fld := ⟨.SYS_STATE, 3, 0, .ro, 0x0, []⟩
abbrev SYS_STATE_PREV_STATE : Fld := ⟨.SYS_STATE, 7, 4, .ro, 0x0, []⟩
abbrev SYS_STATE_HALTED : Fld := ⟨.SYS_STATE, 8, 8, .ro, 0x0, []⟩
abbrev SYS_STATE_SAFE_FUNCTIONS : Fld := ⟨.SYS_STATE, 9, 9, .ro, 0x0, []⟩
abbrev SYS_STATE_SPLIT_A : Fld := ⟨.SYS_STATE, 10, 10, .ro, 0x0, []⟩
abbrev SYS_STATE_SPLIT_B : Fld := ⟨.SYS_STATE, 11, 11, .ro, 0x0, []⟩
abbrev SYS_STATE_ACTIVE_BANK : Fld := ⟨.SYS_STATE, 12, 12, .ro, 0x0, []⟩
abbrev SYS_STATE_BOOTSEL : Fld := ⟨.SYS_STATE, 13, 13, .ro, 0x0, []⟩
abbrev SYS_FAULT_LAST_CODE : Fld := ⟨.SYS_FAULT, 15, 0, .ro, 0x0, []⟩
abbrev SYS_FAULT_LAST_CLASS : Fld := ⟨.SYS_FAULT, 18, 16, .ro, 0x0, []⟩
abbrev SYS_FAULT_LATCHED : Fld := ⟨.SYS_FAULT, 24, 24, .ro, 0x0, []⟩
abbrev SYS_FAULT_ALERT : Fld := ⟨.SYS_FAULT, 25, 25, .ro, 0x0, []⟩
abbrev SYS_CLK_STAT_SYSPLL_LOCK : Fld := ⟨.SYS_CLK_STAT, 0, 0, .ro, 0x0, []⟩
abbrev SYS_CLK_STAT_PWMPLL_LOCK : Fld := ⟨.SYS_CLK_STAT, 1, 1, .ro, 0x0, []⟩
abbrev SYS_CLK_STAT_PWM_ON_REF : Fld := ⟨.SYS_CLK_STAT, 2, 2, .ro, 0x0, []⟩
abbrev SYS_CLK_STAT_CANPLL_LOCK : Fld := ⟨.SYS_CLK_STAT, 3, 3, .ro, 0x0, []⟩
abbrev SYS_CLK_STAT_ETH0_CLK : Fld := ⟨.SYS_CLK_STAT, 4, 4, .ro, 0x0, []⟩
abbrev SYS_CLK_STAT_ETH1_CLK : Fld := ⟨.SYS_CLK_STAT, 5, 5, .ro, 0x0, []⟩
abbrev SYS_CLK_STAT_STCLK_OK : Fld := ⟨.SYS_CLK_STAT, 6, 6, .ro, 0x0, []⟩
abbrev SYS_CLK_STAT_FIELD_LINK : Fld := ⟨.SYS_CLK_STAT, 7, 7, .ro, 0x0, []⟩
abbrev SYS_CLK_STAT_PWM_LOSS : Fld := ⟨.SYS_CLK_STAT, 16, 16, .w1c, 0x0, []⟩
abbrev SYS_CLK_STAT_MER_LOSS : Fld := ⟨.SYS_CLK_STAT, 17, 17, .w1c, 0x0, []⟩
abbrev SYS_CLK_STAT_SYS_LOSS : Fld := ⟨.SYS_CLK_STAT, 18, 18, .w1c, 0x0, []⟩
abbrev SYS_CLK_STAT_REF_LOSS : Fld := ⟨.SYS_CLK_STAT, 19, 19, .w1c, 0x0, []⟩
abbrev SYS_TIME_SLIP_COUNT : Fld := ⟨.SYS_TIME_SLIP, 31, 0, .rc, 0x0, []⟩
abbrev SYS_SW1_ACCEPTED : Fld := ⟨.SYS_SW1, 11, 0, .ro, 0x0, []⟩
abbrev SYS_SW1_LIVE : Fld := ⟨.SYS_SW1, 27, 16, .ro, 0x0, []⟩
abbrev SYS_SW1_CHANGED : Fld := ⟨.SYS_SW1, 31, 31, .ro, 0x0, []⟩
abbrev SYS_SCRATCH_VALUE : Fld := ⟨.SYS_SCRATCH, 31, 0, .rw, 0x0, []⟩
abbrev SYS_SPLIT_SPLIT_A : Fld := ⟨.SYS_SPLIT, 0, 0, .rl, 0x0, []⟩
abbrev SYS_SPLIT_SPLIT_B : Fld := ⟨.SYS_SPLIT, 1, 1, .rl, 0x0, []⟩
abbrev FAB_PAR_REPLAY_COUNT : Fld := ⟨.FAB_PAR_REPLAY, 31, 0, .rc, 0x0, []⟩
abbrev FAB_PAR_FAULT_COUNT : Fld := ⟨.FAB_PAR_FAULT, 31, 0, .ro, 0x0, []⟩
abbrev FAB_ERR_STAT_PAR_DATA : Fld := ⟨.FAB_ERR_STAT, 0, 0, .w1c, 0x0, []⟩
abbrev FAB_ERR_STAT_PAR_ADDR : Fld := ⟨.FAB_ERR_STAT, 1, 1, .w1c, 0x0, []⟩
abbrev FAB_ERR_STAT_UNMAPPED : Fld := ⟨.FAB_ERR_STAT, 2, 2, .w1c, 0x0, []⟩
abbrev FAB_ERR_STAT_MISALIGNED : Fld := ⟨.FAB_ERR_STAT, 3, 3, .w1c, 0x0, []⟩
abbrev FAB_ERR_STAT_ALIAS_BOTH : Fld := ⟨.FAB_ERR_STAT, 4, 4, .w1c, 0x0, []⟩
abbrev FAB_ERR_STAT_RL_DENY : Fld := ⟨.FAB_ERR_STAT, 5, 5, .w1c, 0x0, []⟩
abbrev FAB_ERR_STAT_BAD_VALUE : Fld := ⟨.FAB_ERR_STAT, 6, 6, .w1c, 0x0, []⟩
abbrev FAB_ERR_STAT_RO_WINDOW : Fld := ⟨.FAB_ERR_STAT, 7, 7, .w1c, 0x0, []⟩
abbrev FAB_ERR_STAT_LAST_INIT : Fld := ⟨.FAB_ERR_STAT, 11, 8, .ro, 0x0, []⟩
abbrev FAB_ERR_ADDR_ADDR : Fld := ⟨.FAB_ERR_ADDR, 31, 0, .ro, 0x0, []⟩
abbrev FAB_SECDED_CORR : Fld := ⟨.FAB_SECDED, 15, 0, .rc, 0x0, []⟩
abbrev FAB_SECDED_UNCORR : Fld := ⟨.FAB_SECDED, 31, 16, .rc, 0x0, []⟩
abbrev FAB_SCRUB_PASSES : Fld := ⟨.FAB_SCRUB, 31, 0, .ro, 0x0, []⟩
abbrev FAB_ARB_STAT_LOSER_RANK : Fld := ⟨.FAB_ARB_STAT, 3, 0, .ro, 0x0, []⟩
abbrev FAB_ARB_STAT_WINNER_RANK : Fld := ⟨.FAB_ARB_STAT, 7, 4, .ro, 0x0, []⟩
abbrev FAB_ARB_STAT_LOSER_INDEX : Fld := ⟨.FAB_ARB_STAT, 11, 8, .ro, 0x0, []⟩
abbrev FAB_ARB_STAT_DOMAIN : Fld := ⟨.FAB_ARB_STAT, 16, 16, .ro, 0x0, []⟩
abbrev FAB_ARB_ADDR_ADDR : Fld := ⟨.FAB_ARB_ADDR, 31, 0, .ro, 0x0, []⟩
abbrev FAB_LOSS_COUNT : Fld := ⟨.FAB_LOSS, 31, 0, .rc, 0x0, []⟩
abbrev AX_CTRL_MODE : Fld := ⟨.AX_CTRL, 2, 0, .rw, 0x1, [(0, 3)]⟩
abbrev AX_CTRL_SRC : Fld := ⟨.AX_CTRL, 6, 4, .rw, 0x0, [(0, 3)]⟩
abbrev AX_CTRL_LOBS_FF : Fld := ⟨.AX_CTRL, 8, 8, .rw, 0x0, []⟩
abbrev AX_STAT_STATE : Fld := ⟨.AX_STAT, 2, 0, .ro, 0x0, []⟩
abbrev AX_STAT_RAMP : Fld := ⟨.AX_STAT, 4, 4, .ro, 0x0, []⟩
abbrev AX_STAT_T_LIM : Fld := ⟨.AX_STAT, 5, 5, .ro, 0x0, []⟩
abbrev AX_STAT_P_LIM : Fld := ⟨.AX_STAT, 6, 6, .ro, 0x0, []⟩
abbrev AX_STAT_RATE_LIM : Fld := ⟨.AX_STAT, 7, 7, .ro, 0x0, []⟩
abbrev AX_STAT_I_LIM : Fld := ⟨.AX_STAT, 8, 8, .ro, 0x0, []⟩
abbrev AX_STAT_V_LIM : Fld := ⟨.AX_STAT, 9, 9, .ro, 0x0, []⟩
abbrev AX_STAT_FW : Fld := ⟨.AX_STAT, 10, 10, .ro, 0x0, []⟩
abbrev AX_STAT_SRC_LOST : Fld := ⟨.AX_STAT, 11, 11, .ro, 0x0, []⟩
abbrev AX_STAT_LIMSW : Fld := ⟨.AX_STAT, 12, 12, .ro, 0x0, []⟩
abbrev AX_STAT_TUNE_PEND : Fld := ⟨.AX_STAT, 13, 13, .ro, 0x0, []⟩
abbrev AX_STAT_ENV_CLIP : Fld := ⟨.AX_STAT, 14, 14, .w1c, 0x0, []⟩
abbrev AX_STAT_PLAUS : Fld := ⟨.AX_STAT, 15, 15, .w1c, 0x0, []⟩
abbrev AX_STAT_RESID : Fld := ⟨.AX_STAT, 16, 16, .w1c, 0x0, []⟩
abbrev AX_STAT_CIRC : Fld := ⟨.AX_STAT, 17, 17, .w1c, 0x0, []⟩
abbrev AX_CFG_MOTOR : Fld := ⟨.AX_CFG, 1, 0, .rl, 0x0, [(0, 2)]⟩
abbrev AX_CFG_ANGLE_SRC : Fld := ⟨.AX_CFG, 3, 2, .rl, 0x0, [(0, 2)]⟩
abbrev AX_CFG_ENC : Fld := ⟨.AX_CFG, 5, 4, .rl, 0x0, []⟩
abbrev AX_CFG_SUB : Fld := ⟨.AX_CFG, 8, 6, .rl, 0x0, [(0, 4)]⟩
abbrev AX_CFG_CATCH_DIS : Fld := ⟨.AX_CFG, 9, 9, .rl, 0x0, []⟩
abbrev AX_CFG_FALLBACK_SL : Fld := ⟨.AX_CFG, 10, 10, .rl, 0x0, []⟩
abbrev AX_CFG_PROG : Fld := ⟨.AX_CFG, 11, 11, .rl, 0x1, []⟩
abbrev AX_CFG_LE_CUR : Fld := ⟨.AX_CFG, 14, 12, .rl, 0x0, []⟩
abbrev AX_CFG_LE_OUT : Fld := ⟨.AX_CFG, 17, 15, .rl, 0x0, []⟩
abbrev AX_CFG_OE : Fld := ⟨.AX_CFG, 18, 18, .rl, 0x0, []⟩
abbrev AX_CFG_LIMSW_EN : Fld := ⟨.AX_CFG, 19, 19, .rl, 0x0, []⟩
abbrev AX_CFG_LIM_FWD : Fld := ⟨.AX_CFG, 22, 20, .rl, 0x0, []⟩
abbrev AX_CFG_LIM_REV : Fld := ⟨.AX_CFG, 25, 23, .rl, 0x0, []⟩
abbrev AX_POLES_PP : Fld := ⟨.AX_POLES, 7, 0, .rl, 0x0, []⟩
abbrev AX_ANG_OFS_OFS : Fld := ⟨.AX_ANG_OFS, 31, 0, .rl, 0x0, []⟩
abbrev AX_BASE_V_VALUE : Fld := ⟨.AX_BASE_V, 31, 0, .rl, 0x0, []⟩
abbrev AX_BASE_I_VALUE : Fld := ⟨.AX_BASE_I, 31, 0, .rl, 0x0, []⟩
abbrev AX_BASE_F_VALUE : Fld := ⟨.AX_BASE_F, 31, 0, .rl, 0x0, []⟩
abbrev AX_BASE_T_VALUE : Fld := ⟨.AX_BASE_T, 31, 0, .rl, 0x0, []⟩
abbrev AX_BASE_N_VALUE : Fld := ⟨.AX_BASE_N, 31, 0, .rl, 0x0, []⟩
abbrev AX_SPD_SCALE_G : Fld := ⟨.AX_SPD_SCALE, 31, 0, .rl, 0x0, []⟩
abbrev AX_MECH_TM_TM : Fld := ⟨.AX_MECH_TM, 31, 0, .rl, 0x0, []⟩
abbrev AX_MOT_RS_VALUE : Fld := ⟨.AX_MOT_RS, 31, 0, .rl, 0x0, []⟩
abbrev AX_MOT_LD_VALUE : Fld := ⟨.AX_MOT_LD, 31, 0, .rl, 0x0, []⟩
abbrev AX_MOT_LQ_VALUE : Fld := ⟨.AX_MOT_LQ, 31, 0, .rl, 0x0, []⟩
abbrev AX_MOT_PSI_VALUE : Fld := ⟨.AX_MOT_PSI, 31, 0, .rl, 0x0, []⟩
abbrev AX_MOT_LM_VALUE : Fld := ⟨.AX_MOT_LM, 31, 0, .rl, 0x0, []⟩
abbrev AX_MOT_KR_VALUE : Fld := ⟨.AX_MOT_KR, 31, 0, .rl, 0x0, []⟩
abbrev AX_MOT_TR_TR : Fld := ⟨.AX_MOT_TR, 31, 0, .rl, 0x0, []⟩
abbrev AX_MOT_KT_KT : Fld := ⟨.AX_MOT_KT, 31, 0, .rl, 0x0, []⟩
abbrev AX_ILIM_VALUE : Fld := ⟨.AX_ILIM, 31, 0, .rl, 0x1000000, []⟩
abbrev AX_TLIM_P_VALUE : Fld := ⟨.AX_TLIM_P, 31, 0, .rw, 0x1000000, []⟩
abbrev AX_TLIM_N_VALUE : Fld := ⟨.AX_TLIM_N, 31, 0, .rw, 0x1000000, []⟩
abbrev AX_TRATE_VALUE : Fld := ⟨.AX_TRATE, 31, 0, .rl, 0x1000000, []⟩
abbrev AX_PLIM_VALUE : Fld := ⟨.AX_PLIM, 31, 0, .rw, 0x1000000, []⟩
abbrev AX_PLIM_GEN_VALUE : Fld := ⟨.AX_PLIM_GEN, 31, 0, .rw, 0x1000000, []⟩
abbrev AX_PL_RATE_VALUE : Fld := ⟨.AX_PL_RATE, 31, 0, .rl, 0x0, []⟩
abbrev AX_VLIM_VALUE : Fld := ⟨.AX_VLIM, 31, 0, .rl, 0x1200000, []⟩
abbrev AX_ID_MAX_VALUE : Fld := ⟨.AX_ID_MAX, 31, 0, .rl, 0x0, []⟩
abbrev AX_FW_MARGIN_VALUE : Fld := ⟨.AX_FW_MARGIN, 31, 0, .rl, 0xF33333, []⟩
abbrev AX_RAMP_ACC_VALUE : Fld := ⟨.AX_RAMP_ACC, 31, 0, .rw, 0x0, []⟩
abbrev AX_RAMP_DEC_VALUE : Fld := ⟨.AX_RAMP_DEC, 31, 0, .rw, 0x0, []⟩
abbrev AX_RAMP_JERK_VALUE : Fld := ⟨.AX_RAMP_JERK, 31, 0, .rw, 0x0, []⟩
abbrev AX_STOP_DEC_VALUE : Fld := ⟨.AX_STOP_DEC, 31, 0, .rl, 0x0, []⟩
abbrev AX_RAMP_VMAX_VALUE : Fld := ⟨.AX_RAMP_VMAX, 31, 0, .rw, 0x0, []⟩
abbrev AX_TEN_CFG_AI : Fld := ⟨.AX_TEN_CFG, 2, 0, .rw, 0x0, []⟩
abbrev AX_TEN_CFG_EST : Fld := ⟨.AX_TEN_CFG, 3, 3, .rw, 0x0, []⟩
abbrev AX_TEN_K_K : Fld := ⟨.AX_TEN_K, 31, 0, .rw, 0x0, []⟩
abbrev AX_TEN_VLIM_VALUE : Fld := ⟨.AX_TEN_VLIM, 31, 0, .rl, 0x0, []⟩
abbrev AX_SP_HOST_VALUE : Fld := ⟨.AX_SP_HOST, 31, 0, .rw, 0x0, []⟩
abbrev AX_SP_ACTIVE_VALUE : Fld := ⟨.AX_SP_ACTIVE, 31, 0, .ro, 0x0, []⟩
abbrev AX_SRC_CFG_AI : Fld := ⟨.AX_SRC_CFG, 2, 0, .rw, 0x0, []⟩
abbrev AX_SRC_CFG_PULSE_ENC : Fld := ⟨.AX_SRC_CFG, 5, 4, .rw, 0x0, []⟩
abbrev AX_SRC_CFG_DEADBAND : Fld := ⟨.AX_SRC_CFG, 15, 8, .rw, 0x0, []⟩
abbrev AX_SRC_CFG_HOLD : Fld := ⟨.AX_SRC_CFG, 31, 16, .rw, 0x64, []⟩
abbrev AX_PULSE_SCALE_G : Fld := ⟨.AX_PULSE_SCALE, 31, 0, .rw, 0x0, []⟩
abbrev AX_KP_ID_G : Fld := ⟨.AX_KP_ID, 31, 0, .rl, 0x0, []⟩
abbrev AX_KI_ID_G : Fld := ⟨.AX_KI_ID, 31, 0, .rl, 0x0, []⟩
abbrev AX_KP_IQ_G : Fld := ⟨.AX_KP_IQ, 31, 0, .rl, 0x0, []⟩
abbrev AX_KI_IQ_G : Fld := ⟨.AX_KI_IQ, 31, 0, .rl, 0x0, []⟩
abbrev AX_KP_SPD_G : Fld := ⟨.AX_KP_SPD, 31, 0, .rl, 0x0, []⟩
abbrev AX_KI_SPD_G : Fld := ⟨.AX_KI_SPD, 31, 0, .rl, 0x0, []⟩
abbrev AX_KP_POS_G : Fld := ⟨.AX_KP_POS, 31, 0, .rl, 0x0, []⟩
abbrev AX_KP_TEN_G : Fld := ⟨.AX_KP_TEN, 31, 0, .rl, 0x0, []⟩
abbrev AX_KI_TEN_G : Fld := ⟨.AX_KI_TEN, 31, 0, .rl, 0x0, []⟩
abbrev AX_KP_CIRC_G : Fld := ⟨.AX_KP_CIRC, 31, 0, .rl, 0x0, []⟩
abbrev AX_KI_CIRC_G : Fld := ⟨.AX_KI_CIRC, 31, 0, .rl, 0x0, []⟩
abbrev AX_KI_FW_G : Fld := ⟨.AX_KI_FW, 31, 0, .rl, 0x0, []⟩
abbrev AX_TUNE_COMMIT_COMMIT : Fld := ⟨.AX_TUNE_COMMIT, 0, 0, .wo, 0x0, []⟩
abbrev AX_LOBS_BW_BW : Fld := ⟨.AX_LOBS_BW, 15, 0, .rl, 0x0, []⟩
abbrev AX_PLAUS_ANG_ANGLE : Fld := ⟨.AX_PLAUS_ANG, 31, 0, .rl, 0xAAAAAAB, []⟩
abbrev AX_PLAUS_SPD_VALUE : Fld := ⟨.AX_PLAUS_SPD, 31, 0, .rl, 0x19999A, []⟩
abbrev AX_PLAUS_CFG_N : Fld := ⟨.AX_PLAUS_CFG, 3, 0, .rl, 0x3, [(1, 15)]⟩
abbrev AX_PLAUS_CFG_EN : Fld := ⟨.AX_PLAUS_CFG, 4, 4, .rl, 0x0, []⟩
abbrev AX_RESID_I_VALUE : Fld := ⟨.AX_RESID_I, 31, 0, .rl, 0x400000, []⟩
abbrev AX_FOLLOW_COUNT : Fld := ⟨.AX_FOLLOW, 31, 0, .rl, 0x1000, []⟩
abbrev AX_CIRC_LIM_VALUE : Fld := ⟨.AX_CIRC_LIM, 31, 0, .rl, 0x19999A, []⟩
abbrev AX_T_OUT_VALUE : Fld := ⟨.AX_T_OUT, 31, 0, .rw, 0x0, []⟩
abbrev AX_THETA_VALUE : Fld := ⟨.AX_THETA, 31, 0, .ro, 0x0, []⟩
abbrev AX_SPEED_VALUE : Fld := ⟨.AX_SPEED, 31, 0, .ro, 0x0, []⟩
abbrev AX_ID_VALUE : Fld := ⟨.AX_ID, 31, 0, .ro, 0x0, []⟩
abbrev AX_IQ_VALUE : Fld := ⟨.AX_IQ, 31, 0, .ro, 0x0, []⟩
abbrev AX_T_REF_VALUE : Fld := ⟨.AX_T_REF, 31, 0, .ro, 0x0, []⟩
abbrev AX_T_EST_VALUE : Fld := ⟨.AX_T_EST, 31, 0, .ro, 0x0, []⟩
abbrev AX_T_LOAD_VALUE : Fld := ⟨.AX_T_LOAD, 31, 0, .ow, 0x0, []⟩
abbrev AX_IMAG_VALUE : Fld := ⟨.AX_IMAG, 31, 0, .ro, 0x0, []⟩
abbrev AX_VMAG_VALUE : Fld := ⟨.AX_VMAG, 31, 0, .ro, 0x0, []⟩
abbrev AX_FAULT_CODE : Fld := ⟨.AX_FAULT, 15, 0, .ro, 0x0, []⟩
abbrev AX_SH_CFG_MODE : Fld := ⟨.AX_SH_CFG, 1, 0, .rl, 0x0, [(0, 2)]⟩
abbrev AX_SH_CFG_LEADER : Fld := ⟨.AX_SH_CFG, 2, 2, .rl, 0x0, []⟩
abbrev AX_SH_CFG_REMOTE : Fld := ⟨.AX_SH_CFG, 3, 3, .rl, 0x0, []⟩
abbrev AX_SH_CFG_LOCAL : Fld := ⟨.AX_SH_CFG, 7, 4, .rl, 0x0, []⟩
abbrev AX_SH_CFG_GROUP : Fld := ⟨.AX_SH_CFG, 15, 8, .rl, 0x0, []⟩
abbrev AX_SH_W_W : Fld := ⟨.AX_SH_W, 31, 0, .rl, 0x0, []⟩
abbrev AX_SH_SCALE_G : Fld := ⟨.AX_SH_SCALE, 31, 0, .rl, 0xCA000000, []⟩
abbrev AX_SH_KS_G : Fld := ⟨.AX_SH_KS, 31, 0, .rl, 0x0, []⟩
abbrev AX_SH_CLIM_VALUE : Fld := ⟨.AX_SH_CLIM, 31, 0, .rl, 0x333333, []⟩
abbrev AX_SH_DROOP_VALUE : Fld := ⟨.AX_SH_DROOP, 31, 0, .rl, 0xA3D71, []⟩
abbrev AX_SH_TMO_STALE : Fld := ⟨.AX_SH_TMO, 7, 0, .rl, 0x3, []⟩
abbrev AX_SH_TMO_RESTORE : Fld := ⟨.AX_SH_TMO, 23, 8, .rl, 0x64, []⟩
abbrev AX_SH_STAT_MEMBERS : Fld := ⟨.AX_SH_STAT, 3, 0, .ro, 0x0, []⟩
abbrev AX_SH_STAT_DROOP : Fld := ⟨.AX_SH_STAT, 4, 4, .ro, 0x0, []⟩
abbrev AX_SH_STAT_GRID_ERR : Fld := ⟨.AX_SH_STAT, 5, 5, .w1c, 0x0, []⟩
abbrev AX_SH_STAT_IMB : Fld := ⟨.AX_SH_STAT, 6, 6, .w1c, 0x0, []⟩
abbrev AX_SH_STAT_REMOTE_N : Fld := ⟨.AX_SH_STAT, 15, 8, .ro, 0x0, []⟩
abbrev AX_SH_CORR_VALUE : Fld := ⟨.AX_SH_CORR, 31, 0, .ro, 0x0, []⟩
abbrev AX_SH_TSUM_VALUE : Fld := ⟨.AX_SH_TSUM, 31, 0, .ro, 0x0, []⟩
abbrev AX_SH_STALE_COUNT : Fld := ⟨.AX_SH_STALE, 31, 0, .rc, 0x0, []⟩
abbrev AX_PL_HOLD_TIME : Fld := ⟨.AX_PL_HOLD, 15, 0, .rl, 0x0, []⟩
abbrev AX_PL_HOLD_ACTIVE : Fld := ⟨.AX_PL_HOLD, 16, 16, .ro, 0x0, []⟩
abbrev AX_PL_HOLD_RELEASE : Fld := ⟨.AX_PL_HOLD, 17, 17, .wo, 0x0, []⟩
abbrev AX_PL_HELD_VALUE : Fld := ⟨.AX_PL_HELD, 31, 0, .ro, 0x0, []⟩
abbrev AX_PL_HELD_GEN_VALUE : Fld := ⟨.AX_PL_HELD_GEN, 31, 0, .ro, 0x0, []⟩
abbrev AX_EM_CFG_LEVER_AUTO : Fld := ⟨.AX_EM_CFG, 0, 0, .rl, 0x0, []⟩
abbrev AX_EM_CFG_RENDER_EN : Fld := ⟨.AX_EM_CFG, 1, 1, .rl, 0x0, []⟩
abbrev AX_EM_CFG_LOWER_DIR : Fld := ⟨.AX_EM_CFG, 2, 2, .rl, 0x0, []⟩
abbrev AX_EM_CFG_HOST_TMO : Fld := ⟨.AX_EM_CFG, 31, 16, .rl, 0x1F4, [(50, 5000)]⟩
abbrev AX_EM_ADMIT_MODES : Fld := ⟨.AX_EM_ADMIT, 6, 1, .ro, 0x0, []⟩
abbrev AX_EM_STAT_OPMODE : Fld := ⟨.AX_EM_STAT, 2, 0, .ro, 0x0, []⟩
abbrev AX_EM_STAT_LIMP : Fld := ⟨.AX_EM_STAT, 3, 3, .ro, 0x0, []⟩
abbrev AX_EM_STAT_SENSORLESS : Fld := ⟨.AX_EM_STAT, 4, 4, .ro, 0x0, []⟩
abbrev AX_EM_STAT_WINDING : Fld := ⟨.AX_EM_STAT, 5, 5, .ro, 0x0, []⟩
abbrev AX_EM_STAT_PROVING : Fld := ⟨.AX_EM_STAT, 6, 6, .ro, 0x0, []⟩
abbrev AX_EM_STAT_LEN_WARN : Fld := ⟨.AX_EM_STAT, 7, 7, .w1c, 0x0, []⟩
abbrev AX_EM_TLIM_VALUE : Fld := ⟨.AX_EM_TLIM, 31, 0, .rl, 0x1000000, []⟩
abbrev AX_EM_VLIM_VALUE : Fld := ⟨.AX_EM_VLIM, 31, 0, .rl, 0x800000, []⟩
abbrev AX_EM_PLIM_VALUE : Fld := ⟨.AX_EM_PLIM, 31, 0, .rl, 0x800000, []⟩
abbrev AX_EM_MATCH_VALUE : Fld := ⟨.AX_EM_MATCH, 31, 0, .rl, 0x51EB8, []⟩
abbrev AX_EM_PROVE_VALUE : Fld := ⟨.AX_EM_PROVE, 31, 0, .rl, 0x800000, []⟩
abbrev AX_EM_PROVE_T_T : Fld := ⟨.AX_EM_PROVE_T, 15, 0, .rl, 0x1F4, []⟩
abbrev AX_EM_REND_T_VALUE : Fld := ⟨.AX_EM_REND_T, 31, 0, .rl, 0x7FFFFFFF, []⟩
abbrev AX_EM_REND_REC_VALUE : Fld := ⟨.AX_EM_REND_REC, 31, 0, .rl, 0x0, []⟩
abbrev AX_EM_REND_LEN_COUNT : Fld := ⟨.AX_EM_REND_LEN, 31, 0, .rl, 0x0, []⟩
abbrev AX_EM_REND_POS_COUNT : Fld := ⟨.AX_EM_REND_POS, 31, 0, .ro, 0x0, []⟩
abbrev PWM_STAT_RUNNING : Fld := ⟨.PWM_STAT, 7, 0, .ro, 0x0, []⟩
abbrev PWM_STAT_CFG_ERR : Fld := ⟨.PWM_STAT, 15, 8, .w1c, 0x0, []⟩
abbrev PWM_CTRL_RUN : Fld := ⟨.PWM_CTRL, 7, 0, .rw, 0x0, []⟩
abbrev CHOP_CFG_CH : Fld := ⟨.CHOP_CFG, 5, 0, .rl, 0x0, [(0, 47)]⟩
abbrev CHOP_CFG_BRIDGE : Fld := ⟨.CHOP_CFG, 10, 8, .rl, 0x0, []⟩
abbrev CHOP_CFG_ASSIGNED : Fld := ⟨.CHOP_CFG, 31, 31, .rl, 0x0, []⟩
abbrev BR_CFG_TYPE : Fld := ⟨.BR_CFG, 1, 0, .rl, 0x0, [(0, 2)]⟩
abbrev BR_CFG_AXIS : Fld := ⟨.BR_CFG, 3, 2, .rl, 0x0, []⟩
abbrev BR_CFG_WINDING : Fld := ⟨.BR_CFG, 4, 4, .rl, 0x0, []⟩
abbrev BR_CFG_UPDATES : Fld := ⟨.BR_CFG, 5, 5, .rl, 0x0, []⟩
abbrev BR_CFG_ZSEQ : Fld := ⟨.BR_CFG, 6, 6, .rw, 0x0, []⟩
abbrev BR_CFG_DTCOMP : Fld := ⟨.BR_CFG, 7, 7, .rw, 0x0, []⟩
abbrev BR_HALF_HALF : Fld := ⟨.BR_HALF, 19, 0, .rl, 0x0, []⟩
abbrev BR_PHASE_PHASE : Fld := ⟨.BR_PHASE, 19, 0, .rw, 0x0, []⟩
abbrev BR_DT_DT : Fld := ⟨.BR_DT, 15, 0, .rl, 0x0, []⟩
abbrev BR_DT_DT_EFF : Fld := ⟨.BR_DT, 31, 16, .ro, 0x0, []⟩
abbrev BR_MINPULSE_MINPULSE : Fld := ⟨.BR_MINPULSE, 15, 0, .rl, 0x0, []⟩
abbrev BR_MINPULSE_DWELL : Fld := ⟨.BR_MINPULSE, 31, 16, .rl, 0x0, []⟩
abbrev BR_MAP0_S0 : Fld := ⟨.BR_MAP0, 5, 0, .rl, 0x3F, [(0, 47), (63, 63)]⟩
abbrev BR_MAP0_S1 : Fld := ⟨.BR_MAP0, 13, 8, .rl, 0x3F, [(0, 47), (63, 63)]⟩
abbrev BR_MAP0_S2 : Fld := ⟨.BR_MAP0, 21, 16, .rl, 0x3F, [(0, 47), (63, 63)]⟩
abbrev BR_MAP0_S3 : Fld := ⟨.BR_MAP0, 29, 24, .rl, 0x3F, [(0, 47), (63, 63)]⟩
abbrev BR_MAP1_S0 : Fld := ⟨.BR_MAP1, 5, 0, .rl, 0x3F, [(0, 47), (63, 63)]⟩
abbrev BR_MAP1_S1 : Fld := ⟨.BR_MAP1, 13, 8, .rl, 0x3F, [(0, 47), (63, 63)]⟩
abbrev BR_MAP1_S2 : Fld := ⟨.BR_MAP1, 21, 16, .rl, 0x3F, [(0, 47), (63, 63)]⟩
abbrev BR_MAP1_S3 : Fld := ⟨.BR_MAP1, 29, 24, .rl, 0x3F, [(0, 47), (63, 63)]⟩
abbrev BR_MAP2_S0 : Fld := ⟨.BR_MAP2, 5, 0, .rl, 0x3F, [(0, 47), (63, 63)]⟩
abbrev BR_MAP2_S1 : Fld := ⟨.BR_MAP2, 13, 8, .rl, 0x3F, [(0, 47), (63, 63)]⟩
abbrev BR_MAP2_S2 : Fld := ⟨.BR_MAP2, 21, 16, .rl, 0x3F, [(0, 47), (63, 63)]⟩
abbrev BR_MAP2_S3 : Fld := ⟨.BR_MAP2, 29, 24, .rl, 0x3F, [(0, 47), (63, 63)]⟩
abbrev BR_WOFS_OFFSET : Fld := ⟨.BR_WOFS, 31, 0, .rl, 0x0, []⟩
abbrev BR_VDC_NOM_VDC : Fld := ⟨.BR_VDC_NOM, 31, 0, .rl, 0x0, []⟩
abbrev BR_ADV_ADV : Fld := ⟨.BR_ADV, 3, 0, .rw, 0xC, []⟩
abbrev BR_NP_LIM_WARN : Fld := ⟨.BR_NP_LIM, 15, 0, .rl, 0x32, []⟩
abbrev BR_NP_LIM_TRIP : Fld := ⟨.BR_NP_LIM, 31, 16, .rl, 0x96, []⟩
abbrev BR_VD_VD : Fld := ⟨.BR_VD, 31, 0, .rw, 0x0, []⟩
abbrev BR_VQ_VQ : Fld := ⟨.BR_VQ, 31, 0, .rw, 0x0, []⟩
abbrev BR_V0_V0 : Fld := ⟨.BR_V0, 31, 0, .rw, 0x0, []⟩
abbrev BR_THETA_THETA : Fld := ⟨.BR_THETA, 31, 0, .rw, 0x0, []⟩
abbrev BR_OMEGA_OMEGA : Fld := ⟨.BR_OMEGA, 31, 0, .rw, 0x0, []⟩
abbrev BR_COMMIT_COMMIT : Fld := ⟨.BR_COMMIT, 0, 0, .wo, 0x0, []⟩
abbrev BR_STAT_RUNNING : Fld := ⟨.BR_STAT, 0, 0, .ro, 0x0, []⟩
abbrev BR_STAT_HELD : Fld := ⟨.BR_STAT, 1, 1, .ro, 0x0, []⟩
abbrev BR_STAT_CLIPPED : Fld := ⟨.BR_STAT, 2, 2, .w1c, 0x0, []⟩
abbrev BR_STAT_NP_WARN : Fld := ⟨.BR_STAT, 3, 3, .w1c, 0x0, []⟩
abbrev BR_STAT_CFG_ERR : Fld := ⟨.BR_STAT, 4, 4, .w1c, 0x0, []⟩
abbrev BR_STAT_HELD_RUN : Fld := ⟨.BR_STAT, 11, 8, .ro, 0x0, []⟩
abbrev BR_HELD_CNT_COUNT : Fld := ⟨.BR_HELD_CNT, 31, 0, .rc, 0x0, []⟩
abbrev BR_CLIP_CNT_COUNT : Fld := ⟨.BR_CLIP_CNT, 31, 0, .rc, 0x0, []⟩
abbrev BR_COMMIT_OVER_COUNT : Fld := ⟨.BR_COMMIT_OVER, 31, 0, .rc, 0x0, []⟩
abbrev BR_NP_DEV_DEV : Fld := ⟨.BR_NP_DEV, 31, 0, .ro, 0x0, []⟩
abbrev BR_GRID_OFF_OFF : Fld := ⟨.BR_GRID_OFF, 31, 0, .ro, 0x0, []⟩
abbrev GC_CFG_MODE : Fld := ⟨.GC_CFG, 1, 0, .rl, 0x0, [(0, 2)]⟩
abbrev GC_CFG_SLEW : Fld := ⟨.GC_CFG, 3, 2, .rl, 0x1, [(0, 2)]⟩
abbrev GC_CFG_FILT : Fld := ⟨.GC_CFG, 6, 4, .rl, 0x2, [(0, 4)]⟩
abbrev GC_CFG_BLANK : Fld := ⟨.GC_CFG, 26, 16, .rl, 0x190, [(100, 2000)]⟩
abbrev GATE_TSEQ_TSEQ : Fld := ⟨.GATE_TSEQ, 10, 0, .rl, 0x190, [(400, 2000)]⟩
abbrev GATE_STAT_OFFSEQ : Fld := ⟨.GATE_STAT, 7, 0, .ro, 0x0, []⟩
abbrev GATE_STAT_FLT : Fld := ⟨.GATE_STAT, 15, 8, .ro, 0x0, []⟩
abbrev GATE_STAT_RAIL_LOW : Fld := ⟨.GATE_STAT, 16, 16, .w1c, 0x0, []⟩
abbrev GATE_STAT_DT_CLIP : Fld := ⟨.GATE_STAT, 17, 17, .w1c, 0x0, []⟩
abbrev GATE_STAT_PATTERN : Fld := ⟨.GATE_STAT, 18, 18, .w1c, 0x0, []⟩
abbrev GATE_STAT_RT_LONG : Fld := ⟨.GATE_STAT, 19, 19, .w1c, 0x0, []⟩
abbrev GATE_FLT_MASK_LO_MASK : Fld := ⟨.GATE_FLT_MASK_LO, 31, 0, .ro, 0x0, []⟩
abbrev GATE_FLT_MASK_HI_MASK : Fld := ⟨.GATE_FLT_MASK_HI, 15, 0, .ro, 0x0, []⟩
abbrev GATE_FLT_TIME_LO_TIME : Fld := ⟨.GATE_FLT_TIME_LO, 31, 0, .ro, 0x0, []⟩
abbrev GATE_FLT_TIME_HI_TIME : Fld := ⟨.GATE_FLT_TIME_HI, 31, 0, .ro, 0x0, []⟩
abbrev GATE_FLT_CNT_COUNT : Fld := ⟨.GATE_FLT_CNT, 31, 0, .rc, 0x0, []⟩
abbrev GATE_BLANK_CNT_COUNT : Fld := ⟨.GATE_BLANK_CNT, 31, 0, .rc, 0x0, []⟩
abbrev GATE_RT_LIM_LIM : Fld := ⟨.GATE_RT_LIM, 15, 0, .rl, 0xFFFF, []⟩
abbrev GATE_FLT_REC_TICK : Fld := ⟨.GATE_FLT_REC, 15, 0, .ro, 0x0, []⟩
abbrev GATE_FLT_REC_KIND : Fld := ⟨.GATE_FLT_REC, 19, 16, .ro, 0x0, []⟩
abbrev GATE_FLT_REC_COINC : Fld := ⟨.GATE_FLT_REC, 20, 20, .ro, 0x0, []⟩
abbrev GATE_FLT_REC_EARLY : Fld := ⟨.GATE_FLT_REC, 21, 21, .ro, 0x0, []⟩
abbrev GATE_FLT_REC_VALID : Fld := ⟨.GATE_FLT_REC, 31, 31, .ro, 0x0, []⟩
abbrev GATE_RT_RT_ON : Fld := ⟨.GATE_RT, 15, 0, .ro, 0x0, []⟩
abbrev GATE_RT_RT_OFF : Fld := ⟨.GATE_RT, 31, 16, .ro, 0x0, []⟩
abbrev GATE_RT_MAX_ON_MAX : Fld := ⟨.GATE_RT_MAX, 15, 0, .rc, 0x0, []⟩
abbrev GATE_RT_MAX_OFF_MAX : Fld := ⟨.GATE_RT_MAX, 31, 16, .rc, 0x0, []⟩
abbrev CHOP_ON_VALUE : Fld := ⟨.CHOP_ON, 31, 0, .rl, 0x7FFFFFFF, []⟩
abbrev CHOP_OFF_VALUE : Fld := ⟨.CHOP_OFF, 31, 0, .rl, 0x0, []⟩
abbrev CHOP_TIM_MIN_ON : Fld := ⟨.CHOP_TIM, 15, 0, .rl, 0xC8, []⟩
abbrev CHOP_TIM_MIN_OFF : Fld := ⟨.CHOP_TIM, 31, 16, .rl, 0xC8, []⟩
abbrev CHOP_DUTY_MAX : Fld := ⟨.CHOP_DUTY, 7, 0, .rl, 0x64, []⟩
abbrev CHOP_DUTY_DUTY : Fld := ⟨.CHOP_DUTY, 23, 16, .ro, 0x0, []⟩
abbrev CHOP_STAT_ON : Fld := ⟨.CHOP_STAT, 7, 0, .ro, 0x0, []⟩
abbrev CHOP_STAT_OVERLOAD : Fld := ⟨.CHOP_STAT, 15, 8, .w1c, 0x0, []⟩
abbrev CHOP_STAT_CFG_ERR : Fld := ⟨.CHOP_STAT, 23, 16, .ro, 0x0, []⟩
abbrev GATE_AUX_CFG_MODE : Fld := ⟨.GATE_AUX_CFG, 1, 0, .rl, 0x0, [(0, 2)]⟩
abbrev GATE_AUX_CFG_WICK_EN : Fld := ⟨.GATE_AUX_CFG, 2, 2, .rl, 0x0, []⟩
abbrev GATE_AUX_CFG_DT : Fld := ⟨.GATE_AUX_CFG, 15, 8, .rl, 0x14, [(20, 255)]⟩
abbrev GATE_AUX_CFG_PER : Fld := ⟨.GATE_AUX_CFG, 31, 16, .rl, 0xFA0, [(2000, 20000)]⟩
abbrev GATE_AUX_OC_LIM : Fld := ⟨.GATE_AUX_OC, 7, 0, .rl, 0xC8, [(20, 240)]⟩
abbrev GATE_AUX_STAT_UVLO : Fld := ⟨.GATE_AUX_STAT, 3, 0, .ro, 0x0, []⟩
abbrev GATE_AUX_STAT_REFRESH : Fld := ⟨.GATE_AUX_STAT, 7, 4, .ro, 0x0, []⟩
abbrev GATE_AUX_STAT_HIZ : Fld := ⟨.GATE_AUX_STAT, 11, 8, .ro, 0xF, []⟩
abbrev GATE_AUX_STAT_UV_EVT : Fld := ⟨.GATE_AUX_STAT, 15, 12, .w1c, 0x0, []⟩
abbrev GATE_AUX_STAT_OC : Fld := ⟨.GATE_AUX_STAT, 19, 16, .w1c, 0x0, []⟩
abbrev GATE_AUX_STAT_VDRV_OK : Fld := ⟨.GATE_AUX_STAT, 20, 20, .ro, 0x0, []⟩
abbrev GATE_AUX_STAT_WICK_ON : Fld := ⟨.GATE_AUX_STAT, 21, 21, .ro, 0x0, []⟩
abbrev GATE_AUX_UV_CNT_COUNT : Fld := ⟨.GATE_AUX_UV_CNT, 31, 0, .rc, 0x0, []⟩
abbrev SD_CFG_EN : Fld := ⟨.SD_CFG, 0, 0, .rl, 0x0, []⟩
abbrev SD_CFG_CLK : Fld := ⟨.SD_CFG, 1, 1, .rl, 0x0, []⟩
abbrev SD_CFG_SAMPLE_TICK : Fld := ⟨.SD_CFG, 5, 2, .rl, 0x0, [(0, 9)]⟩
abbrev SD_CFG_OSR : Fld := ⟨.SD_CFG, 14, 6, .rl, 0x100, [(16, 256)]⟩
abbrev SD_CFG_BRIDGE : Fld := ⟨.SD_CFG, 18, 16, .rl, 0x0, []⟩
abbrev SD_CFG_ROLE : Fld := ⟨.SD_CFG, 22, 20, .rl, 0x0, [(0, 6)]⟩
abbrev SD_CFG_INVERT : Fld := ⟨.SD_CFG, 23, 23, .rl, 0x0, []⟩
abbrev SD_GAIN_GAIN : Fld := ⟨.SD_GAIN, 31, 0, .rl, 0x1000000, []⟩
abbrev SD_OFFSET_OFFSET : Fld := ⟨.SD_OFFSET, 31, 0, .rl, 0x0, []⟩
abbrev SD_VALUE_VALUE : Fld := ⟨.SD_VALUE, 31, 0, .ro, 0x0, []⟩
abbrev SD_OC_CFG_OSR_FAST : Fld := ⟨.SD_OC_CFG, 3, 0, .rl, 0x8, [(4, 8)]⟩
abbrev SD_OC_HI_HI : Fld := ⟨.SD_OC_HI, 31, 0, .rl, 0x7FFFFFFF, []⟩
abbrev SD_OC_LO_LO : Fld := ⟨.SD_OC_LO, 31, 0, .rl, 0x80000000, []⟩
abbrev SD_STAT_STREAM_FAULT : Fld := ⟨.SD_STAT, 0, 0, .w1c, 0x0, []⟩
abbrev SD_STAT_OC_HI : Fld := ⟨.SD_STAT, 1, 1, .w1c, 0x0, []⟩
abbrev SD_STAT_OC_LO : Fld := ⟨.SD_STAT, 2, 2, .w1c, 0x0, []⟩
abbrev SNS_CTRL_CLK0_EN : Fld := ⟨.SNS_CTRL, 0, 0, .rw, 0x0, []⟩
abbrev SNS_CTRL_CLK1_EN : Fld := ⟨.SNS_CTRL, 1, 1, .rw, 0x0, []⟩
abbrev AI_CFG_EN : Fld := ⟨.AI_CFG, 0, 0, .rw, 0x0, []⟩
abbrev AI_CFG_FILT : Fld := ⟨.AI_CFG, 4, 1, .rw, 0x0, []⟩
abbrev AI_CFG_OVERRANGE : Fld := ⟨.AI_CFG, 31, 31, .w1c, 0x0, []⟩
abbrev AI_GAIN_GAIN : Fld := ⟨.AI_GAIN, 31, 0, .rw, 0x1000000, []⟩
abbrev AI_OFFSET_OFFSET : Fld := ⟨.AI_OFFSET, 31, 0, .rw, 0x0, []⟩
abbrev AI_VALUE_VALUE : Fld := ⟨.AI_VALUE, 31, 0, .ro, 0x0, []⟩
abbrev SNS_GUARD_PRE : Fld := ⟨.SNS_GUARD, 15, 0, .rl, 0x0, []⟩
abbrev SNS_GUARD_POST : Fld := ⟨.SNS_GUARD, 31, 16, .rl, 0x0, []⟩
abbrev SNS_SHIFT_SHIFT_MAX : Fld := ⟨.SNS_SHIFT, 15, 0, .rl, 0x0, [(0, 40000)]⟩
abbrev SNS_SHIFT_CHOP_IN_GUARD : Fld := ⟨.SNS_SHIFT, 16, 16, .rl, 0x0, []⟩
abbrev SNS_STAT_N_PRED : Fld := ⟨.SNS_STAT, 1, 0, .ro, 0x0, []⟩
abbrev SNS_STAT_SKIPPED : Fld := ⟨.SNS_STAT, 2, 2, .ro, 0x0, []⟩
abbrev SNS_STAT_SHIFTED : Fld := ⟨.SNS_STAT, 3, 3, .ro, 0x0, []⟩
abbrev SNS_STAT_DEGRADED : Fld := ⟨.SNS_STAT, 4, 4, .ro, 0x0, []⟩
abbrev SNS_SKIP_CNT_COUNT : Fld := ⟨.SNS_SKIP_CNT, 31, 0, .rc, 0x0, []⟩
abbrev SNS_SHIFT_CNT_COUNT : Fld := ⟨.SNS_SHIFT_CNT, 31, 0, .rc, 0x0, []⟩
abbrev SNS_DEGR_CNT_COUNT : Fld := ⟨.SNS_DEGR_CNT, 31, 0, .rc, 0x0, []⟩
abbrev SNS_SHIFT_LAST_OFFSET : Fld := ⟨.SNS_SHIFT_LAST, 31, 0, .ro, 0x0, []⟩
abbrev SNS_EFF_GUARD_PRE_EFF : Fld := ⟨.SNS_EFF_GUARD, 15, 0, .ro, 0x0, []⟩
abbrev SNS_EFF_GUARD_POST_EFF : Fld := ⟨.SNS_EFF_GUARD, 31, 16, .ro, 0x0, []⟩
abbrev EN_CFG_MODE : Fld := ⟨.EN_CFG, 1, 0, .rl, 0x0, []⟩
abbrev EN_CFG_OWNER : Fld := ⟨.EN_CFG, 4, 2, .rl, 0x4, [(0, 4)]⟩
abbrev EN_CFG_FALLBACK : Fld := ⟨.EN_CFG, 5, 5, .rl, 0x0, []⟩
abbrev EN_CFG_TERM : Fld := ⟨.EN_CFG, 8, 6, .rw, 0x0, []⟩
abbrev EN_CFG_INVERT_DIR : Fld := ⟨.EN_CFG, 9, 9, .rl, 0x0, []⟩
abbrev EN_CFG_PD_EDGE : Fld := ⟨.EN_CFG, 10, 10, .rl, 0x0, []⟩
abbrev EN_FILT_FILT : Fld := ⟨.EN_FILT, 3, 0, .rw, 0x4, []⟩
abbrev EN_FILT_SCALE : Fld := ⟨.EN_FILT, 5, 4, .rw, 0x0, []⟩
abbrev EN_FILT_PD_SETUP : Fld := ⟨.EN_FILT, 13, 8, .rw, 0x4, []⟩
abbrev EN_CPR_CPR : Fld := ⟨.EN_CPR, 31, 0, .rl, 0x0, [(0, 0), (4, 16777216)]⟩
abbrev EN_POS_POS : Fld := ⟨.EN_POS, 31, 0, .rw, 0x0, []⟩
abbrev EN_ANGLE_ANGLE : Fld := ⟨.EN_ANGLE, 31, 0, .ro, 0x0, []⟩
abbrev EN_SPEED_SPEED : Fld := ⟨.EN_SPEED, 31, 0, .ro, 0x0, []⟩
abbrev EN_STAT_VALID : Fld := ⟨.EN_STAT, 0, 0, .ro, 0x0, []⟩
abbrev EN_STAT_REFERENCED : Fld := ⟨.EN_STAT, 1, 1, .ro, 0x0, []⟩
abbrev EN_STAT_DOUBT : Fld := ⟨.EN_STAT, 2, 2, .ro, 0x0, []⟩
abbrev EN_STAT_STANDSTILL : Fld := ⟨.EN_STAT, 3, 3, .ro, 0x0, []⟩
abbrev EN_STAT_DIR : Fld := ⟨.EN_STAT, 4, 4, .ro, 0x0, []⟩
abbrev EN_STAT_SSI_PRED : Fld := ⟨.EN_STAT, 5, 5, .ro, 0x0, []⟩
abbrev EN_STAT_RUN : Fld := ⟨.EN_STAT, 7, 6, .ro, 0x0, []⟩
abbrev EN_STAT_LINE_FAULT : Fld := ⟨.EN_STAT, 8, 8, .w1c, 0x0, []⟩
abbrev EN_STAT_ILLEGAL_FAULT : Fld := ⟨.EN_STAT, 9, 9, .w1c, 0x0, []⟩
abbrev EN_STAT_SUPPLY_FAULT : Fld := ⟨.EN_STAT, 10, 10, .w1c, 0x0, []⟩
abbrev EN_STAT_SSI_FAULT : Fld := ⟨.EN_STAT, 11, 11, .w1c, 0x0, []⟩
abbrev EN_STAT_INDEX_MISMATCH : Fld := ⟨.EN_STAT, 12, 12, .w1c, 0x0, []⟩
abbrev EN_STAT_REINDEXED : Fld := ⟨.EN_STAT, 13, 13, .w1c, 0x0, []⟩
abbrev EN_STAT_DIR_VIOLATION : Fld := ⟨.EN_STAT, 14, 14, .w1c, 0x0, []⟩
abbrev EN_ILLEGAL_COUNT : Fld := ⟨.EN_ILLEGAL, 31, 0, .rc, 0x0, []⟩
abbrev EN_IDX_CFG_WIN : Fld := ⟨.EN_IDX_CFG, 15, 0, .rl, 0x4, []⟩
abbrev EN_IDX_CFG_GATE : Fld := ⟨.EN_IDX_CFG, 17, 16, .rl, 0x0, []⟩
abbrev EN_IDX_CFG_POLICY : Fld := ⟨.EN_IDX_CFG, 19, 18, .rl, 0x0, [(0, 2)]⟩
abbrev EN_IDX_CFG_EDGE : Fld := ⟨.EN_IDX_CFG, 20, 20, .rl, 0x0, []⟩
abbrev EN_IDX_REF_REF : Fld := ⟨.EN_IDX_REF, 31, 0, .rl, 0x0, []⟩
abbrev EN_IDX_DEV_DEV : Fld := ⟨.EN_IDX_DEV, 31, 0, .ro, 0x0, []⟩
abbrev EN_IDX_MISMATCH_COUNT : Fld := ⟨.EN_IDX_MISMATCH, 31, 0, .rc, 0x0, []⟩
abbrev EN_EDGE_TS_TS : Fld := ⟨.EN_EDGE_TS, 31, 0, .ro, 0x0, []⟩
abbrev EN_SPD_CFG_WIN : Fld := ⟨.EN_SPD_CFG, 3, 0, .rw, 0x0, []⟩
abbrev EN_SPD_CFG_TIMEOUT : Fld := ⟨.EN_SPD_CFG, 29, 16, .rw, 0x64, [(1, 10000)]⟩
abbrev EN_SSI_CFG_BITS : Fld := ⟨.EN_SSI_CFG, 5, 0, .rl, 0xD, [(8, 32)]⟩
abbrev EN_SSI_CFG_CODE : Fld := ⟨.EN_SSI_CFG, 6, 6, .rl, 0x0, []⟩
abbrev EN_SSI_CFG_PARITY : Fld := ⟨.EN_SSI_CFG, 8, 7, .rl, 0x0, [(0, 2)]⟩
abbrev EN_SSI_CFG_ERRBIT : Fld := ⟨.EN_SSI_CFG, 9, 9, .rl, 0x0, []⟩
abbrev EN_SSI_CFG_ERRPOL : Fld := ⟨.EN_SSI_CFG, 10, 10, .rl, 0x0, []⟩
abbrev EN_SSI_CFG_RATE : Fld := ⟨.EN_SSI_CFG, 14, 12, .rl, 0x0, [(0, 4)]⟩
abbrev EN_SSI_CFG_MAX_STEP : Fld := ⟨.EN_SSI_CFG, 31, 16, .rl, 0x40, []⟩
abbrev EN_SSI_TIM_DIV : Fld := ⟨.EN_SSI_TIM, 9, 0, .rl, 0x63, [(24, 1023)]⟩
abbrev EN_SSI_TIM_TM : Fld := ⟨.EN_SSI_TIM, 15, 10, .rl, 0x14, [(1, 63)]⟩
abbrev EN_SSI_TIM_DELAY : Fld := ⟨.EN_SSI_TIM, 23, 16, .rl, 0x0, []⟩
abbrev EN_SSI_RAW_RAW : Fld := ⟨.EN_SSI_RAW, 31, 0, .ro, 0x0, []⟩
abbrev EN_SSI_ERR_COUNT : Fld := ⟨.EN_SSI_ERR, 31, 0, .rc, 0x0, []⟩
abbrev H_FILT_F0 : Fld := ⟨.H_FILT, 3, 0, .rw, 0x0, []⟩
abbrev H_FILT_F1 : Fld := ⟨.H_FILT, 7, 4, .rw, 0x0, []⟩
abbrev H_FILT_F2 : Fld := ⟨.H_FILT, 11, 8, .rw, 0x0, []⟩
abbrev H_FILT_F3 : Fld := ⟨.H_FILT, 15, 12, .rw, 0x0, []⟩
abbrev H_FILT_F4 : Fld := ⟨.H_FILT, 19, 16, .rw, 0x0, []⟩
abbrev H_FILT_F5 : Fld := ⟨.H_FILT, 23, 20, .rw, 0x0, []⟩
abbrev H_FILT_F6 : Fld := ⟨.H_FILT, 27, 24, .rw, 0x0, []⟩
abbrev H_FILT_F7 : Fld := ⟨.H_FILT, 31, 28, .rw, 0x0, []⟩
abbrev H_CFG_POL : Fld := ⟨.H_CFG, 7, 0, .rw, 0x0, []⟩
abbrev H_CFG_SECT_EN : Fld := ⟨.H_CFG, 8, 8, .rw, 0x0, []⟩
abbrev H_CFG_SECT_BASE : Fld := ⟨.H_CFG, 11, 9, .rw, 0x0, [(0, 5)]⟩
abbrev H_STATE_RAW : Fld := ⟨.H_STATE, 7, 0, .ro, 0xFF, []⟩
abbrev H_STATE_ACTIVE : Fld := ⟨.H_STATE, 15, 8, .ro, 0xFF, []⟩
abbrev H_STATE_CODE : Fld := ⟨.H_STATE, 18, 16, .ro, 0x0, []⟩
abbrev H_STATE_SECT_ILLEGAL : Fld := ⟨.H_STATE, 19, 19, .w1c, 0x0, []⟩
abbrev H_SECT_OFS_OFFSET : Fld := ⟨.H_SECT_OFS, 31, 0, .rw, 0x0, []⟩
abbrev H_SECT_ANGLE_ANGLE : Fld := ⟨.H_SECT_ANGLE, 31, 0, .ro, 0x0, []⟩
abbrev H_EDGE_TS_TS : Fld := ⟨.H_EDGE_TS, 31, 0, .ro, 0x0, []⟩
abbrev CMP_RANGE_FIRST : Fld := ⟨.CMP_RANGE, 9, 0, .rw, 0x0, []⟩
abbrev CMP_RANGE_LAST : Fld := ⟨.CMP_RANGE, 25, 16, .rw, 0x0, []⟩
abbrev CMP_RANGE_ARM : Fld := ⟨.CMP_RANGE, 31, 31, .rw, 0x0, []⟩
abbrev CMP_OUT_SEL_SYNC0 : Fld := ⟨.CMP_OUT_SEL, 0, 0, .rw, 0x0, []⟩
abbrev CMP_OUT_SEL_SYNC1 : Fld := ⟨.CMP_OUT_SEL, 1, 1, .rw, 0x0, []⟩
abbrev CMP_OUT_SEL_DO_MASK : Fld := ⟨.CMP_OUT_SEL, 31, 16, .rw, 0x0, []⟩
abbrev CMP_STAT_LAST_INDEX : Fld := ⟨.CMP_STAT, 9, 0, .ro, 0x0, []⟩
abbrev CMP_STAT_ARM_ERR : Fld := ⟨.CMP_STAT, 12, 12, .w1c, 0x0, []⟩
abbrev CMP_STAT_WRITE_REFUSED : Fld := ⟨.CMP_STAT, 13, 13, .w1c, 0x0, []⟩
abbrev CMP_STAT_LAST_TAG : Fld := ⟨.CMP_STAT, 31, 16, .ro, 0x0, []⟩
abbrev CMP_FIRED_COUNT : Fld := ⟨.CMP_FIRED, 31, 0, .rc, 0x0, []⟩
abbrev CMP_LAST_TIME_LO_TIME : Fld := ⟨.CMP_LAST_TIME_LO, 31, 0, .ro, 0x0, []⟩
abbrev CMP_LAST_TIME_HI_TIME : Fld := ⟨.CMP_LAST_TIME_HI, 31, 0, .ro, 0x0, []⟩
abbrev LE_CTRL_RUN : Fld := ⟨.LE_CTRL, 0, 0, .rw, 0x0, []⟩
abbrev LE_CTRL_CHECK : Fld := ⟨.LE_CTRL, 1, 1, .wo, 0x0, []⟩
abbrev LE_CTRL_OVERCOMMIT : Fld := ⟨.LE_CTRL, 2, 2, .rl, 0x0, []⟩
abbrev LE_STAT_RUNNING : Fld := ⟨.LE_STAT, 0, 0, .ro, 0x0, []⟩
abbrev LE_STAT_BUSY : Fld := ⟨.LE_STAT, 1, 1, .ro, 0x0, []⟩
abbrev LE_STAT_SLOT : Fld := ⟨.LE_STAT, 3, 2, .ro, 0x0, []⟩
abbrev LE_STAT_PROG_OK : Fld := ⟨.LE_STAT, 4, 4, .ro, 0x0, []⟩
abbrev LE_STAT_PROG_ERR : Fld := ⟨.LE_STAT, 5, 5, .w1c, 0x0, []⟩
abbrev LE_STAT_SCHED_ERR : Fld := ⟨.LE_STAT, 6, 6, .w1c, 0x0, []⟩
abbrev LE_STAT_RETRY : Fld := ⟨.LE_STAT, 7, 7, .w1c, 0x0, []⟩
abbrev LE_STAT_MBX_OVF : Fld := ⟨.LE_STAT, 8, 8, .w1c, 0x0, []⟩
abbrev LE_STAT_EXCEPTION : Fld := ⟨.LE_STAT, 9, 9, .w1c, 0x0, []⟩
abbrev LE_STAT_PAR_FAULT : Fld := ⟨.LE_STAT, 10, 10, .w1c, 0x0, []⟩
abbrev LE_MADDR_ADDR : Fld := ⟨.LE_MADDR, 12, 0, .rw, 0x0, []⟩
abbrev LE_MADDR_SPACE : Fld := ⟨.LE_MADDR, 31, 31, .rw, 0x0, []⟩
abbrev LE_MDATA_DATA : Fld := ⟨.LE_MDATA, 31, 0, .rw, 0x0, []⟩
abbrev LE_MSTAT_PENDING : Fld := ⟨.LE_MSTAT, 6, 0, .ro, 0x0, []⟩
abbrev LE_PAR_REPLAY_COUNT : Fld := ⟨.LE_PAR_REPLAY, 31, 0, .rc, 0x0, []⟩
abbrev LE_RETRY_CNT_COUNT : Fld := ⟨.LE_RETRY_CNT, 31, 0, .rc, 0x0, []⟩
abbrev LE_EXC_INFO_PC : Fld := ⟨.LE_EXC_INFO, 12, 0, .ro, 0x0, []⟩
abbrev LE_EXC_INFO_CAUSE : Fld := ⟨.LE_EXC_INFO, 19, 16, .ro, 0x0, []⟩
abbrev LE_SAT_CNT_COUNT : Fld := ⟨.LE_SAT_CNT, 31, 0, .rc, 0x0, []⟩
abbrev LE_MBX_BASE_BASE : Fld := ⟨.LE_MBX_BASE, 31, 0, .rw, 0x0, []⟩
abbrev LE_MBX_OPTR_WR : Fld := ⟨.LE_MBX_OPTR, 7, 0, .ro, 0x0, []⟩
abbrev LE_MBX_OPTR_RD : Fld := ⟨.LE_MBX_OPTR, 23, 16, .rw, 0x0, []⟩
abbrev LE_MBX_IPTR_WR : Fld := ⟨.LE_MBX_IPTR, 7, 0, .rw, 0x0, []⟩
abbrev LE_MBX_IPTR_RD : Fld := ⟨.LE_MBX_IPTR, 23, 16, .ro, 0x0, []⟩
abbrev LE_TASK_CFG_EN : Fld := ⟨.LE_TASK_CFG, 0, 0, .rl, 0x0, []⟩
abbrev LE_TASK_CFG_AXIS : Fld := ⟨.LE_TASK_CFG, 2, 1, .rl, 0x0, []⟩
abbrev LE_TASK_CFG_RATE : Fld := ⟨.LE_TASK_CFG, 5, 3, .rl, 0x0, [(0, 4)]⟩
abbrev LE_TASK_CFG_PHASE : Fld := ⟨.LE_TASK_CFG, 9, 6, .rl, 0x0, []⟩
abbrev LE_TASK_CFG_TRIG : Fld := ⟨.LE_TASK_CFG, 10, 10, .rl, 0x0, []⟩
abbrev LE_TASK_CFG_ENTRY : Fld := ⟨.LE_TASK_CFG, 28, 16, .rl, 0x0, []⟩
abbrev LE_TASK_START_START : Fld := ⟨.LE_TASK_START, 23, 0, .rl, 0x0, []⟩
abbrev LE_TASK_DEADLINE_DEADLINE : Fld := ⟨.LE_TASK_DEADLINE, 23, 0, .rl, 0x0, []⟩
abbrev LE_TASK_WCET_WCET : Fld := ⟨.LE_TASK_WCET, 23, 0, .ro, 0x0, []⟩
abbrev LE_TASK_BUDGET_BUDGET : Fld := ⟨.LE_TASK_BUDGET, 15, 0, .rl, 0x0, []⟩
abbrev LE_TASK_BUDGET_EFF : Fld := ⟨.LE_TASK_BUDGET, 31, 16, .ro, 0x0, []⟩
abbrev LE_TASK_OVR_COUNT : Fld := ⟨.LE_TASK_OVR, 15, 0, .rc, 0x0, []⟩
abbrev LE_TASK_OVR_IN16 : Fld := ⟨.LE_TASK_OVR, 20, 16, .ro, 0x0, []⟩
abbrev LE_TASK_OVR_RUN : Fld := ⟨.LE_TASK_OVR, 27, 24, .ro, 0x0, []⟩
abbrev LE_TASK_LAST_END : Fld := ⟨.LE_TASK_LAST, 23, 0, .ro, 0x0, []⟩
abbrev LE_TASK_STATE_BASE : Fld := ⟨.LE_TASK_STATE, 12, 0, .rl, 0x0, []⟩
abbrev LE_TASK_STATE_LEN : Fld := ⟨.LE_TASK_STATE, 22, 16, .rl, 0x0, [(0, 64)]⟩
abbrev OBS_CFG_VT_CH0 : Fld := ⟨.OBS_CFG, 3, 0, .rl, 0x0, []⟩
abbrev OBS_CFG_VT_CH1 : Fld := ⟨.OBS_CFG, 7, 4, .rl, 0x0, []⟩
abbrev OBS_CFG_VT_EN : Fld := ⟨.OBS_CFG, 8, 8, .rl, 0x0, []⟩
abbrev OBS_CFG_INJ_EN : Fld := ⟨.OBS_CFG, 9, 9, .rl, 0x0, []⟩
abbrev OBS_CFG_SS_EN : Fld := ⟨.OBS_CFG, 10, 10, .rl, 0x0, []⟩
abbrev OBS_CFG_IF_EN : Fld := ⟨.OBS_CFG, 11, 11, .rl, 0x0, []⟩
abbrev OBS_STAT_RANGE : Fld := ⟨.OBS_STAT, 1, 0, .ro, 0x0, []⟩
abbrev OBS_STAT_LOCKED : Fld := ⟨.OBS_STAT, 2, 2, .ro, 0x0, []⟩
abbrev OBS_STAT_INJ_ON : Fld := ⟨.OBS_STAT, 3, 3, .ro, 0x0, []⟩
abbrev OBS_STAT_KE_STATE : Fld := ⟨.OBS_STAT, 5, 4, .ro, 0x0, []⟩
abbrev OBS_STAT_RELOCK_FAIL : Fld := ⟨.OBS_STAT, 7, 6, .ro, 0x0, []⟩
abbrev OBS_STAT_CATCH_OUT : Fld := ⟨.OBS_STAT, 10, 8, .ro, 0x0, []⟩
abbrev OBS_STAT_ROTOR_LOST : Fld := ⟨.OBS_STAT, 16, 16, .w1c, 0x0, []⟩
abbrev OBS_STAT_DEMAG_WARN : Fld := ⟨.OBS_STAT, 17, 17, .w1c, 0x0, []⟩
abbrev OBS_STAT_KE_CLIPPED : Fld := ⟨.OBS_STAT, 18, 18, .w1c, 0x0, []⟩
abbrev OBS_STAT_ALIGN_RETRY : Fld := ⟨.OBS_STAT, 19, 19, .w1c, 0x0, []⟩
abbrev OBS_THETA_ANGLE : Fld := ⟨.OBS_THETA, 31, 0, .ro, 0x0, []⟩
abbrev OBS_SPEED_VALUE : Fld := ⟨.OBS_SPEED, 31, 0, .ro, 0x0, []⟩
abbrev OBS_WEIGHT_W : Fld := ⟨.OBS_WEIGHT, 31, 0, .ro, 0x0, []⟩
abbrev OBS_INJ_V_VALUE : Fld := ⟨.OBS_INJ_V, 31, 0, .rl, 0x266666, []⟩
abbrev OBS_INJ_MIN_VALUE : Fld := ⟨.OBS_INJ_MIN, 31, 0, .rl, 0xA3D7, []⟩
abbrev OBS_KP_INJ_G : Fld := ⟨.OBS_KP_INJ, 31, 0, .rl, 0x0, []⟩
abbrev OBS_KI_INJ_G : Fld := ⟨.OBS_KI_INJ, 31, 0, .rl, 0x0, []⟩
abbrev OBS_KP_EMF_G : Fld := ⟨.OBS_KP_EMF, 31, 0, .rl, 0x0, []⟩
abbrev OBS_KI_EMF_G : Fld := ⟨.OBS_KI_EMF, 31, 0, .rl, 0x0, []⟩
abbrev OBS_LOSS_RESID_VALUE : Fld := ⟨.OBS_LOSS_RESID, 31, 0, .rl, 0x400000, []⟩
abbrev OBS_ALIGN_T : Fld := ⟨.OBS_ALIGN, 15, 0, .rl, 0x32, []⟩
abbrev OBS_ALIGN_POL_N : Fld := ⟨.OBS_ALIGN, 19, 16, .rl, 0x1, [(1, 15)]⟩
abbrev OBS_POL_I_VALUE : Fld := ⟨.OBS_POL_I, 31, 0, .rl, 0x800000, []⟩
abbrev OBS_POL_MIN_VALUE : Fld := ⟨.OBS_POL_MIN, 31, 0, .rl, 0x51EB8, []⟩
abbrev OBS_CATCH_CFG_TMAX : Fld := ⟨.OBS_CATCH_CFG, 15, 0, .rl, 0x1388, [(100, 65535)]⟩
abbrev OBS_CATCH_CFG_TMIN : Fld := ⟨.OBS_CATCH_CFG, 23, 16, .rl, 0x14, [(20, 255)]⟩
abbrev OBS_CATCH_CFG_RELOCK : Fld := ⟨.OBS_CATCH_CFG, 28, 24, .rl, 0x14, [(5, 25)]⟩
abbrev OBS_CATCH_VMIN_VALUE : Fld := ⟨.OBS_CATCH_VMIN, 31, 0, .rl, 0x51EB8, []⟩
abbrev OBS_CATCH_SPEED_VALUE : Fld := ⟨.OBS_CATCH_SPEED, 31, 0, .ro, 0x0, []⟩
abbrev OBS_RELOCK_DSPD_VALUE : Fld := ⟨.OBS_RELOCK_DSPD, 31, 0, .rl, 0x19999A, []⟩
abbrev OBS_SS_I_VALUE : Fld := ⟨.OBS_SS_I, 31, 0, .rl, 0x19999A, []⟩
abbrev OBS_SS_RATE_VALUE : Fld := ⟨.OBS_SS_RATE, 31, 0, .rl, 0x4000000, []⟩
abbrev OBS_IF_I_VALUE : Fld := ⟨.OBS_IF_I, 31, 0, .rl, 0x0, []⟩
abbrev OBS_KE_CFG_COMMISSION : Fld := ⟨.OBS_KE_CFG, 0, 0, .rl, 0x0, []⟩
abbrev OBS_KE_CFG_MEASURE : Fld := ⟨.OBS_KE_CFG, 1, 1, .wo, 0x0, []⟩
abbrev OBS_KE_CFG_TEMP_AI : Fld := ⟨.OBS_KE_CFG, 4, 2, .rl, 0x0, []⟩
abbrev OBS_KE_CFG_TEMP_EN : Fld := ⟨.OBS_KE_CFG, 5, 5, .rl, 0x0, []⟩
abbrev OBS_KE_CFG_VMIN : Fld := ⟨.OBS_KE_CFG, 31, 16, .rl, 0xC8, []⟩
abbrev OBS_KE_REF_VALUE : Fld := ⟨.OBS_KE_REF, 31, 0, .rl, 0x0, []⟩
abbrev OBS_KE_TC_TC : Fld := ⟨.OBS_KE_TC, 31, 0, .rl, 0xFFFFFB50, []⟩
abbrev OBS_KE_BASE_VALUE : Fld := ⟨.OBS_KE_BASE, 31, 0, .ro, 0x0, []⟩
abbrev OBS_KE_LAST_VALUE : Fld := ⟨.OBS_KE_LAST, 31, 0, .ro, 0x0, []⟩
abbrev OBS_KE_AVG_VALUE : Fld := ⟨.OBS_KE_AVG, 31, 0, .ro, 0x0, []⟩
abbrev OBS_KE_DEV_DEV : Fld := ⟨.OBS_KE_DEV, 31, 0, .ro, 0x0, []⟩
abbrev OBS_RELOCK_CNT_COUNT : Fld := ⟨.OBS_RELOCK_CNT, 31, 0, .rc, 0x0, []⟩
abbrev OBS_ALIGN_DEV_ANGLE : Fld := ⟨.OBS_ALIGN_DEV, 31, 0, .ro, 0x0, []⟩
abbrev ME_CFG_OUT : Fld := ⟨.ME_CFG, 0, 0, .rl, 0x0, []⟩
abbrev ME_CFG_MICRO_LOG2 : Fld := ⟨.ME_CFG, 4, 1, .rl, 0x4, [(0, 8)]⟩
abbrev ME_CFG_LINK_AXIS : Fld := ⟨.ME_CFG, 7, 5, .rl, 0x4, [(0, 4)]⟩
abbrev ME_CFG_ALLOW_UNC : Fld := ⟨.ME_CFG, 8, 8, .rl, 0x0, []⟩
abbrev ME_CFG_LIM_FWD : Fld := ⟨.ME_CFG, 11, 9, .rl, 0x0, []⟩
abbrev ME_CFG_LIM_FWD_EN : Fld := ⟨.ME_CFG, 12, 12, .rl, 0x0, []⟩
abbrev ME_CFG_LIM_REV : Fld := ⟨.ME_CFG, 15, 13, .rl, 0x0, []⟩
abbrev ME_CFG_LIM_REV_EN : Fld := ⟨.ME_CFG, 16, 16, .rl, 0x0, []⟩
abbrev ME_STAT_AT_REST : Fld := ⟨.ME_STAT, 0, 0, .ro, 0x1, []⟩
abbrev ME_STAT_PROFILE : Fld := ⟨.ME_STAT, 1, 1, .ro, 0x0, []⟩
abbrev ME_STAT_GEARED : Fld := ⟨.ME_STAT, 2, 2, .ro, 0x0, []⟩
abbrev ME_STAT_HOMING : Fld := ⟨.ME_STAT, 3, 3, .ro, 0x0, []⟩
abbrev ME_STAT_HOME_OK : Fld := ⟨.ME_STAT, 4, 4, .ro, 0x0, []⟩
abbrev ME_STAT_LIMSW : Fld := ⟨.ME_STAT, 5, 5, .w1c, 0x0, []⟩
abbrev ME_STAT_STALL : Fld := ⟨.ME_STAT, 6, 6, .w1c, 0x0, []⟩
abbrev ME_STAT_UNCERTAIN : Fld := ⟨.ME_STAT, 31, 31, .ro, 0x1, []⟩
abbrev ME_POS_POS : Fld := ⟨.ME_POS, 31, 0, .rl, 0x0, []⟩
abbrev ME_SPEED_SPEED : Fld := ⟨.ME_SPEED, 31, 0, .ro, 0x0, []⟩
abbrev ME_TARGET_TARGET : Fld := ⟨.ME_TARGET, 31, 0, .ro, 0x0, []⟩
abbrev ME_VMAX_VMAX : Fld := ⟨.ME_VMAX, 31, 0, .rl, 0x0, []⟩
abbrev ME_JERK_JERK : Fld := ⟨.ME_JERK, 31, 0, .rw, 0x0, []⟩
abbrev ME_HOME_V_V : Fld := ⟨.ME_HOME_V, 31, 0, .rl, 0x0, []⟩
abbrev ME_HOME_MAX_MAX : Fld := ⟨.ME_HOME_MAX, 31, 0, .rl, 0x0, []⟩
abbrev ME_HOME_BACK_BACK : Fld := ⟨.ME_HOME_BACK, 15, 0, .rl, 0x0, []⟩
abbrev ME_HOME_POS_POS : Fld := ⟨.ME_HOME_POS, 31, 0, .rl, 0x0, []⟩
abbrev ME_STALL_LOAD : Fld := ⟨.ME_STALL, 9, 0, .rl, 0x3B6, []⟩
abbrev ME_STALL_N : Fld := ⟨.ME_STALL, 23, 16, .rl, 0x8, []⟩
abbrev ME_GEAR_CFG_MASTER : Fld := ⟨.ME_GEAR_CFG, 2, 0, .ro, 0x0, []⟩
abbrev ME_GEAR_CFG_COUNT : Fld := ⟨.ME_GEAR_CFG, 13, 8, .ro, 0x0, []⟩
abbrev ME_GEAR_CFG_BLEND : Fld := ⟨.ME_GEAR_CFG, 31, 16, .ro, 0x0, []⟩
abbrev ME_GEAR_M_M : Fld := ⟨.ME_GEAR_M, 31, 0, .ro, 0x0, []⟩
abbrev ME_GEAR_JUMP_COUNT : Fld := ⟨.ME_GEAR_JUMP, 31, 0, .rc, 0x0, []⟩
abbrev ME_LOAD_LOAD : Fld := ⟨.ME_LOAD, 9, 0, .ro, 0x0, []⟩
abbrev ME_LOAD_VALID : Fld := ⟨.ME_LOAD, 10, 10, .ro, 0x0, []⟩
abbrev ME_I_I : Fld := ⟨.ME_I, 15, 0, .ro, 0x0, []⟩
abbrev ME_UNC_CNT_COUNT : Fld := ⟨.ME_UNC_CNT, 31, 0, .rc, 0x0, []⟩
abbrev AUX_I_LEVELS_I_RUN : Fld := ⟨.AUX_I_LEVELS, 15, 0, .rl, 0x0, []⟩
abbrev AUX_I_LEVELS_I_HOLD : Fld := ⟨.AUX_I_LEVELS, 31, 16, .rl, 0x0, []⟩
abbrev AUX_I_MIN_I_MIN : Fld := ⟨.AUX_I_MIN, 15, 0, .rl, 0x0, []⟩
abbrev AUX_I_MIN_HOLD_DLY : Fld := ⟨.AUX_I_MIN, 31, 16, .rl, 0xC8, []⟩
abbrev AUX_I_RATE_RISE : Fld := ⟨.AUX_I_RATE, 15, 0, .rl, 0x3E8, []⟩
abbrev AUX_I_RATE_FALL : Fld := ⟨.AUX_I_RATE, 31, 16, .rl, 0x64, []⟩
abbrev AUX_LOAD_MAP_L0 : Fld := ⟨.AUX_LOAD_MAP, 9, 0, .rl, 0x12C, []⟩
abbrev AUX_LOAD_MAP_L1 : Fld := ⟨.AUX_LOAD_MAP, 25, 16, .rl, 0x2BC, []⟩
abbrev AUX_CHOP_HYST : Fld := ⟨.AUX_CHOP, 11, 0, .rl, 0x64, []⟩
abbrev AUX_CHOP_DECAY : Fld := ⟨.AUX_CHOP, 13, 12, .rl, 0x0, [(0, 2)]⟩
abbrev AUX_CHOP_TOFF_MIN : Fld := ⟨.AUX_CHOP, 27, 16, .rl, 0x190, []⟩
abbrev AUX_SHUNT_R : Fld := ⟨.AUX_SHUNT, 15, 0, .rl, 0xC8, []⟩
abbrev AUX_MOT_R_R : Fld := ⟨.AUX_MOT_R, 15, 0, .rl, 0x0, []⟩
abbrev AUX_MOT_L_L : Fld := ⟨.AUX_MOT_L, 15, 0, .rl, 0x0, []⟩
abbrev AUX_VBUS_NOM : Fld := ⟨.AUX_VBUS, 15, 0, .rl, 0x0, []⟩
abbrev AUX_VBUS_AI : Fld := ⟨.AUX_VBUS, 18, 16, .rl, 0x0, []⟩
abbrev AUX_VBUS_AI_EN : Fld := ⟨.AUX_VBUS, 19, 19, .rl, 0x0, []⟩
abbrev AUX_EMF_MIN_EMF : Fld := ⟨.AUX_EMF_MIN, 15, 0, .rl, 0x1F4, []⟩
abbrev AUX_CHOP_OFS_OFS : Fld := ⟨.AUX_CHOP_OFS, 11, 0, .ro, 0x0, []⟩
abbrev AUX_I_MEAS_I : Fld := ⟨.AUX_I_MEAS, 15, 0, .ro, 0x0, []⟩
abbrev ME_GEAR_LIST_WORD : Fld := ⟨.ME_GEAR_LIST, 31, 0, .ro, 0x0, []⟩
abbrev MER_CFG_SRC : Fld := ⟨.MER_CFG, 1, 0, .rl, 0x0, []⟩
abbrev MER_CFG_PTP_PORT : Fld := ⟨.MER_CFG, 3, 2, .rl, 0x0, [(0, 2)]⟩
abbrev MER_CFG_TRANSPORT : Fld := ⟨.MER_CFG, 4, 4, .rl, 0x0, []⟩
abbrev MER_CFG_P2P : Fld := ⟨.MER_CFG, 5, 5, .rl, 0x0, []⟩
abbrev MER_CFG_PPS_OUT_EN : Fld := ⟨.MER_CFG, 6, 6, .rl, 0x0, []⟩
abbrev MER_CFG_PTP_DOMAIN : Fld := ⟨.MER_CFG, 15, 8, .rl, 0x0, []⟩
abbrev MER_STAT_MSTATE : Fld := ⟨.MER_STAT, 2, 0, .ro, 0x0, []⟩
abbrev MER_STAT_STEP : Fld := ⟨.MER_STAT, 3, 3, .w1c, 0x0, []⟩
abbrev MER_STAT_SET_PEND : Fld := ⟨.MER_STAT, 4, 4, .ro, 0x0, []⟩
abbrev MER_STAT_SET_DROP : Fld := ⟨.MER_STAT, 5, 5, .w1c, 0x0, []⟩
abbrev MER_TIME_LO_TIME : Fld := ⟨.MER_TIME_LO, 31, 0, .ro, 0x0, []⟩
abbrev MER_TIME_HI_TIME : Fld := ⟨.MER_TIME_HI, 31, 0, .ro, 0x0, []⟩
abbrev MER_OFFSET_NS : Fld := ⟨.MER_OFFSET, 31, 0, .ro, 0x0, []⟩
abbrev MER_FREQ_ADJ : Fld := ⟨.MER_FREQ, 31, 0, .ro, 0x0, []⟩
abbrev MER_MPD_NS : Fld := ⟨.MER_MPD, 31, 0, .ro, 0x0, []⟩
abbrev MER_ASYM_NS : Fld := ⟨.MER_ASYM, 31, 0, .rl, 0x0, []⟩
abbrev MER_LIM_STEP_THR : Fld := ⟨.MER_LIM, 15, 0, .rl, 0x3E8, []⟩
abbrev MER_LIM_LOCK_THR : Fld := ⟨.MER_LIM, 23, 16, .rl, 0x32, []⟩
abbrev MER_LIM_HOLD_MAX : Fld := ⟨.MER_LIM, 31, 24, .rl, 0x3C, []⟩
abbrev MER_GM_ID_LO_ID : Fld := ⟨.MER_GM_ID_LO, 31, 0, .ro, 0x0, []⟩
abbrev MER_GM_ID_HI_ID : Fld := ⟨.MER_GM_ID_HI, 31, 0, .ro, 0x0, []⟩
abbrev MER_UTC_OFS_OFFSET : Fld := ⟨.MER_UTC_OFS, 15, 0, .ro, 0x0, []⟩
abbrev MER_UTC_OFS_VALID : Fld := ⟨.MER_UTC_OFS, 16, 16, .ro, 0x0, []⟩
abbrev MER_SET_LO_TIME : Fld := ⟨.MER_SET_LO, 31, 0, .rl, 0x0, []⟩
abbrev MER_SET_HI_TIME : Fld := ⟨.MER_SET_HI, 31, 0, .rl, 0x0, []⟩
abbrev MER_PPS_BAD_COUNT : Fld := ⟨.MER_PPS_BAD, 31, 0, .rc, 0x0, []⟩
abbrev LAMP_CFG_RETAIN : Fld := ⟨.LAMP_CFG, 15, 0, .rl, 0x3E8, []⟩
abbrev LAMP_CFG_LEAD : Fld := ⟨.LAMP_CFG, 23, 16, .rl, 0x2, [(1, 255)]⟩
abbrev LAMP_CFG_SYNC0 : Fld := ⟨.LAMP_CFG, 25, 24, .rl, 0x0, [(0, 2)]⟩
abbrev LAMP_CFG_SYNC1 : Fld := ⟨.LAMP_CFG, 27, 26, .rl, 0x0, [(0, 2)]⟩
abbrev LAMP_STAT_PENDING : Fld := ⟨.LAMP_STAT, 11, 0, .ro, 0x0, []⟩
abbrev LAMP_STAT_REFUSING : Fld := ⟨.LAMP_STAT, 16, 16, .ro, 0x0, []⟩
abbrev LAMP_HEAD_INDEX : Fld := ⟨.LAMP_HEAD, 10, 0, .ro, 0x0, []⟩
abbrev LAMP_HEAD_EMPTY : Fld := ⟨.LAMP_HEAD, 31, 31, .ro, 0x1, []⟩
abbrev LAMP_NEXT_LO_TIME : Fld := ⟨.LAMP_NEXT_LO, 31, 0, .ro, 0x0, []⟩
abbrev LAMP_NEXT_HI_TIME : Fld := ⟨.LAMP_NEXT_HI, 31, 0, .ro, 0x0, []⟩
abbrev LAMP_LAUNCH_CNT_COUNT : Fld := ⟨.LAMP_LAUNCH_CNT, 31, 0, .rc, 0x0, []⟩
abbrev LAMP_PREEMPT_CNT_COUNT : Fld := ⟨.LAMP_PREEMPT_CNT, 31, 0, .rc, 0x0, []⟩
abbrev LAMP_LATE_CNT_COUNT : Fld := ⟨.LAMP_LATE_CNT, 31, 0, .rc, 0x0, []⟩
abbrev LAMP_WITHHELD_CNT_COUNT : Fld := ⟨.LAMP_WITHHELD_CNT, 31, 0, .rc, 0x0, []⟩
abbrev LAMP_STALE_CNT_COUNT : Fld := ⟨.LAMP_STALE_CNT, 31, 0, .rc, 0x0, []⟩
abbrev LAMP_SYNC_LEVEL : Fld := ⟨.LAMP_SYNC, 1, 0, .rw, 0x0, []⟩
abbrev MEM_CFG_EN : Fld := ⟨.MEM_CFG, 0, 0, .rl, 0x0, []⟩
abbrev MEM_CFG_AUTO : Fld := ⟨.MEM_CFG, 1, 1, .rl, 0x0, []⟩
abbrev MEM_CFG_VLAN_EN : Fld := ⟨.MEM_CFG, 2, 2, .rl, 0x0, []⟩
abbrev MEM_CFG_DOMAIN : Fld := ⟨.MEM_CFG, 15, 8, .rl, 0x0, []⟩
abbrev MEM_CFG_ETHERTYPE : Fld := ⟨.MEM_CFG, 31, 16, .rl, 0x88B5, []⟩
abbrev MEM_BEACON_PERIOD : Fld := ⟨.MEM_BEACON, 15, 0, .rl, 0x64, [(10, 10000)]⟩
abbrev MEM_BEACON_MISS : Fld := ⟨.MEM_BEACON, 23, 16, .rl, 0x3, [(2, 255)]⟩
abbrev MEM_STAT_STATE : Fld := ⟨.MEM_STAT, 2, 0, .ro, 0x0, []⟩
abbrev MEM_STAT_EPOCH : Fld := ⟨.MEM_STAT, 31, 16, .ro, 0x0, []⟩
abbrev MEM_VLAN_VID : Fld := ⟨.MEM_VLAN, 11, 0, .rl, 0x0, []⟩
abbrev MEM_VLAN_PCP : Fld := ⟨.MEM_VLAN, 15, 13, .rl, 0x7, []⟩
abbrev MEM_GROUPS_MEMBER : Fld := ⟨.MEM_GROUPS, 31, 0, .rl, 0x0, []⟩
abbrev MEM_LIVE_COUNT : Fld := ⟨.MEM_LIVE, 15, 0, .ro, 0x0, []⟩
abbrev MEM_STALE_CNT_COUNT : Fld := ⟨.MEM_STALE_CNT, 31, 0, .rc, 0x0, []⟩
abbrev MEM_CRC_CNT_COUNT : Fld := ⟨.MEM_CRC_CNT, 31, 0, .rc, 0x0, []⟩
abbrev MEM_LOSS_CNT_COUNT : Fld := ⟨.MEM_LOSS_CNT, 31, 0, .rc, 0x0, []⟩
abbrev MEM_ACT_REFUSED_COUNT : Fld := ⟨.MEM_ACT_REFUSED, 31, 0, .rc, 0x0, []⟩
abbrev CAN_CTRL_INIT : Fld := ⟨.CAN_CTRL, 0, 0, .rw, 0x1, []⟩
abbrev CAN_CTRL_MODE : Fld := ⟨.CAN_CTRL, 2, 1, .rl, 0x0, [(0, 2)]⟩
abbrev CAN_CTRL_FD_EN : Fld := ⟨.CAN_CTRL, 3, 3, .rl, 0x0, []⟩
abbrev CAN_CTRL_AUTO_REC : Fld := ⟨.CAN_CTRL, 4, 4, .rl, 0x1, []⟩
abbrev CAN_CTRL_TT_EN : Fld := ⟨.CAN_CTRL, 5, 5, .rl, 0x0, []⟩
abbrev CAN_CTRL_SELF_RX : Fld := ⟨.CAN_CTRL, 6, 6, .rw, 0x0, []⟩
abbrev CAN_STAT_STATE : Fld := ⟨.CAN_STAT, 1, 0, .ro, 0x3, []⟩
abbrev CAN_STAT_LEC : Fld := ⟨.CAN_STAT, 6, 4, .ro, 0x0, []⟩
abbrev CAN_STAT_BUS_OFF_EVT : Fld := ⟨.CAN_STAT, 8, 8, .w1c, 0x0, []⟩
abbrev CAN_STAT_PASSIVE_EVT : Fld := ⟨.CAN_STAT, 9, 9, .w1c, 0x0, []⟩
abbrev CAN_STAT_TXD_DOM : Fld := ⟨.CAN_STAT, 10, 10, .w1c, 0x0, []⟩
abbrev CAN_STAT_TT_ERR : Fld := ⟨.CAN_STAT, 11, 11, .w1c, 0x0, []⟩
abbrev CAN_STAT_WRITE_REFUSED : Fld := ⟨.CAN_STAT, 12, 12, .w1c, 0x0, []⟩
abbrev CAN_ERRCNT_TEC : Fld := ⟨.CAN_ERRCNT, 8, 0, .ro, 0x0, []⟩
abbrev CAN_ERRCNT_REC : Fld := ⟨.CAN_ERRCNT, 22, 16, .ro, 0x0, []⟩
abbrev CAN_NBT_NBRP : Fld := ⟨.CAN_NBT, 4, 0, .rl, 0x1, []⟩
abbrev CAN_NBT_NTSEG1 : Fld := ⟨.CAN_NBT, 15, 8, .rl, 0x3E, [(1, 255)]⟩
abbrev CAN_NBT_NTSEG2 : Fld := ⟨.CAN_NBT, 22, 16, .rl, 0xF, [(1, 127)]⟩
abbrev CAN_NBT_NSJW : Fld := ⟨.CAN_NBT, 30, 24, .rl, 0xF, []⟩
abbrev CAN_DBT_DBRP : Fld := ⟨.CAN_DBT, 4, 0, .rl, 0x0, []⟩
abbrev CAN_DBT_DTSEG1 : Fld := ⟨.CAN_DBT, 12, 8, .rl, 0x1C, []⟩
abbrev CAN_DBT_DTSEG2 : Fld := ⟨.CAN_DBT, 19, 16, .rl, 0x9, []⟩
abbrev CAN_DBT_DSJW : Fld := ⟨.CAN_DBT, 27, 24, .rl, 0x9, []⟩
abbrev CAN_DBT_TDC_EN : Fld := ⟨.CAN_DBT, 31, 31, .rl, 0x0, []⟩
abbrev CAN_TDC_TDCO : Fld := ⟨.CAN_TDC, 6, 0, .rl, 0x0, []⟩
abbrev CAN_TDC_TDCV : Fld := ⟨.CAN_TDC, 14, 8, .ro, 0x0, []⟩
abbrev CAN_CMD_REQ_ID : Fld := ⟨.CAN_CMD_REQ, 28, 0, .rl, 0x0, []⟩
abbrev CAN_CMD_REQ_IDE : Fld := ⟨.CAN_CMD_REQ, 29, 29, .rl, 0x0, []⟩
abbrev CAN_CMD_REQ_FD : Fld := ⟨.CAN_CMD_REQ, 30, 30, .rl, 0x0, []⟩
abbrev CAN_CMD_REQ_EN : Fld := ⟨.CAN_CMD_REQ, 31, 31, .rl, 0x0, []⟩
abbrev CAN_CMD_RSP_ID : Fld := ⟨.CAN_CMD_RSP, 28, 0, .rl, 0x0, []⟩
abbrev CAN_CMD_RSP_IDE : Fld := ⟨.CAN_CMD_RSP, 29, 29, .rl, 0x0, []⟩
abbrev CAN_CMD_RSP_BRS : Fld := ⟨.CAN_CMD_RSP, 30, 30, .rl, 0x0, []⟩
abbrev CAN_TXREQ_LO_REQ : Fld := ⟨.CAN_TXREQ_LO, 31, 0, .rw, 0x0, []⟩
abbrev CAN_TXREQ_HI_REQ : Fld := ⟨.CAN_TXREQ_HI, 31, 0, .rw, 0x0, []⟩
abbrev CAN_RX_LOST_COUNT : Fld := ⟨.CAN_RX_LOST, 31, 0, .rc, 0x0, []⟩
abbrev CAN_LOCK_TMO_COUNT : Fld := ⟨.CAN_LOCK_TMO, 31, 0, .rc, 0x0, []⟩
abbrev CAN_TX_MISSED_COUNT : Fld := ⟨.CAN_TX_MISSED, 31, 0, .rc, 0x0, []⟩
abbrev CAN_TT_CFG_NCYC : Fld := ⟨.CAN_TT_CFG, 2, 0, .rl, 0x0, [(0, 6)]⟩
abbrev CAN_TT_CFG_REF : Fld := ⟨.CAN_TT_CFG, 5, 4, .rl, 0x0, [(0, 2)]⟩
abbrev CAN_TT_CFG_CYC_LEN : Fld := ⟨.CAN_TT_CFG, 31, 12, .rl, 0x3E8, [(100, 1000000)]⟩
abbrev CAN_TT_PHASE_PHASE : Fld := ⟨.CAN_TT_PHASE, 19, 0, .rl, 0x0, []⟩
abbrev CAN_TT_REF_ID : Fld := ⟨.CAN_TT_REF, 28, 0, .rl, 0x0, []⟩
abbrev CAN_TT_REF_IDE : Fld := ⟨.CAN_TT_REF, 29, 29, .rl, 0x0, []⟩
abbrev CAN_TT_STAT_CYCLE : Fld := ⟨.CAN_TT_STAT, 5, 0, .ro, 0x0, []⟩
abbrev CAN_TT_STAT_SYNC : Fld := ⟨.CAN_TT_STAT, 8, 8, .ro, 0x0, []⟩
abbrev CAN_TT_COL_OFS : Fld := ⟨.CAN_TT_COL, 19, 0, .rl, 0x3E8, []⟩
abbrev CAN_TT_COL_WIN : Fld := ⟨.CAN_TT_COL, 31, 20, .rl, 0x0, []⟩
abbrev CAN_MB_WORD : Fld := ⟨.CAN_MB, 31, 0, .rw, 0x0, []⟩
abbrev CAN_TT_MTX_WORD : Fld := ⟨.CAN_TT_MTX, 31, 0, .rl, 0x0, []⟩
abbrev STR_CTRL_EN : Fld := ⟨.STR_CTRL, 0, 0, .rw, 0x0, []⟩
abbrev STR_CTRL_CAP_EN : Fld := ⟨.STR_CTRL, 4, 4, .rw, 0x0, []⟩
abbrev STR_CTRL_COND_EN : Fld := ⟨.STR_CTRL, 5, 5, .rw, 0x0, []⟩
abbrev STR_CTRL_TRACE_EN : Fld := ⟨.STR_CTRL, 6, 6, .rw, 0x0, []⟩
abbrev STR_CTRL_MAX_LEN : Fld := ⟨.STR_CTRL, 13, 8, .rw, 0x1E, [(1, 30)]⟩
abbrev STR_STAT_LINK : Fld := ⟨.STR_STAT, 0, 0, .ro, 0x0, []⟩
abbrev STR_STAT_CAPTURE : Fld := ⟨.STR_STAT, 2, 1, .ro, 0x0, []⟩
abbrev STR_STAT_OVERFLOW : Fld := ⟨.STR_STAT, 8, 8, .w1c, 0x0, []⟩
abbrev STR_STAT_STCLK_LOST : Fld := ⟨.STR_STAT, 9, 9, .w1c, 0x0, []⟩
abbrev STR_CREDIT_WORDS : Fld := ⟨.STR_CREDIT, 15, 0, .ro, 0x0, []⟩
abbrev STR_SEQ_NEXT : Fld := ⟨.STR_SEQ, 11, 0, .ro, 0x0, []⟩
abbrev STR_FRAMES_COUNT : Fld := ⟨.STR_FRAMES, 31, 0, .rc, 0x0, []⟩
abbrev STR_NAK_COUNT : Fld := ⟨.STR_NAK, 31, 0, .rc, 0x0, []⟩
abbrev STR_REPLAY_COUNT : Fld := ⟨.STR_REPLAY, 31, 0, .rc, 0x0, []⟩
abbrev STR_GONE_COUNT : Fld := ⟨.STR_GONE, 31, 0, .rc, 0x0, []⟩
abbrev STR_BK_ERR_COUNT : Fld := ⟨.STR_BK_ERR, 31, 0, .rc, 0x0, []⟩
abbrev STR_DROP_COUNT : Fld := ⟨.STR_DROP, 31, 0, .rc, 0x0, []⟩
abbrev STR_SRC_ERR_COUNT : Fld := ⟨.STR_SRC_ERR, 31, 0, .rc, 0x0, []⟩
abbrev STR_CAP_FILL_WORDS : Fld := ⟨.STR_CAP_FILL, 20, 0, .ro, 0x0, []⟩
abbrev FIO_STAT_FIO_FAULT : Fld := ⟨.FIO_STAT, 0, 0, .w1c, 0x0, []⟩
abbrev FIO_STAT_LINK : Fld := ⟨.FIO_STAT, 1, 1, .ro, 0x0, []⟩
abbrev FIO_DI_STATE : Fld := ⟨.FIO_DI, 23, 0, .ro, 0x0, []⟩
abbrev FIO_DI_INVALID_MASK : Fld := ⟨.FIO_DI_INVALID, 23, 0, .ro, 0xFFFFFF, []⟩
abbrev FIO_DO_CMD : Fld := ⟨.FIO_DO, 15, 0, .rw, 0x0, []⟩
abbrev FIO_SAFE_S0 : Fld := ⟨.FIO_SAFE, 1, 0, .rl, 0x0, [(0, 2)]⟩
abbrev FIO_SAFE_S1 : Fld := ⟨.FIO_SAFE, 3, 2, .rl, 0x0, [(0, 2)]⟩
abbrev FIO_SAFE_S2 : Fld := ⟨.FIO_SAFE, 5, 4, .rl, 0x0, [(0, 2)]⟩
abbrev FIO_SAFE_S3 : Fld := ⟨.FIO_SAFE, 7, 6, .rl, 0x0, [(0, 2)]⟩
abbrev FIO_SAFE_S4 : Fld := ⟨.FIO_SAFE, 9, 8, .rl, 0x0, [(0, 2)]⟩
abbrev FIO_SAFE_S5 : Fld := ⟨.FIO_SAFE, 11, 10, .rl, 0x0, [(0, 2)]⟩
abbrev FIO_SAFE_S6 : Fld := ⟨.FIO_SAFE, 13, 12, .rl, 0x0, [(0, 2)]⟩
abbrev FIO_SAFE_S7 : Fld := ⟨.FIO_SAFE, 15, 14, .rl, 0x0, [(0, 2)]⟩
abbrev FIO_SAFE_S8 : Fld := ⟨.FIO_SAFE, 17, 16, .rl, 0x0, [(0, 2)]⟩
abbrev FIO_SAFE_S9 : Fld := ⟨.FIO_SAFE, 19, 18, .rl, 0x0, [(0, 2)]⟩
abbrev FIO_SAFE_S10 : Fld := ⟨.FIO_SAFE, 21, 20, .rl, 0x0, [(0, 2)]⟩
abbrev FIO_SAFE_S11 : Fld := ⟨.FIO_SAFE, 23, 22, .rl, 0x0, [(0, 2)]⟩
abbrev FIO_SAFE_S12 : Fld := ⟨.FIO_SAFE, 25, 24, .rl, 0x0, [(0, 2)]⟩
abbrev FIO_SAFE_S13 : Fld := ⟨.FIO_SAFE, 27, 26, .rl, 0x0, [(0, 2)]⟩
abbrev FIO_SAFE_S14 : Fld := ⟨.FIO_SAFE, 29, 28, .rl, 0x0, [(0, 2)]⟩
abbrev FIO_SAFE_S15 : Fld := ⟨.FIO_SAFE, 31, 30, .rl, 0x0, [(0, 2)]⟩
abbrev FIO_CFG_TMO : Fld := ⟨.FIO_CFG, 9, 0, .rl, 0x64, [(10, 1000)]⟩
abbrev FIO_CFG_AUTO_RESTORE : Fld := ⟨.FIO_CFG, 31, 16, .rl, 0x0, []⟩
abbrev FIO_DO_SLEW_SLOW : Fld := ⟨.FIO_DO_SLEW, 15, 0, .rw, 0x0, []⟩
abbrev FIO_DI_WB_EN : Fld := ⟨.FIO_DI_WB, 23, 0, .rl, 0x0, []⟩
abbrev FIO_DI_FILT_F0 : Fld := ⟨.FIO_DI_FILT, 3, 0, .rw, 0x3, []⟩
abbrev FIO_DI_FILT_F1 : Fld := ⟨.FIO_DI_FILT, 7, 4, .rw, 0x3, []⟩
abbrev FIO_DI_FILT_F2 : Fld := ⟨.FIO_DI_FILT, 11, 8, .rw, 0x3, []⟩
abbrev FIO_DI_FILT_F3 : Fld := ⟨.FIO_DI_FILT, 15, 12, .rw, 0x3, []⟩
abbrev FIO_DI_FILT_F4 : Fld := ⟨.FIO_DI_FILT, 19, 16, .rw, 0x3, []⟩
abbrev FIO_DI_FILT_F5 : Fld := ⟨.FIO_DI_FILT, 23, 20, .rw, 0x3, []⟩
abbrev FIO_DI_FILT_F6 : Fld := ⟨.FIO_DI_FILT, 27, 24, .rw, 0x3, []⟩
abbrev FIO_DI_FILT_F7 : Fld := ⟨.FIO_DI_FILT, 31, 28, .rw, 0x3, []⟩
abbrev FIO_FAULT_CNT_COUNT : Fld := ⟨.FIO_FAULT_CNT, 31, 0, .rc, 0x0, []⟩
abbrev FIO_LINK_ERR_COUNT : Fld := ⟨.FIO_LINK_ERR, 31, 0, .rc, 0x0, []⟩
abbrev LAN_STAT_STO_ACTIVE : Fld := ⟨.LAN_STAT, 0, 0, .ro, 0x1, []⟩
abbrev LAN_STAT_STO_FB : Fld := ⟨.LAN_STAT, 1, 1, .ro, 0x0, []⟩
abbrev LAN_STAT_SS1_RUN : Fld := ⟨.LAN_STAT, 2, 2, .ro, 0x0, []⟩
abbrev LAN_STAT_SLS_ACTIVE : Fld := ⟨.LAN_STAT, 3, 3, .ro, 0x0, []⟩
abbrev LAN_STAT_SBC_APPLIED : Fld := ⟨.LAN_STAT, 4, 4, .ro, 0x1, []⟩
abbrev LAN_STAT_NONSAFE : Fld := ⟨.LAN_STAT, 5, 5, .ro, 0x0, []⟩
abbrev LAN_STAT_PARAM_VALID : Fld := ⟨.LAN_STAT, 6, 6, .ro, 0x0, []⟩
abbrev LAN_STAT_ENV_VALID : Fld := ⟨.LAN_STAT, 7, 7, .ro, 0x0, []⟩
abbrev LAN_STAT_DISC : Fld := ⟨.LAN_STAT, 8, 8, .ro, 0x0, []⟩
abbrev LAN_STAT_SBC_FAULT : Fld := ⟨.LAN_STAT, 9, 9, .ro, 0x0, []⟩
abbrev LAN_STAT_ENV_CLIP : Fld := ⟨.LAN_STAT, 10, 10, .w1c, 0x0, []⟩
abbrev LAN_STAT_NET_FAILSAFE : Fld := ⟨.LAN_STAT, 11, 11, .ro, 0x0, []⟩
abbrev LAN_STO_IN_RAW : Fld := ⟨.LAN_STO_IN, 1, 0, .ro, 0x0, []⟩
abbrev LAN_STO_IN_REL : Fld := ⟨.LAN_STO_IN, 3, 2, .ro, 0x0, []⟩
abbrev LAN_ID_ID : Fld := ⟨.LAN_ID, 31, 0, .ro, 0x0, []⟩
abbrev LAN_PROFILE_PROFILE : Fld := ⟨.LAN_PROFILE, 3, 0, .ro, 0x0, []⟩
abbrev LAN_PROFILE_RANGE : Fld := ⟨.LAN_PROFILE, 5, 4, .ro, 0x0, []⟩
abbrev LAN_PROFILE_FUNCS : Fld := ⟨.LAN_PROFILE, 12, 8, .ro, 0x0, []⟩
abbrev LAN_SBC_REQ : Fld := ⟨.LAN_SBC, 0, 0, .rw, 0x0, []⟩
abbrev LAN_SBC_ON : Fld := ⟨.LAN_SBC, 9, 8, .ro, 0x0, []⟩
abbrev LAN_SBC_FB : Fld := ⟨.LAN_SBC, 11, 10, .ro, 0x0, []⟩
abbrev LAN_DEMAND_CNT_COUNT : Fld := ⟨.LAN_DEMAND_CNT, 31, 0, .rc, 0x0, []⟩
abbrev LAN_LS_DIGEST_COUNT : Fld := ⟨.LAN_LS_DIGEST, 31, 0, .ro, 0x0, []⟩
abbrev LAN_LS_LATENT_A : Fld := ⟨.LAN_LS_LATENT, 15, 0, .rc, 0x0, []⟩
abbrev LAN_LS_LATENT_B : Fld := ⟨.LAN_LS_LATENT, 31, 16, .rc, 0x0, []⟩
abbrev LAN_LS_RESYNC_LAST : Fld := ⟨.LAN_LS_RESYNC, 15, 0, .ro, 0x0, []⟩
abbrev LAN_ENV_IMAX_VALUE : Fld := ⟨.LAN_ENV_IMAX, 31, 0, .ro, 0x0, []⟩
abbrev LAN_ENV_VMAX_VALUE : Fld := ⟨.LAN_ENV_VMAX, 31, 0, .ro, 0x0, []⟩
abbrev LAN_ENV_TMAX_VALUE : Fld := ⟨.LAN_ENV_TMAX, 31, 0, .ro, 0x0, []⟩
abbrev LAN_ENV_TRATE_VALUE : Fld := ⟨.LAN_ENV_TRATE, 31, 0, .ro, 0x0, []⟩
abbrev LAN_ENV_PMAX_VALUE : Fld := ⟨.LAN_ENV_PMAX, 31, 0, .ro, 0x0, []⟩
abbrev LAN_ENV_EM_VALUE : Fld := ⟨.LAN_ENV_EM, 31, 0, .ro, 0x0, []⟩
abbrev LAN_SPD_A_VALUE : Fld := ⟨.LAN_SPD_A, 31, 0, .ro, 0x0, []⟩
abbrev LAN_SPD_B_VALUE : Fld := ⟨.LAN_SPD_B, 31, 0, .ro, 0x0, []⟩
abbrev LAN_SPD_SAFE_VALUE : Fld := ⟨.LAN_SPD_SAFE, 31, 0, .ro, 0x0, []⟩
abbrev LAN_SPD_STAT_A_VALID : Fld := ⟨.LAN_SPD_STAT, 0, 0, .ro, 0x0, []⟩
abbrev LAN_SPD_STAT_B_VALID : Fld := ⟨.LAN_SPD_STAT, 1, 1, .ro, 0x0, []⟩
abbrev LAN_SPD_STAT_SINGLE : Fld := ⟨.LAN_SPD_STAT, 2, 2, .ro, 0x0, []⟩
abbrev LAN_SPD_STAT_UNKNOWN : Fld := ⟨.LAN_SPD_STAT, 3, 3, .ro, 0x0, []⟩
abbrev LAN_SS1_LIM_VALUE : Fld := ⟨.LAN_SS1_LIM, 31, 0, .ro, 0x0, []⟩
abbrev LAN_ENV_DTMIN_VALUE : Fld := ⟨.LAN_ENV_DTMIN, 31, 0, .ro, 0x0, []⟩
abbrev LAN_ENV_TSEQ_VALUE : Fld := ⟨.LAN_ENV_TSEQ, 31, 0, .ro, 0x0, []⟩
abbrev LAN_ENV_VDC_HI_VALUE : Fld := ⟨.LAN_ENV_VDC_HI, 31, 0, .ro, 0x0, []⟩
abbrev LAN_ENV_VDC_LO_VALUE : Fld := ⟨.LAN_ENV_VDC_LO, 31, 0, .ro, 0x0, []⟩
abbrev LAN_CONN_STAT_STATE : Fld := ⟨.LAN_CONN_STAT, 1, 0, .ro, 0x0, []⟩
abbrev LAN_CONN_STAT_RX_SEQ : Fld := ⟨.LAN_CONN_STAT, 31, 16, .ro, 0x0, []⟩
abbrev LAN_CONN_DATA_DATA0 : Fld := ⟨.LAN_CONN_DATA, 31, 0, .ro, 0x0, []⟩
abbrev LAN_CONN_ERR_COUNT : Fld := ⟨.LAN_CONN_ERR, 31, 0, .rc, 0x0, []⟩
abbrev CDL_CTRL_REBASE : Fld := ⟨.CDL_CTRL, 0, 0, .rl, 0x0, []⟩
abbrev CDL_CTRL_PERIODIC : Fld := ⟨.CDL_CTRL, 1, 1, .rl, 0x1, []⟩
abbrev CDL_STAT_RUNNING : Fld := ⟨.CDL_STAT, 0, 0, .ro, 0x0, []⟩
abbrev CDL_STAT_PS_BASE_VALID : Fld := ⟨.CDL_STAT, 1, 1, .ro, 0x0, []⟩
abbrev CDL_STAT_MARGIN_LIMIT : Fld := ⟨.CDL_STAT, 8, 8, .w1c, 0x0, []⟩
abbrev CDL_STAT_WEAR : Fld := ⟨.CDL_STAT, 9, 9, .w1c, 0x0, []⟩
abbrev CDL_STAT_NV_LOW : Fld := ⟨.CDL_STAT, 10, 10, .w1c, 0x0, []⟩
abbrev CDL_STAT_OSC : Fld := ⟨.CDL_STAT, 11, 11, .w1c, 0x0, []⟩
abbrev CDL_STAT_SILICON : Fld := ⟨.CDL_STAT, 12, 12, .w1c, 0x0, []⟩
abbrev CDL_LAST_TIME_LO_TIME : Fld := ⟨.CDL_LAST_TIME_LO, 31, 0, .ro, 0x0, []⟩
abbrev CDL_LAST_TIME_HI_TIME : Fld := ⟨.CDL_LAST_TIME_HI, 31, 0, .ro, 0x0, []⟩
abbrev CDL_REPLAN_CNT_COUNT : Fld := ⟨.CDL_REPLAN_CNT, 31, 0, .ro, 0x0, []⟩
abbrev CDL_RO_DRIFT_PPM : Fld := ⟨.CDL_RO_DRIFT, 31, 0, .ro, 0x0, []⟩
abbrev CDL_OSC_DRIFT_DRIFT : Fld := ⟨.CDL_OSC_DRIFT, 31, 0, .ro, 0x0, []⟩
abbrev CDL_NV_MARGIN_PCT : Fld := ⟨.CDL_NV_MARGIN, 7, 0, .ro, 0x64, []⟩
abbrev CDL_DEV_LIM_RO_LIM : Fld := ⟨.CDL_DEV_LIM, 15, 0, .rl, 0x4E20, []⟩
abbrev CDL_DEV_LIM_OSC_LIM : Fld := ⟨.CDL_DEV_LIM, 23, 16, .rl, 0x32, []⟩
abbrev CDL_DEV_LIM_NV_MIN : Fld := ⟨.CDL_DEV_LIM, 31, 24, .rl, 0x32, []⟩
abbrev CDL_HOURS_ON_MIN : Fld := ⟨.CDL_HOURS_ON, 31, 0, .ro, 0x0, []⟩
abbrev CDL_BR_CFG_K_DT : Fld := ⟨.CDL_BR_CFG, 7, 0, .rl, 0x10, []⟩
abbrev CDL_BR_CFG_WEAR_LIM : Fld := ⟨.CDL_BR_CFG, 31, 16, .rl, 0x64, []⟩
abbrev CDL_DT_MAX_MAX : Fld := ⟨.CDL_DT_MAX, 15, 0, .rl, 0x0, []⟩
abbrev CDL_MARGIN_DT_PLAN : Fld := ⟨.CDL_MARGIN_DT, 15, 0, .ro, 0x0, []⟩
abbrev CDL_RT_BASE_ON : Fld := ⟨.CDL_RT_BASE, 15, 0, .ro, 0x0, []⟩
abbrev CDL_RT_BASE_OFF : Fld := ⟨.CDL_RT_BASE, 31, 16, .ro, 0x0, []⟩
abbrev CDL_RT_NOW_ON : Fld := ⟨.CDL_RT_NOW, 15, 0, .ro, 0x0, []⟩
abbrev CDL_RT_NOW_OFF : Fld := ⟨.CDL_RT_NOW, 31, 16, .ro, 0x0, []⟩
abbrev CDL_VCE_DRIFT_VCE : Fld := ⟨.CDL_VCE_DRIFT, 15, 0, .ro, 0x0, []⟩
abbrev CDL_VCE_DRIFT_ZTH : Fld := ⟨.CDL_VCE_DRIFT, 31, 16, .ro, 0x0, []⟩
abbrev CDL_CYCLES_COUNT : Fld := ⟨.CDL_CYCLES, 31, 0, .ro, 0x0, []⟩
abbrev CDL_HOURS_SW_MIN : Fld := ⟨.CDL_HOURS_SW, 31, 0, .ro, 0x0, []⟩
abbrev CDL_CYC_CFG_HI : Fld := ⟨.CDL_CYC_CFG, 15, 0, .rl, 0x258, []⟩
abbrev CDL_CYC_CFG_LO : Fld := ⟨.CDL_CYC_CFG, 31, 16, .rl, 0xC8, []⟩
abbrev CDL_AX_CFG_W0 : Fld := ⟨.CDL_AX_CFG, 15, 0, .rl, 0x32, []⟩
abbrev CDL_AX_CFG_K_I : Fld := ⟨.CDL_AX_CFG, 23, 16, .rl, 0x10, []⟩
abbrev CDL_AX_CFG_K_G : Fld := ⟨.CDL_AX_CFG, 31, 24, .rl, 0x8, []⟩
abbrev CDL_DERATE_MIN_VALUE : Fld := ⟨.CDL_DERATE_MIN, 31, 0, .rl, 0x1000000, []⟩
abbrev CDL_MARGIN_DERATE_VALUE : Fld := ⟨.CDL_MARGIN_DERATE, 31, 0, .ro, 0x1000000, []⟩
abbrev CDL_GUARD_MAX_PRE_MAX : Fld := ⟨.CDL_GUARD_MAX, 15, 0, .rl, 0x0, []⟩
abbrev CDL_GUARD_MAX_POST_MAX : Fld := ⟨.CDL_GUARD_MAX, 31, 16, .rl, 0x0, []⟩
abbrev CDL_MARGIN_GUARD_PRE : Fld := ⟨.CDL_MARGIN_GUARD, 15, 0, .ro, 0x0, []⟩
abbrev CDL_MARGIN_GUARD_POST : Fld := ⟨.CDL_MARGIN_GUARD, 31, 16, .ro, 0x0, []⟩
abbrev CDL_ENERGY_MOT_VALUE : Fld := ⟨.CDL_ENERGY_MOT, 31, 0, .ro, 0x0, []⟩
abbrev CDL_ENERGY_GEN_VALUE : Fld := ⟨.CDL_ENERGY_GEN, 31, 0, .ro, 0x0, []⟩
abbrev CDL_MARGIN_BUDGET_MAX : Fld := ⟨.CDL_MARGIN_BUDGET, 15, 0, .rl, 0x0, []⟩
abbrev CDL_MARGIN_BUDGET_PLAN : Fld := ⟨.CDL_MARGIN_BUDGET, 30, 16, .ro, 0x0, []⟩
abbrev CDL_MARGIN_BUDGET_CLIPPED : Fld := ⟨.CDL_MARGIN_BUDGET, 31, 31, .ro, 0x0, []⟩
abbrev CMP_LIST_WORD : Fld := ⟨.CMP_LIST, 31, 0, .rw, 0x0, []⟩

end F

/-- The fields of each register, least significant first. -/
def RegId.fields : RegId → List Fld
  | .SYS_ID => [F.SYS_ID_PART]
  | .SYS_REV => [F.SYS_REV_SILICON]
  | .SYS_FW_VER => [F.SYS_FW_VER_VERSION]
  | .SYS_SERIAL_LO => [F.SYS_SERIAL_LO_SERIAL]
  | .SYS_SERIAL_HI => [F.SYS_SERIAL_HI_SERIAL]
  | .SYS_UNIT => [F.SYS_UNIT_UNIT]
  | .SYS_STATE => [F.SYS_STATE_STATE, F.SYS_STATE_PREV_STATE, F.SYS_STATE_HALTED, F.SYS_STATE_SAFE_FUNCTIONS,
      F.SYS_STATE_SPLIT_A, F.SYS_STATE_SPLIT_B, F.SYS_STATE_ACTIVE_BANK, F.SYS_STATE_BOOTSEL]
  | .SYS_FAULT => [F.SYS_FAULT_LAST_CODE, F.SYS_FAULT_LAST_CLASS, F.SYS_FAULT_LATCHED, F.SYS_FAULT_ALERT]
  | .SYS_CLK_STAT => [F.SYS_CLK_STAT_SYSPLL_LOCK, F.SYS_CLK_STAT_PWMPLL_LOCK, F.SYS_CLK_STAT_PWM_ON_REF,
      F.SYS_CLK_STAT_CANPLL_LOCK, F.SYS_CLK_STAT_ETH0_CLK, F.SYS_CLK_STAT_ETH1_CLK, F.SYS_CLK_STAT_STCLK_OK,
      F.SYS_CLK_STAT_FIELD_LINK, F.SYS_CLK_STAT_PWM_LOSS, F.SYS_CLK_STAT_MER_LOSS, F.SYS_CLK_STAT_SYS_LOSS,
      F.SYS_CLK_STAT_REF_LOSS]
  | .SYS_TIME_SLIP => [F.SYS_TIME_SLIP_COUNT]
  | .SYS_SW1 => [F.SYS_SW1_ACCEPTED, F.SYS_SW1_LIVE, F.SYS_SW1_CHANGED]
  | .SYS_SCRATCH => [F.SYS_SCRATCH_VALUE]
  | .SYS_SPLIT => [F.SYS_SPLIT_SPLIT_A, F.SYS_SPLIT_SPLIT_B]
  | .FAB_PAR_REPLAY => [F.FAB_PAR_REPLAY_COUNT]
  | .FAB_PAR_FAULT => [F.FAB_PAR_FAULT_COUNT]
  | .FAB_ERR_STAT => [F.FAB_ERR_STAT_PAR_DATA, F.FAB_ERR_STAT_PAR_ADDR, F.FAB_ERR_STAT_UNMAPPED,
      F.FAB_ERR_STAT_MISALIGNED, F.FAB_ERR_STAT_ALIAS_BOTH, F.FAB_ERR_STAT_RL_DENY, F.FAB_ERR_STAT_BAD_VALUE,
      F.FAB_ERR_STAT_RO_WINDOW, F.FAB_ERR_STAT_LAST_INIT]
  | .FAB_ERR_ADDR => [F.FAB_ERR_ADDR_ADDR]
  | .FAB_SECDED => [F.FAB_SECDED_CORR, F.FAB_SECDED_UNCORR]
  | .FAB_SCRUB => [F.FAB_SCRUB_PASSES]
  | .FAB_ARB_STAT => [F.FAB_ARB_STAT_LOSER_RANK, F.FAB_ARB_STAT_WINNER_RANK, F.FAB_ARB_STAT_LOSER_INDEX,
      F.FAB_ARB_STAT_DOMAIN]
  | .FAB_ARB_ADDR => [F.FAB_ARB_ADDR_ADDR]
  | .FAB_LOSS => [F.FAB_LOSS_COUNT]
  | .AX_CTRL => [F.AX_CTRL_MODE, F.AX_CTRL_SRC, F.AX_CTRL_LOBS_FF]
  | .AX_STAT => [F.AX_STAT_STATE, F.AX_STAT_RAMP, F.AX_STAT_T_LIM, F.AX_STAT_P_LIM, F.AX_STAT_RATE_LIM,
      F.AX_STAT_I_LIM, F.AX_STAT_V_LIM, F.AX_STAT_FW, F.AX_STAT_SRC_LOST, F.AX_STAT_LIMSW, F.AX_STAT_TUNE_PEND,
      F.AX_STAT_ENV_CLIP, F.AX_STAT_PLAUS, F.AX_STAT_RESID, F.AX_STAT_CIRC]
  | .AX_CFG => [F.AX_CFG_MOTOR, F.AX_CFG_ANGLE_SRC, F.AX_CFG_ENC, F.AX_CFG_SUB, F.AX_CFG_CATCH_DIS,
      F.AX_CFG_FALLBACK_SL, F.AX_CFG_PROG, F.AX_CFG_LE_CUR, F.AX_CFG_LE_OUT, F.AX_CFG_OE, F.AX_CFG_LIMSW_EN,
      F.AX_CFG_LIM_FWD, F.AX_CFG_LIM_REV]
  | .AX_POLES => [F.AX_POLES_PP]
  | .AX_ANG_OFS => [F.AX_ANG_OFS_OFS]
  | .AX_BASE_V => [F.AX_BASE_V_VALUE]
  | .AX_BASE_I => [F.AX_BASE_I_VALUE]
  | .AX_BASE_F => [F.AX_BASE_F_VALUE]
  | .AX_BASE_T => [F.AX_BASE_T_VALUE]
  | .AX_BASE_N => [F.AX_BASE_N_VALUE]
  | .AX_SPD_SCALE => [F.AX_SPD_SCALE_G]
  | .AX_MECH_TM => [F.AX_MECH_TM_TM]
  | .AX_MOT_RS => [F.AX_MOT_RS_VALUE]
  | .AX_MOT_LD => [F.AX_MOT_LD_VALUE]
  | .AX_MOT_LQ => [F.AX_MOT_LQ_VALUE]
  | .AX_MOT_PSI => [F.AX_MOT_PSI_VALUE]
  | .AX_MOT_LM => [F.AX_MOT_LM_VALUE]
  | .AX_MOT_KR => [F.AX_MOT_KR_VALUE]
  | .AX_MOT_TR => [F.AX_MOT_TR_TR]
  | .AX_MOT_KT => [F.AX_MOT_KT_KT]
  | .AX_ILIM => [F.AX_ILIM_VALUE]
  | .AX_TLIM_P => [F.AX_TLIM_P_VALUE]
  | .AX_TLIM_N => [F.AX_TLIM_N_VALUE]
  | .AX_TRATE => [F.AX_TRATE_VALUE]
  | .AX_PLIM => [F.AX_PLIM_VALUE]
  | .AX_PLIM_GEN => [F.AX_PLIM_GEN_VALUE]
  | .AX_PL_RATE => [F.AX_PL_RATE_VALUE]
  | .AX_VLIM => [F.AX_VLIM_VALUE]
  | .AX_ID_MAX => [F.AX_ID_MAX_VALUE]
  | .AX_FW_MARGIN => [F.AX_FW_MARGIN_VALUE]
  | .AX_RAMP_ACC => [F.AX_RAMP_ACC_VALUE]
  | .AX_RAMP_DEC => [F.AX_RAMP_DEC_VALUE]
  | .AX_RAMP_JERK => [F.AX_RAMP_JERK_VALUE]
  | .AX_STOP_DEC => [F.AX_STOP_DEC_VALUE]
  | .AX_RAMP_VMAX => [F.AX_RAMP_VMAX_VALUE]
  | .AX_TEN_CFG => [F.AX_TEN_CFG_AI, F.AX_TEN_CFG_EST]
  | .AX_TEN_K => [F.AX_TEN_K_K]
  | .AX_TEN_VLIM => [F.AX_TEN_VLIM_VALUE]
  | .AX_SP_HOST => [F.AX_SP_HOST_VALUE]
  | .AX_SP_ACTIVE => [F.AX_SP_ACTIVE_VALUE]
  | .AX_SRC_CFG => [F.AX_SRC_CFG_AI, F.AX_SRC_CFG_PULSE_ENC, F.AX_SRC_CFG_DEADBAND, F.AX_SRC_CFG_HOLD]
  | .AX_PULSE_SCALE => [F.AX_PULSE_SCALE_G]
  | .AX_KP_ID => [F.AX_KP_ID_G]
  | .AX_KI_ID => [F.AX_KI_ID_G]
  | .AX_KP_IQ => [F.AX_KP_IQ_G]
  | .AX_KI_IQ => [F.AX_KI_IQ_G]
  | .AX_KP_SPD => [F.AX_KP_SPD_G]
  | .AX_KI_SPD => [F.AX_KI_SPD_G]
  | .AX_KP_POS => [F.AX_KP_POS_G]
  | .AX_KP_TEN => [F.AX_KP_TEN_G]
  | .AX_KI_TEN => [F.AX_KI_TEN_G]
  | .AX_KP_CIRC => [F.AX_KP_CIRC_G]
  | .AX_KI_CIRC => [F.AX_KI_CIRC_G]
  | .AX_KI_FW => [F.AX_KI_FW_G]
  | .AX_TUNE_COMMIT => [F.AX_TUNE_COMMIT_COMMIT]
  | .AX_LOBS_BW => [F.AX_LOBS_BW_BW]
  | .AX_PLAUS_ANG => [F.AX_PLAUS_ANG_ANGLE]
  | .AX_PLAUS_SPD => [F.AX_PLAUS_SPD_VALUE]
  | .AX_PLAUS_CFG => [F.AX_PLAUS_CFG_N, F.AX_PLAUS_CFG_EN]
  | .AX_RESID_I => [F.AX_RESID_I_VALUE]
  | .AX_FOLLOW => [F.AX_FOLLOW_COUNT]
  | .AX_CIRC_LIM => [F.AX_CIRC_LIM_VALUE]
  | .AX_T_OUT => [F.AX_T_OUT_VALUE]
  | .AX_THETA => [F.AX_THETA_VALUE]
  | .AX_SPEED => [F.AX_SPEED_VALUE]
  | .AX_ID => [F.AX_ID_VALUE]
  | .AX_IQ => [F.AX_IQ_VALUE]
  | .AX_T_REF => [F.AX_T_REF_VALUE]
  | .AX_T_EST => [F.AX_T_EST_VALUE]
  | .AX_T_LOAD => [F.AX_T_LOAD_VALUE]
  | .AX_IMAG => [F.AX_IMAG_VALUE]
  | .AX_VMAG => [F.AX_VMAG_VALUE]
  | .AX_FAULT => [F.AX_FAULT_CODE]
  | .AX_SH_CFG => [F.AX_SH_CFG_MODE, F.AX_SH_CFG_LEADER, F.AX_SH_CFG_REMOTE, F.AX_SH_CFG_LOCAL, F.AX_SH_CFG_GROUP]
  | .AX_SH_W => [F.AX_SH_W_W]
  | .AX_SH_SCALE => [F.AX_SH_SCALE_G]
  | .AX_SH_KS => [F.AX_SH_KS_G]
  | .AX_SH_CLIM => [F.AX_SH_CLIM_VALUE]
  | .AX_SH_DROOP => [F.AX_SH_DROOP_VALUE]
  | .AX_SH_TMO => [F.AX_SH_TMO_STALE, F.AX_SH_TMO_RESTORE]
  | .AX_SH_STAT => [F.AX_SH_STAT_MEMBERS, F.AX_SH_STAT_DROOP, F.AX_SH_STAT_GRID_ERR, F.AX_SH_STAT_IMB,
      F.AX_SH_STAT_REMOTE_N]
  | .AX_SH_CORR => [F.AX_SH_CORR_VALUE]
  | .AX_SH_TSUM => [F.AX_SH_TSUM_VALUE]
  | .AX_SH_STALE => [F.AX_SH_STALE_COUNT]
  | .AX_PL_HOLD => [F.AX_PL_HOLD_TIME, F.AX_PL_HOLD_ACTIVE, F.AX_PL_HOLD_RELEASE]
  | .AX_PL_HELD => [F.AX_PL_HELD_VALUE]
  | .AX_PL_HELD_GEN => [F.AX_PL_HELD_GEN_VALUE]
  | .AX_EM_CFG => [F.AX_EM_CFG_LEVER_AUTO, F.AX_EM_CFG_RENDER_EN, F.AX_EM_CFG_LOWER_DIR, F.AX_EM_CFG_HOST_TMO]
  | .AX_EM_ADMIT => [F.AX_EM_ADMIT_MODES]
  | .AX_EM_STAT => [F.AX_EM_STAT_OPMODE, F.AX_EM_STAT_LIMP, F.AX_EM_STAT_SENSORLESS, F.AX_EM_STAT_WINDING,
      F.AX_EM_STAT_PROVING, F.AX_EM_STAT_LEN_WARN]
  | .AX_EM_TLIM => [F.AX_EM_TLIM_VALUE]
  | .AX_EM_VLIM => [F.AX_EM_VLIM_VALUE]
  | .AX_EM_PLIM => [F.AX_EM_PLIM_VALUE]
  | .AX_EM_MATCH => [F.AX_EM_MATCH_VALUE]
  | .AX_EM_PROVE => [F.AX_EM_PROVE_VALUE]
  | .AX_EM_PROVE_T => [F.AX_EM_PROVE_T_T]
  | .AX_EM_REND_T => [F.AX_EM_REND_T_VALUE]
  | .AX_EM_REND_REC => [F.AX_EM_REND_REC_VALUE]
  | .AX_EM_REND_LEN => [F.AX_EM_REND_LEN_COUNT]
  | .AX_EM_REND_POS => [F.AX_EM_REND_POS_COUNT]
  | .PWM_STAT => [F.PWM_STAT_RUNNING, F.PWM_STAT_CFG_ERR]
  | .PWM_CTRL => [F.PWM_CTRL_RUN]
  | .CHOP_CFG => [F.CHOP_CFG_CH, F.CHOP_CFG_BRIDGE, F.CHOP_CFG_ASSIGNED]
  | .BR_CFG => [F.BR_CFG_TYPE, F.BR_CFG_AXIS, F.BR_CFG_WINDING, F.BR_CFG_UPDATES, F.BR_CFG_ZSEQ, F.BR_CFG_DTCOMP]
  | .BR_HALF => [F.BR_HALF_HALF]
  | .BR_PHASE => [F.BR_PHASE_PHASE]
  | .BR_DT => [F.BR_DT_DT, F.BR_DT_DT_EFF]
  | .BR_MINPULSE => [F.BR_MINPULSE_MINPULSE, F.BR_MINPULSE_DWELL]
  | .BR_MAP0 => [F.BR_MAP0_S0, F.BR_MAP0_S1, F.BR_MAP0_S2, F.BR_MAP0_S3]
  | .BR_MAP1 => [F.BR_MAP1_S0, F.BR_MAP1_S1, F.BR_MAP1_S2, F.BR_MAP1_S3]
  | .BR_MAP2 => [F.BR_MAP2_S0, F.BR_MAP2_S1, F.BR_MAP2_S2, F.BR_MAP2_S3]
  | .BR_WOFS => [F.BR_WOFS_OFFSET]
  | .BR_VDC_NOM => [F.BR_VDC_NOM_VDC]
  | .BR_ADV => [F.BR_ADV_ADV]
  | .BR_NP_LIM => [F.BR_NP_LIM_WARN, F.BR_NP_LIM_TRIP]
  | .BR_VD => [F.BR_VD_VD]
  | .BR_VQ => [F.BR_VQ_VQ]
  | .BR_V0 => [F.BR_V0_V0]
  | .BR_THETA => [F.BR_THETA_THETA]
  | .BR_OMEGA => [F.BR_OMEGA_OMEGA]
  | .BR_COMMIT => [F.BR_COMMIT_COMMIT]
  | .BR_STAT => [F.BR_STAT_RUNNING, F.BR_STAT_HELD, F.BR_STAT_CLIPPED, F.BR_STAT_NP_WARN, F.BR_STAT_CFG_ERR,
      F.BR_STAT_HELD_RUN]
  | .BR_HELD_CNT => [F.BR_HELD_CNT_COUNT]
  | .BR_CLIP_CNT => [F.BR_CLIP_CNT_COUNT]
  | .BR_COMMIT_OVER => [F.BR_COMMIT_OVER_COUNT]
  | .BR_NP_DEV => [F.BR_NP_DEV_DEV]
  | .BR_GRID_OFF => [F.BR_GRID_OFF_OFF]
  | .GC_CFG => [F.GC_CFG_MODE, F.GC_CFG_SLEW, F.GC_CFG_FILT, F.GC_CFG_BLANK]
  | .GATE_TSEQ => [F.GATE_TSEQ_TSEQ]
  | .GATE_STAT => [F.GATE_STAT_OFFSEQ, F.GATE_STAT_FLT, F.GATE_STAT_RAIL_LOW, F.GATE_STAT_DT_CLIP,
      F.GATE_STAT_PATTERN, F.GATE_STAT_RT_LONG]
  | .GATE_FLT_MASK_LO => [F.GATE_FLT_MASK_LO_MASK]
  | .GATE_FLT_MASK_HI => [F.GATE_FLT_MASK_HI_MASK]
  | .GATE_FLT_TIME_LO => [F.GATE_FLT_TIME_LO_TIME]
  | .GATE_FLT_TIME_HI => [F.GATE_FLT_TIME_HI_TIME]
  | .GATE_FLT_CNT => [F.GATE_FLT_CNT_COUNT]
  | .GATE_BLANK_CNT => [F.GATE_BLANK_CNT_COUNT]
  | .GATE_RT_LIM => [F.GATE_RT_LIM_LIM]
  | .GATE_FLT_REC => [F.GATE_FLT_REC_TICK, F.GATE_FLT_REC_KIND, F.GATE_FLT_REC_COINC, F.GATE_FLT_REC_EARLY,
      F.GATE_FLT_REC_VALID]
  | .GATE_RT => [F.GATE_RT_RT_ON, F.GATE_RT_RT_OFF]
  | .GATE_RT_MAX => [F.GATE_RT_MAX_ON_MAX, F.GATE_RT_MAX_OFF_MAX]
  | .CHOP_ON => [F.CHOP_ON_VALUE]
  | .CHOP_OFF => [F.CHOP_OFF_VALUE]
  | .CHOP_TIM => [F.CHOP_TIM_MIN_ON, F.CHOP_TIM_MIN_OFF]
  | .CHOP_DUTY => [F.CHOP_DUTY_MAX, F.CHOP_DUTY_DUTY]
  | .CHOP_STAT => [F.CHOP_STAT_ON, F.CHOP_STAT_OVERLOAD, F.CHOP_STAT_CFG_ERR]
  | .GATE_AUX_CFG => [F.GATE_AUX_CFG_MODE, F.GATE_AUX_CFG_WICK_EN, F.GATE_AUX_CFG_DT, F.GATE_AUX_CFG_PER]
  | .GATE_AUX_OC => [F.GATE_AUX_OC_LIM]
  | .GATE_AUX_STAT => [F.GATE_AUX_STAT_UVLO, F.GATE_AUX_STAT_REFRESH, F.GATE_AUX_STAT_HIZ, F.GATE_AUX_STAT_UV_EVT,
      F.GATE_AUX_STAT_OC, F.GATE_AUX_STAT_VDRV_OK, F.GATE_AUX_STAT_WICK_ON]
  | .GATE_AUX_UV_CNT => [F.GATE_AUX_UV_CNT_COUNT]
  | .SD_CFG => [F.SD_CFG_EN, F.SD_CFG_CLK, F.SD_CFG_SAMPLE_TICK, F.SD_CFG_OSR, F.SD_CFG_BRIDGE, F.SD_CFG_ROLE,
      F.SD_CFG_INVERT]
  | .SD_GAIN => [F.SD_GAIN_GAIN]
  | .SD_OFFSET => [F.SD_OFFSET_OFFSET]
  | .SD_VALUE => [F.SD_VALUE_VALUE]
  | .SD_OC_CFG => [F.SD_OC_CFG_OSR_FAST]
  | .SD_OC_HI => [F.SD_OC_HI_HI]
  | .SD_OC_LO => [F.SD_OC_LO_LO]
  | .SD_STAT => [F.SD_STAT_STREAM_FAULT, F.SD_STAT_OC_HI, F.SD_STAT_OC_LO]
  | .SNS_CTRL => [F.SNS_CTRL_CLK0_EN, F.SNS_CTRL_CLK1_EN]
  | .AI_CFG => [F.AI_CFG_EN, F.AI_CFG_FILT, F.AI_CFG_OVERRANGE]
  | .AI_GAIN => [F.AI_GAIN_GAIN]
  | .AI_OFFSET => [F.AI_OFFSET_OFFSET]
  | .AI_VALUE => [F.AI_VALUE_VALUE]
  | .SNS_GUARD => [F.SNS_GUARD_PRE, F.SNS_GUARD_POST]
  | .SNS_SHIFT => [F.SNS_SHIFT_SHIFT_MAX, F.SNS_SHIFT_CHOP_IN_GUARD]
  | .SNS_STAT => [F.SNS_STAT_N_PRED, F.SNS_STAT_SKIPPED, F.SNS_STAT_SHIFTED, F.SNS_STAT_DEGRADED]
  | .SNS_SKIP_CNT => [F.SNS_SKIP_CNT_COUNT]
  | .SNS_SHIFT_CNT => [F.SNS_SHIFT_CNT_COUNT]
  | .SNS_DEGR_CNT => [F.SNS_DEGR_CNT_COUNT]
  | .SNS_SHIFT_LAST => [F.SNS_SHIFT_LAST_OFFSET]
  | .SNS_EFF_GUARD => [F.SNS_EFF_GUARD_PRE_EFF, F.SNS_EFF_GUARD_POST_EFF]
  | .EN_CFG => [F.EN_CFG_MODE, F.EN_CFG_OWNER, F.EN_CFG_FALLBACK, F.EN_CFG_TERM, F.EN_CFG_INVERT_DIR,
      F.EN_CFG_PD_EDGE]
  | .EN_FILT => [F.EN_FILT_FILT, F.EN_FILT_SCALE, F.EN_FILT_PD_SETUP]
  | .EN_CPR => [F.EN_CPR_CPR]
  | .EN_POS => [F.EN_POS_POS]
  | .EN_ANGLE => [F.EN_ANGLE_ANGLE]
  | .EN_SPEED => [F.EN_SPEED_SPEED]
  | .EN_STAT => [F.EN_STAT_VALID, F.EN_STAT_REFERENCED, F.EN_STAT_DOUBT, F.EN_STAT_STANDSTILL, F.EN_STAT_DIR,
      F.EN_STAT_SSI_PRED, F.EN_STAT_RUN, F.EN_STAT_LINE_FAULT, F.EN_STAT_ILLEGAL_FAULT, F.EN_STAT_SUPPLY_FAULT,
      F.EN_STAT_SSI_FAULT, F.EN_STAT_INDEX_MISMATCH, F.EN_STAT_REINDEXED, F.EN_STAT_DIR_VIOLATION]
  | .EN_ILLEGAL => [F.EN_ILLEGAL_COUNT]
  | .EN_IDX_CFG => [F.EN_IDX_CFG_WIN, F.EN_IDX_CFG_GATE, F.EN_IDX_CFG_POLICY, F.EN_IDX_CFG_EDGE]
  | .EN_IDX_REF => [F.EN_IDX_REF_REF]
  | .EN_IDX_DEV => [F.EN_IDX_DEV_DEV]
  | .EN_IDX_MISMATCH => [F.EN_IDX_MISMATCH_COUNT]
  | .EN_EDGE_TS => [F.EN_EDGE_TS_TS]
  | .EN_SPD_CFG => [F.EN_SPD_CFG_WIN, F.EN_SPD_CFG_TIMEOUT]
  | .EN_SSI_CFG => [F.EN_SSI_CFG_BITS, F.EN_SSI_CFG_CODE, F.EN_SSI_CFG_PARITY, F.EN_SSI_CFG_ERRBIT,
      F.EN_SSI_CFG_ERRPOL, F.EN_SSI_CFG_RATE, F.EN_SSI_CFG_MAX_STEP]
  | .EN_SSI_TIM => [F.EN_SSI_TIM_DIV, F.EN_SSI_TIM_TM, F.EN_SSI_TIM_DELAY]
  | .EN_SSI_RAW => [F.EN_SSI_RAW_RAW]
  | .EN_SSI_ERR => [F.EN_SSI_ERR_COUNT]
  | .H_FILT => [F.H_FILT_F0, F.H_FILT_F1, F.H_FILT_F2, F.H_FILT_F3, F.H_FILT_F4, F.H_FILT_F5, F.H_FILT_F6,
      F.H_FILT_F7]
  | .H_CFG => [F.H_CFG_POL, F.H_CFG_SECT_EN, F.H_CFG_SECT_BASE]
  | .H_STATE => [F.H_STATE_RAW, F.H_STATE_ACTIVE, F.H_STATE_CODE, F.H_STATE_SECT_ILLEGAL]
  | .H_SECT_OFS => [F.H_SECT_OFS_OFFSET]
  | .H_SECT_ANGLE => [F.H_SECT_ANGLE_ANGLE]
  | .H_EDGE_TS => [F.H_EDGE_TS_TS]
  | .CMP_RANGE => [F.CMP_RANGE_FIRST, F.CMP_RANGE_LAST, F.CMP_RANGE_ARM]
  | .CMP_OUT_SEL => [F.CMP_OUT_SEL_SYNC0, F.CMP_OUT_SEL_SYNC1, F.CMP_OUT_SEL_DO_MASK]
  | .CMP_STAT => [F.CMP_STAT_LAST_INDEX, F.CMP_STAT_ARM_ERR, F.CMP_STAT_WRITE_REFUSED, F.CMP_STAT_LAST_TAG]
  | .CMP_FIRED => [F.CMP_FIRED_COUNT]
  | .CMP_LAST_TIME_LO => [F.CMP_LAST_TIME_LO_TIME]
  | .CMP_LAST_TIME_HI => [F.CMP_LAST_TIME_HI_TIME]
  | .LE_CTRL => [F.LE_CTRL_RUN, F.LE_CTRL_CHECK, F.LE_CTRL_OVERCOMMIT]
  | .LE_STAT => [F.LE_STAT_RUNNING, F.LE_STAT_BUSY, F.LE_STAT_SLOT, F.LE_STAT_PROG_OK, F.LE_STAT_PROG_ERR,
      F.LE_STAT_SCHED_ERR, F.LE_STAT_RETRY, F.LE_STAT_MBX_OVF, F.LE_STAT_EXCEPTION, F.LE_STAT_PAR_FAULT]
  | .LE_MADDR => [F.LE_MADDR_ADDR, F.LE_MADDR_SPACE]
  | .LE_MDATA => [F.LE_MDATA_DATA]
  | .LE_MSTAT => [F.LE_MSTAT_PENDING]
  | .LE_PAR_REPLAY => [F.LE_PAR_REPLAY_COUNT]
  | .LE_RETRY_CNT => [F.LE_RETRY_CNT_COUNT]
  | .LE_EXC_INFO => [F.LE_EXC_INFO_PC, F.LE_EXC_INFO_CAUSE]
  | .LE_SAT_CNT => [F.LE_SAT_CNT_COUNT]
  | .LE_MBX_BASE => [F.LE_MBX_BASE_BASE]
  | .LE_MBX_OPTR => [F.LE_MBX_OPTR_WR, F.LE_MBX_OPTR_RD]
  | .LE_MBX_IPTR => [F.LE_MBX_IPTR_WR, F.LE_MBX_IPTR_RD]
  | .LE_TASK_CFG => [F.LE_TASK_CFG_EN, F.LE_TASK_CFG_AXIS, F.LE_TASK_CFG_RATE, F.LE_TASK_CFG_PHASE,
      F.LE_TASK_CFG_TRIG, F.LE_TASK_CFG_ENTRY]
  | .LE_TASK_START => [F.LE_TASK_START_START]
  | .LE_TASK_DEADLINE => [F.LE_TASK_DEADLINE_DEADLINE]
  | .LE_TASK_WCET => [F.LE_TASK_WCET_WCET]
  | .LE_TASK_BUDGET => [F.LE_TASK_BUDGET_BUDGET, F.LE_TASK_BUDGET_EFF]
  | .LE_TASK_OVR => [F.LE_TASK_OVR_COUNT, F.LE_TASK_OVR_IN16, F.LE_TASK_OVR_RUN]
  | .LE_TASK_LAST => [F.LE_TASK_LAST_END]
  | .LE_TASK_STATE => [F.LE_TASK_STATE_BASE, F.LE_TASK_STATE_LEN]
  | .OBS_CFG => [F.OBS_CFG_VT_CH0, F.OBS_CFG_VT_CH1, F.OBS_CFG_VT_EN, F.OBS_CFG_INJ_EN, F.OBS_CFG_SS_EN,
      F.OBS_CFG_IF_EN]
  | .OBS_STAT => [F.OBS_STAT_RANGE, F.OBS_STAT_LOCKED, F.OBS_STAT_INJ_ON, F.OBS_STAT_KE_STATE,
      F.OBS_STAT_RELOCK_FAIL, F.OBS_STAT_CATCH_OUT, F.OBS_STAT_ROTOR_LOST, F.OBS_STAT_DEMAG_WARN,
      F.OBS_STAT_KE_CLIPPED, F.OBS_STAT_ALIGN_RETRY]
  | .OBS_THETA => [F.OBS_THETA_ANGLE]
  | .OBS_SPEED => [F.OBS_SPEED_VALUE]
  | .OBS_WEIGHT => [F.OBS_WEIGHT_W]
  | .OBS_INJ_V => [F.OBS_INJ_V_VALUE]
  | .OBS_INJ_MIN => [F.OBS_INJ_MIN_VALUE]
  | .OBS_KP_INJ => [F.OBS_KP_INJ_G]
  | .OBS_KI_INJ => [F.OBS_KI_INJ_G]
  | .OBS_KP_EMF => [F.OBS_KP_EMF_G]
  | .OBS_KI_EMF => [F.OBS_KI_EMF_G]
  | .OBS_LOSS_RESID => [F.OBS_LOSS_RESID_VALUE]
  | .OBS_ALIGN => [F.OBS_ALIGN_T, F.OBS_ALIGN_POL_N]
  | .OBS_POL_I => [F.OBS_POL_I_VALUE]
  | .OBS_POL_MIN => [F.OBS_POL_MIN_VALUE]
  | .OBS_CATCH_CFG => [F.OBS_CATCH_CFG_TMAX, F.OBS_CATCH_CFG_TMIN, F.OBS_CATCH_CFG_RELOCK]
  | .OBS_CATCH_VMIN => [F.OBS_CATCH_VMIN_VALUE]
  | .OBS_CATCH_SPEED => [F.OBS_CATCH_SPEED_VALUE]
  | .OBS_RELOCK_DSPD => [F.OBS_RELOCK_DSPD_VALUE]
  | .OBS_SS_I => [F.OBS_SS_I_VALUE]
  | .OBS_SS_RATE => [F.OBS_SS_RATE_VALUE]
  | .OBS_IF_I => [F.OBS_IF_I_VALUE]
  | .OBS_KE_CFG => [F.OBS_KE_CFG_COMMISSION, F.OBS_KE_CFG_MEASURE, F.OBS_KE_CFG_TEMP_AI, F.OBS_KE_CFG_TEMP_EN,
      F.OBS_KE_CFG_VMIN]
  | .OBS_KE_REF => [F.OBS_KE_REF_VALUE]
  | .OBS_KE_TC => [F.OBS_KE_TC_TC]
  | .OBS_KE_BASE => [F.OBS_KE_BASE_VALUE]
  | .OBS_KE_LAST => [F.OBS_KE_LAST_VALUE]
  | .OBS_KE_AVG => [F.OBS_KE_AVG_VALUE]
  | .OBS_KE_DEV => [F.OBS_KE_DEV_DEV]
  | .OBS_RELOCK_CNT => [F.OBS_RELOCK_CNT_COUNT]
  | .OBS_ALIGN_DEV => [F.OBS_ALIGN_DEV_ANGLE]
  | .ME_CFG => [F.ME_CFG_OUT, F.ME_CFG_MICRO_LOG2, F.ME_CFG_LINK_AXIS, F.ME_CFG_ALLOW_UNC, F.ME_CFG_LIM_FWD,
      F.ME_CFG_LIM_FWD_EN, F.ME_CFG_LIM_REV, F.ME_CFG_LIM_REV_EN]
  | .ME_STAT => [F.ME_STAT_AT_REST, F.ME_STAT_PROFILE, F.ME_STAT_GEARED, F.ME_STAT_HOMING, F.ME_STAT_HOME_OK,
      F.ME_STAT_LIMSW, F.ME_STAT_STALL, F.ME_STAT_UNCERTAIN]
  | .ME_POS => [F.ME_POS_POS]
  | .ME_SPEED => [F.ME_SPEED_SPEED]
  | .ME_TARGET => [F.ME_TARGET_TARGET]
  | .ME_VMAX => [F.ME_VMAX_VMAX]
  | .ME_JERK => [F.ME_JERK_JERK]
  | .ME_HOME_V => [F.ME_HOME_V_V]
  | .ME_HOME_MAX => [F.ME_HOME_MAX_MAX]
  | .ME_HOME_BACK => [F.ME_HOME_BACK_BACK]
  | .ME_HOME_POS => [F.ME_HOME_POS_POS]
  | .ME_STALL => [F.ME_STALL_LOAD, F.ME_STALL_N]
  | .ME_GEAR_CFG => [F.ME_GEAR_CFG_MASTER, F.ME_GEAR_CFG_COUNT, F.ME_GEAR_CFG_BLEND]
  | .ME_GEAR_M => [F.ME_GEAR_M_M]
  | .ME_GEAR_JUMP => [F.ME_GEAR_JUMP_COUNT]
  | .ME_LOAD => [F.ME_LOAD_LOAD, F.ME_LOAD_VALID]
  | .ME_I => [F.ME_I_I]
  | .ME_UNC_CNT => [F.ME_UNC_CNT_COUNT]
  | .AUX_I_LEVELS => [F.AUX_I_LEVELS_I_RUN, F.AUX_I_LEVELS_I_HOLD]
  | .AUX_I_MIN => [F.AUX_I_MIN_I_MIN, F.AUX_I_MIN_HOLD_DLY]
  | .AUX_I_RATE => [F.AUX_I_RATE_RISE, F.AUX_I_RATE_FALL]
  | .AUX_LOAD_MAP => [F.AUX_LOAD_MAP_L0, F.AUX_LOAD_MAP_L1]
  | .AUX_CHOP => [F.AUX_CHOP_HYST, F.AUX_CHOP_DECAY, F.AUX_CHOP_TOFF_MIN]
  | .AUX_SHUNT => [F.AUX_SHUNT_R]
  | .AUX_MOT_R => [F.AUX_MOT_R_R]
  | .AUX_MOT_L => [F.AUX_MOT_L_L]
  | .AUX_VBUS => [F.AUX_VBUS_NOM, F.AUX_VBUS_AI, F.AUX_VBUS_AI_EN]
  | .AUX_EMF_MIN => [F.AUX_EMF_MIN_EMF]
  | .AUX_CHOP_OFS => [F.AUX_CHOP_OFS_OFS]
  | .AUX_I_MEAS => [F.AUX_I_MEAS_I]
  | .ME_GEAR_LIST => [F.ME_GEAR_LIST_WORD]
  | .MER_CFG => [F.MER_CFG_SRC, F.MER_CFG_PTP_PORT, F.MER_CFG_TRANSPORT, F.MER_CFG_P2P, F.MER_CFG_PPS_OUT_EN,
      F.MER_CFG_PTP_DOMAIN]
  | .MER_STAT => [F.MER_STAT_MSTATE, F.MER_STAT_STEP, F.MER_STAT_SET_PEND, F.MER_STAT_SET_DROP]
  | .MER_TIME_LO => [F.MER_TIME_LO_TIME]
  | .MER_TIME_HI => [F.MER_TIME_HI_TIME]
  | .MER_OFFSET => [F.MER_OFFSET_NS]
  | .MER_FREQ => [F.MER_FREQ_ADJ]
  | .MER_MPD => [F.MER_MPD_NS]
  | .MER_ASYM => [F.MER_ASYM_NS]
  | .MER_LIM => [F.MER_LIM_STEP_THR, F.MER_LIM_LOCK_THR, F.MER_LIM_HOLD_MAX]
  | .MER_GM_ID_LO => [F.MER_GM_ID_LO_ID]
  | .MER_GM_ID_HI => [F.MER_GM_ID_HI_ID]
  | .MER_UTC_OFS => [F.MER_UTC_OFS_OFFSET, F.MER_UTC_OFS_VALID]
  | .MER_SET_LO => [F.MER_SET_LO_TIME]
  | .MER_SET_HI => [F.MER_SET_HI_TIME]
  | .MER_PPS_BAD => [F.MER_PPS_BAD_COUNT]
  | .LAMP_CFG => [F.LAMP_CFG_RETAIN, F.LAMP_CFG_LEAD, F.LAMP_CFG_SYNC0, F.LAMP_CFG_SYNC1]
  | .LAMP_STAT => [F.LAMP_STAT_PENDING, F.LAMP_STAT_REFUSING]
  | .LAMP_HEAD => [F.LAMP_HEAD_INDEX, F.LAMP_HEAD_EMPTY]
  | .LAMP_NEXT_LO => [F.LAMP_NEXT_LO_TIME]
  | .LAMP_NEXT_HI => [F.LAMP_NEXT_HI_TIME]
  | .LAMP_LAUNCH_CNT => [F.LAMP_LAUNCH_CNT_COUNT]
  | .LAMP_PREEMPT_CNT => [F.LAMP_PREEMPT_CNT_COUNT]
  | .LAMP_LATE_CNT => [F.LAMP_LATE_CNT_COUNT]
  | .LAMP_WITHHELD_CNT => [F.LAMP_WITHHELD_CNT_COUNT]
  | .LAMP_STALE_CNT => [F.LAMP_STALE_CNT_COUNT]
  | .LAMP_SYNC => [F.LAMP_SYNC_LEVEL]
  | .MEM_CFG => [F.MEM_CFG_EN, F.MEM_CFG_AUTO, F.MEM_CFG_VLAN_EN, F.MEM_CFG_DOMAIN, F.MEM_CFG_ETHERTYPE]
  | .MEM_BEACON => [F.MEM_BEACON_PERIOD, F.MEM_BEACON_MISS]
  | .MEM_STAT => [F.MEM_STAT_STATE, F.MEM_STAT_EPOCH]
  | .MEM_VLAN => [F.MEM_VLAN_VID, F.MEM_VLAN_PCP]
  | .MEM_GROUPS => [F.MEM_GROUPS_MEMBER]
  | .MEM_LIVE => [F.MEM_LIVE_COUNT]
  | .MEM_STALE_CNT => [F.MEM_STALE_CNT_COUNT]
  | .MEM_CRC_CNT => [F.MEM_CRC_CNT_COUNT]
  | .MEM_LOSS_CNT => [F.MEM_LOSS_CNT_COUNT]
  | .MEM_ACT_REFUSED => [F.MEM_ACT_REFUSED_COUNT]
  | .CAN_CTRL => [F.CAN_CTRL_INIT, F.CAN_CTRL_MODE, F.CAN_CTRL_FD_EN, F.CAN_CTRL_AUTO_REC, F.CAN_CTRL_TT_EN,
      F.CAN_CTRL_SELF_RX]
  | .CAN_STAT => [F.CAN_STAT_STATE, F.CAN_STAT_LEC, F.CAN_STAT_BUS_OFF_EVT, F.CAN_STAT_PASSIVE_EVT,
      F.CAN_STAT_TXD_DOM, F.CAN_STAT_TT_ERR, F.CAN_STAT_WRITE_REFUSED]
  | .CAN_ERRCNT => [F.CAN_ERRCNT_TEC, F.CAN_ERRCNT_REC]
  | .CAN_NBT => [F.CAN_NBT_NBRP, F.CAN_NBT_NTSEG1, F.CAN_NBT_NTSEG2, F.CAN_NBT_NSJW]
  | .CAN_DBT => [F.CAN_DBT_DBRP, F.CAN_DBT_DTSEG1, F.CAN_DBT_DTSEG2, F.CAN_DBT_DSJW, F.CAN_DBT_TDC_EN]
  | .CAN_TDC => [F.CAN_TDC_TDCO, F.CAN_TDC_TDCV]
  | .CAN_CMD_REQ => [F.CAN_CMD_REQ_ID, F.CAN_CMD_REQ_IDE, F.CAN_CMD_REQ_FD, F.CAN_CMD_REQ_EN]
  | .CAN_CMD_RSP => [F.CAN_CMD_RSP_ID, F.CAN_CMD_RSP_IDE, F.CAN_CMD_RSP_BRS]
  | .CAN_TXREQ_LO => [F.CAN_TXREQ_LO_REQ]
  | .CAN_TXREQ_HI => [F.CAN_TXREQ_HI_REQ]
  | .CAN_RX_LOST => [F.CAN_RX_LOST_COUNT]
  | .CAN_LOCK_TMO => [F.CAN_LOCK_TMO_COUNT]
  | .CAN_TX_MISSED => [F.CAN_TX_MISSED_COUNT]
  | .CAN_TT_CFG => [F.CAN_TT_CFG_NCYC, F.CAN_TT_CFG_REF, F.CAN_TT_CFG_CYC_LEN]
  | .CAN_TT_PHASE => [F.CAN_TT_PHASE_PHASE]
  | .CAN_TT_REF => [F.CAN_TT_REF_ID, F.CAN_TT_REF_IDE]
  | .CAN_TT_STAT => [F.CAN_TT_STAT_CYCLE, F.CAN_TT_STAT_SYNC]
  | .CAN_TT_COL => [F.CAN_TT_COL_OFS, F.CAN_TT_COL_WIN]
  | .CAN_MB => [F.CAN_MB_WORD]
  | .CAN_TT_MTX => [F.CAN_TT_MTX_WORD]
  | .STR_CTRL => [F.STR_CTRL_EN, F.STR_CTRL_CAP_EN, F.STR_CTRL_COND_EN, F.STR_CTRL_TRACE_EN, F.STR_CTRL_MAX_LEN]
  | .STR_STAT => [F.STR_STAT_LINK, F.STR_STAT_CAPTURE, F.STR_STAT_OVERFLOW, F.STR_STAT_STCLK_LOST]
  | .STR_CREDIT => [F.STR_CREDIT_WORDS]
  | .STR_SEQ => [F.STR_SEQ_NEXT]
  | .STR_FRAMES => [F.STR_FRAMES_COUNT]
  | .STR_NAK => [F.STR_NAK_COUNT]
  | .STR_REPLAY => [F.STR_REPLAY_COUNT]
  | .STR_GONE => [F.STR_GONE_COUNT]
  | .STR_BK_ERR => [F.STR_BK_ERR_COUNT]
  | .STR_DROP => [F.STR_DROP_COUNT]
  | .STR_SRC_ERR => [F.STR_SRC_ERR_COUNT]
  | .STR_CAP_FILL => [F.STR_CAP_FILL_WORDS]
  | .FIO_STAT => [F.FIO_STAT_FIO_FAULT, F.FIO_STAT_LINK]
  | .FIO_DI => [F.FIO_DI_STATE]
  | .FIO_DI_INVALID => [F.FIO_DI_INVALID_MASK]
  | .FIO_DO => [F.FIO_DO_CMD]
  | .FIO_SAFE => [F.FIO_SAFE_S0, F.FIO_SAFE_S1, F.FIO_SAFE_S2, F.FIO_SAFE_S3, F.FIO_SAFE_S4, F.FIO_SAFE_S5,
      F.FIO_SAFE_S6, F.FIO_SAFE_S7, F.FIO_SAFE_S8, F.FIO_SAFE_S9, F.FIO_SAFE_S10, F.FIO_SAFE_S11, F.FIO_SAFE_S12,
      F.FIO_SAFE_S13, F.FIO_SAFE_S14, F.FIO_SAFE_S15]
  | .FIO_CFG => [F.FIO_CFG_TMO, F.FIO_CFG_AUTO_RESTORE]
  | .FIO_DO_SLEW => [F.FIO_DO_SLEW_SLOW]
  | .FIO_DI_WB => [F.FIO_DI_WB_EN]
  | .FIO_DI_FILT => [F.FIO_DI_FILT_F0, F.FIO_DI_FILT_F1, F.FIO_DI_FILT_F2, F.FIO_DI_FILT_F3, F.FIO_DI_FILT_F4,
      F.FIO_DI_FILT_F5, F.FIO_DI_FILT_F6, F.FIO_DI_FILT_F7]
  | .FIO_FAULT_CNT => [F.FIO_FAULT_CNT_COUNT]
  | .FIO_LINK_ERR => [F.FIO_LINK_ERR_COUNT]
  | .LAN_STAT => [F.LAN_STAT_STO_ACTIVE, F.LAN_STAT_STO_FB, F.LAN_STAT_SS1_RUN, F.LAN_STAT_SLS_ACTIVE,
      F.LAN_STAT_SBC_APPLIED, F.LAN_STAT_NONSAFE, F.LAN_STAT_PARAM_VALID, F.LAN_STAT_ENV_VALID, F.LAN_STAT_DISC,
      F.LAN_STAT_SBC_FAULT, F.LAN_STAT_ENV_CLIP, F.LAN_STAT_NET_FAILSAFE]
  | .LAN_STO_IN => [F.LAN_STO_IN_RAW, F.LAN_STO_IN_REL]
  | .LAN_ID => [F.LAN_ID_ID]
  | .LAN_PROFILE => [F.LAN_PROFILE_PROFILE, F.LAN_PROFILE_RANGE, F.LAN_PROFILE_FUNCS]
  | .LAN_SBC => [F.LAN_SBC_REQ, F.LAN_SBC_ON, F.LAN_SBC_FB]
  | .LAN_DEMAND_CNT => [F.LAN_DEMAND_CNT_COUNT]
  | .LAN_LS_DIGEST => [F.LAN_LS_DIGEST_COUNT]
  | .LAN_LS_LATENT => [F.LAN_LS_LATENT_A, F.LAN_LS_LATENT_B]
  | .LAN_LS_RESYNC => [F.LAN_LS_RESYNC_LAST]
  | .LAN_ENV_IMAX => [F.LAN_ENV_IMAX_VALUE]
  | .LAN_ENV_VMAX => [F.LAN_ENV_VMAX_VALUE]
  | .LAN_ENV_TMAX => [F.LAN_ENV_TMAX_VALUE]
  | .LAN_ENV_TRATE => [F.LAN_ENV_TRATE_VALUE]
  | .LAN_ENV_PMAX => [F.LAN_ENV_PMAX_VALUE]
  | .LAN_ENV_EM => [F.LAN_ENV_EM_VALUE]
  | .LAN_SPD_A => [F.LAN_SPD_A_VALUE]
  | .LAN_SPD_B => [F.LAN_SPD_B_VALUE]
  | .LAN_SPD_SAFE => [F.LAN_SPD_SAFE_VALUE]
  | .LAN_SPD_STAT => [F.LAN_SPD_STAT_A_VALID, F.LAN_SPD_STAT_B_VALID, F.LAN_SPD_STAT_SINGLE, F.LAN_SPD_STAT_UNKNOWN]
  | .LAN_SS1_LIM => [F.LAN_SS1_LIM_VALUE]
  | .LAN_ENV_DTMIN => [F.LAN_ENV_DTMIN_VALUE]
  | .LAN_ENV_TSEQ => [F.LAN_ENV_TSEQ_VALUE]
  | .LAN_ENV_VDC_HI => [F.LAN_ENV_VDC_HI_VALUE]
  | .LAN_ENV_VDC_LO => [F.LAN_ENV_VDC_LO_VALUE]
  | .LAN_CONN_STAT => [F.LAN_CONN_STAT_STATE, F.LAN_CONN_STAT_RX_SEQ]
  | .LAN_CONN_DATA => [F.LAN_CONN_DATA_DATA0]
  | .LAN_CONN_ERR => [F.LAN_CONN_ERR_COUNT]
  | .CDL_CTRL => [F.CDL_CTRL_REBASE, F.CDL_CTRL_PERIODIC]
  | .CDL_STAT => [F.CDL_STAT_RUNNING, F.CDL_STAT_PS_BASE_VALID, F.CDL_STAT_MARGIN_LIMIT, F.CDL_STAT_WEAR,
      F.CDL_STAT_NV_LOW, F.CDL_STAT_OSC, F.CDL_STAT_SILICON]
  | .CDL_LAST_TIME_LO => [F.CDL_LAST_TIME_LO_TIME]
  | .CDL_LAST_TIME_HI => [F.CDL_LAST_TIME_HI_TIME]
  | .CDL_REPLAN_CNT => [F.CDL_REPLAN_CNT_COUNT]
  | .CDL_RO_DRIFT => [F.CDL_RO_DRIFT_PPM]
  | .CDL_OSC_DRIFT => [F.CDL_OSC_DRIFT_DRIFT]
  | .CDL_NV_MARGIN => [F.CDL_NV_MARGIN_PCT]
  | .CDL_DEV_LIM => [F.CDL_DEV_LIM_RO_LIM, F.CDL_DEV_LIM_OSC_LIM, F.CDL_DEV_LIM_NV_MIN]
  | .CDL_HOURS_ON => [F.CDL_HOURS_ON_MIN]
  | .CDL_BR_CFG => [F.CDL_BR_CFG_K_DT, F.CDL_BR_CFG_WEAR_LIM]
  | .CDL_DT_MAX => [F.CDL_DT_MAX_MAX]
  | .CDL_MARGIN_DT => [F.CDL_MARGIN_DT_PLAN]
  | .CDL_RT_BASE => [F.CDL_RT_BASE_ON, F.CDL_RT_BASE_OFF]
  | .CDL_RT_NOW => [F.CDL_RT_NOW_ON, F.CDL_RT_NOW_OFF]
  | .CDL_VCE_DRIFT => [F.CDL_VCE_DRIFT_VCE, F.CDL_VCE_DRIFT_ZTH]
  | .CDL_CYCLES => [F.CDL_CYCLES_COUNT]
  | .CDL_HOURS_SW => [F.CDL_HOURS_SW_MIN]
  | .CDL_CYC_CFG => [F.CDL_CYC_CFG_HI, F.CDL_CYC_CFG_LO]
  | .CDL_AX_CFG => [F.CDL_AX_CFG_W0, F.CDL_AX_CFG_K_I, F.CDL_AX_CFG_K_G]
  | .CDL_DERATE_MIN => [F.CDL_DERATE_MIN_VALUE]
  | .CDL_MARGIN_DERATE => [F.CDL_MARGIN_DERATE_VALUE]
  | .CDL_GUARD_MAX => [F.CDL_GUARD_MAX_PRE_MAX, F.CDL_GUARD_MAX_POST_MAX]
  | .CDL_MARGIN_GUARD => [F.CDL_MARGIN_GUARD_PRE, F.CDL_MARGIN_GUARD_POST]
  | .CDL_ENERGY_MOT => [F.CDL_ENERGY_MOT_VALUE]
  | .CDL_ENERGY_GEN => [F.CDL_ENERGY_GEN_VALUE]
  | .CDL_MARGIN_BUDGET => [F.CDL_MARGIN_BUDGET_MAX, F.CDL_MARGIN_BUDGET_PLAN, F.CDL_MARGIN_BUDGET_CLIPPED]
  | .CMP_LIST => [F.CMP_LIST_WORD]

end Sys2Proof.Machine
end

