-- ==== Sys2Proof/Machine/Store.lean ====
section
/-!
DEFINITION. Machine/Store.lean: a memory of words in one canonical form: pairs of index and word with the indexes strictly
rising and no pair whose word is what an unlisted index reads as (the default of that memory).
-/

namespace Sys2Proof.Machine

/-- A memory of words. -/
abbrev Store := List (Nat × Word)

/-- The word at an index: the listed one, or the default. (log 7 DESIGN CHOICE) -/
def Store.get (d : Nat → Word) : Store → Nat → Word
  | [], k => d k
  | (a, v) :: m, k => if k = a then v else Store.get d m k

/-- The memory without any pair at an index. -/
def Store.erase : Store → Nat → Store
  | [], _ => []
  | (a, v) :: m, k => if k = a then Store.erase m k else (a, v) :: Store.erase m k

/-- The memory with a pair put at its place in the order. -/
def Store.insert : Store → Nat → Word → Store
  | [], k, w => [(k, w)]
  | (a, v) :: m, k, w =>
    if k = a then (k, w) :: m else if k < a then (k, w) :: (a, v) :: m else (a, v) :: Store.insert m k w

/-- A write: writing the default removes the pair, so that equal memories are equal lists. (log 7 DESIGN CHOICE) -/
def Store.set (d : Nat → Word) (m : Store) (k : Nat) (w : Word) : Store :=
  if w = d k then Store.erase m k else Store.insert m k w

/-- Every index of the memory lies above a bound. -/
def Store.above (b : Nat) : Store → Bool
  | [] => true
  | (a, _) :: _ => b < a

/-- The canonical form: indexes strictly rising, no pair with the default. (log 7 DESIGN CHOICE) -/
def Store.wf (d : Nat → Word) : Store → Bool
  | [] => true
  | (a, v) :: m => v != d a && Store.above a m && Store.wf d m

/-- n consecutive words from an index. -/
def Store.read (d : Nat → Word) (m : Store) : Nat → Nat → List Word
  | _, 0 => []
  | k, n + 1 => Store.get d m k :: Store.read d m (k + 1) n

/-- A list of words written from an index on. (log 7 DESIGN CHOICE) -/
def Store.write (d : Nat → Word) : Store → Nat → List Word → Store
  | m, _, [] => m
  | m, k, w :: ws => Store.write d (Store.set d m k w) (k + 1) ws

/-- The memory with n words from an index on set back to the default. -/
def Store.clear (m : Store) (k n : Nat) : Store := m.filter fun p => p.1 < k || k + n ≤ p.1

/-- The default of a memory that reads zero where nothing is listed. (log 6 DESIGN CHOICE) -/
abbrev zeroMem : Nat → Word := fun _ => 0

end Sys2Proof.Machine
end

