-- ==== Sys2Proof/Machine/State.lean ====
section
/-!
DEFINITION. Machine/State.lean: the state of the part. Every register of the spec has its one home in `regs`; the other
fields hold the memories and what the spec's prose makes the blocks remember. Faults, refusals and the state after reset
stand at the end.
-/

namespace Sys2Proof.Machine

/-! ## Interpreter, sessions and transports (R83 to R109, R441 to R443) -/

/-- A reply packet before framing (R88). -/
structure Reply where
  via : Transport
  ip : Word
  port : Nat
  opcode : BitVec 16
  tag : BitVec 8
  flags : BitVec 8
  unit : BitVec 16
  session : Word
  payload : List Word
  deriving DecidableEq, Repr, Inhabited

/-- A status with its DETAIL and the payload words after it (R88, R101). -/
structure Answer where
  status : Nat
  detail : Nat
  words : List Word
  deriving DecidableEq, Repr, Inhabited

/-- A command in flight (R90): its packet, its opcode, the interim reply it has had, and the function it waits for (R94). -/
structure Flight where
  opcode : BitVec 16
  pkt : Pkt
  interim : Option Reply
  target : Nat
  deriving DecidableEq, Repr, Inhabited

/-- An entry of the reply cache (R92): the command it answers and its final reply. -/
structure Cached where
  opcode : BitVec 16
  pkt : Pkt
  reply : Reply
  deriving DecidableEq, Repr, Inhabited

/-- A session slot (R96, R441, R442). -/
structure Sess where
  id : Word
  role : Role
  authed : Bool
  opened : Nat
  challenge : List Word
  deriving DecidableEq, Repr, Inhabited

/-- A packet under assembly on a CAN controller (R109): the bytes so far, the next SEQ, when the last segment came. -/
structure Assembly where
  bytes : List Byte
  seq : Nat
  at_ : Nat
  deriving DecidableEq, Repr, Inhabited

/-- A latched read of the upper half of a 64-bit pair (R118). -/
structure Latch where
  by_ : Initiator
  addr : Nat
  value : Word
  deriving DecidableEq, Repr, Inhabited

/-- The Ethernet head under which a Constellation frame leaves (R346): EtherType, destination MAC, and PCP and VID of the VLAN tag if it
carries one. -/
structure EthHead where
  ethertype : Nat
  mac : BitVec 48
  tag : Option (Nat × Nat)
  deriving DecidableEq, Repr, Inhabited

/-- What the part has sent or driven that leaves it as a message, newest first in State.outs. (log 9 DESIGN CHOICE) -/
inductive Out where
  | reply (r : Reply)
  | arp (port : Nat) (dst : Word)
  | icmp (dst : Word) (data : List Byte)
  | igmp (group : Word)
  | canFrame (c : Nat) (id : Nat) (ide : Bool) (data : List Byte)
  | safetyPdu (conn : Nat) (words : List Word)
  | field (cmd : BitVec 16)
  | beacon (head : EthHead) (words : List Word)
  | cyclic (head : EthHead) (words : List Word)
  | safetyFrame (head : EthHead) (conn : Nat) (words : List Word)
  | ptp (kind : Nat) (words : List Word)
  | forward (port : Nat) (ptp : Bool) (corr : Int)
  | stream (syms : List (BitVec 40))
  | gone (seq : Nat)
  | preempted (w : Writer) (addr : Word)
  | fabricErr (w : Writer) (addr : Word)
  | readErr (by_ : Initiator) (addr : Word)
  | miso (words : List Word)
  | scan (cells : List Bool)
  | enCk (c half periods : Nat)
  deriving DecidableEq, Repr, Inhabited

/-- The command interpreter and the transports: sessions, commands in flight, the reply cache, challenges drawn, wrong responses and
lockouts per role (R442), latched upper halves (R118), replies queued over SPI with the words of the first already sent, replies
waiting for room with their commands (R104), the SPI transaction with the number of replies queued when it began (R103, R105), packets under assembly (R109), counters, what the
reply of the command under way is followed by: the end of a role's sessions (R444), a new BOOT (R450), and the interim replies of
Deferred commands whose final reply waits for room (R91). -/
structure Hst where
  sessions : List Sess
  flight : List Flight
  cache : List Cached
  challenges : Nat
  wrong : List (Role × Nat)
  lockout : List (Role × Nat)
  latches : List Latch
  spiQueue : List Reply
  spiSent : Nat
  spiWaiting : List (Reply × Pkt)
  spiBusy : Bool
  spiHad : Nat
  spiIgnore : Bool
  spiDiscard : Bool
  spiStatus : Word
  asm : List (Option Assembly)
  hdrErrors : Nat
  cmdErrors : Nat
  asmDropped : Nat
  keyClose : Option Role
  bootNext : Bool
  interims : List (Pkt × Reply)
  deriving DecidableEq, Repr, Inhabited

/-! ## Faults and logs (R10, R82, R451 to R455) -/

/-- A fault latched until a FAULT_ACK of the device (R82): its code, its class, its axis (7 for none) and the tick it was raised. -/
structure Latched where
  code : Nat
  cls : Nat
  axis : Nat
  at_ : Nat
  deriving DecidableEq, Repr, Inhabited

/-- A fault record (R453); the CRC of word 15 is formed when the record is read. -/
structure FaultRec where
  seq : Word
  time : Time
  code : Nat
  cls : Nat
  axis : Nat
  dev : Nat
  cont : Bool
  again : Word
  detail : List Word
  deriving DecidableEq, Repr, Inhabited

/-- An audit record (R452). -/
structure AuditRec where
  seq : Word
  time : Time
  event : Nat
  role : Nat
  transport : Nat
  mstate : Nat
  session : Word
  ip : Word
  object : Word
  old : Word
  new : Word
  deriving DecidableEq, Repr, Inhabited

/-- Latched faults, unacknowledged FR1 events with the tick of the last one, and the two logs, newest record first. -/
structure Faults where
  latched : List Latched
  unacked : Bool
  alertAt : Nat
  log : List FaultRec
  nextSeq : Word
  audit : List AuditRec
  nextAudit : Word
  deriving DecidableEq, Repr, Inhabited

/-! ## Supplies, reset, start-up, clocks (R19, R59 to R74, R496) -/

/-- Where the module stands between its supply and the end of BOOT. -/
inductive Phase where
  | unpowered | held | booting | up
  deriving DecidableEq, Repr, Inhabited

/-- The supervision of one internal clock: windows in a row off nominal, windows in a row within, and whether it is lost. -/
structure ClockSup where
  bad : Nat
  good : Nat
  lost : Bool
  deriving DecidableEq, Repr, Inhabited

/-- A function instance under reinitialisation (R473, R475). -/
structure Reinit where
  func : Nat
  inst : Nat
  start : Nat
  wasRun : Bool
  deriving DecidableEq, Repr, Inhabited

/-- Supplies, reset, BOOT, clocks, test access: among them whether the Ethernet links and the CAN transports are up (R73), since when the
logic supply has been low (R67), the level of SPI_IRQ# (R104), the transport by which a pending DEVICE_RESET came (R72), the ticks of the
last clock window, switch read, die sample, scrub read and time comparison, the word of shared SRAM the scrubber reads next (R28), when
FAB_ARB_STAT was last written (R124), and from when on the module does not drive RESET# low, none while PGOOD waits for a rail (R70). -/
structure Sys where
  phase : Phase
  bootAt : Nat
  resetPend : Option Nat
  resetVia : Transport
  linksUp : Bool
  updBootsel : Bool
  lastTrans : Option Nat
  supplyAt : Nat
  spiRdy : Bool
  spiIrqLow : Bool
  faultLow : Bool
  alertLow : Bool
  supplyLow : Bool
  lowAt : Nat
  supplyHigh : Bool
  powerLost : Bool
  swPrev : Nat
  swSeen : Bool
  swRaised : Option Nat
  dieHot : Bool
  dieLimit : Bool
  pwmClk : ClockSup
  merClk : ClockSup
  sysClk : ClockSup
  refClk : ClockSup
  reinit : List Reinit
  debugOpen : Bool
  jtagIr : JtagIns
  clkAt : Nat
  swAt : Nat
  dieAt : Nat
  scrubAt : Nat
  scrubWord : Nat
  arbAt : Option Nat
  timeAt : Nat
  rstAt : Option Nat
  deriving DecidableEq, Repr, Inhabited

/-! ## Gate outputs (R285 to R309) -/

/-- A blanking window (R289): its first tick, the level its edge commanded, whether the acknowledgement came, the
level latched in it with its corrected timestamp, and whether the level that stands was judged at the end of an earlier window (R290). -/
structure Win where
  start : Nat
  on : Bool
  edge : Nat
  acked : Bool
  latch : Option (Bool × Nat)
  judged : Bool
  deriving DecidableEq, Repr, Inhabited

/-- A gate channel: open windows, the time of its last turn-off in 1.25 ns units, whether each mean has its first value. -/
structure Chan where
  wins : List Win
  offAt : Option Nat
  onSeen : Bool
  offSeen : Bool
  onLong : Bool
  offLong : Bool
  deriving DecidableEq, Repr, Inhabited

/-- A brake chopper: when its switch last changed, the on-times of the last 10 s, whether the duty limit holds it off. -/
structure Chop where
  on : Bool
  since : Nat
  spans : List (Nat × Nat)
  heldOff : Bool
  deriving DecidableEq, Repr, Inhabited

/-- An auxiliary half-bridge: its two outputs, its last turn-off, its last AUX_UVLO, whether that holds it high impedance,
the periods since the last refresh pulse was asked for, when one under way was, and when it turned the low side on (R305 to R308). -/
structure Half where
  ho : Bool
  lo : Bool
  offAt : Nat
  uvAt : Option Nat
  uvHold : Bool
  refreshN : Nat
  pulseAt : Option Nat
  lowAt : Option Nat
  deriving DecidableEq, Repr, Inhabited

/-- The GATE block. `gc` and `gs` are the command lines and the filtered status lines; `stamps` are the recorded channels with their
timestamps and the ticks in which their faults acted. -/
structure Gate where
  gc : Lines
  gs : Lines
  chans : List Chan
  offDue : List (Option Nat)
  railLow : Bool
  first : Option Nat
  stamps : List (Nat × Nat × Nat)
  chops : List Chop
  halves : List Half
  auxUv : Option Nat
  deriving DecidableEq, Repr, Inhabited

/-! ## Bridges (R152 to R166) -/

/-- A voltage set: v_d, v_q, v_0 in pu24, theta and omega in angle units (R158). -/
structure VSet where
  vd : Word
  vq : Word
  v0 : Word
  theta : Word
  omega : Word
  deriving DecidableEq, Repr, Inhabited

/-- A placed command edge (R161): channel, time in 1.25 ns units, level, bridge, whether the dead time delayed it. -/
structure Edge where
  g : Nat
  at_ : Nat
  on : Bool
  br : Nat
  deriving DecidableEq, Repr, Inhabited

/-- The state a phase is in or is going to: 2-level upper or lower, 3-level P, O, N, or off. -/
inductive PhaseLvl where
  | off | up | mid | low
  deriving DecidableEq, Repr, Inhabited

/-- A change of a phase's state (R163): the state before it, when the modulator asked for it, and when its turn-off (0 where it has none)
and its turn-on are placed, in 1.25 ns units. -/
structure Change where
  from_ : PhaseLvl
  since : Nat
  off : Nat
  on : Nat
  deriving DecidableEq, Repr, Inhabited

/-- A phase of a bridge at the end of its placed edges (R163 to R165): its state, its last change, the changes before it, newest first, and the volt-seconds carried, in 1.25 ns units. -/
structure Phase_ where
  lvl : PhaseLvl
  last : Change
  before : List Change
  carry : Int
  deriving DecidableEq, Repr, Inhabited

/-- A bridge: the sets committed since the last update with their ticks (newest first), the active set and the updates that
have used it (R158, R160), its phases, when a start was asked for, since when the neutral point is beyond TRIP, the angle of the axis at
the last update instant with the change per sample of the sets active before and after it (R173), and the angle applied last with the
sum of its changes (R417). -/
structure Bridge where
  commits : List (Nat × VSet)
  active : VSet
  used : Nat
  phases : List Phase_
  asked : Option Nat
  axisAng : Word
  wasOmega : Word
  npSince : Option Nat
  npHigh : Bool
  ang : Word
  turned : Int
  deriving DecidableEq, Repr, Inhabited

/-- A sigma-delta channel (R168): the last 16,384 bits, newest first, and the tick up to which its bits are here. -/
structure Sd where
  bits : List Bool
  at_ : Nat
  deriving DecidableEq, Repr, Inhabited

/-- The PWM/BRIDGE block: the bridges and the edges placed, earliest first; `past` are edges already reached, newest
first, kept for the guard interval of R171; `fastOut` are the channels whose fast comparator stands beyond a threshold, `stuck` those
whose bit stream stands still (R170), and `sd` the channels' bits. -/
structure Pwm where
  bridges : List Bridge
  edges : List Edge
  past : List Edge
  fastOut : BitVec 16
  stuck : BitVec 16
  sd : List Sd
  deriving DecidableEq, Repr, Inhabited

/-! ## Axes (R206 to R283) -/

/-- Why an axis stops (R227, R229). -/
inductive StopCause where
  | none | disable | demand | fr2 (code : Nat)
  deriving DecidableEq, Repr, Inhabited

/-- The sample under way (R169, R172 to R174): its instant, whether it is measured (0), predicted (1) or forced (2), the
signed offset of a forced centre, whether it is degraded, and the channels whose value is still to come. -/
structure Shot where
  inst : Nat
  kind : Nat
  shift : Int
  degraded : Bool
  left : List Nat
  deriving DecidableEq, Repr, Inhabited

/-- What a sample instant has latched beside the registers that show it (R210): the angle that the currents are formed at before BR_WOFS,
the position, the encoder's electrical angle and speed, the line tension and whether its input is lost, the observer's angle and speed. -/
structure Seen where
  frame : Word
  pos : Word
  ang : Word
  spd : Int
  ten : Int
  tenLost : Bool
  obsAng : Word
  obsSpd : Int
  deriving DecidableEq, Repr, Inhabited

/-- The axis block and the standard programs of one axis: what they remember between samples. `grid` is the tick of the next
sample instant and `peak` says that it is a peak of the carrier (R156, R194); `snaps` are the command lines at the last two sample
instants, newest first (R173); `rate` is the profile's speed and `accel` the change per second of the profile's or the set-point's speed
(R222), `slope` that of AX_SP_ACTIVE, `limStop` a stop at a limit switch (R223), `table` the torque and currents per winding of the table of R217, and `plims` and
`pgens` are the values that AX_PLIM and AX_PLIM_GEN had before their last writes, with the ticks of those (R215); `refWas` is AX_T_REF of the sample before (R267), `staged` the
instant whose currents are latched and `waits` that its sharing and its current program are still to come (R260); `left` says until when the
sample lasts in which the axis became DISABLED, and whether an AXIS_DISABLE did it (R229). -/
structure Axis where
  stop : StopCause
  rampDown : Bool
  cause : Nat
  lowSince : Option Nat
  gains : List Word
  tunePend : Bool
  samples : Nat
  lastSample : Option Nat
  grid : Option Nat
  peak : Bool
  snaps : List (Nat × Lines)
  keMeas : Bool
  shot : Option Shot
  model : List (Nat × Int)
  seen : Seen
  rate : Int
  accel : Int
  slope : Int
  limStop : Bool
  raw : Int
  rawHeld : Int
  lostAt : Option Nat
  lostNow : Bool
  spdI : Int
  tenI : Int
  idI : List Int
  iqI : List Int
  fw : Int
  psi : Int
  plausN : Nat
  residN : Nat
  circSince : Option Nat
  act : Nat × Nat
  slipA : Word
  queued : Bool
  progLoaded : Bool
  table : List (Int × Int × Int)
  plims : List (Nat × Word)
  pgens : List (Nat × Word)
  refWas : Int
  staged : Option Nat
  waits : Bool
  left : Option (Nat × Bool)
  deriving DecidableEq, Repr, Inhabited

/-- What a relock remembers (R251 to R253): the speed before the loss, an FR2 held, an AXIS_EMERGENCY state to return to. -/
structure Relock where
  before : Int
  heldFr2 : Option Nat
  wasEm : Bool
  deriving DecidableEq, Repr, Inhabited

/-- How a speed search ends (R249): locked at a speed with the voltage vector's magnitude and angle, negative power at the start, or no
change of sign. -/
inductive SearchEnd where
  | found (w v : Int) (theta : Word) | negative | none_
  deriving DecidableEq, Repr, Inhabited

/-- What a catch, a relock or a gates-off measurement has measured (R244 to R254): when its window began, the magnitude of the voltage
vector last, the sum of the tracked angle's changes, the sums of |v| and |ω| with their number, whether the line voltage has passed 0.95
of the DC link, the tracker's error last, whether TMIN has been decided, when the currents of a relock had decayed; of a speed search the
stator frequency, the samples with its current, and its end. -/
structure Catch where
  began : Nat
  v : Int
  turned : Int
  sumV : Int
  sumW : Int
  n : Nat
  clipped : Bool
  err : Int
  step : Int
  early : Bool
  decayAt : Option Nat
  freq : Int
  ran : Nat
  found : Option SearchEnd
  deriving DecidableEq, Repr, Inhabited

/-- The observer, catch, ALIGN and motor identity of one axis (R235 to R256): the trackers; the sign of the injection over the interval
before the last sample, since then, and in the set committed (0 for none); the sum and difference currents and the q current in the
estimated frame of the last sample, its eps of R236, the model flux of the voltage model, when CATCH was entered, the relock under way, when
the torque ramp after it began, what the catch has measured, ALIGN's start, the sample of its pulses, its repeats and the pulse currents |i_d| measured, the
aligned angle with the counter at its end, a measurement's reason, and which thresholds of R256 have been crossed. -/
structure Obs where
  thInj : Word
  wInj : Int
  thEmf : Word
  wEmf : Int
  injWas : Int
  injNow : Int
  injNext : Int
  lastSum : Int × Int
  lastDiff : Int × Int
  lastIq : Int
  eps : Int
  lastAb : Int × Int
  flux : Int × Int
  lossN : Nat
  entered : Nat
  relock : Option Relock
  rampAt : Option Nat
  search : Bool
  catch_ : Catch
  alignT : Nat
  alignK : Option Nat
  alignTry : Nat
  peakP : Option Int
  peakN : Option Int
  aligned : Option (Word × Word)
  keRun : Bool
  demag : Nat
  identWrong : Bool
  deriving DecidableEq, Repr, Inhabited

/-- Emergency modes of one axis (R271 to R283): what they remember beside AX_EM_STAT. -/
structure Em where
  hold : Bool
  proveFor : Option Bool
  proveAt : Option Nat
  proveOk : Bool
  heldT : Int
  braked : Bool
  leaving : Bool
  overCnt : Nat
  recSince : Option Nat
  fr2 : Option Nat
  modeSrc : Nat × Nat
  rendFrom : Word
  lastSp : Nat
  deriving DecidableEq, Repr, Inhabited

/-- The newest share record received from an axis of another unit (R265), the samples since one of it was used, and the SP of that one (R266). -/
structure Remote where
  unit : Nat
  axis : Nat
  group : Nat
  leader : Bool
  counted : Bool
  droop : Bool
  tEst : Int
  w : Int
  sp : Int
  tRef : Int
  time : Word
  missed : Nat
  spUsed : Int
  deriving DecidableEq, Repr, Inhabited

/-- Load sharing of one axis (R258 to R268): the records received, those used in this sample, the samples since the cause of droop went, a
follower's MODE before droop, when droop ended, and since when the correction stands at its clip. -/
structure Share where
  remotes : List Remote
  used : List Remote
  absent : Nat
  wasFollow : Bool
  restoreAt : Option Nat
  clipSince : Option Nat
  deriving DecidableEq, Repr, Inhabited

/-! ## Motion engines (R311 to R329) -/

/-- What a motion engine's move is for. -/
inductive MeMove where
  | profile | homeOut | homeHold (until_ : Nat) | homeBack
  deriving DecidableEq, Repr, Inhabited

/-- A motion engine: fraction bits of its position, the move in progress with target, speed limit and acceleration (1/256
microstep per second and per second squared), the present speed and acceleration towards it in 2^-32 of those units, the
direction of travel, the homing current and the position at stall (2^-16 microstep) and at its start, the gear's anchors, the
jumps of its master since it engaged, the stall count, when it last issued a microstep and came to rest, whether a stop holds
the angle, fraction bits of the current magnitude, whether a write it lost is to be issued again (R30), and whether its memory's
parity stopped it until its FUNC_REINIT (R26, R200). -/
structure Me where
  frac : Nat
  move : Option MeMove
  target : Int
  vmax : Int
  acc : Int
  speed : Int
  accel : Int
  dir : Bool
  homeI : Nat
  stallPos : Int
  homeFrom : Int
  gearS : Int
  gearM : Int
  jumps : Int
  stallN : Nat
  lastStep : Nat
  restSince : Nat
  held : Bool
  curFrac : Nat
  retry : Bool
  dead : Bool
  deriving DecidableEq, Repr, Inhabited

/-- A winding or phase under current regulation (R325 to R328): whether it is driven, its last turn-off, the period of its last
turn-on, periods in a row below 10 %, the peak since the turn-off with the samples left to look for it, the signed driven ticks
of this period, the current at its start, the newest one, whether it was driven and stayed low in it. -/
structure Coil where
  driven : Bool
  offAt : Nat
  onPeriod : Nat
  lowN : Nat
  peak : Int
  peakN : Nat
  onTicks : Int
  start : Int
  now : Int
  was : Bool
  low : Bool
  deriving DecidableEq, Repr, Inhabited

/-- The motion engines and the current regulation: the number of the auxiliary period with its start, when the last current
sample came, and whether the bridge is held high impedance. -/
structure Motion where
  me : List Me
  coils : List Coil
  period : Nat
  periodAt : Nat
  sampleAt : Nat
  hiz : Bool
  deriving DecidableEq, Repr, Inhabited

/-! ## Loop and observer engines (R179 to R204) -/

/-- A release of a task slot (R193): its sample instant, the sample index and the timestamp of R139 that R181 preloads. -/
structure Rel where
  slot : Nat
  axis : Nat
  inst : Nat
  at_ : Nat
  index : Word
  stamp : Word
  deriving DecidableEq, Repr, Inhabited

/-- An engine: general registers, accumulators, flags, program counter, the address and the loop (first address, address
after the body, passes left) of the instruction under way, when the next one issues and when the outcome of the last OUT
is known, the running release with its staged window, releases to come and waiting, the overrun history of each slot
(newest first), words staged by LE_MDATA, the two mailbox FIFOs, memories, since when a check runs (R192), and the stop of R200. -/
structure Eng where
  x : List Word
  acc : List Int
  z : Bool
  n : Bool
  v : Bool
  rt : Bool
  em : Bool
  pc : Nat
  at_ : Nat
  loop : Option (Nat × Nat × Nat)
  ready : Nat
  outAt : Nat
  run : Option Rel
  window : List (Nat × Word)
  due : List Rel
  waiting : List Rel
  hist : List (List Bool)
  staged : List (Nat × Word)
  inFifo : List Word
  outFifo : List Word
  prog : Store
  data : Store
  checking : Option Nat
  dead : Bool
  deriving DecidableEq, Repr, Inhabited

/-! ## Feedback and position compare (R125 to R150) -/

/-- A counted edge or SSI latch: the counter and its timestamp (R139). -/
structure Mark where
  pos : Word
  ts : Word
  deriving DecidableEq, Repr, Inhabited

/-- An encoder channel: the user offset of EN_POS, its filtered A and B levels, the newest edge, whether one came since the
last sample, the newest edges at the last samples, the anchor after an event of R141, what the next edge does to it, the
illegal edges of the last millisecond, the mismatch run's last deviation and the agreed offset, the last good SSI data, the tick of the last frame (R136), whether good frames came that the lost channel did not apply, and
the frames in error in a row, the loss with its causes, the tick in which EN_POS was last written (R132), and the timestamp of the last
index event (R139). -/
structure Enc where
  ofs : Word
  a : Bool
  b : Bool
  newest : Option Mark
  fresh : Bool
  refs : List (Option Mark)
  anchor : Option Mark
  needFirst : Bool
  reversed : Bool
  illegal : List Word
  illAt : Option Nat
  lastDev : Int
  agreed : Option Int
  ssiLast : Option Nat
  ssiAt : Option Nat
  ssiHeld : Bool
  ssiBad : Nat
  lost : Bool
  line : Bool
  supply : Bool
  supplyAt : Nat
  presetAt : Option Nat
  idxTs : Word
  spdAt : Nat
  deriving DecidableEq, Repr, Inhabited

/-- A compare range (R148): the entries that have fired and from which EN_POS has not moved REARM away, and the tick of
the last disarming with the range that stood until its end (R147). -/
structure CmpCh where
  spent : List Nat
  left : Option (Nat × Nat × Nat)
  deriving DecidableEq, Repr, Inhabited

/-- An analog input (R176, R221): the filter's value, whether the last reading was beyond ±10.2 V, and the tick of that conversion. -/
structure Analog where
  value : Int
  overRange : Bool
  at_ : Nat
  deriving DecidableEq, Repr, Inhabited

/-- A compare entry that has fired in the present tick (R148): the output, the entry's index, and what the output was doing before: its
level, the changes due and the pulses under way on it. -/
structure Fired where
  out : Nat
  entry : Nat
  level : Bool
  due : List (Nat × Nat × Bool)
  pulses : List (Nat × Nat)
  deriving DecidableEq, Repr, Inhabited

/-- The position feedback block: channels, ranges, the levels of SYNC_OUT0 and 1, the pulses under way on the 2 + 16
compare outputs with their ends (R146), the Hall sector accepted last, whether H_SECT_ANGLE holds an earlier value, the compare entries that cannot be read at the edge under
way (R27), the changes of compare outputs still to come (tick, output, level; R150), and the entries that fired in the tick
`firedAt`. -/
structure Feed where
  enc : List Enc
  cmp : List CmpCh
  sync : List Bool
  pulses : List (Nat × Nat)
  sector : Option Nat
  sectHeld : Bool
  lost : List Nat
  due : List (Nat × Nat × Bool)
  fired : List Fired
  firedAt : Nat
  deriving DecidableEq, Repr, Inhabited

/-! ## Field inputs and outputs (R393 to R404) -/

/-- The filter of one field input: the state it is about to accept (none is broken) and for how many samples it has held, the
accepted state, and whether it must accept afresh (R393, R394). -/
structure DiFilt where
  cand : Option Bool
  held : Nat
  state : Option Bool
  fresh : Bool
  deriving DecidableEq, Repr, Inhabited

/-- The settings that a logic-to-field frame carries: FIO_SAFE, FIO_CFG, the three words of FIO_DI_FILT, FIO_DI_WB. -/
structure FieldSet where
  safe : Word
  cfg : Word
  filt : List Word
  wb : Word
  deriving DecidableEq, Repr, Inhabited

/-- What a logic-to-field frame commands: the output levels, the outputs named by IO_WRITE and by IO_RESTORE, the settings. -/
structure FieldOut where
  cmd : BitVec 16
  wake : BitVec 16
  restore : BitVec 16
  set : FieldSet
  deriving DecidableEq, Repr, Inhabited

/-- What a field-to-logic frame reports: input states, invalid inputs, the summary fault flag. -/
structure FieldIn where
  state : BitVec 24
  invalid : BitVec 24
  fault : Bool
  deriving DecidableEq, Repr, Inhabited

/-- The field side and the barrier link (R393 to R404): the filters; the frames under way each way; the levels that the field side
was last commanded; the compare list's levels; outputs in their safe state with the levels that HOLD keeps, held off, latched off and
latched off since the last frame; outputs that IO_WRITE and IO_RESTORE name in the next frame; VF low, outputs that read high while off,
a fault event that no frame has carried yet; the last valid frame on each side, and whether its absence has been acted on; the settings
that the field side holds; when it sampled its inputs last, and when a frame was started last in each direction. -/
structure Fio where
  filts : List DiFilt
  sent : Option FieldOut
  back : Option FieldIn
  cmd : BitVec 16
  cmpLv : BitVec 16
  safe : BitVec 16
  safeLv : BitVec 16
  heldOff : BitVec 16
  latched : BitVec 16
  newLatch : BitVec 16
  wake : BitVec 16
  restore : BitVec 16
  vfLow : Bool
  high : BitVec 16
  event : Bool
  fieldAt : Nat
  logicAt : Nat
  silent : Bool
  lost : Bool
  set : FieldSet
  sampledAt : Nat
  outAt : Nat
  inAt : Nat
  deriving DecidableEq, Repr, Inhabited

/-! ## Lantern (R407 to R438) -/

/-- An SS1 in progress (R422): its start, whether it is monitored, the safe speeds at the start, its fault code (0 for a
demand). -/
structure Ss1 where
  t0 : Nat
  monitored : Bool
  axes : List Bool
  v0 : List (Option Int)
  code : Nat
  deriving DecidableEq, Repr, Inhabited

/-- A safety connection (R428 to R431): whether a PDU was accepted since it entered fail-safe, PDUs accepted in a row, refusals
in a row, DATA0 and the tick of the last accepted PDU, the next SEQ to send and when the last was sent, acknowledged. -/
structure Conn where
  any : Bool
  row : Nat
  refused : Nat
  data : Word
  lastAt : Nat
  txSeq : Nat
  txAt : Option Nat
  acked : Bool
  deriving DecidableEq, Repr, Inhabited

/-- What Lantern remembers per axis for the safe speed (R417, R423): encoder counts and modulator angles of the last 4 ms,
newest first, since when the sources differ and whether that was raised, whether the speed is above the SLS limit, the SMS
limit. -/
structure SafeAx where
  counts : List Word
  angles : List Int
  differ : Option Nat
  told : Bool
  slsOver : Bool
  smsOver : Bool
  deriving DecidableEq, Repr, Inhabited

/-- Lantern. `par` is the body of the safety parameter record in force, word 5 first; sbcPin tells which SBC output reads
energised while commanded off; relAt is the tick of the last release of STO; latentA, latentB and mismatch are the ticks of the last lockstep events and resync the pairs
under resynchronisation; loading is a record being committed (its KIND and words) and loadAt when that began; updAt and cmpAt are the
ticks of the last safe-speed update and DC-link comparison, digestAt those of the last digest of each pair. -/
structure Lan where
  par : List Word
  configBad : Bool
  diffSince : Option Nat
  bothSince : Bool
  ss1 : Option Ss1
  slsSince : Option Nat
  ax : List SafeAx
  conns : List Conn
  vdcLow : List Nat
  imagOk : Option Nat
  sbcPin : List Bool
  relAt : Nat
  sbcTestAt : Nat
  latentA : Option Nat
  latentB : Option Nat
  mismatch : Option Nat
  resync : List Bool
  loading : Option (Nat × List Word)
  loadAt : Nat
  doneWait : Bool
  updAt : Nat
  cmpAt : Nat
  digestAt : List Nat
  deriving DecidableEq, Repr, Inhabited

/-! ## Meridian, Lamplighter, Constellation (R332 to R357) -/

/-- The PTP exchange under way (R333): a two-step Sync (sequence, local receive time, correction), the last difference of a Sync
(local receive time less its origin and correction), a Delay_Req or Pdelay_Req sent (port, sequence, local send time), a two-step
Pdelay_Resp (sequence, local receive time, receipt time of the request, correction), the next sequence number and the Sync
interval in ticks. -/
structure Ptp where
  sync : Option (Nat × Int × Int)
  diff : Option Int
  delay : Option (Nat × Nat × Int)
  pdelay : Option (Nat × Int × Int × Int)
  seq : Nat
  interval : Nat
  deriving DecidableEq, Repr, Inhabited

/-- The time transmitter in use (R333): its clockIdentity and the port it is heard on, its data set in the order of comparison
(priority 1, class, accuracy, variance, priority 2, grandmaster identity, steps removed), when it was last heard, and its
Announce interval in ticks. -/
structure Transmitter where
  id : Time
  port : Nat
  rank : List Nat
  heard : Nat
  interval : Nat
  deriving DecidableEq, Repr, Inhabited

/-- Meridian (R334 to R337): measurements in a row within LOCK_THR, beyond 1 µs and beyond STEP_THR, the tick of the last
measurement and whether it was a PPS_IN edge, the steering at the last 16 LOCKED measurements (newest first), since when HOLDOVER
lasts, a pending set with the tick of its write, the second of the last PPS_OUT pulse and its end, PTP, the best transmitter heard, the
steering of the last hour (the tick of each change with the value, newest first). -/
structure Mer where
  good : Nat
  bad : Nat
  far : Nat
  last : Nat
  byPps : Bool
  freqs : List Int
  held : Nat
  set : Option (Time × Nat)
  ppsOff : Nat
  ppsSec : Nat
  ptp : Ptp
  best : Option Transmitter
  hour : List (Nat × Int)
  deriving DecidableEq, Repr, Inhabited

/-- Lamplighter: the Timed Action Table (R339), when each finished entry became final (R342), the entries that launch late with
the tick of their next launches (R345), the role of the session that posted each entry, and a hold of R269 per axis on AX_PLIM and
AX_PLIM_GEN (its start). -/
structure Lamp where
  tat : Store
  done : List (Nat × Nat)
  late : List Nat
  lateAt : Nat
  posters : List (Nat × Role)
  holds : List (Option Nat × Option Nat)
  deriving DecidableEq, Repr, Inhabited

/-- A role in the table of R352, with what its beacons told. -/
structure Peer where
  role : Nat
  epoch : BitVec 16
  serial : BitVec 16
  live : Bool
  conflict : Bool
  heard : Option (BitVec 16)
  last : Option Nat
  period : Nat
  word2 : Word
  seq : Option Word
  spare : Bool
  deriving DecidableEq, Repr, Inhabited

/-- A join under way (R353, R354): the role, its form, the epoch it expects, when listening began, what lost it, whether BOOT began
it, the membership state before. -/
structure Joining where
  role : Nat
  expect : BitVec 16
  prev : Nat
  spare : Bool
  take : Bool
  start : Nat
  lost : Option Answer
  auto : Bool
  deriving DecidableEq, Repr, Inhabited

/-- Constellation membership: whether the membership is a spare's, the table, a join, frames sent, when the last beacon was
sent, the pair B receive ring (newest first), a group for IGMP. -/
structure Member where
  spare : Bool
  peers : List Peer
  join : Option Joining
  sent : Word
  beaconAt : Nat
  ring : List (List Word)
  deriving DecidableEq, Repr, Inhabited

/-! ## NV store and firmware (R446 to R450) -/

/-- The NV store below the logs without the key region, the role keys written to it (none is the key of delivery), the register copies
that the device keeps in its own regions, the flash banks, the offset of the next segment of a load, the banks
verified since their last load, the start of a verification, the bank to boot, the quarantine record, the own role with its epoch, and the
configuration slots that BOOT found bad. -/
structure Nv where
  mem : Store
  keys : List (Option (List Word))
  kept : Store
  bankA : Store
  bankB : Store
  loadNext : Option Nat
  verified : List Bool
  verifying : Option Nat
  bootB : Bool
  quarantine : Bool
  role : Option (Nat × Nat)
  badSlots : List Nat
  deriving DecidableEq, Repr, Inhabited

/-! ## Stream port (R380 to R392) -/

/-- A stream frame (R381): its words with the indexes of those read with a parity error (R382), and how often it has been
replayed (R386). -/
structure SFrame where
  seq : Nat
  source : Nat
  first : Bool
  last : Bool
  words : List Word
  bad : List Nat
  dropped : Bool
  replays : Nat
  deriving DecidableEq, Repr, Inhabited

/-- Data of one source waiting to be sent: one capture or report, whether its first frame has gone, whether it is complete. -/
structure Series where
  source : Nat
  words : List Word
  started : Bool
  closed : Bool
  deriving DecidableEq, Repr, Inhabited

/-- A capture (R388, R389): the words of its record, samples of the axis since the arm, the pre-trigger ring oldest first, the
trigger with its time and the actual pre-trigger count, POST records taken, the trigger channel's last value. -/
structure Cap where
  cfg : List Word
  count : Nat
  ring : List (List Word)
  trig : Option (Time × Nat)
  post : Nat
  prev : Option Int
  ended : Bool
  deriving DecidableEq, Repr, Inhabited

/-- The stream port: STCLK present, the capture, what waits to be sent, losses not yet reported per source, frames sent with
the newest first, the frame in progress, when the last LINK_RESET was decoded, whether SEQ has wrapped since. -/
structure Str where
  clk : Bool
  cap : Option Cap
  series : List Series
  lossy : List Nat
  sent : List SFrame
  cur : Option SFrame
  linkAt : Option Nat
  wrapped : Bool
  deriving DecidableEq, Repr, Inhabited

/-! ## Candle (R456 to R471) -/

/-- The wear measurements of a bridge (R457, R458, R467): losses at 1.0 pu with the switching time at which they were taken,
impedance samples likewise, the fits of the last minute (tick, V0, mean loss power), the round-trip baseline (on, off), the baselines
being taken and taken, switching time, the sums of the window under way (current magnitude, voltage loss, their squares and product) with
its samples, the predicted ones among them and whether it is disqualified, the armed thermal cycle, the wear warning given. -/
structure Wear where
  losses : List (Nat × Int)
  imps : List (Nat × Int)
  fits : List (Nat × Int × Int)
  rtBase : Nat × Nat
  taking : Option (List Int × List Int)
  base : Option (Int × Int)
  swTicks : Nat
  sumI : Nat
  sumV : Int
  sumII : Int
  sumIV : Int
  n : Nat
  pred : Nat
  spoilt : Bool
  hot : Bool
  worn : Bool
  deriving DecidableEq, Repr, Inhabited

/-- Candle: the bridges, the start of a re-plan under way, whether the next one takes a baseline, the end of the last one, an
abandoned one, energy sums per axis (motoring, generating), the warnings of R466 given, the largest parity replays of releases
(slot number, tick, count), the oscillator value stored at the last LOCKED re-plan, the start of the 1 s windows under way, the
last save of the counters. -/
structure Cdl where
  wear : List Wear
  run : Option Nat
  rebase : Bool
  lastEnd : Nat
  again : Bool
  energy : List (Int × Int)
  crossed : List Bool
  replays : List (Nat × Nat × Nat)
  oscRef : Int
  winAt : Nat
  savedAt : Nat
  deriving DecidableEq, Repr, Inhabited

/-! ## CAN controllers (R359 to R379) -/

/-- An attempt to send: the buffer (64 for the reference message of R375), its start of frame, a cancel landed in it. -/
structure Attempt where
  mb : Nat
  start : Time
  cancel : Bool
  deriving DecidableEq, Repr, Inhabited

/-- A CAN controller: when each buffer was locked, buffers whose MSG_LOST waits for a release, the attempt under way, an INIT 1
waiting for the end of the frame, an INIT 0 waiting for 11 recessive bits, command transport frames to send, and the
time-triggered schedule: start of the basic cycle, column whose window is open, the first column still to come, buffers that may not
start in the open window any more, the last reference count with how many came in sequence and when the last came, a reference
message to send; whether the receive error counter is above 127; when an INIT 1 took effect with no attempt of its own under way, for a
frame of another node that was then on the bus (R362). -/
structure Can where
  locks : List (Option Nat)
  lostWait : List Nat
  attempt : Option Attempt
  initAsk : Bool
  joinAsk : Bool
  txq : List (List Byte)
  cycleAt : Nat
  col : Option Nat
  next : Nat
  tried : List Nat
  refCount : Option Nat
  refRun : Nat
  refAt : Nat
  refTx : Option Nat
  recOver : Bool
  stopAt : Option Nat
  deriving DecidableEq, Repr, Inhabited

/-! ## The whole -/

/-- The state of the part. -/
structure State where
  pending : List Instr
  tick : Nat
  merTime : Time
  pwmTime : Time
  free : Nat
  regs : Store
  sram : Store
  outs : List Out
  hst : Hst
  flt : Faults
  sys : Sys
  gate : Gate
  pwm : Pwm
  ax : List Axis
  lan : Lan
  nv : Nv
  em : List Em
  share : List Share
  mot : Motion
  fio : Fio
  eng : List Eng
  obs : List Obs
  ai : List Analog
  mer : Mer
  lamp : Lamp
  mem : Member
  feed : Feed
  str : Str
  cdl : Cdl
  can : List Can
  deriving DecidableEq, Repr, Inhabited

/-- Reasons a step stops with a fault. -/
inductive Fault where
  /-- A rating of R480 or R481 was exceeded: what the part then does is not specified. No step of this model raises it;
  it is safe, since a stop proves nothing about the hardware. -/
  | outsideRatings
  deriving DecidableEq, Repr

/-- Reasons a command is refused by the model. -/
inductive Refusal where
  /-- The command's meaning is not modelled; raised by an arm of Dispatch.lean alone; safe. -/
  | notModelled (mnemonic : String)
  deriving DecidableEq, Repr

/-! ## The state after reset

The records of the blocks as they stand when the logic supply has risen, before the start-up sequence (R74): nothing remembered, every lane off, every list
empty; `State.reset` puts them together. A register's reset value is that of its fields (RegFields.lean), which `regs` with nothing
listed reads as. -/

/-- The interpreter with no session, nothing in flight and nothing to send. (log 5 DESIGN CHOICE) -/
def Hst.init : Hst :=
  { sessions := [], flight := [], cache := [], challenges := 0, wrong := [], lockout := [], latches := [], spiQueue := [],
    spiSent := 0, spiWaiting := [], spiBusy := false, spiHad := 0, spiIgnore := false, spiDiscard := false, spiStatus := 0,
    asm := [none, none], hdrErrors := 0, cmdErrors := 0, asmDropped := 0, keyClose := none, bootNext := false, interims := [] }

/-- No latched fault, empty logs. -/
def Faults.init : Faults :=
  { latched := [], unacked := false, alertAt := 0, log := [], nextSeq := 0, audit := [], nextAudit := 0 }

/-- A clock within its window. -/
def ClockSup.init : ClockSup := ⟨0, 0, false⟩

/-- The logic supply has risen; time 0 of R74 comes 20 ms later, where it has stayed above 17.5 V (R66). (log 5 DESIGN CHOICE) -/
def Sys.init : Sys :=
  { phase := .booting, bootAt := 0, resetPend := none, resetVia := .spi, linksUp := false, updBootsel := false, lastTrans := none, supplyAt := 4000000,
    spiRdy := false, spiIrqLow := false, faultLow := true, alertLow := false, supplyLow := false, lowAt := 0, supplyHigh := false,
    powerLost := false, swPrev := 0, swSeen := false, swRaised := none, dieHot := false, dieLimit := false,
    pwmClk := .init, merClk := .init, sysClk := .init, refClk := .init, reinit := [], debugOpen := false,
    jtagIr := .bypass, clkAt := 0, swAt := 0, dieAt := 0, scrubAt := 0, scrubWord := 0, arbAt := none, timeAt := 0, rstAt := some 6000000 }

/-- Every gate command line low, every status line open, so that it reads high (R39, R44). (log 5 DESIGN CHOICE) -/
def Gate.init : Gate :=
  { gc := 0, gs := BitVec.allOnes 48, chans := List.replicate 48 ⟨[], none, false, false, false, false⟩, offDue := List.replicate 8 none,
    railLow := false, first := none, stamps := [], chops := List.replicate 8 ⟨false, 0, [], false⟩,
    halves := List.replicate 4 ⟨false, false, 0, none, false, 0, none, none⟩, auxUv := none }

/-- A phase that is off. -/
def Phase_.init : Phase_ := ⟨.off, ⟨.off, 0, 0, 0⟩, [], 0⟩

/-- No edge placed, every bridge off. -/
def Pwm.init : Pwm :=
  { bridges := List.replicate 8 ⟨[], ⟨0, 0, 0, 0, 0⟩, 0, List.replicate 3 .init, none, 0, 0, none, false, 0, 0⟩,
    edges := [], past := [], fastOut := 0, stuck := 0, sd := List.replicate 16 ⟨[], 0⟩ }

/-- An axis with no history. -/
def Axis.init : Axis :=
  { stop := .none, rampDown := false, cause := 0, lowSince := none, gains := List.replicate 13 0, tunePend := false, samples := 0,
    lastSample := none, grid := none, peak := false, snaps := [], keMeas := false, shot := none, model := [],
    seen := ⟨0, 0, 0, 0, 0, false, 0, 0⟩, rate := 0, accel := 0, limStop := false, raw := 0, rawHeld := 0,
    lostAt := none, lostNow := false, spdI := 0, tenI := 0, idI := [0, 0], iqI := [0, 0], fw := 0, psi := 0,
    plausN := 0, residN := 0, circSince := none, act := (1, 0), slipA := 0, queued := false, progLoaded := false,
    table := [], plims := [], pgens := [], slope := 0, refWas := 0, staged := none, waits := false, left := none }

/-- A catch that has measured nothing. -/
def Catch.init : Catch := ⟨0, 0, 0, 0, 0, 0, false, 0, 0, false, none, 0, 0, none⟩

/-- An observer with no history. -/
def Obs.init : Obs :=
  { thInj := 0, wInj := 0, thEmf := 0, wEmf := 0, injWas := 0, injNow := 0, injNext := 0, lastSum := (0, 0), lastDiff := (0, 0),
    lastIq := 0, eps := 0, lastAb := (0, 0), flux := (0, 0), lossN := 0, entered := 0, relock := none, rampAt := none, search := false,
    catch_ := .init, alignT := 0, alignK := none, alignTry := 0, peakP := none, peakN := none, aligned := none,
    keRun := false, demag := 0, identWrong := false }

/-- No emergency mode. -/
def Em.init : Em :=
  { hold := false, proveFor := none, proveAt := none, proveOk := false, heldT := 0, braked := false, leaving := false, overCnt := 0,
    recSince := none, fr2 := none, modeSrc := (0, 0), rendFrom := 0, lastSp := 0 }

/-- No sharing partner known. -/
def Share.init : Share :=
  { remotes := [], used := [], absent := 0, wasFollow := false, restoreAt := none, clipSince := none }

/-- A motion engine at rest at 0. -/
def Me.init : Me :=
  { frac := 0, move := none, target := 0, vmax := 0, acc := 0, speed := 0, accel := 0, dir := false, homeI := 0, stallPos := 0,
    homeFrom := 0, gearS := 0, gearM := 0, jumps := 0, stallN := 0, lastStep := 0, restSince := 0, held := false, curFrac := 0, retry := false,
    dead := false }

/-- The motion engines at rest. -/
def Motion.init : Motion :=
  { me := [.init, .init], coils := List.replicate 3 ⟨false, 0, 0, 0, 0, 0, 0, 0, 0, false, false⟩, period := 0, periodAt := 0,
    sampleAt := 0, hiz := true }

/-- An engine with empty memories and every register zero. (log 6 DESIGN CHOICE) -/
def Eng.init : Eng :=
  { x := List.replicate 16 0, acc := [0, 0, 0, 0], z := false, n := false, v := false, rt := false, em := false, pc := 0, at_ := 0,
    loop := none, ready := 0, outAt := 0, run := none, window := [], due := [], waiting := [], hist := List.replicate 4 [],
    staged := [], inFifo := [], outFifo := [], prog := [], data := [], checking := none, dead := false }

/-- An encoder channel with no history; its open A and B lines read high (R39). (log 5 DESIGN CHOICE) -/
def Enc.init : Enc :=
  { ofs := 0, a := true, b := true, newest := none, fresh := false, refs := [], anchor := none, needFirst := false,
    reversed := false, illegal := [], illAt := none, lastDev := 0, agreed := none, ssiLast := none, ssiAt := none, ssiHeld := false, ssiBad := 0, lost := false,
    line := false, supply := false, supplyAt := 0, presetAt := none, idxTs := 0, spdAt := 0 }

/-- The feedback block with no history. (log 6 DESIGN CHOICE) -/
def Feed.init : Feed :=
  { enc := List.replicate 4 .init, cmp := List.replicate 4 ⟨[], none⟩, sync := [false, false], pulses := [], sector := none, sectHeld := false, lost := [],
    due := [], fired := [], firedAt := 0 }

/-- The field side's settings before any frame: the reset values of the registers they come from. (log 5 DESIGN CHOICE) -/
def FieldSet.init : FieldSet := ⟨0, 0x064, List.replicate 3 0x33333333, 0⟩

/-- Every field output off and safe, no frame of the barrier link seen. (log 5 DESIGN CHOICE) -/
def Fio.init : Fio :=
  { filts := List.replicate 24 ⟨some false, 0, some false, true⟩, sent := none, back := none, cmd := 0, cmpLv := 0, safe := 0xFFFF,
    safeLv := 0, heldOff := 0, latched := 0, newLatch := 0, wake := 0, restore := 0, vfLow := false, high := 0, event := false,
    fieldAt := 0, logicAt := 0, silent := false, lost := false, set := .init, sampledAt := 0, outAt := 0, inAt := 0 }

/-- Lantern with no parameters and no history; STO_ACTIVE of LAN_STAT stands at its reset value. (log 5 DESIGN CHOICE) -/
def Lan.init : Lan :=
  { par := [], configBad := false, diffSince := none, bothSince := false, ss1 := none, slsSince := none,
    ax := List.replicate 4 ⟨[], [], none, false, false, false⟩, conns := List.replicate 8 ⟨false, 0, 0, 0, 0, 0, none, false⟩,
    vdcLow := List.replicate 8 0, imagOk := none, sbcPin := [false, false], relAt := 0, sbcTestAt := 0, latentA := none, latentB := none,
    mismatch := none, resync := [false, false], loading := none, loadAt := 0, doneWait := false,
    updAt := 0, cmpAt := 0, digestAt := [0, 0] }

/-- Meridian with no measurement. (log 5 DESIGN CHOICE) -/
def Mer.init : Mer :=
  { good := 0, bad := 0, far := 0, last := 0, byPps := false, freqs := [], held := 0, set := none, ppsOff := 0, ppsSec := 0,
    ptp := ⟨none, none, none, none, 0, 0⟩, best := none, hour := [(0, 0)] }

/-- The Timed Action Table empty. -/
def Lamp.init : Lamp := { tat := [], done := [], late := [], lateAt := 0, posters := [], holds := List.replicate 4 (none, none) }

/-- A member of no domain. -/
def Member.init : Member := { spare := false, peers := [], join := none, sent := 0, beaconAt := 0, ring := [] }

/-- The NV store and the flash banks as nothing has written them. (log 5 DESIGN CHOICE; log 6 DESIGN CHOICE) -/
def Nv.init : Nv :=
  { mem := [], keys := [none, none, none], kept := [], bankA := [], bankB := [], loadNext := none, verified := [false, false], verifying := none, bootB := false,
    quarantine := false, role := none, badSlots := [] }

/-- The stream port with nothing to send. -/
def Str.init : Str := { clk := false, cap := none, series := [], lossy := [], sent := [], cur := none, linkAt := none, wrapped := false }

/-- Candle with no measurement. -/
def Cdl.init : Cdl :=
  { wear := List.replicate 8 ⟨[], [], [], (0, 0), none, none, 0, 0, 0, 0, 0, 0, 0, false, false, false⟩, run := none, rebase := false, lastEnd := 0,
    again := false, energy := List.replicate 4 (0, 0), crossed := [], replays := [], oscRef := 0, winAt := 0, savedAt := 0 }

/-- A CAN controller with no buffer locked and nothing to send. (log 6 DESIGN CHOICE) -/
def Can.init : Can :=
  { locks := List.replicate 64 none, lostWait := [], attempt := none, initAsk := false, joinAsk := false, txq := [], cycleAt := 0,
    col := none, next := 0, tried := [], refCount := none, refRun := 0, refAt := 0, refTx := none, recOver := false, stopAt := none }

/-- The part right after reset: the logic supply has just risen, Meridian time is 0 (R499), the device in BOOT with every gate output low and every
register at its reset value (R68, R120); no command waits. (log 5 DESIGN CHOICE; log 6 DESIGN CHOICE) -/
def State.reset : State :=
  { pending := [], tick := 0, merTime := 0, pwmTime := 0, free := 0, regs := [], sram := [], outs := [], hst := .init, flt := .init,
    sys := .init, gate := .init, pwm := .init, ax := List.replicate 4 .init, lan := .init, nv := .init,
    em := List.replicate 4 .init, share := List.replicate 4 .init, mot := .init, fio := .init, eng := List.replicate 10 .init,
    obs := List.replicate 4 .init, ai := List.replicate 8 ⟨0, false, 0⟩, mer := .init, lamp := .init, mem := .init, feed := .init,
    str := .init, cdl := .init, can := [.init, .init] }

end Sys2Proof.Machine
end

