-- ==== Sys2Proof/Machine/Ops.lean ====
section
/-!
DEFINITION. Machine/Ops.lean: the named operations over registers and fields, over time, and over free values.
-/

namespace Sys2Proof.Machine

/-- The reset value of a register: its fields' reset values together (R120 and the register tables); the serial number is
fixed at manufacture. -/
def RegId.reset (r : RegId) : Word :=
  if r = .SYS_SERIAL_LO then Config.serialLo
  else if r = .SYS_SERIAL_HI then Config.serialHi
  else r.fields.foldl (fun w f => putBits w f.hi f.lo f.rst) 0

/-- The place of a register in State.regs: its number and the flat index of its copy. -/
def regCode (r : RegId) (i : Nat) : Nat := r.ctorIdx * 65536 + i

/-- What a register that nothing has written reads as: its reset value. (log 6 DESIGN CHOICE) -/
def regDefault (k : Nat) : Word := (RegId.ofNat (k / 65536)).reset

namespace State

/-- The word a register holds. -/
def rd (s : State) (r : RegId) (i : Nat := 0) : Word := Store.get regDefault s.regs (regCode r i)

/-- The state with a register's word replaced. -/
def wr (s : State) (r : RegId) (w : Word) (i : Nat := 0) : State :=
  { s with regs := Store.set regDefault s.regs (regCode r i) w }

/-- The value of a field. -/
def fld (s : State) (f : Fld) (i : Nat := 0) : Nat := bitsOf (s.rd f.reg i) f.hi f.lo

/-- The field is not zero. -/
def on (s : State) (f : Fld) (i : Nat := 0) : Bool := s.fld f i != 0

/-- The state with a field replaced. -/
def setF (s : State) (f : Fld) (v : Nat) (i : Nat := 0) : State :=
  s.wr f.reg (putBits (s.rd f.reg i) f.hi f.lo v) i

/-- The field set to all ones (a flag raised). -/
def raiseF (s : State) (f : Fld) (i : Nat := 0) : State := s.setF f (2 ^ (f.hi + 1 - f.lo) - 1) i

/-- A bit k within a field. -/
def fbit (s : State) (f : Fld) (k : Nat) (i : Nat := 0) : Bool := (s.fld f i).testBit k

/-- The state with bit k of a field set or cleared. -/
def setBit (s : State) (f : Fld) (k : Nat) (v : Bool) (i : Nat := 0) : State :=
  s.wr f.reg (putBits (s.rd f.reg i) (f.lo + k) (f.lo + k) (b2n v)) i

/-- A counter field counts up by one and saturates (R119). -/
def bump (s : State) (f : Fld) (i : Nat := 0) : State :=
  s.setF f (min (s.fld f i + 1) (2 ^ (f.hi + 1 - f.lo) - 1)) i

/-- A register read as a signed number (R4). -/
def sg (s : State) (r : RegId) (i : Nat := 0) : Int := (s.rd r i).toInt

/-- A register set to an integer, saturated (R4). -/
def wrSat (s : State) (r : RegId) (v : Int) (i : Nat := 0) : State := s.wr r (satW v) i

/-- Time passes: ticks, and both copies of Meridian time by 5 ns a tick (R7, R18). While MERIDIAN is lost its counter
stands still (R498); while PWM is lost the copy stands still. (log 1 DESIGN CHOICE; log 3 DESIGN CHOICE; log 16 DEDUCED) -/
def elapse (s : State) (n : Nat) : State :=
  { s with
    tick := s.tick + n
    merTime := if s.sys.merClk.lost then s.merTime else s.merTime + BitVec.ofNat 64 (5 * n)
    pwmTime := if s.sys.pwmClk.lost then s.pwmTime else s.pwmTime + BitVec.ofNat 64 (5 * n) }

/-- The first whole multiple of 5 ns not before a Meridian time (R18). -/
def wholeTick (t : Time) : Time := BitVec.ofNat 64 ((t.toNat + 4) / 5 * 5)

/-- Time passes to a tick, if it still lies ahead. (log 2 DESIGN CHOICE) -/
def elapseTo (s : State) (t : Nat) : State := s.elapse (t - s.tick)

/-- Time passes by a number of ticks, but at least to a tick before which the hardware does not act. (log 2 DESIGN CHOICE) -/
def elapseFrom (s : State) (dt t : Nat) : State := s.elapseTo (max (s.tick + dt) t)

/-- The barrier link, the Ethernet PHYs and CAN have been started (R73 to R75): BOOT has run its configuration step. -/
def linked (s : State) : Bool := s.sys.phase == .up && s.sys.linksUp

/-- Meridian time as the part reads it: the PWM copy while the MERIDIAN clock is lost (R498). -/
def meridian (s : State) : Time := if s.sys.merClk.lost then s.pwmTime else s.merTime

/-- A fresh free bit. -/
def freeBit (s : State) : Bool × State := (Config.freeBit s.free, { s with free := s.free + 1 })

/-- A fresh free word. -/
def freeWord (s : State) : Word × State := (Config.freeWord s.free, { s with free := s.free + 1 })

/-- A fresh free number below n (zero when n is zero). (log 10 DESIGN CHOICE) -/
def freeBelow (s : State) (n : Nat) : Nat × State := (Config.freeNat s.free % n, { s with free := s.free + 1 })

/-- A free integer within ±b. (log 10 DESIGN CHOICE) -/
def freeErr (s : State) (b : Nat) : Int × State :=
  (clampI (-(b : Int)) b (Config.freeInt s.free), { s with free := s.free + 1 })

/-- The quotient n / d rounded to one of its two neighbours, which one being free where the spec states no rounding; exact
when d divides n. (log 10 DESIGN CHOICE) -/
def quot (s : State) (n : Int) (d : Int) : Int × State :=
  if d = 0 then (Config.freeInt s.free, { s with free := s.free + 1 })
  else if n % d = 0 then (n / d, s)
  else (n / d + (if Config.freeBit s.free then 1 else 0), { s with free := s.free + 1 })

/-- A message leaves the part. (log 9 DESIGN CHOICE) -/
def emit (s : State) (o : Out) : State := { s with outs := o :: s.outs }

/-- The axis record n. -/
def axis (s : State) (n : Nat) : Axis := nth s.ax n

/-- The state with axis record n changed. -/
def updAxis (s : State) (n : Nat) (f : Axis → Axis) : State := { s with ax := upd s.ax n f }

/-- Motion engine n. -/
def me (s : State) (n : Nat) : Me := nth s.mot.me n

/-- Motion engine n changes. -/
def updMe (s : State) (n : Nat) (f : Me → Me) : State := { s with mot := { s.mot with me := upd s.mot.me n f } }

/-- Bridge n. -/
def bridge (s : State) (n : Nat) : Bridge := nth s.pwm.bridges n

/-- The state with bridge n changed. -/
def updBridge (s : State) (n : Nat) (f : Bridge → Bridge) : State :=
  { s with pwm := { s.pwm with bridges := upd s.pwm.bridges n f } }

/-- The state with gate channel g changed. -/
def updChan (s : State) (g : Nat) (f : Chan → Chan) : State :=
  { s with gate := { s.gate with chans := upd s.gate.chans g f } }

/-- Apply f for each number below n, in rising order. -/
def forN (s : State) (n : Nat) (f : Nat → State → State) : State := (upTo n).foldl (fun s k => f k s) s

/-- Apply f for each element of a list, in order. -/
def forL {α : Type} (s : State) (l : List α) (f : α → State → State) : State := l.foldl (fun s k => f k s) s

/-- f where a condition holds. -/
def when_ (s : State) (c : Bool) (f : State → State) : State := if c then f s else s

end State

/-- The end of a command: the state it leaves. -/
abbrev done (s : State) : Host.Outcome State Fault Refusal := .next s

/-! ## Device and axis states (R8, R9, R98, R234) -/

/-- Device state codes of R98. -/
abbrev dBOOT : Nat := 0
abbrev dSAFE : Nat := 1
abbrev dREADY : Nat := 2
abbrev dARMED : Nat := 3
abbrev dRUN : Nat := 4
abbrev dFAULT : Nat := 5
abbrev dQUARANTINE : Nat := 6
abbrev dUPDATE : Nat := 7

/-- Axis state codes of AX_STAT (R234). -/
abbrev aDISABLED : Nat := 0
abbrev aCATCH : Nat := 1
abbrev aALIGN : Nat := 2
abbrev aRUN : Nat := 3
abbrev aSTOPPING : Nat := 4
abbrev aEMERGENCY : Nat := 5
abbrev aFAULTED : Nat := 6

namespace State

/-- The device state (R8). -/
def dev (s : State) : Nat := s.fld F.SYS_STATE_STATE

/-- The state of axis n (R9). -/
def axSt (s : State) (n : Nat) : Nat := s.fld F.AX_STAT_STATE n

/-- Halted by FR5 (R10). -/
def halted (s : State) : Bool := s.on F.SYS_STATE_HALTED

/-- A function instance is being reinitialised (R475). (log 26 DEDUCED) -/
def reiniting (s : State) (f i : Nat) : Bool := s.sys.reinit.any fun r => r.func == f && r.inst == i

/-- Every axis is DISABLED. -/
def allDisabled (s : State) : Bool := (upTo 4).all fun a => s.axSt a == aDISABLED

/-- STO is in force (R421). -/
def stoOn (s : State) : Bool := s.on F.LAN_STAT_STO_ACTIVE

/-- The envelope is in force (R413). -/
def envValid (s : State) : Bool := s.on F.LAN_STAT_ENV_VALID

/-- The accepted switch word (R55, R59). -/
def sw (s : State) : Nat := s.fld F.SYS_SW1_ACCEPTED

/-- PROFILE of the switch word. -/
def profile (s : State) : Nat := s.sw % 16

/-- The bridges that axis a owns (R152, R153), in index order. -/
def bridgesOf (s : State) (a : Nat) : List Nat :=
  (upTo 8).filter fun b => s.on F.BR_CFG_TYPE b && s.fld F.BR_CFG_AXIS b == a

/-- The axis that owns bridge b, 7 where the bridge has no TYPE. -/
def ownerOf (s : State) (b : Nat) : Nat := if s.on F.BR_CFG_TYPE b then s.fld F.BR_CFG_AXIS b else 7

/-- A bridge is switching (R177). -/
def running (s : State) (b : Nat) : Bool := s.on F.BR_STAT_RUNNING b

/-- The channel in slot k of bridge b (R152). -/
def slot (s : State) (b k : Nat) : Nat :=
  let w := s.rd (if k < 4 then .BR_MAP0 else if k < 8 then .BR_MAP1 else .BR_MAP2) b
  bitsOf w (8 * (k % 4) + 5) (8 * (k % 4))

/-- The number of slots a bridge's TYPE uses (R152). -/
def slotCount (s : State) (b : Nat) : Nat :=
  match s.fld F.BR_CFG_TYPE b with | 1 => 6 | 2 => 12 | _ => 0

/-- The channels of a bridge, in slot order; unused slots are left out. -/
def chansOf (s : State) (b : Nat) : List Nat := ((upTo (s.slotCount b)).map (s.slot b)).filter (· < 48)

/-- The choppers that serve a bridge (R155). -/
def choppersOf (s : State) (b : Nat) : List Nat :=
  (upTo 8).filter fun k => s.on F.CHOP_CFG_ASSIGNED k && s.fld F.CHOP_CFG_BRIDGE k == b

/-- Every channel assigned to a bridge or a chopper (R49). -/
def assigned (s : State) (g : Nat) : Bool :=
  ((upTo 8).any fun b => (s.chansOf b).contains g) ||
  ((upTo 8).any fun k => s.on F.CHOP_CFG_ASSIGNED k && s.fld F.CHOP_CFG_CH k == g)

/-- The bridges whose fault a channel's fault is: those that name it and those served by a chopper that names it (R291). -/
def bridgesNaming (s : State) (g : Nat) : List Nat :=
  (upTo 8).filter fun b => (s.chansOf b).contains g || ((s.choppersOf b).any fun k => s.fld F.CHOP_CFG_CH k == g)

end State

end Sys2Proof.Machine
end

