-- ==== Sys2Proof/Machine/AddrMap.lean ====
section
/-!
DEFINITION. Machine/AddrMap.lean: which register, table word or NV word an address names (R32, R110, R113), and a register's
value without any effect of reading it.
-/

namespace Sys2Proof.Machine

/-- What an aligned address names. -/
inductive Place where
  | reg (r : RegId) (i : Nat)
  | tat (w : Nat)
  | nv (w : Nat)
  deriving DecidableEq, Repr, Inhabited

/-- The flat index of a byte offset over the dimensions of a register, if it falls on a copy. -/
def flatIndex : List (Nat × Nat) → Nat → Nat → Option Nat
  | [], off, acc => if off = 0 then some acc else none
  | (n, st) :: ds, off, acc =>
    let k := off / st
    if k < n then flatIndex ds (off - k * st) (acc * n + k) else none

/-- The copy of a register at a byte address. -/
def RegId.at? (r : RegId) (a : Nat) : Option Nat := if r.base ≤ a then flatIndex r.dims (a - r.base) 0 else none

/-- The register at a base address. OE0 and OE1 have the layout of the loop engines (R205) and stand in the span of OBSERVER alone:
the span of LOOP ends with LE7 (R110). -/
def regAt (a : Nat) : Option (RegId × Nat) :=
  if 0x78000 ≤ a ∧ a < 0x7A000 then none
  else
    let oe := 0x80000 ≤ a && a < 0x82000
    let a := if oe then a - 0x80000 + 0x78000 else a
    (blockRegs (a / 65536)).findSome? fun r =>
      match r.at? a with
      | some i => some (r, i)
      | none => none

/-- What a base address names, apart from the alias bits; none where nothing is mapped or the address is not aligned. -/
def placeAt (a : Nat) : Option Place :=
  if a % 4 ≠ 0 then none
  else if 0x100000 ≤ a ∧ a < 0x200000 then some (.nv ((a - 0x100000) / 4))
  else if 0x200000 ≤ a ∧ a < 0x210000 then some (.tat ((a - 0x200000) / 4))
  else (regAt a).map fun p => .reg p.1 p.2

/-- The alias kind of an address (R32). -/
def aliasOf (a : Word) : WKind :=
  match a.getLsbD 30, a.getLsbD 31 with
  | false, false => .plain | true, false => .set | false, true => .clr | true, true => .both

/-- The base address of an address. -/
def baseOf (a : Word) : Nat := a.toNat % 2 ^ 30

/-- The address of a base address by a kind of access (R32): the one that a report of a refusal names. -/
def aliasAddr (k : WKind) (base : Nat) : Nat :=
  match k with
  | .plain => base | .set => base + 2 ^ 30 | .clr => base + 2 ^ 31 | .both => base + 2 ^ 30 + 2 ^ 31

/-- The first address of a register's copy, for reports. -/
def RegId.addr (r : RegId) (i : Nat) : Nat :=
  let rec go : List (Nat × Nat) → Nat × Nat
    | [] => (0, i)
    | (n, st) :: ds => let q := go ds; (q.1 + (q.2 % n) * st, q.2 / n)
  let a := r.base + (go r.dims).1
  if 0x78000 ≤ a ∧ a < 0x7A000 then a - 0x78000 + 0x80000 else a

namespace State

/-- A register's value as a reader finds it, before any effect of the read: the live time, the timed action table's head,
and write-only fields as 0. -/
def view (s : State) (r : RegId) (i : Nat) : Word :=
  match r with
  | .MER_TIME_LO => lo32 s.meridian
  | .MER_TIME_HI => hi32 s.meridian
  | _ => r.fields.foldl (fun w f => if f.acc == .wo then putBits w f.hi f.lo 0 else w) (s.rd r i)

/-- The register word at an address, 0 where none is. -/
def peek (s : State) (a : Word) : Word :=
  match placeAt (baseOf a) with
  | some (.reg r i) => s.view r i
  | some (.tat w) => Store.get zeroMem s.lamp.tat w
  | some (.nv w) => Store.get zeroMem s.nv.mem w
  | none => 0

end State

end Sys2Proof.Machine
end

