-- ==== Sys2Proof/Machine/Operands.lean ====
section
/-!
DEFINITION. Machine/Operands.lean: the fixed-point arithmetic of the engines and of the axis block: saturation to a width,
rounding shifts, pu24 products, quotients and roots, and the functions whose result the spec fixes only to within an error
(R4, R5, R182, R183, R186, R187).
-/

namespace Sys2Proof.Machine

/-- The nearest value of a signed width of n bits, and whether the value had to change (R182). -/
def satTo (n : Nat) (v : Int) : Int × Bool :=
  let m : Int := 2 ^ (n - 1)
  if m ≤ v then (m - 1, true) else if v < -m then (-m, true) else (v, false)

/-- round(y >> s) of R183: a tie goes towards +∞. -/
def roundShift (y : Int) (s : Nat) : Int := if s = 0 then y else (y + 2 ^ (s - 1)) / 2 ^ s

/-- The exact pu24 product, rounded (R186 MUL). -/
def pu24Mul (a b : Int) : Int := roundShift (a * b) 24

/-- n / d rounded to nearest, a tie towards +∞; d must not be zero. -/
def roundDiv (n d : Int) : Int := if d < 0 then (2 * -n - d) / (2 * -d) else (2 * n + d) / (2 * d)

/-- The integer square root by bits, from bit k down: the largest r with r² ≤ n that extends acc. -/
def isqrtFrom : Nat → Nat → Nat → Nat
  | 0, _, acc => acc
  | k + 1, n, acc =>
    let t := acc + 2 ^ k
    isqrtFrom k n (if t * t ≤ n then t else acc)

/-- ⌊√n⌋ for n below 2^80. -/
def isqrt (n : Nat) : Nat := isqrtFrom 40 n 0

/-- π scaled by 2^64, cut off. -/
def pi64 : Int := 57952155664616982739

/-- A value between two bounds that the spec leaves open within them. -/
def within (lo hi : Int) (free : Int) : Int := clampI lo hi free

/-- Taylor terms of sine (odd) or cosine (even) at an angle scaled by 2^64: the sum of n further terms after one of index
k and value t. -/
def taylor : Nat → Int → Int → Nat → Int
  | 0, _, _, _ => 0
  | n + 1, x2, t, k => t + taylor n x2 (-(t * x2 / 2 ^ 64) / ((k + 1) * (k + 2))) (k + 2)

/-- sin of a radian angle in the first quadrant, scaled by 2^64. -/
def sin64 (x : Int) : Int := taylor 14 (x * x / 2 ^ 64) x 1

/-- cos of a radian angle in the first quadrant, scaled by 2^64. -/
def cos64 (x : Int) : Int := taylor 14 (x * x / 2 ^ 64) (2 ^ 64) 0

/-- sin of an angle in the units of R5, scaled by 2^64. -/
def sinTurn (a : Nat) : Int :=
  let q := a / 2 ^ 30 % 4
  let x : Int := (a % 2 ^ 30 : Nat) * pi64 / 2 ^ 31
  match q with
  | 0 => sin64 x
  | 1 => cos64 x
  | 2 => -sin64 x
  | _ => -cos64 x

/-- cos of an angle in the units of R5, scaled by 2^64. -/
def cosTurn (a : Nat) : Int := sinTurn ((a + 2 ^ 30) % 2 ^ 32)

/-- Sine in pu24, open within 2 LSB of the exact value (R186). (log 12 DEDUCED) -/
def sinPu (a : Word) : Int :=
  let e := sinTurn a.toNat
  within (-((-e + 2 * 2 ^ 40) / 2 ^ 40)) ((e + 2 * 2 ^ 40) / 2 ^ 40) (Config.sine a)

/-- Cosine in pu24, open within 2 LSB of the exact value (R186). (log 12 DEDUCED) -/
def cosPu (a : Word) : Int :=
  let e := cosTurn a.toNat
  within (-((-e + 2 * 2 ^ 40) / 2 ^ 40)) ((e + 2 * 2 ^ 40) / 2 ^ 40) (Config.cosine a)

/-- The series of the arc tangent: n further terms at odd index k with power p, all scaled by 2^64. -/
def atanSeries : Nat → Int → Int → Nat → Int
  | 0, _, _, _ => 0
  | n + 1, u2, p, k => p / k + atanSeries n u2 (-(p * u2 / 2 ^ 64)) (k + 2)

/-- Arc tangent of n / d with 0 ≤ n ≤ d, d > 0, in radians scaled by 2^64. -/
def atan64 (n d : Int) : Int :=
  if 5 * n ≤ 2 * d then
    let u := n * 2 ^ 64 / d
    atanSeries 26 (u * u / 2 ^ 64) u 1
  else
    let u := (n - d) * 2 ^ 64 / (n + d)
    pi64 / 4 + atanSeries 26 (u * u / 2 ^ 64) u 1

/-- The angle of the vector (x, y) is a whole number of units: it lies on an axis or on a diagonal. -/
def atanWhole (y x : Int) : Bool := x == 0 || y == 0 || x.natAbs == y.natAbs

/-- The angle of the vector (x, y) in the units of R5, 0 for (0, 0), rounded down to a whole unit. -/
def atanTurn (y x : Int) : Int :=
  let ax := x.natAbs
  let ay := y.natAbs
  let less (z : Int) : Int := if atanWhole y x then z else z - 1
  let q : Int :=
    if ay = 0 then 0
    else if ay = ax then 2 ^ 29
    else if ax = 0 then 2 ^ 30
    else if ay < ax then atan64 ay ax * 2 ^ 31 / pi64
    else less (2 ^ 30 - atan64 ax ay * 2 ^ 31 / pi64)
  let h := if x < 0 then less (2 ^ 31 - q) else q
  if y < 0 then less (-h) else h

/-- ATAN2, any value within 2^-20 turn, 4,096 units, of the exact one; 0 for (0, 0) (R186, R187). (log 12 DEDUCED) -/
def atan2Pu (y x : Word) : Word :=
  if x = 0 ∧ y = 0 then 0
  else
    let low := if atanWhole y.toInt x.toInt then -4096 else -4095
    wi (atanTurn y.toInt x.toInt + within low 4096 (Config.arcErr y x))

/-- The quotient of DIV before saturation, and whether the divisor is zero (R186, R187). -/
def divPu (a b : Int) : Int × Bool :=
  if b = 0 then (if 0 ≤ a then satMax else satMin, true) else (roundDiv (a * 2 ^ 24) b, false)

/-- The pu24 root of SQRT and whether the operand was negative; which neighbour of an inexact root is given is open, equal
operands giving equal results (R186, R187). (log 12 DEDUCED) -/
def sqrtPu (a : Word) : Int × Bool :=
  if a.toInt < 0 then (0, true)
  else
    let n := a.toNat * 2 ^ 24
    let r := isqrt n
    ((if r * r = n then r else if Config.sqrtUp a then r + 1 else r), false)

/-- The pu24 magnitude √(a² + b²), rounded down. -/
def hypotPu (a b : Int) : Int := isqrt ((a * a + b * b).toNat)

end Sys2Proof.Machine
end

