-- ==== Sys2Proof/Machine/AxisBase.lean ====
section
/-!
DEFINITION. Machine/AxisBase.lean: what every part of an axis reads: its gains, its motor and its angle, the modes in force, and what the
speed loop regulates to (R206, R211 to R214, R220, R223, R226, R267, R279 to R281).
-/

namespace Sys2Proof.Machine

/-- 1.0 in pu24 (R4). -/
abbrev one24 : Int := 16777216

namespace State

/-! ## Gains (R226) -/

/-- Numbers of the gains in use: the order of AX_KP_ID to AX_KI_FW, then AX_SH_KS. -/
abbrev gKpId : Nat := 0
abbrev gKiId : Nat := 1
abbrev gKpIq : Nat := 2
abbrev gKiIq : Nat := 3
abbrev gKpSpd : Nat := 4
abbrev gKiSpd : Nat := 5
abbrev gKpPos : Nat := 6
abbrev gKpTen : Nat := 7
abbrev gKiTen : Nat := 8
abbrev gKpCirc : Nat := 9
abbrev gKiCirc : Nat := 10
abbrev gKiFw : Nat := 11
abbrev gShKs : Nat := 12

/-- The registers of the shadowed gains in that order. -/
def gainRegs : List RegId :=
  [.AX_KP_ID, .AX_KI_ID, .AX_KP_IQ, .AX_KI_IQ, .AX_KP_SPD, .AX_KI_SPD, .AX_KP_POS, .AX_KP_TEN, .AX_KI_TEN, .AX_KP_CIRC,
   .AX_KI_CIRC, .AX_KI_FW, .AX_SH_KS]

/-- The mantissa and the shift of a g27 value (R226). -/
def g27 (w : Word) : Int × Nat := ((w.truncate 27 : BitVec 27).toInt, bitsOf w 31 27)

/-- A g27 value times an integer, rounded to a neighbour (the rounding is open). -/
def gmul (s : State) (w : Word) (v : Int) : Int × State := s.quot ((g27 w).1 * v) (2 ^ (g27 w).2)

/-- The gain k in use times an integer. -/
def gain (s : State) (a k : Nat) (v : Int) : Int × State := s.gmul (nth (s.axis a).gains k) v

/-- A pu24 product, rounded to a neighbour. -/
def pmul (s : State) (a b : Int) : Int × State := s.quot (a * b) one24

/-! ## The axis's motor and angle -/

/-- The motor is a PMSM; an induction machine. -/
def pmsm (s : State) (a : Nat) : Bool := s.fld F.AX_CFG_MOTOR a == 1
def induction (s : State) (a : Nat) : Bool := s.fld F.AX_CFG_MOTOR a == 2

/-- The feedback channel of the axis. -/
def encOf (s : State) (a : Nat) : Nat := s.fld F.AX_CFG_ENC a

/-- The axis's feedback channel delivers feedback. -/
def encValid (s : State) (a : Nat) : Bool := s.on F.EN_STAT_VALID (s.encOf a)

/-- The observer supplies angle and speed (R235). -/
def onObserver (s : State) (a : Nat) : Bool := s.fld F.AX_CFG_ANGLE_SRC a == 1 || s.on F.AX_EM_STAT_SENSORLESS a

/-- The rotor angle is known (R211): from the observer once it is locked, from the sectors under ANGLE_SRC 2, else from a
referenced encoder. -/
def angleKnown (s : State) (a : Nat) : Bool :=
  if s.onObserver a then s.on F.OBS_STAT_LOCKED a
  else s.on F.EN_STAT_REFERENCED (s.encOf a) || (s.fld F.AX_CFG_ANGLE_SRC a == 2 && s.on F.H_CFG_SECT_EN)

/-- The encoder's plausibility limit, an angle (R225). -/
def plausAng (s : State) (a : Nat) : Nat := (s.rd .AX_PLAUS_ANG a).toNat

/-- A speed in pu as an electrical one in pu of ω_b (R206): on an induction machine 1.0 pu is the rated mechanical speed. -/
def elecW (s : State) (a : Nat) (w : Int) : Int :=
  let f : Int := 6 * s.fld F.AX_BASE_F_VALUE a
  if !s.induction a || f = 0 then w else w * s.fld F.AX_POLES_PP a * s.fld F.AX_BASE_N_VALUE a / f

/-- An electrical speed in pu of ω_b as a speed in pu (R206). -/
def speedOf (s : State) (a : Nat) (w : Int) : Int × State :=
  if !s.induction a then (w, s)
  else
    let (v, s) := s.quot (w * (6 * s.fld F.AX_BASE_F_VALUE a)) (s.fld F.AX_POLES_PP a * s.fld F.AX_BASE_N_VALUE a)
    (satI v, s)

/-- The observer record of axis a. -/
def ob (s : State) (a : Nat) : Obs := nth s.obs a
def updOb (s : State) (a : Nat) (f : Obs → Obs) : State := { s with obs := upd s.obs a f }

/-- The emergency record of axis a. -/
def emr (s : State) (a : Nat) : Em := nth s.em a
def updEm (s : State) (a : Nat) (f : Em → Em) : State := { s with em := upd s.em a f }

/-- A mode of R271 is active on the axis. -/
def emAny (s : State) (a : Nat) : Bool :=
  s.on F.AX_EM_STAT_OPMODE a || s.on F.AX_EM_STAT_LIMP a || s.on F.AX_EM_STAT_SENSORLESS a

/-- The envelope names mode m for the axis (R272). -/
def emAdmitted (s : State) (a m : Nat) : Bool := (s.fld F.AX_EM_ADMIT_MODES a).testBit (m - 1)

/-- |AX_SPEED| is below 0.01 pu. -/
def atRest (s : State) (a : Nat) : Bool := 100 * (s.sg .AX_SPEED a).natAbs < 2 ^ 24

/-! ## Modes (R212, R223, R279 to R281) -/

/-- The axis ramps to rest: STOPPING, or FAULTED by an FR3 (R227, R228). -/
def stopping (s : State) (a : Nat) : Bool := s.axSt a == aSTOPPING || (s.axSt a == aFAULTED && (s.axis a).rampDown)

/-- The axis regulates: its set-points, torque reference and loops act. -/
def regulates (s : State) (a : Nat) : Bool := s.axSt a == aRUN || s.axSt a == aEMERGENCY || s.stopping a

/-- The operating mode of R271 in force, 0 for none. -/
def opMode (s : State) (a : Nat) : Nat := if s.axSt a == aEMERGENCY then s.fld F.AX_EM_STAT_OPMODE a else 0

/-- An operating mode that takes the speed to zero: EM-HOLD, or EM-LOWER on its way out (R279, R280, R282). -/
def emStill (s : State) (a : Nat) : Bool := s.opMode a == 5 || (s.opMode a == 4 && (s.emr a).leaving)

/-- The MODE whose set-point the axis takes (R212): speed in a stop, in EM-HOLD and at the exit of EM-LOWER, tension in EM-RENDER. -/
def setMode (s : State) (a : Nat) : Nat :=
  if s.stopping a || s.emStill a then 1 else if s.opMode a == 6 then 3 else (s.axis a).act.1

/-- The MODE that acts: speed too while a limit switch stops the axis (R223). -/
def modeOf (s : State) (a : Nat) : Nat := if (s.axis a).limStop then 1 else s.setMode a

/-- A value limited in magnitude. -/
def limitTo (m v : Int) : Int := clampI (-(m.natAbs : Int)) m.natAbs v

/-- A speed limit of MODE 2: AX_RAMP_VMAX, within AX_EM_VLIM in EMERGENCY. -/
def speedLimit (s : State) (a : Nat) : Int :=
  let v : Int := (s.sg .AX_RAMP_VMAX a).natAbs
  if s.axSt a == aEMERGENCY then min v (s.sg .AX_EM_VLIM a).natAbs else v

/-- The speeds between which the tension loop of MODE 3 acts: within AX_TEN_VLIM; in EM-RENDER from standstill to AX_EM_VLIM in the direction
that pays out, so that it never hauls (R212, R281). (log 57 DEDUCED) -/
def tensionBand (s : State) (a : Nat) : Int × Int :=
  if s.opMode a == 6 then
    let v : Int := (s.sg .AX_EM_VLIM a).natAbs
    if s.on F.AX_EM_CFG_LOWER_DIR a then (0, v) else (-v, 0)
  else
    let v : Int := (s.sg .AX_TEN_VLIM a).natAbs
    (-v, v)

/-- What the speed PI regulates to (R212, R267): the set-point less the droop of the torque given, the limited sum of the position loop, or
the speed limit of the tension loop. -/
def speedTarget (s : State) (a : Nat) (ref : Int) : Int × State :=
  let sp := s.sg .AX_SP_ACTIVE a
  match s.modeOf a with
  | 2 =>
    let (p, s) := s.gain a gKpPos (sp - (s.axis a).seen.pos.toInt)
    (limitTo (s.speedLimit a) (p + (s.axis a).rate), s)
  | 3 => (if s.sg .AX_SPEED a < (s.tensionBand a).1 then (s.tensionBand a).1 else (s.tensionBand a).2, s)
  | _ =>
    let (d, s) := if s.on F.AX_SH_STAT_DROOP a then s.pmul (s.sg .AX_SH_DROOP a) ref else (0, s)
    (sp - d, s)

/-- Line tension (R220) as it is now. -/
def tensionNow (s : State) (a : Nat) : Int × State :=
  if s.on F.AX_TEN_CFG_EST a then s.pmul (s.sg .AX_T_LOAD a) (s.sg .AX_TEN_K a)
  else (s.sg .AI_VALUE (s.fld F.AX_TEN_CFG_AI a), s)

/-- The integrators of the loops are preset so that the output of each in the acting mode equals the present AX_T_REF (R214); AX_T_OUT is
that output while the standard programs run. -/
def presetPi (s : State) (a : Nat) : State :=
  let t := s.sg .AX_T_REF a
  let (v, s) := s.speedTarget a t
  let (p, s) := s.gain a gKpSpd (v - s.sg .AX_SPEED a)
  let (q, s) := s.gain a gKpTen (s.sg .AX_SP_ACTIVE a - (s.axis a).seen.ten)
  let s := s.updAxis a fun x => { x with spdI := satI (t - p), tenI := satI (t - q) }
  if s.on F.AX_CFG_PROG a then s.wr .AX_T_OUT (wi t) a else s

/-- The MODE that acts was `was`. Where another one acts now, AX_SP_ACTIVE goes on from the present torque, speed, position or tension, at the
rate of a speed that goes on; the loops are preset (R214, R223, R275, R279 to R281). (log 57 DEDUCED) -/
def reaim (s : State) (a was : Nat) : State :=
  let m := s.modeOf a
  if m == was then s.presetPi a
  else
    let x := s.axis a
    let v := match m with
      | 0 => s.sg .AX_T_REF a
      | 1 => s.sg .AX_SPEED a
      | 2 => x.seen.pos.toInt
      | _ => x.seen.ten
    let speeds := (m == 1 || m == 2) && (was == 1 || was == 2)
    let s := (s.wrSat .AX_SP_ACTIVE v a).updAxis a fun x => { x with
      rate := if m == 2 then s.sg .AX_SPEED a else 0, accel := if speeds then x.accel else 0, slope := 0 }
    s.presetPi a

/-- A stop's speed loop starts from the present speed with the present torque reference as its output (R214, R227); `was` is the MODE that
acted before. -/
def rampFrom (s : State) (a was : Nat) : State :=
  let s := s.wr .AX_SP_ACTIVE (s.rd .AX_SPEED a) a
  (s.updAxis a fun x => { x with
    rate := 0, accel := if was == 1 || was == 2 then x.accel else 0, slope := 0, limStop := false }).presetPi a

end State

end Sys2Proof.Machine
end

