-- ==== Sys2Proof/Machine/Capture.lean ====
section
/-!
DEFINITION. Machine/Capture.lean: the data of a waveform capture waiting to be sent, and its end (R388, R389, R391).
-/

namespace Sys2Proof.Machine

/-- The words of capture SRAM (R26, R388). -/
abbrev captureSize : Nat := 1048576

namespace State

/-- The capture in progress changes. -/
def setCap (s : State) (c : Option Cap) : State := { s with str := { s.str with cap := c } }

/-- Capture words not yet sent (STR_CAP_FILL). -/
def capFill (s : State) : Nat :=
  ((s.str.series.filter fun r => r.source == 1).map fun r => r.words.length).sum +
    (match s.str.cap with | some c => if c.trig.isSome then 0 else (c.ring.map List.length).sum | none => 0)

/-- STR_CAP_FILL follows. -/
def showFill (s : State) : State := s.setF F.STR_CAP_FILL_WORDS s.capFill

/-! ## Capture (R388, R389, R391) -/

/-- Words of the capture record. -/
def capWord (c : Cap) (i : Nat) : Word := nth c.cfg i
/-- Its fields. -/
def capAxis (c : Cap) : Nat := bitsOf (capWord c 0) 1 0
def capDiv (c : Cap) : Nat := bitsOf (capWord c 0) 6 4
def capNch (c : Cap) : Nat := bitsOf (capWord c 0) 12 8
def capTrig (c : Cap) : Nat := bitsOf (capWord c 0) 18 16

/-- Words added to the capture series; what does not fit in capture SRAM is dropped (R391). -/
def capPush (s : State) (ws : List Word) (closing : Bool) : State :=
  if !closing && captureSize < s.capFill + ws.length + 1 then
    let s := (s.bump F.STR_DROP_COUNT).raiseF F.STR_STAT_OVERFLOW
    { s with str := { s.str with lossy := 1 :: s.str.lossy } }
  else
    let l := s.str.series
    let l := match l.findIdx? fun r => r.source == 1 && !r.closed with
      | some k => upd l k fun r => { r with words := r.words ++ ws, closed := closing }
      | none => l ++ [⟨1, ws, false, closing⟩]
    { s with str := { s.str with series := l } }

/-- The capture ends (R389): the closing word; before the trigger the header comes first. -/
def capClose (s : State) (trunc : Bool) : State :=
  match s.str.cap with
  | none => s
  | some c =>
    if c.ended then s
    else
      let s := if c.trig.isSome then s else
        (s.capPush [lo32 s.meridian, hi32 s.meridian, wd c.ring.length, capWord c 0] false).capPush c.ring.flatten false
      let s := s.capPush [wd (c.post % 2 ^ 24 + (if trunc then 2 ^ 31 else 0))] true
      ((s.setCap (some { c with ended := true })).setF F.STR_STAT_CAPTURE 3).showFill

/-- The capture when its axis reaches DISABLED (R389). -/
def capDisabled (s : State) : State :=
  match s.str.cap with
  | some c => if !c.ended && s.axSt (capAxis c) == aDISABLED && 0 < c.count then s.capClose true else s
  | none => s

end State

end Sys2Proof.Machine
end

