-- ==== Sys2Proof/Machine/GateOps.lean ====
section
/-!
DEFINITION. Machine/GateOps.lean: driving the command lines and the off sequence (R289, R293, R295, R302, R305).
-/

namespace Sys2Proof.Machine.State

/-- A command line of a channel takes a level at a time in 1.25 ns units; a change opens the channel's blanking window from
the tick of the edge (R289), unless its status is ignored (R287). -/
def driveAt (s : State) (g : Nat) (v : Bool) (t : Nat) : State :=
  if s.gate.gc.getLsbD g == v then s
  else
    let bit : Lines := 1#48 <<< g
    let s := { s with gate := { s.gate with gc := if v then s.gate.gc ||| bit else s.gate.gc &&& ~~~bit } }
    s.updChan g fun c =>
      { c with
        offAt := if v then c.offAt else some t
        wins := if s.fld F.GC_CFG_MODE g == 0 then c.wins else c.wins ++ [⟨s.tick, v, t, false, none, false⟩] }

/-- A command line takes a level in this tick. -/
def drive (s : State) (g : Nat) (v : Bool) : State := s.driveAt g v (4 * s.tick)

/-- The switch of a chopper changes, with the on-time kept for the duty of R303. -/
def driveChop (s : State) (k : Nat) (v : Bool) : State :=
  let c := nth s.gate.chops k
  if c.on == v then s
  else
    let s := s.drive (s.fld F.CHOP_CFG_CH k) v
    let c' := { c with on := v, since := s.tick
                       spans := if v then c.spans else (c.since, s.tick) :: c.spans }
    let s := { s with gate := { s.gate with chops := upd s.gate.chops k fun _ => c' } }
    s.setBit F.CHOP_STAT_ON k v

/-- t_seq of a bridge in ticks: the larger of GATE_TSEQ and the envelope minimum, which counts only while the envelope is
valid (R293, R413). -/
def tseq (s : State) (b : Nat) : Nat :=
  max (s.fld F.GATE_TSEQ_TSEQ b) (if s.envValid then (s.rd .LAN_ENV_TSEQ b).toNat % 2048 else 0)

/-- t_seq as it is timed: exactly by the PWM clock; with that lost by the supervision oscillator, to within ±10 % (R293).
(log 62 DEDUCED) -/
def tseqTimed (s : State) (b : Nat) : Nat × State :=
  if s.sys.pwmClk.lost then
    let (e, s) := s.freeErr (s.tseq b / 10)
    (((s.tseq b : Int) + e).toNat, s)
  else (s.tseq b, s)

/-- The slots that go low in the first tick of the off sequence: all of a 2-level bridge, S1 and S4 of a 3-level one. -/
def outerSlots (s : State) (b : Nat) : List Nat :=
  (upTo (s.slotCount b)).filter fun k => s.fld F.BR_CFG_TYPE b != 2 || k % 4 == 0 || k % 4 == 3

/-- Bridge b is no longer switching. -/
def notRunning (s : State) (b : Nat) : State :=
  let s := (s.setF F.BR_STAT_RUNNING 0 b).setBit F.PWM_STAT_RUNNING b false
  s.updBridge b fun r => { r with asked := none, phases := List.replicate 3 .init }

/-- The off sequence of one bridge begins (R293): its outer switches (all switches of a 2-level bridge) and its choppers
go low in this tick, every edge placed but not reached is cancelled, and the inner switches of a 3-level bridge that was
switching follow t_seq later. One that is running is not begun again (R295). -/
def offSeq (s : State) (b : Nat) : State :=
  if s.fbit F.GATE_STAT_OFFSEQ b then s
  else
    let was := s.running b
    let s := { s with pwm := { s.pwm with edges := s.pwm.edges.filter fun e => e.br != b } }
    let s := s.forL (s.outerSlots b) fun k s => if s.slot b k < 48 then s.drive (s.slot b k) false else s
    let s := s.forL (s.choppersOf b) fun k s => s.driveChop k false
    let s := s.notRunning b
    if s.fld F.BR_CFG_TYPE b == 2 && was then
      let (n, s) := s.tseqTimed b
      let due := s.tick + n
      ({ s with gate := { s.gate with offDue := upd s.gate.offDue b fun _ => some due } }).setBit F.GATE_STAT_OFFSEQ b true
    else s

/-- The off sequence of every bridge. -/
def offAll (s : State) : State := s.forN 8 fun b s => s.offSeq b

/-- The inner switches of bridge b go low and its off sequence has ended (R293). -/
def offInner (s : State) (b : Nat) : State :=
  let s := s.forL (s.chansOf b) fun g s => s.drive g false
  ({ s with gate := { s.gate with offDue := upd s.gate.offDue b fun _ => none } }).setBit F.GATE_STAT_OFFSEQ b false

/-- No bridge is in its off sequence. -/
def offDone (s : State) : Bool := s.fld F.GATE_STAT_OFFSEQ == 0

/-- HIZ shows the half-bridges whose outputs are both low (R305). (log 66 DEDUCED) -/
def showHiz (s : State) : State :=
  s.setF F.GATE_AUX_STAT_HIZ (((upTo 4).map fun x => let h := nth s.gate.halves x; if h.ho || h.lo then 0 else 2 ^ x).sum)

/-- An auxiliary output of half-bridge x changes; its last turn-off is kept for the dead time. -/
def setHalf (s : State) (x : Nat) (ho lo : Bool) : State :=
  let s := { s with gate := { s.gate with halves := upd s.gate.halves x fun (h : Half) =>
    { h with ho := ho, lo := lo, offAt := if (h.ho && !ho) || (h.lo && !lo) then s.tick else h.offAt } } }
  s.showHiz

/-- Every auxiliary half-bridge goes high impedance and stays so until motion is asked for again (R305, R317); no angle is held any
more (R327). (log 66 DEDUCED) -/
def auxHiZ (s : State) : State :=
  let s := s.forN 4 fun x s => s.setHalf x false false
  { s with mot := { s.mot with hiz := true, me := s.mot.me.map fun (m : Me) => { m with held := false } } }

/-- MODE of the auxiliary bridge: 1 two-phase stepper, 2 three-phase brushless. -/
def auxMode (s : State) : Nat := s.fld F.GATE_AUX_CFG_MODE

/-- Wick sources current (R307). -/
def showWick (s : State) : State :=
  s.setF F.GATE_AUX_STAT_WICK_ON (b2n (s.on F.GATE_AUX_CFG_WICK_EN && s.on F.GATE_AUX_STAT_VDRV_OK && s.auxMode != 0 && s.dev != dBOOT))

end Sys2Proof.Machine.State
end

