-- ==== Sys2Proof/Machine/Grid.lean ====
section
/-!
DEFINITION. Machine/Grid.lean: the carrier grid and the sample instants of an axis (R156, R157, R194).
-/

namespace Sys2Proof.Machine.State

/-- The winding-0 bridge of axis a, whose grid the axis samples on (R194): of two bridges the one with WINDING 0; a single one whatever
its WINDING. (log 60 DEDUCED) -/
def mainBridge (s : State) (a : Nat) : Option Nat :=
  match s.bridgesOf a with
  | [b] => some b
  | l => l.find? fun b => !s.on F.BR_CFG_WINDING b

/-- The position of a tick at or after now on the carrier of bridge b: (t/5 − PHASE) mod (2·HALF) (R156). -/
def carrierAt (s : State) (b : Nat) (t : Nat) : Nat :=
  let h : Int := 2 * s.fld F.BR_HALF_HALF b
  (((s.pwmTime.toNat / 5 + (t - s.tick) : Nat) - (s.fld F.BR_PHASE_PHASE b : Int)) % h).toNat

/-- The first valley of bridge b at a tick not before t; none without a carrier. (log 60 DEDUCED) -/
def valleyFrom (s : State) (b : Nat) (t : Nat) : Option Nat :=
  let h := 2 * s.fld F.BR_HALF_HALF b
  if h = 0 then none else some (t + (h - s.carrierAt b t) % h)

/-- The first grid instant of bridge b at a tick not before t, peaks counted under UPDATES 1 (R194), and whether it is one. -/
def gridFrom (s : State) (b : Nat) (t : Nat) : Option (Nat × Bool) :=
  match s.valleyFrom b t with
  | none => none
  | some v =>
    let half := s.fld F.BR_HALF_HALF b
    if s.on F.BR_CFG_UPDATES b && t + half ≤ v then some (v - half, true) else some (v, false)

/-- The sample period of axis a in ticks (R157); 0 without a grid. -/
def samplePeriod (s : State) (a : Nat) : Nat :=
  match s.mainBridge a with
  | none => 0
  | some b => if s.on F.BR_CFG_UPDATES b then s.fld F.BR_HALF_HALF b else 2 * s.fld F.BR_HALF_HALF b

/-- The sample instants of axis a begin at the first grid instant at least 2 ticks from now, with index 0 (R194). -/
def gridOn (s : State) (a : Nat) : State :=
  let g := match s.mainBridge a with | some b => s.gridFrom b (s.tick + 2) | none => none
  s.updAxis a fun x =>
    { x with grid := g.map Prod.fst, peak := (g.map Prod.snd).getD false, samples := 0, lastSample := none, shot := none }

/-- The sample instants of axis a stop (R194). -/
def gridOff (s : State) (a : Nat) : State := s.updAxis a fun x => { x with grid := none, samples := 0, keMeas := false }

end Sys2Proof.Machine.State
end

