-- ==== Sys2Proof/Machine/Hash.lean ====
section
/-!
DEFINITION. Machine/Hash.lean: CRC-32C (R85), SHA-256 and HMAC-SHA-256 (R441), which the spec takes from their standards.
-/

namespace Sys2Proof.Machine

/-! ## CRC-32C -/

/-- n single-bit steps of the reflected CRC with the Castagnoli polynomial. -/
def crcBits : Nat → Word → Word
  | 0, c => c
  | n + 1, c => crcBits n (if c.getLsbD 0 then (c >>> 1) ^^^ 0x82F63B78 else c >>> 1)

/-- One byte enters the CRC. -/
def crcByte (c : Word) (b : Byte) : Word := crcBits 8 (c ^^^ b.zeroExtend 32)

/-- CRC-32C of a list of bytes (R85): initial value and final XOR 0xFFFF_FFFF, reflected. -/
def crc32c (bs : List Byte) : Word := (bs.foldl crcByte 0xFFFFFFFF) ^^^ 0xFFFFFFFF

/-- CRC-32C of a list of words, in little-endian byte order. -/
def crcWords (ws : List Word) : Word := crc32c (bytesOf ws)

/-! ## The CRC-32 of Lantern (R412) -/

/-- n single-bit steps, most significant bit first, with polynomial 0x741B8CD7. -/
def lanCrcBits : Nat → Word → Word
  | 0, c => c
  | n + 1, c => lanCrcBits n (if c.getLsbD 31 then (c <<< 1) ^^^ 0x741B8CD7 else c <<< 1)

/-- The CRC-32 of R412 over words in little-endian byte order, from an initial value. -/
def lanCrc (init : Word) (ws : List Word) : Word :=
  (bytesOf ws).foldl (fun (c : Word) (b : Byte) => lanCrcBits 8 (c ^^^ ((b.zeroExtend 32 : Word) <<< (24 : Nat)))) init

/-! ## SHA-256 -/

/-- The largest r + b with r a given multiple of 2^n, b < 2^n and (r + b)^k at most m. -/
def rootBits (k m : Nat) : Nat → Nat → Nat
  | 0, r => r
  | n + 1, r => rootBits k m n (if (r + 2 ^ n) ^ k ≤ m then r + 2 ^ n else r)

/-- The first 32 bits of the fraction of the k-th root of a number below 2^9. -/
def rootFraction (k p : Nat) : Word := BitVec.ofNat 32 (rootBits k (p * 2 ^ (32 * k)) 37 0)

/-- The first 64 primes. -/
def shaPrimes : List Nat := (upTo 312).filter fun n => 2 ≤ n && (upTo n).all fun d => d < 2 || 18 ≤ d || n % d != 0

/-- The round constants of SHA-256: cube roots of the first 64 primes. -/
def shaK : List Word := shaPrimes.map (rootFraction 3)

/-- The initial hash value of SHA-256: square roots of the first eight primes. -/
def shaH : List Word := (shaPrimes.take 8).map (rootFraction 2)

/-- The message schedule: n further words after the given ones, newest first. -/
def shaExtend : Nat → List Word → List Word
  | 0, w => w
  | n + 1, w =>
    let a := nth w 14
    let b := nth w 1
    let s0 := a.rotateRight 7 ^^^ a.rotateRight 18 ^^^ (a >>> 3)
    let s1 := b.rotateRight 17 ^^^ b.rotateRight 19 ^^^ (b >>> 10)
    shaExtend n ((nth w 15 + s0 + nth w 6 + s1) :: w)

/-- One round. -/
def shaRound (h : List Word) (kw : Word × Word) : List Word :=
  let a := nth h 0
  let e := nth h 4
  let s1 := e.rotateRight 6 ^^^ e.rotateRight 11 ^^^ e.rotateRight 25
  let ch := (e &&& nth h 5) ^^^ (~~~e &&& nth h 6)
  let t1 := nth h 7 + s1 + ch + kw.1 + kw.2
  let s0 := a.rotateRight 2 ^^^ a.rotateRight 13 ^^^ a.rotateRight 22
  let mj := (a &&& nth h 1) ^^^ (a &&& nth h 2) ^^^ (nth h 1 &&& nth h 2)
  [t1 + (s0 + mj), a, nth h 1, nth h 2, nth h 3 + t1, e, nth h 5, nth h 6]

/-- One block of 16 big-endian words. -/
def shaBlock (h w : List Word) : List Word :=
  let ws := (shaExtend 48 w.reverse).reverse
  List.zipWith (· + ·) h ((shaK.zip ws).foldl shaRound h)

/-- The word of four bytes, most significant first. -/
def beWord (bs : List Byte) : Word := bs.foldl (fun acc b => (acc <<< 8) ||| b.zeroExtend 32) 0

/-- Big-endian words of a list of bytes; n bounds their number. -/
def beWords : Nat → List Byte → List Word
  | 0, _ => []
  | _, [] => []
  | n + 1, bs => beWord (bs.take 4) :: beWords n (bs.drop 4)

/-- Blocks of 16 words; n bounds their number. -/
def shaBlocks : Nat → List Word → List Word → List Word
  | 0, h, _ => h
  | _, h, [] => h
  | n + 1, h, ws => shaBlocks n (shaBlock h (ws.take 16)) (ws.drop 16)

/-- The four bytes of a word, most significant first. -/
def beBytes (w : Word) : List Byte := (wordBytes w).reverse

/-- SHA-256 of a list of bytes. -/
def sha256 (bs : List Byte) : List Byte :=
  let n := bs.length
  let pad := List.replicate ((119 - n % 64) % 64) (0 : Byte)
  let len := beBytes (BitVec.ofNat 32 (8 * n / 2 ^ 32)) ++ beBytes (BitVec.ofNat 32 (8 * n))
  let ws := beWords (n / 4 + 32) (bs ++ (0x80 : Byte) :: pad ++ len)
  (shaBlocks (n / 64 + 2) shaH ws).flatMap beBytes

/-- HMAC-SHA-256. -/
def hmac (key msg : List Byte) : List Byte :=
  let k := if 64 < key.length then sha256 key else key
  let k := k ++ List.replicate (64 - k.length) 0
  sha256 (k.map (· ^^^ 0x5C) ++ sha256 (k.map (· ^^^ 0x36) ++ msg))

end Sys2Proof.Machine
end

