-- ==== Sys2Proof/Machine/Replies.lean ====
section
/-!
DEFINITION. Machine/Replies.lean: reply packets, how they are queued on each transport, and the commands in flight
(R88, R90, R92 to R94, R101, R103, R104).
-/

namespace Sys2Proof.Machine

/-- The status codes of R101. -/
abbrev cOK : Nat := 0x0000
abbrev cACCEPTED : Nat := 0x0001
abbrev cBUSY : Nat := 0x0010
abbrev cPREEMPTED : Nat := 0x0011
abbrev cPENDING : Nat := 0x0012
abbrev cBAD_OPCODE : Nat := 0x0020
abbrev cBAD_LENGTH : Nat := 0x0021
abbrev cBAD_CRC : Nat := 0x0022
abbrev cBAD_PARAM : Nat := 0x0023
abbrev cDENIED_ROLE : Nat := 0x0030
abbrev cSEALED : Nat := 0x0031
abbrev cOUT_OF_ENVELOPE : Nat := 0x0040
abbrev cSTALE_EPOCH : Nat := 0x0050
abbrev cNOT_MEMBER : Nat := 0x0051
abbrev cCATCH_TOO_FAST : Nat := 0x0060
abbrev cWRONG_MOTOR : Nat := 0x0061
abbrev cTABLE_FULL : Nat := 0x0070
abbrev cLAUNCH_IN_PAST : Nat := 0x0071
abbrev cINTERNAL : Nat := 0x00F0

/-- OK with reply words. -/
def ok (ws : List Word := []) : Answer := ⟨cOK, 0, ws⟩

/-- A refusal or another status with its DETAIL. -/
def ans (status : Nat) (detail : Nat := 0) : Answer := ⟨status, detail, []⟩

/-- The status word (R88). -/
def Answer.word (a : Answer) : Word := wd (a.status % 65536 + (a.detail % 65536) * 65536)

/-- ACCEPTED and PENDING_SHUTDOWN are interim (R101). -/
def Answer.interim (a : Answer) : Bool := a.status == cACCEPTED || a.status == cPENDING

/-- Broadcast and group addresses, whose commands are never replied to (R86, R87). -/
def grouped (p : Pkt) : Bool := 0xFF00 ≤ p.unit.toNat

/-- FLAGS of a reply (R84): REPLY, RETRY copied, FINAL for a final reply. -/
def replyFlags (p : Pkt) (final : Bool) : BitVec 8 :=
  BitVec.ofNat 8 (1 + (if p.flags.getLsbD 1 then 2 else 0) + (if final then 4 else 0))

/-- The reply to a packet (R88). -/
def mkReply (s : State) (opcode : BitVec 16) (p : Pkt) (a : Answer) : Reply :=
  { via := p.via, ip := p.srcIp, port := p.srcPort, opcode := opcode, tag := p.tag
    flags := replyFlags p (!a.interim)
    unit := BitVec.ofNat 16 (s.fld F.SYS_UNIT_UNIT), session := p.session
    payload := a.word :: (if a.status == cOK then a.words else []) }

/-- Words of a reply packet: four of header, the payload and the payload CRC (R83). -/
def Reply.size (r : Reply) : Nat := 5 + r.payload.length

/-- A reply as the words of its packet (R83, R85). -/
def Reply.toWords (r : Reply) : List Word :=
  let head := [wd (r.opcode.toNat + r.tag.toNat * 2 ^ 16 + r.flags.toNat * 2 ^ 24),
    wd (r.payload.length % 65536 + r.unit.toNat * 2 ^ 16), r.session]
  head ++ [crcWords head] ++ r.payload ++ [crcWords r.payload]

/-- The valid data length of an FD frame at or above n bytes (R364). -/
def fdLength (n : Nat) : Nat := ([0, 1, 2, 3, 4, 5, 6, 7, 8, 12, 16, 20, 24, 32, 48, 64].find? (n ≤ ·)).getD 64

/-- The CAN frames of a packet (R108): a segment byte and up to `room` packet bytes each, the last frame padded with 0xCC. (log 23 DEDUCED) -/
def segments (room : Nat) : Nat → Nat → List Byte → List (List Byte)
  | 0, _, _ => []
  | n + 1, seq, bs =>
    let last := bs.length ≤ room
    let b := 128 * b2n (seq == 0) + 64 * b2n last + seq % 64
    let f := BitVec.ofNat 8 b :: bs.take room
    if last then [f ++ List.replicate (fdLength f.length - f.length) 0xCC] else f :: segments room n (seq + 1) (bs.drop room)

/-- Words waiting in the SPI reply buffer. -/
def spiFill (s : State) : Nat := (s.hst.spiQueue.map Reply.size).sum - s.hst.spiSent

/-- The size in words of a packet of this LENGTH (R83). -/
def packetSize (length : Nat) : Nat := if length = 0 then 4 else 5 + length

namespace State

/-- Bytes of the 64 KiB SPI command buffer in use: the commands that wait with their replies (R104). (log 25 DEDUCED) -/
def cmdFill (s : State) : Nat := (s.hst.spiWaiting.map fun x => 4 * packetSize x.2.length.toNat).sum

/-- The OK of a DEVICE_RESET has not been sent yet: over SPI or CAN it still stands in the queue (R72). -/
def resetUnsaid (s : State) : Bool :=
  s.sys.resetPend.isSome &&
    match s.sys.resetVia with
    | .spi => (s.hst.spiQueue.any fun r => r.opcode == 0x0110) || s.hst.spiWaiting.any fun x => x.1.opcode == 0x0110
    | .udp => false
    | .can0 => !(nth s.can 0).txq.isEmpty
    | .can1 => !(nth s.can 1).txq.isEmpty

/-- A reply is queued on a CAN controller whose command transport is on (R108, R109, R378). -/
def queueCan (s : State) (c : Nat) (r : Reply) : State :=
  if !s.on F.CAN_CMD_REQ_EN c then s
  else
    let bs := bytesOf r.toWords
    let room := if s.on F.CAN_CMD_REQ_FD c then 63 else 7
    { s with can := upd s.can c fun x => { x with txq := x.txq ++ segments room (bs.length + 1) 0 bs } }

/-- A reply of this size is queued at once on its transport (R104): over SPI it waits while the 64 KiB reply buffer has no room for it or
others wait. -/
def fitsNow (s : State) (r : Reply) : Bool :=
  r.via != .spi || (s.hst.spiWaiting.isEmpty && 4 * (spiFill s + r.size) ≤ 65536)

/-- A reply of the command p is queued for sending on its transport (R93, R96, R104, R109): over SPI it may wait; over UDP it leaves;
over CAN it leaves in segments. -/
def sendReply (s : State) (p : Pkt) (r : Reply) : State :=
  match r.via with
  | .spi =>
    if s.fitsNow r then { s with hst := { s.hst with spiQueue := s.hst.spiQueue ++ [r] } }
    else { s with hst := { s.hst with spiWaiting := s.hst.spiWaiting ++ [(r, p)] } }
  | .udp => s.emit (.reply r)
  | .can0 => s.queueCan 0 r
  | .can1 => s.queueCan 1 r

/-- The key of a tag: session and tag (R90). -/
def sameTag (p q : Pkt) : Bool := p.session == q.session && p.tag == q.tag

/-- A final reply is kept in the cache under its session and tag (R92). -/
def cacheReply (s : State) (opcode : BitVec 16) (p : Pkt) (r : Reply) : State :=
  { s with hst := { s.hst with cache := ⟨opcode, p, r⟩ :: s.hst.cache } }

/-- The end of a command with a final answer: its reply is queued, and cached unless its kind is Read (R88, R92). A
broadcast or group command gets no reply; its refusal is counted (R87). -/
def conclude (s : State) (opcode : BitVec 16) (p : Pkt) (read : Bool) (a : Answer) : State :=
  if grouped p then
    if a.status == cOK then s else { s with hst := { s.hst with cmdErrors := s.hst.cmdErrors + 1 } }
  else
    let r := mkReply s opcode p a
    (if read then s else s.cacheReply opcode p r).sendReply p r

/-- A Deferred command starts: it is in flight for a target, and its interim reply is queued, or waits (R90, R91, R94, R104). -/
def defer (s : State) (opcode : BitVec 16) (p : Pkt) (target : Nat) (a : Answer) : State :=
  let r := mkReply s opcode p a
  let s := { s with hst := { s.hst with
    flight := s.hst.flight ++ [⟨opcode, p, (if !grouped p && s.fitsNow r then some r else none), target⟩] } }
  if grouped p then s else s.sendReply p r

/-- The commands in flight with an opcode and a target. -/
def inFlight (s : State) (opcode : BitVec 16) (target : Nat) : List Flight :=
  s.hst.flight.filter fun f => f.opcode == opcode && f.target == target

/-- The commands in flight with an opcode and a target end with a final answer; the interim replies they had are kept, since a command
whose final reply waits for room is still in flight (R90, R91). -/
def finish (s : State) (opcode : BitVec 16) (target : Nat) (a : Answer) : State :=
  let fs := s.inFlight opcode target
  let s := { s with hst := { s.hst with
    flight := s.hst.flight.filter fun f => !(f.opcode == opcode && f.target == target)
    interims := fs.filterMap (fun (f : Flight) => f.interim.map fun r => (f.pkt, r)) ++ s.hst.interims } }
  s.forL fs fun f s => s.conclude f.opcode f.pkt false a

end State

end Sys2Proof.Machine
end

