-- ==== Sys2Proof/Machine/Faults.lean ====
section
/-!
DEFINITION. Machine/Faults.lean: the fault codes with their classes, the fault log, and what each reaction class does to the
device, the axes, Lantern, the bridges and the auxiliary motion (R10, R11, R77, R78, R81, R82, R227, R228, R316, R317, R421,
R422, R453, R454).
-/

namespace Sys2Proof.Machine

/-- The class of a fault code, 0 to 5 for FR0 to FR5, as the chapter of each code gives it. -/
def faultClass (code : Nat) : Nat :=
  if [0x1003, 0x2002, 0x2005, 0x2009, 0x3001, 0x3010, 0x3056, 0x3062, 0x3063, 0x4010, 0x4012, 0x4023, 0x5005, 0x5032, 0x7001,
      0x7005, 0x7021, 0x7031, 0x7050, 0x7085].contains code then 0
  else if [0x2001, 0x2003, 0x2006, 0x2007, 0x2010, 0x2016, 0x1060, 0x1062, 0x1063, 0x1070, 0x3011, 0x3013, 0x3014, 0x3017,
      0x3020, 0x3045, 0x3051, 0x3052, 0x3053, 0x3054, 0x3055, 0x500D, 0x7003, 0x7004].contains code then 2
  else if [0x1021, 0x2012, 0x2014, 0x2017, 0x3012, 0x3022, 0x5008, 0x500A, 0x500C, 0x5031, 0x7002, 0x7013, 0x7020,
      0x7051].contains code then 3
  else if [0x1001, 0x1004, 0x1006, 0x1010, 0x1011, 0x1012, 0x3021, 0x4011, 0x5006, 0x500B, 0x5030, 0x7012, 0x7030, 0x7032,
      0x7091].contains code then 4
  else if [0x5001, 0x5033, 0x7014, 0x7015, 0x7040 + 1, 0x7042, 0x7043, 0x7044, 0x7045, 0x7046, 0x7047].contains code then 5
  else 1

namespace State

/-! ## The fault log -/

/-- One record is written with the time of R498, or merged into the newest one of the same code and axis within 1 s when it is below FR2
(R453, R454); the log keeps 8,192 records. -/
def logFault (s : State) (code axis : Nat) (detail : List Word := []) (cont : Bool := false) : State :=
  let cls := faultClass code
  let s := (s.setF F.SYS_FAULT_LAST_CODE code).setF F.SYS_FAULT_LAST_CLASS cls
  let fresh : FaultRec := ⟨s.flt.nextSeq, s.meridian, code, cls, axis, s.dev, cont, 0, detail⟩
  let push := { s with flt := { s.flt with log := (fresh :: s.flt.log).take 8192, nextSeq := s.flt.nextSeq + 1 } }
  match s.flt.log with
  | r :: rest =>
    if cls < 2 && r.code == code && r.axis == axis && (s.meridian - r.time).toNat ≤ 1000000000 then
      { s with flt := { s.flt with log := { r with again := if r.again = 0xFFFFFFFF then r.again else r.again + 1 } :: rest } }
    else push
  | [] => push

/-! ## Auxiliary motion -/

/-- A motion engine is in mid-move: a profile or a homing runs, or it is geared and a microstep came within 1 ms (R316). -/
def meMid (s : State) (n : Nat) : Bool :=
  let m := nth s.mot.me n
  m.move.isSome || (s.on F.ME_STAT_GEARED n && s.tick ≤ m.lastStep + ticksPerMs)

/-- The position of a motion engine in 2^-16 microsteps. -/
def mePos (s : State) (n : Nat) : Int := s.sg .ME_POS n * 65536 + (nth s.mot.me n).frac

/-- A motion engine comes to rest. -/
def meRest (s : State) (n : Nat) (held : Bool) : State :=
  let s := { s with mot := { s.mot with me := upd s.mot.me n fun m =>
    { m with move := none, speed := 0, accel := 0, held := held, stallN := 0, restSince := s.tick } } }
  let s := (((s.setF F.ME_STAT_AT_REST 1 n).setF F.ME_STAT_PROFILE 0 n).setF F.ME_STAT_HOMING 0 n).setF F.ME_STAT_GEARED 0 n
  s.wr .ME_SPEED 0 n

/-- A profile has reached its target at speed zero (R315). (log 83 DEDUCED) -/
def meArrived (s : State) (n : Nat) : Bool :=
  let m := nth s.mot.me n
  m.move == some .profile && m.speed == 0 && s.mePos n == m.target * 65536

/-- A completed move (R315): the final reply carries ME_POS. (log 83 DEDUCED) -/
def meComplete (s : State) (n : Nat) : State := (s.meRest n false).finish 0x0400 n (ok [s.rd .ME_POS n])

/-- A motion engine stops (R316): the angle freezes; in mid-move the position becomes uncertain, counted and logged. A profile
whose last update falls together with the stop completes instead. -/
def meStop (s : State) (n : Nat) (reply : Answer) : State :=
  if s.meArrived n then s.meComplete n else
  let mid := s.meMid n
  let s := if mid then
      ((s.setF F.ME_STAT_UNCERTAIN 1 n).bump F.ME_UNC_CNT_COUNT n).logFault 0x3056 7 [wd n] else s
  let s := s.meRest n (((nth s.mot.me n).held || mid) && !s.mot.hiz)
  (s.finish 0x0400 n reply).finish 0x0402 n reply

/-- Auxiliary motion ends with the bridge high impedance (R66, R305, R317): every engine that drives it stops; an engine
that is a virtual axis stops only when the device leaves ARMED and RUN. -/
def auxStop (s : State) (code : Nat) (all : Bool) : State :=
  let s := s.auxHiZ
  s.forN 2 fun n s =>
    if (all || s.on F.ME_CFG_OUT n) && (!s.on F.ME_STAT_AT_REST n || s.meMid n) then s.meStop n (ans cINTERNAL code) else s

/-! ## Device and axis transitions -/

/-- The level of field output n (R401). -/
def doLevel (s : State) (n : Nat) : Bool :=
  if s.sys.phase != .up || s.dev == dBOOT then false
  else if s.fio.vfLow || s.fio.heldOff.getLsbD n || s.fio.latched.getLsbD n then false
  else if s.fio.safe.getLsbD n then
    match bitsOf s.fio.set.safe (2 * n + 1) (2 * n) with | 0 => false | 1 => true | _ => s.fio.safeLv.getLsbD n
  else s.fio.cmd.getLsbD n

/-- Every field output takes its safe state, which an IO_WRITE or IO_RESTORE still on its way does not end; the level of the moment, which
HOLD keeps, is noted where the output is not in its safe state already (R81, R401). -/
def doSafe (s : State) : State :=
  let lv := (upTo 16).foldl (fun (w : BitVec 16) n =>
    if (if s.fio.safe.getLsbD n then s.fio.safeLv.getLsbD n else s.doLevel n) then w ||| (1#16 <<< n) else w) 0
  { s with fio := { s.fio with
    safe := 0xFFFF, safeLv := lv, wake := 0, restore := 0,
    sent := s.fio.sent.map fun (f : FieldOut) => { f with wake := 0, restore := 0 } } }

/-- Wick may work from BOOT's end on (R307). -/
def wickFrom (s : State) (old : Nat) : State := if old == dBOOT then s.showWick else s

/-- The device state changes (R77): PREV_STATE is kept; leaving ARMED and RUN ends auxiliary motion and puts the choppers
low unless the new state is FAULT (R81, R302, R317); SAFE, QUARANTINE and UPDATE put the outputs into their safe states. -/
def setDev (s : State) (d : Nat) (code : Nat := 0) (event : Bool := true) : State :=
  let old := s.dev
  if old == d then s
  else
    let s := (s.setF F.SYS_STATE_PREV_STATE old).setF F.SYS_STATE_STATE d
    let s := if event then { s with sys := { s.sys with lastTrans := some s.tick } } else s
    let gone := (old == dARMED || old == dRUN) && d != dARMED && d != dRUN
    let s := if d == dARMED && old != dRUN then { s with mot := { s.mot with hiz := false } } else s
    let s := if gone then s.auxStop code true else s
    let s := if d == dARMED || d == dRUN || d == dFAULT then s else s.forN 8 fun k s => s.driveChop k false
    let s := s.wickFrom old
  if d == dSAFE || d == dQUARANTINE || d == dUPDATE then s.doSafe else s

/-- The start bits of an axis's bridges are cleared; a bridge that is switching stops by its off sequence (R177, R228). -/
def runBitsOff (s : State) (a : Nat) : State :=
  s.forL (s.bridgesOf a) fun b s => (s.setBit F.PWM_CTRL_RUN b false).offSeq b

/-- The axis state field changes, with it the sample grid (R194) and the device between ARMED and RUN (R77). -/
def axisTo (s : State) (a st : Nat) : State :=
  let old := s.axSt a
  let s := if st == aDISABLED then s.gridOff a else if old == aDISABLED then s.gridOn a else s
  let s := (s.setF F.AX_STAT_STATE st a).capDisabled
  let any := (upTo 4).any fun k => s.axSt k == aRUN
  if s.dev == dARMED && any then s.setDev dRUN 0 true
  else if s.dev == dRUN && !any then s.setDev dARMED 0 true
  else s

/-- The modes of R271 of an axis end. (log 46 DEDUCED) -/
def modesEnd (s : State) (a : Nat) : State :=
  let s := ((s.setF F.AX_EM_STAT_OPMODE 0 a).setF F.AX_EM_STAT_LIMP 0 a).setF F.AX_EM_STAT_SENSORLESS 0 a
  let s := { s with em := upd s.em a fun (e : Em) => { e with proveFor := none, proveAt := none, leaving := false } }
  s.setF F.AX_EM_STAT_PROVING 0 a

/-- What the observer remembers of a catch, a relock, a torque ramp or a measurement asked for ends. -/
def obsEnd (s : State) (a : Nat) : State :=
  { s with obs := upd s.obs a fun o => { o with relock := none, rampAt := none, search := false, keRun := false } }

/-- An axis without sample instants shares nothing: no member is counted, no record grows stale, no correction stands at its
clip (R259, R263, R266). (log 56 DESIGN CHOICE) -/
def shareEnd (s : State) (a : Nat) : State :=
  let s := { s with share := upd s.share a fun (x : Share) =>
    { x with remotes := x.remotes.map (fun (r : Remote) => { r with missed := 0 }), used := [], clipSince := none } }
  (s.setF F.AX_SH_STAT_MEMBERS 0 a).setF F.AX_SH_STAT_REMOTE_N 0 a

/-- The axis reaches DISABLED (R227, R228): its start bits are clear, its modes have ended, an AXIS_DISABLE and an exit of EM-LIMP
waiting for it are answered, and an enable queued behind the stop is carried out by the caller. (log 47 DEDUCED) -/
def toDisabled (s : State) (a : Nat) : State :=
  let s := (((s.runBitsOff a).modesEnd a).obsEnd a).shareEnd a
  let s := s.updAxis a fun x => { x with
    stop := .none, rampDown := false, lowSince := none, cause := 0, slope := 0, waits := false, left := x.grid.map fun t => (t, false) }
  ((s.axisTo a aDISABLED).finish 0x0302 a (ok)).finish 0x0306 a (ok)

/-- The sample in which the axis became DISABLED is not over (R229). (log 47 DEDUCED) -/
def justLeft (s : State) (a : Nat) : Bool :=
  s.axSt a == aDISABLED && (match (s.axis a).left with | some (t, _) => decide (s.tick < t) | none => false)

/-- An AXIS_DISABLE took the axis from CATCH or ALIGN in this sample (R229). (log 47 DEDUCED) -/
def justDisabled (s : State) (a : Nat) : Bool := s.justLeft a && (match (s.axis a).left with | some (_, b) => b | none => false)

/-- The axis enters STOPPING (R227): speed mode at the present speed, the speed integrator preset so that the output is the
present AX_T_REF (R214), the ramp starting at the rate it has (R222); a proving or an exit under way is PREEMPTED. (log 47 DEDUCED) -/
def toStopping (s : State) (a : Nat) (why : StopCause) : State :=
  let was := s.modeOf a
  let s := s.updAxis a fun x => { x with stop := why, lowSince := none }
  let s := { s with em := upd s.em a fun (e : Em) => { e with proveFor := none, proveAt := none, leaving := false } }
  let s := { s with obs := upd s.obs a fun o => { o with keRun := false } }
  let s := (s.setF F.AX_EM_STAT_OPMODE 0 a).setF F.AX_EM_STAT_PROVING 0 a
  ((s.axisTo a aSTOPPING).rampFrom a was).finish 0x0306 a (ans cPREEMPTED)

/-- The axis enters FAULTED (R227, R228); with `ramp` its bits stay set and it ramps to rest. Commands that waited for RUN,
for DISABLED or for a mode are answered with the fault's code. (log 43 DEDUCED) -/
def toFaulted (s : State) (a : Nat) (code : Nat) (ramp : Bool) : State :=
  let was := s.modeOf a
  let s := if ramp then s else s.runBitsOff a
  let s := (s.modesEnd a).obsEnd a
  let s := s.updAxis a fun x => { x with stop := .none, rampDown := ramp, cause := code, queued := false, left := none }
  let s := s.axisTo a aFAULTED
  let s := if ramp then s.rampFrom a was else s
  ((s.finish 0x0301 a (ans cINTERNAL code)).finish 0x0302 a (ans cINTERNAL code)).finish 0x0306 a (ans cINTERNAL code)

/-! ## STO and SS1 -/

/-- The axis's bridges are switching. -/
def switching (s : State) (a : Nat) : Bool := (s.bridgesOf a).any s.running

/-- STO takes effect (R421, R422): the off sequence of every bridge, the choppers low, the brake outputs off, SS1 over, the
start bits of a faulted axis clear. An axis under a demand goes to STOPPING, one in CATCH or ALIGN to DISABLED; a faulted one stops ramping;
in STOPPING the start bits stay set (R228). (log 47 DEDUCED) -/
def stoTake (s : State) : State :=
  if s.stoOn then s
  else
    let s := { s with lan := { s.lan with ss1 := none } }
    let s := (s.setF F.LAN_STAT_STO_ACTIVE 1).setF F.LAN_STAT_SS1_RUN 0
    let s := s.offAll.forN 8 fun k s => s.driveChop k false
    let s := (s.setF F.LAN_SBC_ON 0).setF F.LAN_STAT_SBC_APPLIED 1
    s.forN 4 fun a s =>
      match s.axSt a with
      | 1 | 2 => (s.finish 0x0301 a (ans cPREEMPTED)).toDisabled a
      | 3 | 5 => s.toStopping a .demand
      | 6 => (s.runBitsOff a).updAxis a fun x => { x with rampDown := false }
      | _ => s

/-- SS1 starts (R422): nothing if it runs already (R437) or STO is in force. (log 98 DEDUCED) -/
def ss1Start (s : State) (code : Nat) : State :=
  if s.lan.ss1.isSome || s.stoOn then s
  else
    let axes := (upTo 4).map fun a => s.axSt a != aDISABLED
    let v0 := (upTo 4).map fun a =>
      if s.on F.LAN_SPD_STAT_UNKNOWN a then none else some (s.sg .LAN_SPD_SAFE a).natAbs
    let mon := s.fbit F.LAN_PROFILE_FUNCS 1
    let s := { s with lan := { s.lan with
      ss1 := some ⟨s.tick, mon, axes, v0.map (Option.map Int.ofNat), code⟩ } }
    s.setF F.LAN_STAT_SS1_RUN 1

/-- A demand for SS1 (R422 step 1): every axis that runs goes to STOPPING, one in CATCH or ALIGN to DISABLED. (log 98 DEDUCED) -/
def ss1Demand (s : State) : State :=
  if s.lan.ss1.isSome || s.stoOn then s
  else
    let s := s.forN 4 fun a s =>
      match s.axSt a with
      | 1 | 2 => (s.finish 0x0301 a (ans cPREEMPTED)).toDisabled a
      | 3 | 5 => s.toStopping a .demand
      | _ => s
    s.ss1Start 0

/-! ## Reactions -/

/-- FR2 on an axis (R78, R227, R229, R282): it goes through STOPPING to FAULTED, from a start CATCH or ALIGN too; during a relock the FR2 is
held until the relock ends (R253); an axis that an AXIS_DISABLE of the same sample took from CATCH or ALIGN ends in FAULTED.
(log 47 DEDUCED) -/
def react2 (s : State) (code a : Nat) : State :=
  let s := s.setF F.AX_FAULT_CODE code a
  match s.axSt a with
  | 1 | 2 =>
    if (nth s.obs a).relock.isSome then
      { s with obs := upd s.obs a fun o =>
        { o with relock := o.relock.map fun r => { r with heldFr2 := some (r.heldFr2.getD code) } } }
    else (s.obsEnd a).toStopping a (.fr2 code)
  | 3 => (s.finish 0x0301 a (ans cINTERNAL code)).toStopping a (.fr2 code)
  | 4 => s.updAxis a fun x => { x with stop := match x.stop with | .fr2 c => .fr2 c | _ => .fr2 code }
  | 5 =>
    match s.fld F.AX_EM_STAT_OPMODE a with
    | 4 =>
      let was := s.modeOf a
      { s with em := upd s.em a fun e => { e with fr2 := some code, leaving := true } }.reaim a was
    | 5 => (s.setF F.LAN_SBC_REQ 0).toFaulted a code false
    | 6 => { s with em := upd s.em a fun e => { e with fr2 := some code } }
    | _ => s.toStopping a (.fr2 code)
  | 0 => if s.justDisabled a then s.toFaulted a code false else s
  | _ => s

/-- FR3 (R10, R227 to R229): the device goes to FAULT, every axis not DISABLED before this sample to FAULTED, ramping if its bridges
switch, and SS1 runs, then STO. -/
def react3 (s : State) (code : Nat) : State :=
  let s := if s.dev == dREADY || s.dev == dARMED || s.dev == dRUN then s.setDev dFAULT code else s
  let s := s.forN 4 fun a s =>
    if (s.axSt a == aDISABLED && !s.justLeft a) || s.axSt a == aFAULTED then s else s.toFaulted a code (!s.stoOn && s.switching a)
  s.ss1Start code

/-- FR4 (R10, R229): STO at once; the device to FAULT; every axis not DISABLED before this sample to FAULTED with its bits clear. -/
def react4 (s : State) (code : Nat) : State :=
  let s := s.offAll
  let s := if s.dev == dREADY || s.dev == dARMED || s.dev == dRUN then s.setDev dFAULT code else s
  let s := s.forN 4 fun a s =>
    if s.axSt a == aDISABLED && !s.justLeft a then s
    else if s.axSt a == aFAULTED then (s.runBitsOff a).updAxis a fun x => { x with rampDown := false }
    else s.toFaulted a code false
  s.stoTake

/-- FR5 (R10, R75, R77): as FR4, and the device halts into SAFE; from BOOT the rest of BOOT is abandoned. So it does from an UPDATE entered
by BOOTSEL: R77 takes any state there, R73 names the exits of that UPDATE without it. (log 106 DEDUCED) -/
def react5 (s : State) (code : Nat) : State :=
  let s := s.offAll
  let s := s.forN 4 fun a s =>
    if (s.axSt a == aDISABLED && !s.justLeft a) || s.axSt a == aFAULTED then s else s.toFaulted a code false
  let s := (s.setDev dSAFE code).stoTake
  let s := s.setF F.SYS_STATE_HALTED 1
  { s with sys := { s.sys with
    lastTrans := some s.tick, phase := if s.sys.phase == .booting then .up else s.sys.phase } }

/-- A fault is noted: its record, the axis's last fault code, its latch (FR3 and higher) or its alert (FR1) (R10, R82, R453). -/
def note (s : State) (code axis : Nat) (detail : List Word) : State :=
  let cls := faultClass code
  let s := s.logFault code axis detail
  let s := if axis < 4 then s.setF F.AX_FAULT_CODE code axis else s
  if cls == 1 then { s with flt := { s.flt with unacked := true, alertAt := s.tick } }
  else if cls ≥ 3 then { s with flt := { s.flt with latched := ⟨code, cls, axis, s.tick⟩ :: s.flt.latched } } else s

/-- The reaction of a fault's class (R10, R11). A class above the running reaction takes over by the order of the operations above; one
not above it changes nothing they have done. `axes` are the axes an FR2 stops. -/
def react (s : State) (code : Nat) (axes : List Nat) : State :=
  match faultClass code with
  | 2 => s.forL axes fun a s => s.react2 code a
  | 3 => s.react3 code
  | 4 => s.react4 code
  | 5 => s.react5 code
  | _ => s

/-- A fault is raised (R10). -/
def raise (s : State) (code : Nat) (axis : Nat := 7) (detail : List Word := [])
    (axes : List Nat := if axis < 4 then [axis] else []) : State :=
  (s.note code axis detail).react code axes

/-- An FR2 of a motion engine (R317, R318): the engine stops with the bridge high impedance, and the axis it is linked to
starts its FR2 stop. -/
def meFault (s : State) (code n : Nat) : State :=
  let link := s.fld F.ME_CFG_LINK_AXIS n
  let s := s.raise code (if link < 4 then link else 7) [wd n]
  (if s.on F.ME_CFG_OUT n then s.auxHiZ else s).meStop n (ans cINTERNAL code)

/-- An FR2 of the auxiliary bridge (R66, R306, R309): the engine that drives it stops, and its linked axis with it; at rest its position
stays certain (R316). (log 66 DEDUCED) -/
def auxFault (s : State) (code : Nat) : State :=
  let ns := (upTo 2).filter fun n => s.on F.ME_CFG_OUT n
  let axes := (ns.map fun n => s.fld F.ME_CFG_LINK_AXIS n).filter (· < 4)
  let s := s.raise code (axes.headD 7) [] axes
  let s := s.auxHiZ
  s.forL ns fun n s => s.meStop n (ans cINTERNAL code)

end State

end Sys2Proof.Machine
end

