-- ==== Sys2Proof/Machine/Fabric.lean ====
section
/-!
DEFINITION. Machine/Fabric.lean: what a transfer over the fabric can suffer: refusals recorded in the FABRIC registers, parity replays,
and flipped bits in the shared SRAM (R24, R25, R27, R113, R123).
-/

namespace Sys2Proof.Machine.State

/-- A fabric error sets a bit of FAB_ERR_STAT, records the address and the initiator (R113, R123); the code of an initiator that the
table of R123 does not name is not stated. (log 30 DESIGN CHOICE) -/
def fabErr (s : State) (code : Option Nat) (flag : Fld) (addr : Nat) : State :=
  let s := (s.raiseF flag).wr .FAB_ERR_ADDR (wd addr)
  match code with
  | some c => s.setF F.FAB_ERR_STAT_LAST_INIT c
  | none => let (n, s) := s.freeBelow 16; s.setF F.FAB_ERR_STAT_LAST_INIT n

/-- The failed attempts of a fabric transfer (R24): each sets a parity bit of FAB_ERR_STAT, each replay is counted and logged, and a
transfer whose third replay fails too raises FABRIC_FAULT. (log 31 DEDUCED) -/
def replays (s : State) (code : Option Nat) (addr fails : Nat) : State :=
  let s := s.forN (min fails 4) fun _ s =>
    let (b, s) := s.freeBit
    s.fabErr code (if b then F.FAB_ERR_STAT_PAR_DATA else F.FAB_ERR_STAT_PAR_ADDR) addr
  let s := s.forN (min fails 3) fun _ s => (s.bump F.FAB_PAR_REPLAY_COUNT).logFault 0x7021 7 [wd addr]
  if 4 ≤ fails then (s.bump F.FAB_PAR_FAULT_COUNT).raise 0x7020 7 [wd addr] else s

/-- A transfer that waits for its replays: 4 FABRIC cycles each, a tick a cycle (R15, R25); whether it came through. (log 31 DEDUCED) -/
def transfer (s : State) (code : Option Nat) (addr fails : Nat) : State × Bool :=
  ((s.replays code addr fails).elapse (4 * min fails 3), fails < 4)

/-- Flipped bits in a word of a SECDED memory (R27): one is corrected and logged; two are counted, and in the shared SRAM a fault. The
result says whether the word can be read. (log 118 DEDUCED) -/
def sramFlips (s : State) (flips : Nat) (detail : Word) : State × Bool :=
  match flips with
  | 0 => (s, true)
  | 1 => ((s.bump F.FAB_SECDED_CORR).raise 0x7001 7 [detail], true)
  | _ => ((s.bump F.FAB_SECDED_UNCORR).raise 0x7002 7 [detail], false)

/-- A mover or the mailboxes bring words through the fabric into or out of the shared SRAM (R24, R27); their addresses there are not
given. The result says whether they came. (log 30 DESIGN CHOICE; log 118 DEDUCED) -/
def moveIn (s : State) (code : Nat) (m : Moved) : State × Bool :=
  if m.fails == 0 && m.flips == 0 then (s, true)
  else
    let (a, s) := s.freeWord
    let (s, came) := s.transfer (some code) a.toNat m.fails
    let (s, whole) := s.sramFlips m.flips a
    (s, came && whole)

/-- What f does once a frame has come through the fabric and the shared SRAM, in or out; one that does not come through is lost (R24, R27).
(log 31 DEDUCED) -/
def through (s : State) (code : Nat) (m : Moved) (f : State → State) : State :=
  let (s, came) := s.moveIn code m
  if came then f s else s

end Sys2Proof.Machine.State
end

