-- ==== Sys2Proof/Machine/LanternOps.lean ====
section
/-!
DEFINITION. Machine/LanternOps.lean: the safety functions of a profile, the safety parameters, the brake outputs, the
demands, and what the end of every command settles: FAULT#, ALERT#, SPI_RDY, STO_FB, the brake (R69, R82, R104, R407, R421,
R424 to R427, R430, R435).
-/

namespace Sys2Proof.Machine

/-- The functions of a profile (R407): bit 0 STO, 1 SS1, 2 SLS, 3 SMS, 4 SBC. -/
def profileFuncs (p : Nat) : Nat :=
  match (if 8 ≤ p && p ≤ 14 then p - 7 else p) with
  | 1 => 1 | 2 => 3 | 3 => 7 | 4 => 15 | 5 => 23 | 6 => 27 | 7 => 31 | _ => 0

namespace State

/-- Word k of the safety parameter record in force, counted as in the record (R427); 0 without a record. -/
def par (s : State) (k : Nat) : Word := s.lan.par.getD (k - 5) 0

/-- INPUT_FUNC (R418). -/
def inputFunc (s : State) : Bool := bitOf (s.par 5) 0

/-- Word k of axis n's eight words (R427). -/
def parAx (s : State) (n k : Nat) : Word := s.par (13 + 8 * n + k)

/-- Word k of connection c's four words (R427). -/
def parConn (s : State) (c k : Nat) : Word := s.par (45 + 4 * c + k)

/-- The device is non-safe (R435). -/
def nonsafe (s : State) : Bool := s.profile == 15 || s.on F.SYS_STATE_SPLIT_A

/-- Networked demands are in force: profiles 8 to 14, device not non-safe (R407, R435, R438). -/
def networked (s : State) : Bool := 8 ≤ s.profile && s.profile ≤ 14 && !s.nonsafe

/-- Connection c is used and consumes (R427). -/
def consumes (s : State) (c : Nat) : Bool :=
  s.parConn c 0 != 0 && (bitsOf (s.parConn c 1) 3 2 == 1 || bitsOf (s.parConn c 1) 3 2 == 3)

/-- Connection c is used and produces. -/
def produces (s : State) (c : Nat) : Bool :=
  s.parConn c 0 != 0 && (bitsOf (s.parConn c 1) 3 2 == 2 || bitsOf (s.parConn c 1) 3 2 == 3)

/-- The consuming connections that deliver demands. -/
def consuming (s : State) : List Nat := if s.networked then (upTo 8).filter s.consumes else []

/-- A permit bit of every consuming connection is set (R430); a connection in fail-safe reads as zero (R431). (log 101 DEDUCED) -/
def permit (s : State) (bit : Nat) : Bool := s.consuming.all fun c => bitOf (s.rd .LAN_CONN_DATA c) bit

/-- The profile has function f (bit number of R407). -/
def hasFunc (s : State) (f : Nat) : Bool := (profileFuncs s.profile).testBit f

/-- SLS is demanded (R423). -/
def slsDemand (s : State) : Bool :=
  s.hasFunc 2 && !s.nonsafe && s.on F.LAN_STAT_PARAM_VALID && (bitOf (s.par 5) 1 || !s.permit 1)

/-- The axis of the brake (R427). -/
def sbcAxis (s : State) : Nat := bitsOf (s.par 5) 5 4

/-- SBC_PRESENT of the switch word (R55). -/
def sbcPresent (s : State) : Bool := s.sw.testBit 6

/-- The conditions of a released brake other than the current (R424, R435). (log 100 DEDUCED) -/
def brakeCond (s : State) : Bool :=
  (if s.nonsafe then s.sbcPresent else s.hasFunc 4) && !s.stoOn && s.switching s.sbcAxis && s.permit 3 &&
    !s.on F.LAN_STAT_SBC_FAULT && s.on F.LAN_SBC_REQ

/-- The brake outputs follow their conditions (R424, R425): released only after the current of the brake's axis has been at
SBC_IMIN for 20 ms, applied when any other condition is lost. (log 14 DESIGN CHOICE; log 100 DEDUCED) -/
def brakeEval (s : State) : State :=
  let cur := match s.lan.imagOk with | some t => t + 20 * ticksPerMs ≤ s.tick | none => false
  let was := s.fld F.LAN_SBC_ON == 3
  let rel := s.brakeCond && (was || cur)
  let s := if rel && !was then { s with lan := { s.lan with sbcTestAt := s.tick } } else s
  let stuck := b2n (nth s.lan.sbcPin 0) + 2 * b2n (nth s.lan.sbcPin 1)
  let s := s.setF F.LAN_SBC_FB (if rel then 3 else stuck)
  (s.setF F.LAN_SBC_ON (if rel then 3 else 0)).setF F.LAN_STAT_SBC_APPLIED (b2n !rel)

/-- The brake is applied (R424). -/
def braked (s : State) : Bool := s.on F.LAN_STAT_SBC_APPLIED

/-- STO_FB conducts (R421, R435): STO in force, every command line low, every auxiliary half-bridge high impedance; off in
BOOT and on a non-safe device. (log 14 DESIGN CHOICE) -/
def stoFb (s : State) : Bool :=
  s.stoOn && s.gate.gc == 0 && s.fld F.GATE_AUX_STAT_HIZ == 15 && s.dev != dBOOT && !s.nonsafe

/-- A demanded STO or SS1 has completed: ARMED and RUN go to READY (R77). -/
def demandDone (s : State) : State :=
  if s.lan.doneWait && s.stoOn && s.offDone then
    let s := { s with lan := { s.lan with doneWait := false } }
    if s.dev == dARMED || s.dev == dRUN then s.setDev dREADY else s
  else s

/-- STO is demanded and taken at once (R418 with INPUT_FUNC 0, R430 STO_PERMIT 0). (log 47 DEDUCED; log 97 DEDUCED) -/
def stoDemand (s : State) : State :=
  if s.stoOn then s else ({ s with lan := { s.lan with doneWait := true } }).stoTake.demandDone

/-- The function of INPUT_FUNC is demanded (R418, R430): SS1 only in a profile that has it. -/
def funcDemand (s : State) : State :=
  if s.stoOn then s
  else if s.inputFunc && s.hasFunc 1 then ({ s with lan := { s.lan with doneWait := true } }).ss1Demand
  else s.stoDemand

/-- SLS_ACTIVE and the time since which SLS is demanded (R423). (log 98 DEDUCED) -/
def slsTrack (s : State) : State :=
  let d := s.slsDemand
  let s := { s with lan := { s.lan with slsSince := if d then some (s.lan.slsSince.getD s.tick) else none } }
  s.setF F.LAN_STAT_SLS_ACTIVE (b2n d)

/-- A debug instruction reaches the cores (R54): SW1.11 is ON and a maker session is open. -/
def debugAllowed (s : State) : Bool := s.sw.testBit 10 && s.hst.sessions.any fun x => x.authed && x.role == .maker

/-- FAULT# is driven low (R82). (log 14 DESIGN CHOICE) -/
def faultPin (s : State) : Bool :=
  s.dev == dBOOT || s.dev == dFAULT || s.dev == dQUARANTINE || s.halted || !s.flt.latched.isEmpty

/-- SPI_RDY is high (R104): BOOT has ended, the command buffer has room for the longest packet, and the port is not being
reinitialised (R473). (log 14 DESIGN CHOICE) -/
def spiReady (s : State) : Bool :=
  s.sys.phase == .up && s.cmdFill + 4116 ≤ 65536 && !s.sys.reinit.any fun r => r.func == 0x13

/-- A latent divergence or mismatch of pair B meets a re-plan (R465): it is abandoned, its margins unchanged. (log 102 DEDUCED) -/
def replanAbandon (s : State) : State :=
  if s.cdl.run.isNone then s
  else (({ s with cdl := { s.cdl with run := none, again := true } }).setF F.CDL_STAT_RUNNING 0).raise 0x7085

/-- A re-plan starts. (log 115 DEDUCED) -/
def replanStart (s : State) : State :=
  ({ s with cdl := { s.cdl with run := some s.tick, again := false } }).setF F.CDL_STAT_RUNNING 1

/-- An abandoned re-plan starts again once pair B runs (R465). (log 115 DEDUCED) -/
def replanResume (s : State) : State := if s.cdl.again then s.replanStart else s

/-- What stands at the end of every command: the levels tied to other state, debug access that its conditions have left (R54); the
orders that a command leaves for its own end are done with. (log 14 DESIGN CHOICE) -/
def settle (s : State) : State :=
  let s := s.demandDone.brakeEval.slsTrack
  let s := s.setF F.LAN_STAT_STO_FB (b2n s.stoFb)
  let s := (s.setF F.SYS_FAULT_LATCHED (b2n s.faultPin)).setF F.SYS_FAULT_ALERT (b2n s.flt.unacked)
  let bypass := s.sys.jtagIr == .debug && !s.debugAllowed
  { s with
    sys := { s.sys with
      faultLow := s.faultPin, alertLow := s.flt.unacked, spiRdy := s.spiReady, spiIrqLow := spiFill s != 0
      debugOpen := s.sys.debugOpen && !bypass, jtagIr := if bypass then .bypass else s.sys.jtagIr }
    hst := { s.hst with keyClose := none, bootNext := false } }

end State

/-- The end of a command that settles. (log 14 DESIGN CHOICE) -/
def endWith (s : State) : Host.Outcome State Fault Refusal := .next s.settle

end Sys2Proof.Machine
end

