-- ==== Sys2Proof/Machine/Flags.lean ====
section
/-!
DEFINITION. Machine/Flags.lean: the flags of an engine, its general registers and accumulators, and the conditions of BR
(R179, R181, R182, R184, R190).
-/

namespace Sys2Proof.Machine

namespace State

/-- Engine e: 0 to 7 are LE0 to LE7, 8 and 9 are OE0 and OE1. -/
def engine (s : State) (e : Nat) : Eng := nth s.eng e

/-- The state with engine e changed. -/
def updEng (s : State) (e : Nat) (f : Eng → Eng) : State := { s with eng := upd s.eng e f }

/-- Engine e is an observer engine. -/
def isOe (e : Nat) : Bool := 8 ≤ e

/-- General register d; x0 reads 0 (R179). -/
def xReg (s : State) (e : Nat) (d : Nat) : Word := if d = 0 then 0 else nth (s.engine e).x d

/-- General register d as a signed number. -/
def xInt (s : State) (e : Nat) (d : Nat) : Int := (s.xReg e d).toInt

/-- Z and N from a result, V as given (R184). -/
def setFlags (s : State) (e : Nat) (r : Int) (v : Bool) : State :=
  s.updEng e fun g => { g with z := r == 0, n := r < 0, v := v }

/-- A saturation counts in LE_SAT_CNT (R182). (log 73 DEDUCED) -/
def countSat (s : State) (e : Nat) (v : Bool) : State := s.when_ v fun s => s.bump F.LE_SAT_CNT_COUNT e

/-- General register d takes a word; x0 ignores it (R179). -/
def putX (s : State) (e d : Nat) (w : Word) : State :=
  if d = 0 then s else s.updEng e fun g => { g with x := g.x.set d w }

/-- The result of an arithmetic instruction: saturated to 32 bits, V and LE_SAT_CNT on a saturation, V also where the
instruction itself sets it (R182, R184, R187). -/
def result (s : State) (e d : Nat) (v : Int) (extra : Bool := false) : State :=
  let r := satTo 32 v
  ((s.putX e d (wi r.1)).countSat e r.2).setFlags e r.1 (r.2 || extra)

/-- The result of an instruction that never saturates. -/
def resultW (s : State) (e d : Nat) (w : Word) : State := (s.putX e d w).setFlags e w.toInt false

/-- The accumulators of an engine are ACC0 of 48 bits, or four of 64 bits (R179). -/
def accBits (e : Nat) : Nat := if isOe e then 64 else 48

/-- Accumulator n. -/
def accReg (s : State) (e n : Nat) : Int := nth (s.engine e).acc n

/-- Accumulator n takes a sum, saturated to its width (R182). (log 73 DEDUCED) -/
def resultAcc (s : State) (e n : Nat) (v : Int) : State :=
  let r := satTo (accBits e) v
  ((s.updEng e fun g => { g with acc := g.acc.set n r.1 }).countSat e r.2).setFlags e r.1 r.2

/-- COND of BR (R190); the codes 13 to 15 are illegal and never true. (log 74 DEDUCED) -/
def cond (s : State) (e c : Nat) : Bool :=
  let g := s.engine e
  match c with
  | 0 => true
  | 1 => g.z | 2 => !g.z | 3 => g.n | 4 => !g.n
  | 5 => !g.n && !g.z | 6 => g.n || g.z
  | 7 => g.v | 8 => !g.v | 9 => g.rt | 10 => !g.rt | 11 => g.em | 12 => !g.em
  | _ => false

end State

end Sys2Proof.Machine
end

