-- ==== Sys2Proof/Machine/Engine.lean ====
section
/-!
DEFINITION. Machine/Engine.lean: the instructions of the loop and observer engines apart from IN and OUT, the ends of tasks,
overruns, exceptions and parity, releases and starts (R179 to R204).
-/

namespace Sys2Proof.Machine

namespace State

/-! ## Overruns, exceptions and parity (R195, R196, R200 to R202) -/

/-- A release of a slot ends, as an overrun or not: the counts over the last 16 releases and in a row, and at the third and
the eighth the faults of R200. -/
def endRelease (s : State) (e slot axis : Nat) (over_ : Bool) : State :=
  let k := 4 * e + slot
  let h := (over_ :: nth (s.engine e).hist slot).take 16
  let in16 := (h.filter id).length
  let row := if over_ then min (s.fld F.LE_TASK_OVR_RUN k + 1) 15 else 0
  let s := s.updEng e fun g => { g with hist := g.hist.set slot h }
  let s := (s.setF F.LE_TASK_OVR_IN16 in16 k).setF F.LE_TASK_OVR_RUN row k
  if !over_ then s
  else
    let s := s.bump F.LE_TASK_OVR_COUNT k
    let s := if in16 == 3 then s.raise 0x3020 axis [wd e, wd slot] else s
    if row == 8 then s.raise 0x3021 axis [wd e, wd slot] else s

/-- The running task ends without committing its window (R196). -/
def dropRun (s : State) (e : Nat) : State :=
  (s.updEng e fun g => { g with run := none, window := [], loop := none }).setF F.LE_STAT_BUSY 0 e

/-- The axis of the running task, 7 when none runs. -/
def runAxis (s : State) (e : Nat) : Nat := match (s.engine e).run with | some r => r.axis | none => 7

/-- An exception aborts the task and counts as an overrun (R200, R201). (log 77 DEDUCED) -/
def exception (s : State) (e cause : Nat) : State :=
  let pc := (s.engine e).at_
  let s := ((s.setF F.LE_EXC_INFO_PC pc e).setF F.LE_EXC_INFO_CAUSE cause e).raiseF F.LE_STAT_EXCEPTION e
  let r := (s.engine e).run
  let s := s.dropRun e
  let s := match r with | some r => s.endRelease e r.slot r.axis true | none => s
  s.raise 0x3022 (match r with | some r => r.axis | none => 7) [wd e, wd pc, wd cause]

/-- A parity error that three replays did not correct: the task is aborted, RUN is clear until FUNC_REINIT (R200). (log 77 DEDUCED) -/
def parityStop (s : State) (e : Nat) : State :=
  let a := s.runAxis e
  let s := (s.dropRun e).updEng e fun g => { g with waiting := [], due := [], dead := true }
  let s := ((s.setF F.LE_CTRL_RUN 0 e).setF F.LE_STAT_RUNNING 0 e).raiseF F.LE_STAT_PAR_FAULT e
  s.raise 0x7051 a [wd e]

/-- The parity replays of a release are summed for Candle (R460). (log 77 DEDUCED) -/
def countReplays (s : State) (e r : Nat) : State :=
  match (s.engine e).run with
  | none => s
  | some rel =>
    let k := 4 * e + rel.slot
    let same := fun (x : Nat × Nat × Nat) => x.1 == k && x.2.1 == rel.at_
    let n := match s.cdl.replays.find? same with | some x => x.2.2 | none => 0
    { s with cdl := { s.cdl with replays := (k, rel.at_, n + r) :: s.cdl.replays.filter fun x => !same x } }

/-- Reads that failed parity n times in a row: every repetition counts and adds 2 ticks; more than three are not corrected
(R202). The boolean says that the engine goes on. (log 77 DEDUCED) -/
def parity (s : State) (e n : Nat) : State × Bool :=
  if n = 0 then (s, true)
  else
    let r := min n 3
    let s := s.setF F.LE_PAR_REPLAY_COUNT (min (s.fld F.LE_PAR_REPLAY_COUNT e + r) 0xFFFFFFFF) e
    let s := (s.updEng e fun g => { g with ready := g.ready + 2 * r }).countReplays e r
    if n ≤ 3 then (s.raise 0x7050 (s.runAxis e) [wd e], true) else (s.parityStop e, false)

/-! ## Issue of an instruction -/

/-- Where the engine continues when an instruction ends at address t: at the loop's first address while passes are left. (log 74 DEDUCED) -/
def flow (g : Eng) (t : Nat) : Eng :=
  match g.loop with
  | some (first, after, left) =>
    if t == after then
      if 1 < left then { g with pc := first, loop := some (first, after, left - 1) } else { g with pc := t, loop := none }
    else { g with pc := t }
  | none => { g with pc := t }

/-- An instruction issues once the engine is ready; the next one may issue `cycles` later (R186). Its program word's and its
data word's parity come first; f is its effect. -/
def issue (s : State) (i : Issue) (cycles : Nat) (f : State → State) : State :=
  let e := i.e.val
  let s := s.elapseTo (s.engine e).ready
  let s := s.updEng e fun g => { g with at_ := g.pc, ready := s.tick + cycles }
  let p := s.parity e i.prog
  if !p.2 then p.1
  else
    let q := p.1.parity e i.data
    if !q.2 then q.1 else f (q.1.updEng e fun g => flow g (g.pc + 1))

/-! ## Memories (R179, R180, R196) -/

/-- The number of data words of an engine. -/
def dataSize (e : Nat) : Nat := if isOe e then 8192 else 2048

/-- The number of program words of an engine. -/
def progSize (e : Nat) : Nat := if isOe e then 8192 else 4096

/-- A committed data word. -/
def dataWord (s : State) (e a : Nat) : Word := Store.get zeroMem (s.engine e).data a

/-- The state window of the running task covers an address. -/
def inWindow (s : State) (e a : Nat) : Bool :=
  match (s.engine e).run with
  | some r =>
    let k := 4 * e + r.slot
    let b := s.fld F.LE_TASK_STATE_BASE k
    b ≤ a && a < b + s.fld F.LE_TASK_STATE_LEN k
  | none => false

/-- A load: the task's own staged word, or the committed one. -/
def load (s : State) (e a : Nat) : Word :=
  match (s.engine e).window.find? fun p => p.1 == a with
  | some p => p.2
  | none => s.dataWord e a

/-- A store: staged within the state window, at once outside it. -/
def store (s : State) (e a : Nat) (w : Word) : State :=
  s.updEng e fun g =>
    if s.inWindow e a then { g with window := (a, w) :: g.window.filter fun p => p.1 != a }
    else { g with data := Store.set zeroMem g.data a w }

/-- Coefficient k: its mantissa, its shift, and whether its shift word's reserved bits are zero (R180), as committed where they lie in the
state window of the task (R196). (log 74 DEDUCED) -/
def coeff (s : State) (e k : Nat) : Int × Nat × Bool :=
  let w := s.dataWord e (2 * k + 1)
  ((s.dataWord e (2 * k)).toInt, bitsOf w 4 0, bitsOf w 31 5 == 0)

/-- The product of a register and coefficient k before saturation (R183), or the exception of R180. -/
def withCoeff (s : State) (e a k : Nat) (f : State → Int → State) : State :=
  let c := s.coeff e k
  if c.2.2 then f s (roundShift (s.xInt e a * c.1) c.2.1) else s.exception e 4

/-- The address of a memory instruction; at or beyond the data memory it is exception 1 (R201). -/
def withData (s : State) (e a off : Nat) (f : State → Nat → State) : State :=
  let k := (s.xReg e a).toNat + off
  if k < dataSize e then f s k else s.exception e 1

/-! ## Mailboxes (R189, R204) -/

/-- Word index of the ring of an engine in shared SRAM: outbound at the base, inbound 0x400 bytes after it. (log 76 DEDUCED) -/
def ringWord (s : State) (e k : Nat) (inbound : Bool) : Nat :=
  (s.fld F.LE_MBX_BASE_BASE e / 4 + (if inbound then 256 else 0) + k % 256) % 262144

/-- A mailbox can move an outbound word: the FIFO holds one and the ring has room (R204). (log 76 DEDUCED) -/
def canDrain (s : State) (e : Nat) : Bool :=
  !(s.engine e).outFifo.isEmpty && (s.fld F.LE_MBX_OPTR_WR e + 1) % 256 != s.fld F.LE_MBX_OPTR_RD e

/-- A mailbox can move an inbound word: the ring holds one and the FIFO has room (R204). (log 76 DEDUCED) -/
def canFill (s : State) (e : Nat) : Bool :=
  s.fld F.LE_MBX_IPTR_RD e != s.fld F.LE_MBX_IPTR_WR e && (s.engine e).inFifo.length < 64

/-- One outbound word moves from the FIFO into the ring. (log 76 DEDUCED) -/
def drainOut (s : State) (e : Nat) : State :=
  let wr := s.fld F.LE_MBX_OPTR_WR e
  let fifo := (s.engine e).outFifo
  let s := { s with sram := Store.set zeroMem s.sram (s.ringWord e wr false) (fifo.headD 0) }
  (s.updEng e fun g => { g with outFifo := fifo.tail }).setF F.LE_MBX_OPTR_WR ((wr + 1) % 256) e

/-- One inbound word moves from the ring into the FIFO. (log 76 DEDUCED) -/
def fillIn (s : State) (e : Nat) : State :=
  let rd := s.fld F.LE_MBX_IPTR_RD e
  let w := Store.get zeroMem s.sram (s.ringWord e rd true)
  (s.updEng e fun g => { g with inFifo := g.inFifo ++ [w] }).setF F.LE_MBX_IPTR_RD ((rd + 1) % 256) e

/-- The first word that a mailbox moves, as its transfer and the shared SRAM let it (R24, R27): a word whose transfer fails, or that
the SRAM cannot give, stays where it is, and the boolean says that the mailbox stops there. (log 76 DEDUCED; log 118 DEDUCED) -/
def firstMail (s : State) (e : Nat) (m : Moved) : State × Bool :=
  if s.canDrain e then
    let s := s.replays (some 5) (4 * s.ringWord e (s.fld F.LE_MBX_OPTR_WR e) false) m.fails
    if m.fails < 4 then (s.drainOut e, true) else (s, false)
  else if s.canFill e then
    let at_ := 4 * s.ringWord e (s.fld F.LE_MBX_IPTR_RD e) true
    let (s, whole) := (s.replays (some 5) at_ m.fails).sramFlips m.flips (wd at_)
    if whole && m.fails < 4 then (s.fillIn e, true) else (s, false)
  else (s, true)

/-- The mailboxes of an engine move their words, up to 64 each way; `m` is how the first of them came. (log 76 DEDUCED) -/
def moveMail (s : State) (e : Nat) (m : Moved) : State :=
  let (s, on) := s.firstMail e m
  if !on then s
  else s.forN 64 fun _ s =>
    let s := if s.canDrain e then s.drainOut e else s
    if s.canFill e then s.fillIn e else s

/-! ## Releases and starts (R181, R193) -/

/-- The release due earliest, of a slot if one is named. -/
def nextDue (l : List Rel) (slot : Nat) : Option Rel :=
  (l.filter fun r => r.slot == slot).foldl (fun (m : Option Rel) r =>
    match m with | none => some r | some q => if r.at_ < q.at_ then some r else some q) none

end State

/-! ## Meanings -/

/-- NOP (R186). -/
def execNop (i : Issue) (s : State) : Host.Outcome State Fault Refusal := endWith (s.issue i 1 id)

/-- MOV (R186): xD = xA. -/
def execMov (i : Issue) (d a : Fin 16) (s : State) : Host.Outcome State Fault Refusal :=
  endWith (s.issue i 1 fun s => s.resultW i.e d (s.xReg i.e a))

/-- LIL (R186): xD = IMM, sign-extended. -/
def execLil (i : Issue) (d : Fin 16) (imm : BitVec 16) (s : State) : Host.Outcome State Fault Refusal :=
  endWith (s.issue i 1 fun s => s.resultW i.e d (imm.signExtend 32))

/-- LIH (R186): the upper half of xD. -/
def execLih (i : Issue) (d : Fin 16) (imm : BitVec 16) (s : State) : Host.Outcome State Fault Refusal :=
  endWith (s.issue i 1 fun s => s.resultW i.e d (putBits (s.xReg i.e d) 31 16 imm.toNat))

/-- ADD (R182, R186). -/
def execAdd (i : Issue) (d a b : Fin 16) (s : State) : Host.Outcome State Fault Refusal :=
  endWith (s.issue i 1 fun s => s.result i.e d (s.xInt i.e a + s.xInt i.e b))

/-- SUB (R182, R186). -/
def execSub (i : Issue) (d a b : Fin 16) (s : State) : Host.Outcome State Fault Refusal :=
  endWith (s.issue i 1 fun s => s.result i.e d (s.xInt i.e a - s.xInt i.e b))

/-- NEG (R182, R186). -/
def execNeg (i : Issue) (d a : Fin 16) (s : State) : Host.Outcome State Fault Refusal :=
  endWith (s.issue i 1 fun s => s.result i.e d (-s.xInt i.e a))

/-- ABS (R182, R186). -/
def execAbs (i : Issue) (d a : Fin 16) (s : State) : Host.Outcome State Fault Refusal :=
  endWith (s.issue i 1 fun s => s.result i.e d (s.xInt i.e a).natAbs)

/-- MIN (R186). -/
def execMinReg (i : Issue) (d a b : Fin 16) (s : State) : Host.Outcome State Fault Refusal :=
  endWith (s.issue i 1 fun s => s.result i.e d (min (s.xInt i.e a) (s.xInt i.e b)))

/-- MAX (R186). -/
def execMaxReg (i : Issue) (d a b : Fin 16) (s : State) : Host.Outcome State Fault Refusal :=
  endWith (s.issue i 1 fun s => s.result i.e d (max (s.xInt i.e a) (s.xInt i.e b)))

/-- CLIP (R186): xA limited to ±|xB|. -/
def execClip (i : Issue) (d a b : Fin 16) (s : State) : Host.Outcome State Fault Refusal :=
  endWith (s.issue i 1 fun s =>
    let m : Int := (s.xInt i.e b).natAbs
    s.result i.e d (clampI (-m) m (s.xInt i.e a)))

/-- AND (R186). -/
def execAndReg (i : Issue) (d a b : Fin 16) (s : State) : Host.Outcome State Fault Refusal :=
  endWith (s.issue i 1 fun s => s.resultW i.e d (s.xReg i.e a &&& s.xReg i.e b))

/-- OR (R186). -/
def execOrReg (i : Issue) (d a b : Fin 16) (s : State) : Host.Outcome State Fault Refusal :=
  endWith (s.issue i 1 fun s => s.resultW i.e d (s.xReg i.e a ||| s.xReg i.e b))

/-- XOR (R186). -/
def execXorReg (i : Issue) (d a b : Fin 16) (s : State) : Host.Outcome State Fault Refusal :=
  endWith (s.issue i 1 fun s => s.resultW i.e d (s.xReg i.e a ^^^ s.xReg i.e b))

/-- SHL (R182, R186). -/
def execShl (i : Issue) (d a : Fin 16) (sh : Fin 32) (s : State) : Host.Outcome State Fault Refusal :=
  endWith (s.issue i 1 fun s => s.result i.e d (s.xInt i.e a * 2 ^ sh.val))

/-- SHR (R183, R186). -/
def execShr (i : Issue) (d a : Fin 16) (sh : Fin 32) (s : State) : Host.Outcome State Fault Refusal :=
  endWith (s.issue i 1 fun s => s.result i.e d (roundShift (s.xInt i.e a) sh))

/-- ADDW (R182, R186): modulo 2^32. -/
def execAddw (i : Issue) (d a b : Fin 16) (s : State) : Host.Outcome State Fault Refusal :=
  endWith (s.issue i 1 fun s => s.resultW i.e d (s.xReg i.e a + s.xReg i.e b))

/-- SUBW (R182, R186): modulo 2^32. -/
def execSubw (i : Issue) (d a b : Fin 16) (s : State) : Host.Outcome State Fault Refusal :=
  endWith (s.issue i 1 fun s => s.resultW i.e d (s.xReg i.e a - s.xReg i.e b))

/-- MULC (R180, R183, R186). -/
def execMulc (i : Issue) (d a : Fin 16) (k : Fin 512) (s : State) : Host.Outcome State Fault Refusal :=
  endWith (s.issue i 2 fun s => s.withCoeff i.e a k fun s p => s.result i.e d p)

/-- MUL (R186): the pu24 product. -/
def execMul (i : Issue) (d a b : Fin 16) (s : State) : Host.Outcome State Fault Refusal :=
  endWith (s.issue i 2 fun s => s.result i.e d (pu24Mul (s.xInt i.e a) (s.xInt i.e b)))

/-- MULW (R182, R186): the low 32 bits of the product. -/
def execMulw (i : Issue) (d a b : Fin 16) (s : State) : Host.Outcome State Fault Refusal :=
  endWith (s.issue i 2 fun s => s.resultW i.e d (s.xReg i.e a * s.xReg i.e b))

/-- MAC (R180, R183, R186): the coefficient product, saturated to the width of the accumulator, is added to it. (log 73 DEDUCED) -/
def execMac (i : Issue) (a : Fin 16) (k : Fin 512) (n : Fin 4) (s : State) : Host.Outcome State Fault Refusal :=
  endWith (s.issue i 2 fun s => s.withCoeff i.e a k fun s p =>
    let r := satTo (State.accBits i.e) p
    let s := (s.countSat i.e r.2).resultAcc i.e n (s.accReg i.e n + r.1)
    s.updEng i.e fun g => { g with v := g.v || r.2 })

/-- ACCR (R183, R186). -/
def execAccr (i : Issue) (d : Fin 16) (n : Fin 4) (sh : Fin 32) (s : State) : Host.Outcome State Fault Refusal :=
  endWith (s.issue i 1 fun s => s.result i.e d (roundShift (s.accReg i.e n) sh))

/-- ACCZ (R186). -/
def execAccz (i : Issue) (n : Fin 4) (s : State) : Host.Outcome State Fault Refusal :=
  endWith (s.issue i 1 fun s => s.resultAcc i.e n 0)

/-- SINCOS (R186): xD the sine, xD+1 the cosine; the flags are those of xD. -/
def execSincos (i : Issue) (d a : Fin 16) (s : State) : Host.Outcome State Fault Refusal :=
  endWith (s.issue i 4 fun s =>
    let w := s.xReg i.e a
    (s.putX i.e ((d + 1) % 16) (wi (cosPu w))).resultW i.e d (wi (sinPu w)))

/-- ATAN2 (R186): the angle of the vector (xB, xA). -/
def execAtan2 (i : Issue) (d a b : Fin 16) (s : State) : Host.Outcome State Fault Refusal :=
  endWith (s.issue i 12 fun s => s.resultW i.e d (atan2Pu (s.xReg i.e a) (s.xReg i.e b)))

/-- DIV (R186, R187). -/
def execDiv (i : Issue) (d a b : Fin 16) (s : State) : Host.Outcome State Fault Refusal :=
  endWith (s.issue i 20 fun s =>
    let q := divPu (s.xInt i.e a) (s.xInt i.e b)
    s.result i.e d q.1 q.2)

/-- SQRT (R186). -/
def execSqrt (i : Issue) (d a : Fin 16) (s : State) : Host.Outcome State Fault Refusal :=
  endWith (s.issue i 16 fun s =>
    let q := sqrtPu (s.xReg i.e a)
    s.result i.e d q.1 q.2)

/-- LD (R186, R196, R201). -/
def execLd (i : Issue) (d a : Fin 16) (off : Fin 16384) (s : State) : Host.Outcome State Fault Refusal :=
  endWith (s.issue i 1 fun s => s.withData i.e a off fun s k => s.resultW i.e d (s.load i.e k))

/-- ST (R186, R196, R201). -/
def execSt (i : Issue) (d a : Fin 16) (off : Fin 16384) (s : State) : Host.Outcome State Fault Refusal :=
  endWith (s.issue i 1 fun s => s.withData i.e a off fun s k => s.store i.e k (s.xReg i.e d))

/-- MBR (R186, R189, R204). -/
def execMbr (i : Issue) (d : Fin 16) (s : State) : Host.Outcome State Fault Refusal :=
  endWith (s.issue i 1 fun s =>
    let s := s.moveMail i.e i.mail
    match (s.engine i.e).inFifo with
    | [] => (s.resultW i.e d 0).updEng i.e fun g => { g with em := true }
    | w :: rest =>
      ((s.resultW i.e d w).updEng i.e fun g => { g with em := false, inFifo := rest }).moveMail i.e ⟨0, 0⟩)

/-- MBW (R186, R189, R204). -/
def execMbw (i : Issue) (d : Fin 16) (s : State) : Host.Outcome State Fault Refusal :=
  endWith (s.issue i 1 fun s =>
    let s := s.moveMail i.e ⟨0, 0⟩
    if 64 ≤ (s.engine i.e).outFifo.length then s.raiseF F.LE_STAT_MBX_OVF i.e
    else (s.updEng i.e fun g => { g with outFifo := g.outFifo ++ [s.xReg i.e d] }).moveMail i.e i.mail)

/-- TST (R184, R186). -/
def execTst (i : Issue) (a : Fin 16) (s : State) : Host.Outcome State Fault Refusal :=
  endWith (s.issue i 1 fun s => s.setFlags i.e (s.xInt i.e a) false)

/-- CMP (R184, R186): flags of the saturated difference. -/
def execCmp (i : Issue) (a b : Fin 16) (s : State) : Host.Outcome State Fault Refusal :=
  endWith (s.issue i 1 fun s =>
    let r := satTo 32 (s.xInt i.e a - s.xInt i.e b)
    (s.countSat i.e r.2).setFlags i.e r.1 r.2)

/-- BR (R186, R188, R190): a branch on RT or not RT waits until the outcome of the last OUT is known. (log 74 DEDUCED) -/
def execBranch (i : Issue) (cond : Fin 16) (target : Fin 8192) (s : State) : Host.Outcome State Fault Refusal :=
  let g := s.engine i.e
  let s := if cond.val == 9 || cond.val == 10 then s.updEng i.e fun g => { g with ready := max g.ready g.outAt } else s
  let taken := s.cond i.e cond
  endWith (s.issue i (if taken then 2 else 1) fun s =>
    if taken then s.updEng i.e fun h => State.flow { h with loop := g.loop } target else s)

/-- LOOP (R186): the next LEN instructions are executed N times. (log 74 DEDUCED) -/
def execLoop (i : Issue) (passes : Fin 256) (len : Fin 64) (s : State) : Host.Outcome State Fault Refusal :=
  endWith (s.issue i 1 fun s => s.updEng i.e fun g =>
    { g with loop := some (g.at_ + 1, g.at_ + 2 + len.val, passes.val + 1) })

/-- END (R193, R196): the window is committed and the release ends; LE_TASK_LAST tells when. (log 74 DEDUCED) -/
def execEndTask (i : Issue) (s : State) : Host.Outcome State Fault Refusal :=
  endWith (s.issue i 1 fun s =>
    let e := i.e.val
    match (s.engine e).run with
    | none => s
    | some r =>
      let s := s.updEng e fun g => { g with data := g.window.foldr (fun p m => Store.set zeroMem m p.1 p.2) g.data }
      let s := s.setF F.LE_TASK_LAST_END (min (s.tick + 1 - r.inst) 0xFFFFFF) (4 * e + r.slot)
      (s.dropRun e).endRelease e r.slot r.axis false)

/-- TASK_RELEASE (R193): the next release of the slot comes due; time passes to it. (log 2 DESIGN CHOICE) -/
def execTaskRelease (e : Fin 10) (slot : Fin 4) (s : State) : Host.Outcome State Fault Refusal :=
  match State.nextDue (s.engine e).due slot with
  | none => endWith s
  | some r =>
    let s := s.elapseTo r.at_
    endWith (s.updEng e fun g => { g with due := g.due.erase r, waiting := g.waiting ++ [r] })

/-- TASK_START (R181, R193, R203): an idle engine that runs starts the waiting task of lowest slot; the words staged by
LE_MDATA are applied, the registers are cleared and preloaded. -/
def execTaskStart (e : Fin 10) (s : State) : Host.Outcome State Fault Refusal :=
  let g := s.engine e
  let pick : Option Rel := (upTo 4).findSome? fun k => g.waiting.find? fun (r : Rel) => r.slot == k
  match pick with
  | none => endWith s
  | some r =>
    if g.run.isSome || !s.on F.LE_CTRL_RUN e then endWith s
    else
      let s := s.elapseTo g.ready
      let s := s.updEng e fun g => { g with
        data := g.staged.foldl (fun m p => Store.set zeroMem m p.1 p.2) g.data
        staged := [], run := some r, window := [], loop := none
        waiting := g.waiting.erase r
        x := List.replicate 14 0 ++ [r.index, r.stamp]
        acc := [0, 0, 0, 0]
        z := false, n := false, v := false, rt := false, em := false
        pc := s.fld F.LE_TASK_CFG_ENTRY (4 * e.val + r.slot)
        ready := s.tick + 2 }
      endWith (((s.setF F.LE_MSTAT_PENDING 0 e).setF F.LE_STAT_BUSY 1 e).setF F.LE_STAT_SLOT r.slot e)

/-- TASK_DEADLINE (R195, R196, R200): the slot's oldest release that has not ended at its deadline, running, waiting or still due, is
aborted or dropped. -/
def execTaskDeadline (e : Fin 10) (slot : Fin 4) (s : State) : Host.Outcome State Fault Refusal :=
  let k := 4 * e.val + slot.val
  let g := s.engine e
  let running := g.run.filter fun r => r.slot == slot.val
  let waiting := g.waiting.find? fun r => r.slot == slot.val
  match running.or (waiting.or (State.nextDue g.due slot)) with
  | none => endWith s
  | some r =>
    let s := s.elapseTo (r.inst + s.fld F.LE_TASK_DEADLINE_DEADLINE k)
    let s := if running.isSome then s.dropRun e
      else if waiting.isSome then s.updEng e fun g => { g with waiting := g.waiting.erase r }
      else s.updEng e fun g => { g with due := g.due.erase r }
    endWith ((s.raise 0x3001 r.axis [wd e, wd slot]).endRelease e slot r.axis true)

end Sys2Proof.Machine
end

