-- ==== Sys2Proof/Machine/Audit.lean ====
section
/-!
DEFINITION. Machine/Audit.lean: audit records, and the register copies that the device keeps in its own NV regions (R446,
R451, R452).
-/

namespace Sys2Proof.Machine

/-- ROLE of an audit record (R452). -/
def roleCode (r : Role) : Nat := match r with | .operator => 0 | .installer => 1 | .maker => 2

/-- TRANSPORT of an audit record (R452). -/
def viaCode (t : Transport) : Nat := match t with | .spi => 1 | .udp => 2 | .can0 => 3 | .can1 => 4

/-- Who made an audited change: role code, transport code, session, source address. -/
structure By where
  role : Nat
  via : Nat
  session : Word
  ip : Word
  deriving DecidableEq, Repr, Inhabited

/-- The device itself (R452). (log 35 DEDUCED) -/
def byDevice : By := ⟨3, 0, 0, 0⟩

/-- A session's role over a packet. (log 35 DEDUCED) -/
def byPkt (r : Role) (p : Pkt) : By := ⟨roleCode r, viaCode p.via, p.session, if p.via == .udp then p.srcIp else 0⟩

namespace State

/-- One audit record (R451, R452); the log keeps 4,096. (log 35 DEDUCED) -/
def audit (s : State) (by_ : By) (event : Nat) (object old new : Word) : State :=
  let r : AuditRec := ⟨s.flt.nextAudit, s.meridian, event, by_.role, by_.via, s.fld F.MER_STAT_MSTATE, by_.session, by_.ip,
    object, old, new⟩
  { s with flt := { s.flt with audit := (r :: s.flt.audit).take 4096, nextAudit := s.flt.nextAudit + 1 } }

/-- A register's value is kept in the device's own NV region, from which BOOT restores it. (log 37 DEDUCED; log 107 DESIGN CHOICE) -/
def keep (s : State) (r : RegId) (i : Nat := 0) : State :=
  { s with nv := { s.nv with kept := Store.set regDefault s.nv.kept (regCode r i) (s.rd r i) } }

end State

end Sys2Proof.Machine
end

