-- ==== Sys2Proof/Machine/Envelope.lean ====
section
/-!
DEFINITION. Machine/Envelope.lean: which registers the Lantern envelope bounds, and the clipping of a value (R31, R224, R413 to
R415).
-/

namespace Sys2Proof.Machine

/-- A bound of the envelope on a register: its range, and the axis whose field it is (none for a bridge field). -/
structure EnvBound where
  lo : Int
  hi : Int
  axis : Option Nat
  deriving DecidableEq, Repr, Inhabited

namespace State

/-- A magnitude bounded by a field of axis a. -/
def magBound (s : State) (f : RegId) (a : Nat) : Option EnvBound :=
  let m : Int := (s.sg f a).natAbs
  some ⟨-m, m, some a⟩

/-- The bridge field VDC_HI as an upper bound. -/
def vdcBound (s : State) (b : Nat) : Option EnvBound := some ⟨satMin, s.sg .LAN_ENV_VDC_HI b, none⟩

/-- What the envelope allows in a register (R414); none where it bounds nothing, as without a valid envelope (R413). (log 33 DEDUCED) -/
def envBound (s : State) (r : RegId) (i : Nat) : Option EnvBound :=
  if !s.envValid then none
  else match r with
    | .AX_ILIM | .AX_ID_MAX => s.magBound .LAN_ENV_IMAX i
    | .AX_VLIM | .AX_RAMP_VMAX | .AX_TEN_VLIM | .AX_EM_VLIM => s.magBound .LAN_ENV_VMAX i
    | .AX_TLIM_P | .AX_TLIM_N | .AX_EM_TLIM => s.magBound .LAN_ENV_TMAX i
    | .AX_TRATE => s.magBound .LAN_ENV_TRATE i
    | .AX_PLIM | .AX_PLIM_GEN | .AX_EM_PLIM => s.magBound .LAN_ENV_PMAX i
    | .AX_SP_HOST =>
      match s.fld F.AX_CTRL_MODE i with
      | 0 => s.magBound .LAN_ENV_TMAX i
      | 1 => s.magBound .LAN_ENV_VMAX i
      | _ => none
    | .SD_OC_HI =>
      let b := s.fld F.SD_CFG_BRIDGE i
      let role := s.fld F.SD_CFG_ROLE i
      let a := s.fld F.BR_CFG_AXIS b
      if role == 0 then none
      else if role ≤ 3 then
        if s.on F.BR_CFG_TYPE b then some ⟨satMin, s.sg .LAN_ENV_IMAX a, some a⟩ else none
      else s.vdcBound b
    | .SD_OC_LO =>
      let b := s.fld F.SD_CFG_BRIDGE i
      let role := s.fld F.SD_CFG_ROLE i
      let a := s.fld F.BR_CFG_AXIS b
      if role == 0 || 3 < role || !s.on F.BR_CFG_TYPE b then none else some ⟨-(s.sg .LAN_ENV_IMAX a), satMax, some a⟩
    | .CHOP_ON => if s.on F.CHOP_CFG_ASSIGNED i then s.vdcBound (s.fld F.CHOP_CFG_BRIDGE i) else none
    | _ => none

/-- A value lies beyond the envelope. (log 33 DEDUCED) -/
def beyondEnv (s : State) (r : RegId) (i : Nat) (w : Word) : Bool :=
  match s.envBound r i with
  | some b => w.toInt < b.lo || b.hi < w.toInt
  | none => false

/-- The value clipped to the envelope. -/
def clipEnv (s : State) (r : RegId) (i : Nat) (w : Word) : Word :=
  match s.envBound r i with
  | some b => wi (clampI b.lo b.hi w.toInt)
  | none => w

/-- The limit in force (R415): the stricter of the register and the envelope's field. (log 33 DEDUCED) -/
def inForce (s : State) (r : RegId) (i : Nat) : Int := (s.clipEnv r i (s.rd r i)).toInt

/-- ENV_CLIP is set (R224): on the axis, or in LAN_STAT for a bridge field. -/
def markClip (s : State) (r : RegId) (i : Nat) : State :=
  match s.envBound r i with
  | some b => match b.axis with
    | some a => s.raiseF F.AX_STAT_ENV_CLIP a
    | none => s.raiseF F.LAN_STAT_ENV_CLIP
  | none => s

/-- A register that holds a value beyond the envelope is set to the bound. (log 33 DEDUCED) -/
def clipReg (s : State) (r : RegId) (i : Nat) : State :=
  if s.beyondEnv r i (s.rd r i) then (s.wr r (s.clipEnv r i (s.rd r i)) i).markClip r i else s

/-- Every bounded register is brought within the envelope (R413). (log 33 DEDUCED) -/
def clipAll (s : State) : State :=
  let ax : List RegId := [.AX_ILIM, .AX_ID_MAX, .AX_VLIM, .AX_RAMP_VMAX, .AX_TEN_VLIM, .AX_EM_VLIM, .AX_TLIM_P, .AX_TLIM_N,
    .AX_EM_TLIM, .AX_TRATE, .AX_PLIM, .AX_PLIM_GEN, .AX_EM_PLIM, .AX_SP_HOST]
  let s := s.forN 4 fun a s => s.forL ax fun r s => s.clipReg r a
  let s := s.forN 16 fun c s => (s.clipReg .SD_OC_HI c).clipReg .SD_OC_LO c
  s.forN 8 fun k s => s.clipReg .CHOP_ON k

end State

end Sys2Proof.Machine
end

