-- ==== Sys2Proof/Machine/Sense.lean ====
section
/-!
DEFINITION. Machine/Sense.lean: the sigma-delta channels: their clocks and bits, the sinc3 value of a centre, the fast sinc2 value and
what its crossing of the thresholds does (R155, R167 to R170, R301).
-/

namespace Sys2Proof.Machine

/-- 0 and the sums of the first numbers of a list, from a start. -/
def runningSums : Int → List Int → List Int
  | t, [] => [t]
  | t, x :: l => t :: runningSums (t + x) l

/-- The sums of every n neighbours of a list. -/
def boxcar (n : Nat) (l : List Int) : List Int :=
  let p := runningSums 0 l
  List.zipWith (fun a b => b - a) p (p.drop n)

/-- A sinc filter of an order and a ratio n over order·(n − 1) + 1 bits, each worth 1 or −1: its one result, n^order for full scale. -/
def sinc (n : Nat) : Nat → List Int → Int
  | 0, l => l.headD 0
  | k + 1, l => sinc n k (boxcar n l)

namespace State

/-! ## Channels (R155, R167, R169) -/

/-- The enabled sigma-delta channel of a bridge with a role (R169). -/
def sdOf (s : State) (b role : Nat) : Option Nat :=
  (upTo 16).find? fun c => s.on F.SD_CFG_EN c && s.fld F.SD_CFG_BRIDGE c == b && s.fld F.SD_CFG_ROLE c == role

/-- Sigma-delta channel c. -/
def sd (s : State) (c : Nat) : Sd := nth s.pwm.sd c

/-- The clock that a channel samples against runs (R167). -/
def sdClocked (s : State) (c : Nat) : Bool :=
  if s.on F.SD_CFG_CLK c then s.on F.SNS_CTRL_CLK1_EN else s.on F.SNS_CTRL_CLK0_EN

/-- The place of a channel's sampling among the 10 ticks of a bit (R167): SAMPLE_TICK after the rising edge of its clock, whose own place
is free. (log 124 DESIGN CHOICE) -/
def sdPlace (s : State) (c : Nat) : Nat :=
  (Config.sdPhase (s.fld F.SD_CFG_CLK c) + s.fld F.SD_CFG_SAMPLE_TICK c) % 10

/-- How many bits a channel has sampled up to a tick, counted from the channel's first place. -/
def sdCount (s : State) (c t : Nat) : Nat := (t + 10 - s.sdPlace c) / 10

/-- The level of SDCLK0 or SDCLK1 (R167): low while it does not run, else high for the first half of a bit. (log 124 DESIGN CHOICE) -/
def sdClk (s : State) (k : Nat) : Bool :=
  s.on (if k == 0 then F.SNS_CTRL_CLK0_EN else F.SNS_CTRL_CLK1_EN) && decide ((s.tick + 10 - Config.sdPhase k % 10) % 10 < 5)

/-- A channel's bits begin afresh: its clock, its sampling or the channel itself has been set anew. (log 124 DESIGN CHOICE) -/
def sdRestart (s : State) (c : Nat) : State :=
  { s with pwm := { s.pwm with sd := upd s.pwm.sd c fun _ => ⟨[], s.tick⟩, fastOut := putBit s.pwm.fastOut c false,
                               stuck := putBit s.pwm.stuck c false } }

/-! ## Values (R168, R170) -/

/-- What a bit is worth. -/
def bitWorth (b : Bool) : Int := if b then 1 else -1

/-- A filter's result as the channel reports it: raw·SD_GAIN + SD_OFFSET, inverted where INVERT is set (R168). -/
def sdScaled (s : State) (c : Nat) (sum : Int) (full : Nat) : Int × State :=
  let (v, s) := s.quot (sum * s.sg .SD_GAIN c) full
  let v := v + s.sg .SD_OFFSET c
  (satI (if s.on F.SD_CFG_INVERT c then -v else v), s)

/-- The bits of the sinc3 window centred on the bit nearest a tick, newest first (R168, R169): 3·OSR − 2 bits have a weight, and of two
bits as near the earlier is taken; none where one of them is not here. (log 124 DESIGN CHOICE) -/
def sdWindow (s : State) (c t : Nat) : Option (List Bool) :=
  let n := 3 * s.fld F.SD_CFG_OSR c - 2
  let newest := s.sdCount c (s.sd c).at_
  let k := s.sdCount c (t + 4)
  let newer := (n - 1) / 2
  if newest < k + newer then none
  else
    let l := ((s.sd c).bits.drop (newest - k - newer)).take n
    if l.length == n then some l else none

/-- The value of a channel for the bit nearest a tick (R168); without the bits of its window the spec states none.
(log 124 DESIGN CHOICE) -/
def sdValueAt (s : State) (c t : Nat) : Int × State :=
  let osr := s.fld F.SD_CFG_OSR c
  match s.sdWindow c t with
  | some l => s.sdScaled c (sinc osr 3 (l.map bitWorth)) (osr ^ 3)
  | none =>
    let (raw, s) := s.freeErr (2 ^ 24)
    s.sdScaled c raw (2 ^ 24)

/-- The fast value of a channel (R170): the sinc2 filter of OSR_FAST over its newest bits; none until they are here. -/
def fastValue (s : State) (c : Nat) : Option Int × State :=
  let n := s.fld F.SD_OC_CFG_OSR_FAST c
  let l := (s.sd c).bits.take (2 * n - 1)
  if l.length == 2 * n - 1 then
    let (v, s) := s.sdScaled c (sinc n 2 (l.map bitWorth)) (n ^ 2)
    (some v, s)
  else (none, s)

/-- The channels of a bridge's DC link (R301, R416): that of role 4, or those of roles 5 and 6. -/
def linkChans (s : State) (b : Nat) : List Nat :=
  match s.sdOf b 4, s.sdOf b 5, s.sdOf b 6 with
  | some c, _, _ => [c]
  | none, some u, some l => [u, l]
  | _, _, _ => []

/-- The fast value of a bridge's DC link (R301, R416): the channel of role 4, or the sum of roles 5 and 6. -/
def fastLink (s : State) (b : Nat) : Option Int × State :=
  match s.sdOf b 4, s.sdOf b 5, s.sdOf b 6 with
  | some c, _, _ => s.fastValue c
  | none, some u, some l =>
    match s.fastValue u with
    | (some x, s) =>
      match s.fastValue l with
      | (some y, s) => (some (satI (x + y)), s)
      | (none, s) => (none, s)
    | (none, s) => (none, s)
  | _, _, _ => (none, s)

/-! ## Bits arrive -/

/-- The fast comparator of an enabled channel after a bit (R170): a crossing outwards sets its flag, and on a channel with a role is the
fault of its axis. (log 64 DEDUCED) -/
def fastJudge (s : State) (c : Nat) : State :=
  match s.fastValue c with
  | (none, s) => s
  | (some v, s) =>
    let high := decide (s.sg .SD_OC_HI c < v)
    let low := decide (v < s.sg .SD_OC_LO c)
    let was := s.pwm.fastOut.getLsbD c
    let s := { s with pwm := { s.pwm with fastOut := putBit s.pwm.fastOut c (high || low) } }
    if !(high || low) || was then s
    else
      let s := s.raiseF (if high then F.SD_STAT_OC_HI else F.SD_STAT_OC_LO) c
      let role := s.fld F.SD_CFG_ROLE c
      if role == 0 then s
      else s.raise (if role ≤ 3 then 0x1010 else 0x1012) (s.ownerOf (s.fld F.SD_CFG_BRIDGE c)) [wd c]

/-- 64 identical bits in a row on an enabled channel (R170). (log 64 DEDUCED) -/
def stuckJudge (s : State) (c : Nat) : State :=
  let l := (s.sd c).bits.take 64
  let now := l.length == 64 && l.all (· == l.headD false)
  let was := s.pwm.stuck.getLsbD c
  let s := { s with pwm := { s.pwm with stuck := putBit s.pwm.stuck c now } }
  if !now || was then s
  else (s.raiseF F.SD_STAT_STREAM_FAULT c).raise 0x1011 (s.ownerOf (s.fld F.SD_CFG_BRIDGE c)) [wd c]

/-- One bit arrives on a channel at a tick. -/
def sdBit (s : State) (c : Nat) (t : Nat) (b : Bool) : State :=
  let s := { s with pwm := { s.pwm with sd := upd s.pwm.sd c fun x => ⟨(b :: x.bits).take 16384, t⟩ } }
  if s.on F.SD_CFG_EN c then (s.fastJudge c).stuckJudge c else s

/-- The bits that a channel has sampled since the last ones arrive, oldest first, as many as its clock has given by now (R167, R168). -/
def sdFeed (s : State) (c : Nat) (bits : List Bool) : State :=
  if !s.sdClocked c then s
  else
    let from_ := s.sdCount c (s.sd c).at_
    let new := bits.take (s.sdCount c s.tick - from_)
    s.forL new.zipIdx fun x s => s.sdBit c (10 * (from_ + x.2) + s.sdPlace c) x.1

/-- How many bits a channel has sampled since the last ones arrived. -/
def sdTaken (s : State) (c : Nat) : Nat := if s.sdClocked c then s.sdCount c s.tick - s.sdCount c (s.sd c).at_ else 0

/-- The tick at which a channel samples its next bit. -/
def sdNext (s : State) (c : Nat) : Nat := 10 * s.sdCount c (s.sd c).at_ + s.sdPlace c

/-- The bits of all channels arrive. -/
def sdFeedAll (s : State) (bits : List (List Bool)) : State := s.forN 16 fun c s => s.sdFeed c (nth bits c)

end State

end Sys2Proof.Machine
end

