-- ==== Sys2Proof/Machine/GateEvents.lean ====
section
/-!
DEFINITION. Machine/GateEvents.lean: the GATE block: status judgement, the fault record, Lantern's check of every command
edge, choppers, the driver rail and the auxiliary driver's supervision (R23, R285 to R309, R170).
-/

namespace Sys2Proof.Machine

namespace State

/-! ## Judgement (R289 to R291) -/

/-- The blanking length of a channel in ticks. -/
def blank (s : State) (g : Nat) : Nat := s.fld F.GC_CFG_BLANK g

/-- A window still covers this tick. -/
def winOpen (s : State) (g : Nat) (w : Win) : Bool := s.tick < w.start + s.blank g

/-- KIND of a status level against the command (R289): 2 low while commanded on, 3 high while commanded off. -/
def echoKind (level : Bool) : Nat := if level then 3 else 2

/-- The corrected tick of a status change seen now (R23, R288). (log 15 DEDUCED) -/
def gsTick (s : State) (g : Nat) : Nat := s.tick - 2 - s.fld F.GC_CFG_FILT g

/-- The lines whose glitch filter accepts a level that they have held for so many ticks (R288). -/
def gsThrough (s : State) (held : Nat) : Lines :=
  (upTo 48).foldl (fun m g => if s.fld F.GC_CFG_FILT g ≤ held then m ||| 1#48 <<< g else m) 0

/-- An acknowledged edge is timed (R299) and its mean compared with GATE_RT_LIM (R300). -/
def timeEdge (s : State) (g : Nat) (w : Win) : State :=
  let rt := min (4 * s.gsTick g + 2 - w.edge) 65535
  let (mean, mx) := if w.on then (F.GATE_RT_RT_ON, F.GATE_RT_MAX_ON_MAX) else (F.GATE_RT_RT_OFF, F.GATE_RT_MAX_OFF_MAX)
  let c := nth s.gate.chans g
  let seen := if w.on then c.onSeen else c.offSeen
  let old := s.fld mean g
  let (d, s) := if seen then s.quot ((rt : Int) - old) 256 else ((rt : Int) - old, s)
  let new := ((old : Int) + d).toNat
  let s := (s.setF mean new g).setF mx (max (s.fld mx g) rt) g
  let s := s.updChan g fun c => if w.on then { c with onSeen := true } else { c with offSeen := true }
  let lim := s.fld F.GATE_RT_LIM_LIM
  if (!seen || old ≤ lim) && lim < new then (s.raiseF F.GATE_STAT_RT_LONG).raise 0x1007 7 [wd g] else s

/-! ## The fault record (R291, R297) -/

/-- One status fault enters the mask and the records: channel, KIND, corrected timestamp. (log 62 DEDUCED) -/
def enterFault (s : State) (g kind ts : Nat) : State :=
  let s := s.wr (if g < 32 then .GATE_FLT_MASK_LO else .GATE_FLT_MASK_HI)
    (s.rd (if g < 32 then .GATE_FLT_MASK_LO else .GATE_FLT_MASK_HI) ||| (1#32 <<< (g % 32)))
  let s := s.forL (s.bridgesNaming g) fun b s => s.setBit F.GATE_STAT_FLT b true
  if s.on F.GATE_FLT_REC_VALID g then s
  else
    let s := match s.gate.first with
      | some _ => s
      | none =>
        let t := s.pwmTime - BitVec.ofNat 64 (5 * (s.tick - ts))
        ({ s with gate := { s.gate with first := some ts } }.wr .GATE_FLT_TIME_LO (lo32 t)).wr .GATE_FLT_TIME_HI (hi32 t)
    let t0 := s.gate.first.getD ts
    let twins := s.gate.stamps.filter fun p => p.2.1 == ts
    let s := { s with gate := { s.gate with stamps := (g, ts, s.tick) :: s.gate.stamps } }
    let s := s.setF F.GATE_FLT_REC_TICK (min (if ts < t0 then t0 - ts else ts - t0) 65535) g
    let s := (s.setF F.GATE_FLT_REC_KIND kind g).setF F.GATE_FLT_REC_EARLY (b2n (ts < t0)) g
    let s := (s.setF F.GATE_FLT_REC_VALID 1 g).setF F.GATE_FLT_REC_COINC (b2n !twins.isEmpty) g
    s.forL twins fun p s => s.setF F.GATE_FLT_REC_COINC 1 p.1

/-- One status fault is counted and enters the record. -/
def recordFault (s : State) (g kind ts : Nat) : State := (s.bump F.GATE_FLT_CNT_COUNT).enterFault g kind ts

/-- The records and the mask are cleared (R298), but for the channels whose fault acts in this tick (R296). (log 62 DEDUCED) -/
def clearRecord (s : State) : State :=
  let kept := (s.gate.stamps.filter fun p => p.2.2 == s.tick).reverse.map fun p => (p.1, s.fld F.GATE_FLT_REC_KIND p.1, p.2.1)
  let s := { s with gate := { s.gate with first := none, stamps := [] } }
  let s := ((s.setF F.GATE_STAT_FLT 0).wr .GATE_FLT_MASK_LO 0).wr .GATE_FLT_MASK_HI 0
  let s := s.forN 48 fun g s => s.wr .GATE_FLT_REC 0 g
  s.forL kept fun p s => s.enterFault p.1 p.2.1 p.2.2

/-- The channels with a record, in channel order. -/
def faultedChans (s : State) : List Nat :=
  (upTo 48).filter fun g => s.on F.GATE_FLT_REC_VALID g

/-- Chunks of eight, for the records that continue one another (R453). -/
def eights : Nat → List Nat → List (List Nat)
  | 0, _ => []
  | _, [] => []
  | n + 1, l => l.take 8 :: eights n (l.drop 8)

/-- All status faults that act in this tick (R291, R294, R295): recorded, one off sequence, one GATE_STATUS_FAULT whose
record holds the masks and the first eight channels, further channels in continuation records (R453). (log 62 DEDUCED) -/
def gateFaults (s : State) (fs : List (Nat × Nat × Nat)) : State :=
  match fs with
  | [] => s
  | (g0, _, _) :: _ =>
    let s := s.forL fs fun f s => s.recordFault f.1 f.2.1 f.2.2
    let axis := match s.bridgesNaming g0 with | b :: _ => s.fld F.BR_CFG_AXIS b | [] => 7
    let head := [s.rd .GATE_FLT_MASK_LO, s.rd .GATE_FLT_MASK_HI]
    let parts := (eights 6 s.faultedChans).map fun gs => head ++ gs.map fun g => s.rd .GATE_FLT_REC g
    let s := s.raise 0x1001 axis (parts.headD head)
    s.forL (parts.drop 1) fun d s => s.logFault 0x1001 axis d true

/-- The first window of a list that a test names latches a level with its timestamp, unless it has latched one (R290). -/
def latchIn (test : Win → Bool) (lv : Bool) (ts : Nat) : List Win → List Win
  | [] => []
  | w :: l => if test w then { w with latch := w.latch.orElse fun _ => some (lv, ts) } :: l else w :: latchIn test lv ts l

/-- One channel's new filtered level is judged: the state with windows and timing updated, and the fault if there is one. Of several open
windows the first latches it. (log 62 DEDUCED) -/
def judgeEdge (s : State) (g : Nat) (lv : Bool) : State × List (Nat × Nat × Nat) :=
  let ts := s.gsTick g
  let wins := (nth s.gate.chans g).wins
  let open_ := wins.filter (s.winOpen g)
  if s.fld F.GC_CFG_MODE g == 2 then
    if !lv then (s, [])
    else if open_.isEmpty then (s, [(g, 1, ts)])
    else (s.updChan g fun c => { c with wins := latchIn (s.winOpen g) true ts c.wins }, [])
  else if open_.isEmpty then
    if lv == s.gate.gc.getLsbD g then (s, []) else (s, [(g, echoKind lv, ts)])
  else
    match wins.findIdx? fun w => s.winOpen g w && !w.acked && w.on == lv with
    | some k =>
      let s' := s.timeEdge g (nth wins k)
      (s'.updChan g fun c => { c with wins := upd c.wins k fun w => { w with acked := true } }, [])
    | none =>
      (s.updChan g fun c => { c with wins := latchIn (fun w => s.winOpen g w && w.acked && w.on != lv) lv ts c.wins }, [])

/-- What the end of a window decides (R289, R290): the fault, or a glitch that has gone. A level that stands is judged at the end of one
window, not again at the end of another that was open then. (log 62 DEDUCED) -/
def judgeEnd (s : State) (g : Nat) (w : Win) (others : Bool) : State × List (Nat × Nat × Nat) :=
  let gs := s.gate.gs.getLsbD g
  let gc := s.gate.gc.getLsbD g
  let gone := (s.bump F.GATE_BLANK_CNT_COUNT).raise 0x1003 7 [wd g]
  if s.fld F.GC_CFG_MODE g == 2 then
    match w.latch with
    | some (_, ts) => if gs then (s, [(g, 1, ts)]) else (gone, [])
    | none => if gs && !others && !w.judged then (s, [(g, 1, s.tick)]) else (s, [])
  else if !w.acked then (s, [(g, if w.on then 2 else 3, s.tick)])
  else
    match w.latch with
    | some (lv, ts) => if gs == lv && lv != gc then (s, [(g, echoKind lv, ts)]) else (gone, [])
    | none => if gs != gc && !others && !w.judged then (s, [(g, echoKind gs, s.tick)]) else (s, [])

/-- A channel outside any window stands at a level that is a fault (R289). -/
def standsFaulty (s : State) (g : Nat) : Bool :=
  s.assigned g && s.on F.GC_CFG_MODE g && !(nth s.gate.chans g).wins.any (s.winOpen g) &&
    (if s.fld F.GC_CFG_MODE g == 2 then s.gate.gs.getLsbD g else s.gate.gs.getLsbD g != s.gate.gc.getLsbD g)

/-- The levels that stand are judged where a channel becomes judged without an edge of its status line: a write has assigned it or
set its mode (R287, R289, R291). A channel whose bit in the mask is set has had its fault. (log 62 DEDUCED) -/
def judgeStanding (s : State) : State :=
  let mask := s.rd .GATE_FLT_MASK_HI ++ s.rd .GATE_FLT_MASK_LO
  let gs := (upTo 48).filter fun g => s.standsFaulty g && !mask.getLsbD g
  s.gateFaults (gs.map fun g =>
    (g, if s.fld F.GC_CFG_MODE g == 2 then 1 else echoKind (s.gate.gs.getLsbD g), s.tick))

/-! ## Lantern's check of a command edge (R163, R164, R292) -/

/-- A channel whose MODE is 0 has no window (R287). -/
def dropWins (s : State) (g : Nat) : State :=
  if s.on F.GC_CFG_MODE g then s else s.updChan g fun c => { c with wins := [] }

/-- The slots of the phase that slot k belongs to (R152). -/
def phaseSlots (s : State) (b k : Nat) : List Nat :=
  if s.fld F.BR_CFG_TYPE b == 2 then (upTo 4).map (4 * (k / 4) + ·) else (upTo 2).map (2 * (k / 2) + ·)

/-- The slot complementary to k: upper and lower, or S1–S3 and S2–S4. -/
def complement (s : State) (b k : Nat) : Nat :=
  if s.fld F.BR_CFG_TYPE b == 2 then (if k % 4 < 2 then k + 2 else k - 2) else (if k % 2 == 0 then k + 1 else k - 1)

/-- The combinations of R164. -/
def comboOk (type : Nat) (l : List Bool) : Bool :=
  if type == 2 then
    [[false, false, false, false], [false, true, false, false], [false, false, true, false], [true, true, false, false],
     [false, true, true, false], [false, false, true, true]].contains l
  else [[false, false], [true, false], [false, true]].contains l

/-- The slot of bridge b that a channel fills. -/
def slotOf (s : State) (b g : Nat) : Nat := ((upTo (s.slotCount b)).find? fun k => s.slot b k == g).getD 0

/-- A gate fault is latched (R286, R291, R292, R295). -/
def gateLatched (s : State) : Bool := s.flt.latched.any fun f => [0x1001, 0x1004, 0x1006].contains f.code

/-- Lantern releases the bridge (R48, R81, R228, R295): STO released, no gate fault latched, its start bit set, and the device ARMED or
RUN, or FAULT while an SS1 runs. -/
def released (s : State) (b : Nat) : Bool :=
  !s.stoOn && !s.gateLatched && s.fbit F.PWM_CTRL_RUN b && (s.dev == dARMED || s.dev == dRUN || (s.dev == dFAULT && s.lan.ss1.isSome))

/-- The envelope's minimum dead time of a bridge in 1.25 ns units; none without a valid envelope (R413, R414). -/
def dtMin (s : State) (b : Nat) : Nat := if s.envValid then (s.rd .LAN_ENV_DTMIN b).toNat % 65536 else 0

/-- An edge put at its place among the placed edges. -/
def insertEdge (e : Edge) : List Edge → List Edge
  | [] => [e]
  | x :: l => if e.at_ < x.at_ then e :: x :: l else x :: insertEdge e l

/-- A pattern is refused (R292). -/
def refusePattern (s : State) (e : Edge) : State :=
  (s.raiseF F.GATE_STAT_PATTERN).raise 0x1004 (s.fld F.BR_CFG_AXIS e.br) [wd e.g]

/-- A placed edge drives its line and is kept for the guard interval and the predictor (R171, R173). -/
def reachEdge (s : State) (e : Edge) : State :=
  let keep := s.tick - 2200000
  { s with pwm := { s.pwm with past := e :: s.pwm.past.filter fun x => keep ≤ x.at_ / 4 } }.driveAt e.g e.on e.at_

/-- A placed edge reaches its time (R292). -/
def commandEdge (s : State) (e : Edge) : State :=
  let k := s.slotOf e.br e.g
  let combo := (s.phaseSlots e.br k).map fun j => if j == k then e.on else s.gate.gc.getLsbD (s.slot e.br j)
  let offAt := (nth s.gate.chans (s.slot e.br (s.complement e.br k))).offAt
  if e.on && !s.released e.br then s.refusePattern e
  else if !comboOk (s.fld F.BR_CFG_TYPE e.br) combo then s.refusePattern e
  else match offAt with
  | some t =>
    if e.on && e.at_ < t + s.dtMin e.br then
      let late := { e with at_ := t + s.dtMin e.br }
      let s := { s with pwm := { s.pwm with edges := insertEdge late s.pwm.edges } }
      (s.raiseF F.GATE_STAT_DT_CLIP).raise 0x1005 (s.fld F.BR_CFG_AXIS e.br) [wd e.g]
    else s.reachEdge e
  | none => s.reachEdge e

/-! ## Choppers (R301 to R303) -/

/-- Lantern releases the choppers (R302), not in STO (R12, R421). (log 63 DEDUCED) -/
def chopReleased (s : State) : Bool :=
  !s.stoOn && (s.dev == dARMED || s.dev == dRUN || (s.dev == dFAULT && s.lan.ss1.isSome))

/-- The on-time of a chopper over the last 10 s, in ticks (R303). (log 63 DEDUCED) -/
def chopOnTime (s : State) (c : Chop) : Nat :=
  let from_ := s.tick - 10 * ticksPerS
  let spans := if c.on then (c.since, s.tick) :: c.spans else c.spans
  (spans.map fun p => p.2 - max p.1 from_).sum

/-- One evaluation of chopper k against the fast DC-link value of its bridge (R301, R303), which there may be none of. (log 63 DEDUCED) -/
def chopEval (s : State) (k : Nat) (v : Option Int) : State :=
  if !s.on F.CHOP_CFG_ASSIGNED k then s
  else
    let bad := s.sg .CHOP_ON k ≤ s.sg .CHOP_OFF k
    let s := s.setBit F.CHOP_STAT_CFG_ERR k bad
    let c := nth s.gate.chops k
    let from_ := s.tick - 10 * ticksPerS
    let c := { c with spans := c.spans.filter fun p => from_ < p.2 }
    let t := s.chopOnTime c
    let lim := s.fld F.CHOP_DUTY_MAX k
    let full := 10 * ticksPerS
    let trip := lim < 100 && lim * full ≤ 100 * t
    let held := lim < 100 && (trip || (c.heldOff && 8 * lim * full ≤ 1000 * t))
    let (duty, s) := s.quot (100 * t) full
    let s := s.setF F.CHOP_DUTY_DUTY duty.toNat k
    let s := { s with gate := { s.gate with chops := upd s.gate.chops k fun _ => { c with heldOff := held } } }
    let b := s.fld F.CHOP_CFG_BRIDGE k
    let s := if trip && !c.heldOff then
        (s.setBit F.CHOP_STAT_OVERLOAD k true).raise 0x1070 (s.fld F.BR_CFG_AXIS b) [wd k]
      else s
    let c := nth s.gate.chops k
    let above := v.any fun v => decide (s.inForce .CHOP_ON k ≤ v)
    let below := v.any fun v => decide (v ≤ s.sg .CHOP_OFF k)
    if !c.on && s.chopReleased && !held && !bad && above && s.fld F.CHOP_TIM_MIN_OFF k ≤ s.tick - c.since then
      s.driveChop k true
    else if c.on && (!s.chopReleased || held || (below && s.fld F.CHOP_TIM_MIN_ON k ≤ s.tick - c.since)) then
      s.driveChop k false
    else s

/-- The channel whose bits pace a chopper (R301): its bridge's role 4, or role 5 beside role 6. (log 63 DEDUCED) -/
def chopPace (s : State) (k : Nat) : Option Nat := (s.linkChans (s.fld F.CHOP_CFG_BRIDGE k)).head?

/-- The choppers that a test names are evaluated. -/
def chopAll (s : State) (test : State → Nat → Bool) : State :=
  s.forN 8 fun k s =>
    if test s k then
      let (v, s) := s.fastLink (s.fld F.CHOP_CFG_BRIDGE k)
      s.chopEval k v
    else s

/-- Bits arrive up to a tick, and every chopper is evaluated with each bit of its DC link (R301); one without a DC-link channel once at the
end. `n` bounds the bits. (log 63 DEDUCED) -/
def chopRun : Nat → Nat → List (List Bool) → State → State
  | 0, _, _, s => s
  | n + 1, till, bits, s =>
    let rest := bits.zipIdx.map fun x => x.1.drop (s.sdTaken x.2)
    let s := (s.sdFeedAll bits).chopAll fun s k => (s.chopPace k).any fun c => (s.sd c).at_ == s.tick
    let due := (upTo 8).filterMap fun k => (s.chopPace k).filter fun c => s.sdClocked c && !(nth rest c).isEmpty && s.sdNext c ≤ till
    match (due.map s.sdNext).min? with
    | some t => chopRun n till rest (s.elapseTo t)
    | none => ((s.elapseTo till).sdFeedAll rest).chopAll fun s k => (s.chopPace k).isNone

end State

/-! ## Meanings -/

/-- GS_EDGE (R288, R289, R291, R294): the status lines have held these levels for `held` ticks, and those whose filter has passed them
take them in one tick; every assigned channel whose level changed is judged, and all faults of the tick act together. -/
def execGsEdge (dt : Nat) (levels : BitVec 48) (held : Nat) (s : State) : Host.Outcome State Fault Refusal :=
  let s := s.elapse dt
  let old := s.gate.gs
  let through := s.gsThrough held
  let levels := (old &&& ~~~through) ||| (levels &&& through)
  let s := { s with gate := { s.gate with gs := levels } }
  let gs := (upTo 48).filter fun g =>
    levels.getLsbD g != old.getLsbD g && s.assigned g && s.on F.GC_CFG_MODE g
  let r := gs.foldl (fun (r : State × List (Nat × Nat × Nat)) g =>
    let q := r.1.judgeEdge g (levels.getLsbD g)
    (q.1, r.2 ++ q.2)) (s, [])
  endWith (r.1.gateFaults r.2)

/-- BLANK_WINDOW_END (R287, R289 to R291): the first open window of the channel ends; time passes to its end. On a channel that is
ignored, or assigned to nothing, nothing is judged. -/
def execBlankWindowEnd (g : Fin 48) (s : State) : Host.Outcome State Fault Refusal :=
  match (nth s.gate.chans g).wins with
  | [] => endWith s
  | w :: rest =>
    let s := s.elapseTo (w.start + s.blank g)
    let s := s.updChan g fun c => { c with wins := rest }
    if !(s.assigned g && s.on F.GC_CFG_MODE g) then endWith s
    else
      let r := s.judgeEnd g w (rest.any (s.winOpen g))
      let s := if r.2.isEmpty then r.1 else r.1.updChan g fun c => { c with wins := c.wins.map fun w => { w with judged := true } }
      endWith (s.gateFaults r.2)

/-- OFF_SEQ_INNER (R293): t_seq of the off sequence that ends first expires; the inner switches of every bridge due by then
go low. -/
def execOffSeqInner (s : State) : Host.Outcome State Fault Refusal :=
  match (s.gate.offDue.filterMap id).min? with
  | none => endWith s
  | some t =>
    let s := s.elapseTo t
    endWith (s.forN 8 fun b s =>
      match nth s.gate.offDue b with
      | some d => if d ≤ s.tick then s.offInner b else s
      | none => s)

/-- The module drives RESET# low at the start of its supply, since PGOOD is not released or not yet for 5 ms (R70). -/
def State.resetWaits (s : State) : Bool := match s.sys.rstAt with | some t => decide (s.tick < t) | none => true

/-- GATE_RAIL_LOW (R286): below 4.5 V for 1 µs. -/
def execGateRailLow (dt : Nat) (s : State) : Host.Outcome State Fault Refusal :=
  let s := s.elapse dt
  let rst := if s.resetWaits then none else s.sys.rstAt
  let s := { s with gate := { s.gate with railLow := true }, sys := { s.sys with rstAt := rst } }
  endWith ((s.raiseF F.GATE_STAT_RAIL_LOW).raise 0x1006)

/-- GATE_RAIL_RESTORED (R286): above 4.7 V for 1 ms; the cause is gone, and a PGOOD that waited for it is released, RESET# 5 ms later
(R69, R70). -/
def execGateRailRestored (dt : Nat) (s : State) : Host.Outcome State Fault Refusal :=
  let s := s.elapse dt
  let rst := if s.gate.railLow then some (s.sys.rstAt.getD (max (s.sys.supplyAt + 10 * ticksPerMs) (s.tick + 5 * ticksPerMs))) else s.sys.rstAt
  endWith { s with gate := { s.gate with railLow := false }, sys := { s.sys with rstAt := rst } }

/-- COMMAND_EDGE (R163, R289, R292): the first placed edge reaches its tick, is checked, and drives its line. -/
def execCommandEdge (s : State) : Host.Outcome State Fault Refusal :=
  match s.pwm.edges with
  | [] => endWith s
  | e :: rest =>
    let s := s.elapseTo (e.at_ / 4)
    endWith ({ s with pwm := { s.pwm with edges := rest } }.commandEdge e)

/-- CHOPPER_EVAL (R301): bits arrive, and every chopper is evaluated against the fast DC-link value of its bridge with each of them.
(log 63 DEDUCED) -/
def execChopperEval (dt : Nat) (bits : List (List Bool)) (s : State) : Host.Outcome State Fault Refusal :=
  endWith (State.chopRun (dt + 2) (s.tick + dt) bits s)

/-- OVERCURRENT_FAST (R170): bits arrive with which the fast value of a channel may cross SD_OC_HI or SD_OC_LO. (log 64 DEDUCED) -/
def execOvercurrentFast (dt : Nat) (ch : Fin 16) (bits : List Bool) (s : State) : Host.Outcome State Fault Refusal :=
  endWith ((s.elapse dt).sdFeed ch bits)

/-- SD_STREAM_FAULT (R170): bits arrive that may be, or end, a run of 64 identical ones. (log 64 DEDUCED) -/
def execSdStreamFault (dt : Nat) (ch : Fin 16) (bits : List Bool) (s : State) : Host.Outcome State Fault Refusal :=
  endWith ((s.elapse dt).sdFeed ch bits)

/-- AUX_OVERCURRENT (R309): the voltages of XCS0 to XCS3 in mV, held for `held` ticks; 20 ticks beyond the limit act. (log 66 DEDUCED) -/
def execAuxOvercurrent (dt : Nat) (mv : List Int) (held : Nat) (s : State) : Host.Outcome State Fault Refusal :=
  let s := s.elapse dt
  let past := (upTo 4).filter fun n => s.fld F.GATE_AUX_OC_LIM < (nth mv n).natAbs
  if past.isEmpty || held < 20 then endWith s
  else
    let s := s.forL past fun n s => s.setBit F.GATE_AUX_STAT_OC n true
    endWith (s.auxHiZ.auxFault 0x1063)

/-- AUX_UVLO (R306, R308): a bootstrap supply below 8 V; a second one within 1 s on any half-bridge is the bridge's fault. (log 66 DEDUCED) -/
def execAuxUvlo (dt : Nat) (x : Fin 4) (s : State) : Host.Outcome State Fault Refusal :=
  let s := s.elapse dt
  let again := match s.gate.auxUv with | some t => decide (s.tick ≤ t + ticksPerS) | none => false
  let s := { s with gate := { s.gate with
    auxUv := if again then s.gate.auxUv else some s.tick
    halves := upd s.gate.halves x fun h => { h with uvAt := some s.tick, uvHold := true, refreshN := 0, pulseAt := none, lowAt := none } } }
  let s := (((s.setHalf x false false).setBit F.GATE_AUX_STAT_UVLO x true).setBit F.GATE_AUX_STAT_UV_EVT x true)
  let s := (s.setBit F.GATE_AUX_STAT_REFRESH x true).bump F.GATE_AUX_UV_CNT_COUNT
  let s := s.raise 0x1061 7 [wd x]
  endWith (if again then s.auxFault 0x1062 else s)

end Sys2Proof.Machine
end

