-- ==== Sys2Proof/Machine/Pwm.lean ====
section
/-!
DEFINITION. Machine/Pwm.lean: the configuration checks of a bridge, its start, the modulator and the edges it places, and the
neutral point (R152 to R166, R171).
-/

namespace Sys2Proof.Machine

namespace State

/-! ## Channels and configuration (R153, R169, R171) -/

/-- The phase-current channels of a bridge. -/
def phaseChans (s : State) (b : Nat) : List Nat := [1, 2, 3].filterMap (s.sdOf b)

/-- Every enabled channel that measures a phase current of a bridge. -/
def allPhases (s : State) (b : Nat) : List Nat :=
  (upTo 16).filter fun c => s.on F.SD_CFG_EN c && s.fld F.SD_CFG_BRIDGE c == b && 1 ≤ s.fld F.SD_CFG_ROLE c && s.fld F.SD_CFG_ROLE c ≤ 3

/-- The largest OSR of the axis's phase-current channels (R171, R197). -/
def maxOsr (s : State) (a : Nat) : Nat :=
  ((s.bridgesOf a).flatMap s.allPhases).foldl (fun m c => max m (s.fld F.SD_CFG_OSR c)) 0

/-- PRE_EFF of an axis (R171, R462). -/
def preEff (s : State) (a : Nat) : Nat := max (s.fld F.SNS_GUARD_PRE a) (s.fld F.CDL_MARGIN_GUARD_PRE a)

/-- POST_EFF of an axis (R171, R462). -/
def postEff (s : State) (a : Nat) : Nat := max (s.fld F.SNS_GUARD_POST a) (s.fld F.CDL_MARGIN_GUARD_POST a)

/-- SNS_EFF_GUARD reports the guard in force. -/
def showGuard (s : State) (a : Nat) : State :=
  (s.setF F.SNS_EFF_GUARD_PRE_EFF (s.preEff a) a).setF F.SNS_EFF_GUARD_POST_EFF (s.postEff a) a

/-- DT_EFF of a bridge in 1.25 ns units (R162). -/
def dtEff (s : State) (b : Nat) : Nat :=
  max (max (s.fld F.BR_DT_DT b) (s.fld F.CDL_MARGIN_DT_PLAN b)) (s.dtMin b)

/-- Every channel that bridges and assigned choppers name, with repetitions. (log 61 DEDUCED) -/
def namedChans (s : State) : List Nat :=
  ((upTo 8).flatMap fun b => (upTo (s.slotCount b)).map (s.slot b)) ++
  ((upTo 8).filter fun k => s.on F.CHOP_CFG_ASSIGNED k).map fun k => s.fld F.CHOP_CFG_CH k

/-- The channels of a bridge's slots and of the choppers that serve it. (log 61 DEDUCED) -/
def ownChans (s : State) (b : Nat) : List Nat :=
  (upTo (s.slotCount b)).map (s.slot b) ++
  ((upTo 8).filter fun k => s.on F.CHOP_CFG_ASSIGNED k && s.fld F.CHOP_CFG_BRIDGE k == b).map fun k => s.fld F.CHOP_CFG_CH k

/-- The checks of R153; an assigned channel in MODE 0 fails the channel check (R287). (log 61 DEDUCED) -/
def cfgOk (s : State) (b : Nat) : Bool :=
  let a := s.fld F.BR_CFG_AXIS b
  let own := s.bridgesOf a
  let named := s.namedChans.filter (· < 48)
  let same (f : Fld) : Bool := own.all fun x => s.fld f x == s.fld f b
  s.slotCount b != 0 &&
  (s.ownChans b).all (fun g => g < 48 && s.fld F.GC_CFG_MODE g != 0) &&
  named.all (fun g => named.count g == 1) &&
  (match own with
   | [_] => true
   | [x, y] => s.fld F.BR_CFG_WINDING x != s.fld F.BR_CFG_WINDING y
   | _ => false) &&
  same F.BR_CFG_TYPE && same F.BR_HALF_HALF && same F.BR_CFG_UPDATES && same F.BR_PHASE_PHASE &&
  6250 ≤ s.fld F.BR_HALF_HALF b && s.fld F.BR_HALF_HALF b ≤ 500000 &&
  (s.phaseChans b).length == 3 &&
  ((s.sdOf b 4).isSome || (s.fld F.BR_CFG_TYPE b == 2 && (s.sdOf b 5).isSome && (s.sdOf b 6).isSome)) &&
  (s.allPhases b).all (fun c => s.rd .SD_OC_HI c != 0x7FFFFFFF && s.rd .SD_OC_LO c != 0x80000000) &&
  15 * s.maxOsr a ≤ s.preEff a && 15 * s.maxOsr a ≤ s.postEff a

/-- A start request for a bridge that is not running (R153): taken, or CFG_ERR. -/
def startBridge (s : State) (b : Nat) : State :=
  if s.running b then s
  else if s.cfgOk b then s.updBridge b fun r => { r with asked := some s.tick }
  else ((s.raiseF F.BR_STAT_CFG_ERR b).setBit F.PWM_STAT_CFG_ERR b true).setBit F.PWM_CTRL_RUN b false

/-- The start bits of an axis's bridges are set (R228), of the bridge of one winding only in EM-LIMP (R276). -/
def runBitsOn (s : State) (a : Nat) : State :=
  s.forL (s.bridgesOf a) fun b s =>
    if s.on F.AX_EM_STAT_LIMP a && s.fld F.BR_CFG_WINDING b != s.fld F.AX_EM_STAT_WINDING a then s
    else if s.fbit F.PWM_CTRL_RUN b then s
    else (s.setBit F.PWM_CTRL_RUN b true).startBridge b

/-! ## DC link (R160, R166) -/

/-- The measured DC link of a bridge, or BR_VDC_NOM while its channel's stream is faulty (R160). -/
def vdc (s : State) (b : Nat) : Int :=
  let bad (c : Nat) : Bool := s.on F.SD_STAT_STREAM_FAULT c
  match s.sdOf b 4, s.sdOf b 5, s.sdOf b 6 with
  | some c, _, _ => if bad c then s.sg .BR_VDC_NOM b else s.sg .SD_VALUE c
  | none, some u, some l =>
    if bad u || bad l then s.sg .BR_VDC_NOM b else s.sg .SD_VALUE u + s.sg .SD_VALUE l
  | _, _, _ => s.sg .BR_VDC_NOM b

/-- The neutral point at an update instant (R166): deviation, warning at its crossing, since when it is beyond TRIP. -/
def neutralPoint (s : State) (b : Nat) : State :=
  match s.sdOf b 5, s.sdOf b 6 with
  | some u, some l =>
    if s.fld F.BR_CFG_TYPE b != 2 then s
    else
      let vu := s.sg .SD_VALUE u
      let vl := s.sg .SD_VALUE l
      let (d, s) := s.quot (1000 * (vu - vl)) (vu + vl)
      let s := s.wrSat .BR_NP_DEV d b
      let warn := s.fld F.BR_NP_LIM_WARN b ≤ d.natAbs
      let was := (s.bridge b).npHigh
      let s := s.updBridge b fun r => { r with
        npHigh := warn
        npSince := if s.fld F.BR_NP_LIM_TRIP b ≤ d.natAbs then some (r.npSince.getD s.tick) else none }
      if warn then
        let s := s.raiseF F.BR_STAT_NP_WARN b
        if was then s else s.raise 0x1020 (s.fld F.BR_CFG_AXIS b) [wd b]
      else s
  | _, _ => s

/-! ## Edges (R161, R163, R165) -/

/-- The states of a phase in order of their voltage. -/
def lvlRank : PhaseLvl → Nat
  | .off => 0 | .low => 1 | .mid => 2 | .up => 3

/-- The two edges of a step between neighbouring states (R163): the outgoing switch at t, the incoming one dt later. (log 60 DEDUCED) -/
def stepEdges (type p : Nat) (a b : PhaseLvl) (t dt : Nat) : List (Nat × Nat × Bool) :=
  if type == 2 then
    let k := 4 * p
    match a, b with
    | .up, .mid => [(k, t, false), (k + 2, t + dt, true)]
    | .mid, .up => [(k + 2, t, false), (k, t + dt, true)]
    | .mid, .low => [(k + 1, t, false), (k + 3, t + dt, true)]
    | .low, .mid => [(k + 3, t, false), (k + 1, t + dt, true)]
    | .off, .mid => [(k + 1, t, true), (k + 2, t, true)]
    | _, _ => []
  else
    let k := 2 * p
    match a, b with
    | .up, .low => [(k, t, false), (k + 1, t + dt, true)]
    | .low, .up => [(k + 1, t, false), (k, t + dt, true)]
    | .off, .up => [(k, t, true)]
    | .off, .low => [(k + 1, t, true)]
    | _, _ => []

/-- One edge enters the list of placed edges at its time. (log 60 DEDUCED) -/
def place (s : State) (b : Nat) (e : Nat × Nat × Bool) : State :=
  let g := s.slot b e.1
  if 48 ≤ g then s else { s with pwm := { s.pwm with edges := insertEdge ⟨g, e.2.1, e.2.2, b⟩ s.pwm.edges } }

/-- Phase p of bridge b. -/
def phase (s : State) (b p : Nat) : Phase_ := nth (s.bridge b).phases p

/-- The state with phase p of bridge b changed. -/
def updPhase (s : State) (b p : Nat) (f : Phase_ → Phase_) : State := s.updBridge b fun r => { r with phases := upd r.phases p f }

/-- Placed edges of a phase's last change that have not come yet are taken back: its turn-on, and with `both` its turn-off. -/
def takeBack (s : State) (b p : Nat) (both : Bool) : State :=
  let x := (s.phase b p).last
  let own := (s.phaseSlots b ((if s.fld F.BR_CFG_TYPE b == 2 then 4 else 2) * p)).map (s.slot b)
  let gone := fun (e : Edge) => if e.on then e.at_ == x.on else both && e.at_ == x.off
  { s with pwm := { s.pwm with edges := s.pwm.edges.filter fun e => !(e.br == b && gone e && own.contains e.g) } }

/-- The time for a change asked for at t, shifted for the dead time where DTCOMP is set and the current is not small (R165): with a
positive current, rising pairs earlier and falling pairs later by DT_EFF/2. A pair that would come before the present update, which the
rule says nothing of, comes with it. (log 60 DEDUCED) -/
def compTime (s : State) (b p : Nat) (cur next : PhaseLvl) (t : Nat) : Nat :=
  let dt := s.fld F.BR_DT_DT_EFF b
  let i := match s.sdOf b (p + 1) with | some c => s.sg .SD_VALUE c | none => 0
  if !s.on F.BR_CFG_DTCOMP b || 50 * i.natAbs < 2 ^ 24 || cur == .off then t
  else if (lvlRank cur < lvlRank next) == (0 < i) then max (t - dt / 2) (4 * s.tick)
  else t + dt / 2

/-- A phase changes to a neighbouring state, asked for at t (R163). The change waits for the turn-on of the one before it, O between P and
N for DWELL, O of the start for DT_EFF. A return to the state before, asked for before that turn-on, takes it back; asked for before the
turn-off too, it takes the whole change back. (log 60 DEDUCED) -/
def stepPhase (s : State) (b p : Nat) (next : PhaseLvl) (t : Nat) : State :=
  let x := s.phase b p
  if x.lvl == next then s
  else
    let dt := s.fld F.BR_DT_DT_EFF b
    let type := s.fld F.BR_CFG_TYPE b
    let t1 := s.compTime b p x.lvl next t
    let go := fun (s : State) (es : List (Nat × Nat × Bool)) (off on : Nat) =>
      (s.forL es fun e s => s.place b e).updPhase b p fun x =>
        { x with lvl := next, last := ⟨x.lvl, t, off, on⟩, before := (x.last :: x.before).take 4 }
    let back := x.last.from_ == next && next != .off
    if back && t1 < x.last.off then
      (s.takeBack b p true).updPhase b p fun x =>
        { x with lvl := next, last := x.before.headD ⟨next, x.last.since, 0, 0⟩, before := x.before.tail }
    else if back && t1 < x.last.on then
      go (s.takeBack b p false) ((stepEdges type p x.lvl next t1 dt).drop 1) 0 (t1 + dt)
    else
      let first := if x.lvl == .off then t1
        else if x.last.from_ == .off then x.last.on + dt
        else if x.lvl == .mid && x.last.from_ != next then x.last.on + 4 * s.fld F.BR_MINPULSE_DWELL b
        else x.last.on
      let t2 := max t1 first
      go s (stepEdges type p x.lvl next t2 dt) t2 (if x.lvl == .off then t2 else t2 + dt)

/-- A phase changes its state at t; P and N are reached from each other through O (R163). -/
def changePhase (s : State) (b p : Nat) (next : PhaseLvl) (t : Nat) : State :=
  let cur := (s.phase b p).lvl
  if s.fld F.BR_CFG_TYPE b == 2 && lvlRank cur + lvlRank next == 4 && cur != next then
    (s.stepPhase b p .mid t).stepPhase b p next t
  else s.stepPhase b p next t

/-- What the pulse limit makes of a half carrier of length h that asks for state A up to the time a and for state B from then on, the
present state having lasted `run` (R165): how long the present state still lasts, and how long A is there. A state interval under way is
held for MINPULSE; one inside the half that would be shorter is removed, one that reaches the half's end where it would be shorter with an
equal part on the other side. (log 60 DEDUCED) -/
def pulseLimit (mp run h : Int) (cur fst snd : PhaseLvl) (a : Int) : Int × Int :=
  let tail (a : Int) : Int := if a < h && 2 * (h - a) < mp then h else a
  let a := tail a
  let hold := if cur == .off then 0 else clampI 0 h (mp - run)
  if cur == fst then (0, if 0 < a && a < h && run + a < mp then tail (clampI a h (mp - run)) else if a = 0 && cur != snd then hold else a)
  else if 0 < a && (h ≤ a || mp ≤ a - hold) then (hold, a)
  else (if cur == snd then 0 else hold, 0)

/-- The volt-seconds of a state held for a time: the upper state counts 1, the lower state of a 3-level phase −1. -/
def worth (type : Nat) (l : PhaseLvl) (n : Int) : Int :=
  match l with
  | .up => n
  | .low => if type == 2 then -n else 0
  | _ => 0

/-- One half carrier of one phase from time t on (R161, R165), with `want` as the signed time of its outer state: the volt-seconds that
it applies, and its changes placed. (log 60 DEDUCED) -/
def halfPhase (s : State) (b p : Nat) (rising : Bool) (t : Nat) (want : Int) : Int × State :=
  let type := s.fld F.BR_CFG_TYPE b
  let h : Int := 4 * s.fld F.BR_HALF_HALF b
  let neg := want < 0
  let outer : PhaseLvl := if neg then .low else .up
  let inner : PhaseLvl := if type == 2 then .mid else .low
  let x : Int := want.natAbs
  let (fst, a, snd) := if rising == neg then (inner, h - x, outer) else (outer, x, inner)
  let cur := (s.phase b p).lvl
  let (hold, a) := pulseLimit (4 * s.fld F.BR_MINPULSE_MINPULSE b) ((t : Int) - (s.phase b p).last.since) h cur fst snd a
  let mid := max hold a
  let s := if hold < a then s.changePhase b p fst (t + hold.toNat) else s
  let s := if mid < h then s.changePhase b p snd (t + mid.toNat) else s
  (worth type cur hold + worth type fst (mid - hold) + worth type snd (h - mid), s)

/-- The half carriers of an update of one phase (R161, R165): what it does not apply is carried into the next update, at most MINPULSE. -/
def updatePhase (s : State) (b p : Nat) (peak : Bool) (duty : Int) : State :=
  let h : Int := 4 * s.fld F.BR_HALF_HALF b
  let mp : Int := 4 * s.fld F.BR_MINPULSE_MINPULSE b
  let n : Int := if s.on F.BR_CFG_UPDATES b then 1 else 2
  let total := clampI (if s.fld F.BR_CFG_TYPE b == 2 then -(n * h) else 0) (n * h) (n * duty + (s.phase b p).carry)
  let (v, s) := s.halfPhase b p (!peak) (4 * s.tick) (total / n)
  let (v, s) := if n = 1 then (v, s) else
    let (w, s) := s.halfPhase b p false (4 * (s.tick + s.fld F.BR_HALF_HALF b)) (total / n)
    (v + w, s)
  s.updPhase b p fun x => { x with carry := clampI (-mp) mp (total - v) }

/-! ## The modulator (R158, R160) -/

/-- The angle of the axis at the last update instant, by the set on which its edges were placed (R173). -/
def anchored (s : State) (b : Nat) : Word :=
  let r := s.bridge b
  r.active.theta + s.rd .BR_WOFS b + wi ((r.used : Int) * r.active.omega.toInt)

/-- The angle that an update applies (R160), with the sum of its changes kept for the safe speed (R417). -/
def applyAngle (s : State) (b : Nat) : Word × State :=
  let r := s.bridge b
  let (adv, s) := s.quot ((s.fld F.BR_ADV_ADV b + 8 * r.used : Nat) * r.active.omega.toInt) 8
  let ang := r.active.theta + s.rd .BR_WOFS b + wi adv
  (ang, s.updBridge b fun r => { r with ang := ang, turned := r.turned + (ang - r.ang).toInt })

/-- The three phase references of the active set (R160), 2^32 for 1, and whether one was clipped. Where max(m) − min(m) is above 2, so that no
z meets both bounds, z is kept between 1 − max(m) and −1 − min(m). (log 60 DEDUCED) -/
def references (s : State) (b : Nat) : (List Int × Bool) × State :=
  let r := s.bridge b
  let (w, s) := s.applyAngle b
  let ang := w.toNat
  let cs := cosTurn ang
  let sn := sinTurn ang
  let vd := r.active.vd.toInt
  let vq := r.active.vq.toInt
  let al := vd * cs - vq * sn
  let be := (vd * sn + vq * cs) * 15975348984942515101 / 2 ^ 64
  let vs := [al, be - al / 2, -be - al / 2]
  let den := s.vdc b * 2 ^ 64
  let step := fun (acc : List Int × State) (v : Int) =>
    let q := acc.2.quot (v * 2 ^ 33) den
    (acc.1 ++ [q.1], q.2)
  let (m, s) := vs.foldl step ([], s)
  let one : Int := 2 ^ 32
  let hi := m.foldl max (nth m 0)
  let lo := m.foldl min (nth m 0)
  let (v0, s) := s.quot (r.active.v0.toInt * 2 ^ 33) (s.vdc b)
  let z := (if s.on F.BR_CFG_ZSEQ b then -(hi + lo) / 2 else 0) + v0
  let z := if hi - lo ≤ 2 * one then clampI (-one - lo) (one - hi) z else clampI (one - hi) (-one - lo) z
  let raw := m.map (· + z)
  let out := raw.map (clampI (-one) one)
  ((out, raw != out), s)

/-- An update instant of a switching bridge (R156 to R166): the set used, the dead time, the references, the edges. -/
def updateBridge (s : State) (b : Nat) (peak : Bool) : State :=
  let r := s.bridge b
  let s := s.updBridge b fun x => { x with axisAng := s.anchored b + r.active.omega, wasOmega := r.active.omega }
  let ready := r.commits.filter fun c => c.1 < s.tick
  let s := match ready with
    | (_, v) :: _ =>
      let s := s.updBridge b fun r => { r with active := v, used := 0, commits := r.commits.filter fun c => !(c.1 < s.tick) }
      (s.setF F.BR_STAT_HELD 0 b).setF F.BR_STAT_HELD_RUN 0 b
    | [] => ((s.setF F.BR_STAT_HELD 1 b).bump F.BR_HELD_CNT_COUNT b).bump F.BR_STAT_HELD_RUN b
  let s := s.setF F.BR_DT_DT_EFF (s.dtEff b) b
  let s := s.neutralPoint b
  let s := if peak then s else
    let w := 2 * s.fld F.BR_HALF_HALF b
    let o := s.carrierAt b s.tick
    s.wr .BR_GRID_OFF (wi (if 2 * o ≤ w then o else (o : Int) - w)) b
  if !s.running b then s
  else
    let (mc, s) := s.references b
    let s := if mc.2 then (s.raiseF F.BR_STAT_CLIPPED b).bump F.BR_CLIP_CNT_COUNT b else s
    let half := s.fld F.BR_HALF_HALF b
    let two := s.fld F.BR_CFG_TYPE b == 2
    let s := s.updBridge b fun r => { r with used := r.used + 1 }
    s.forN 3 fun p s =>
      let m := nth mc.1 p
      let (d, s) := if two then s.quot (m * (4 * half)) (2 ^ 32) else s.quot ((m + 2 ^ 32) * (2 * half)) (2 ^ 32)
      s.updatePhase b p peak d

/-- The shadow set of a bridge (R158). -/
def shadowSet (s : State) (b : Nat) : VSet :=
  ⟨s.rd .BR_VD b, s.rd .BR_VQ b, s.rd .BR_V0 b, s.rd .BR_THETA b, s.rd .BR_OMEGA b⟩

/-- The shadow set of one bridge becomes its committed set (R158). -/
def commitOne (s : State) (b : Nat) : State :=
  let r := s.bridge b
  let now := (s.axis (s.fld F.BR_CFG_AXIS b)).grid == some s.tick
  let s := if r.commits.any fun c => c.1 == s.tick || !now then s.bump F.BR_COMMIT_OVER_COUNT b else s
  s.updBridge b fun r => { r with commits := (s.tick, s.shadowSet b) :: r.commits }

/-- A COMMIT (R158, R219): on an axis with two bridges the winding-0 bridge commits both and the winding-1 bridge nothing,
except in EM-LIMP (R276). -/
def commit (s : State) (b : Nat) : State :=
  let a := s.fld F.BR_CFG_AXIS b
  let own := s.bridgesOf a
  if own.length != 2 || s.on F.AX_EM_STAT_LIMP a || !own.contains b then s.commitOne b
  else if s.on F.BR_CFG_WINDING b then s
  else s.forL own fun x s => s.commitOne x

end State

/-! ## Meanings -/

/-- BRIDGE_START (R153, R156, R163): at the first valley at least 2 ticks after the request and the release of Lantern, both present, the
bridge begins to switch, not before its off sequence has ended (R293); a 3-level bridge turns S2 and S3 of every phase on. A configuration that no longer passes its checks fails the
start. (log 60 DEDUCED) -/
def execBridgeStart (b : Fin 8) (s : State) : Host.Outcome State Fault Refusal :=
  match (s.bridge b).asked with
  | none => endWith s
  | some t =>
    if !s.released b || s.running b || s.fbit F.GATE_STAT_OFFSEQ b then endWith s
    else
      match s.valleyFrom b (max s.tick (max t s.lan.relAt + 2)) with
      | none => endWith s
      | some v =>
        let s := s.elapseTo v
        let a := s.fld F.BR_CFG_AXIS b
        if !s.cfgOk b then
          endWith (((s.startBridge b).updBridge b fun r => { r with asked := none }).finish 0x0301 a (ans cBAD_PARAM))
        else
          let s := (s.setF F.BR_STAT_RUNNING 1 b).setBit F.PWM_STAT_RUNNING b true
          let s := s.updBridge b fun r => { r with asked := none, used := 0, phases := List.replicate 3 .init }
          let s := s.setF F.BR_DT_DT_EFF (s.dtEff b) b
          let s := if s.mainBridge a == some b.val then s.updAxis a fun x => { x with grid := some v, peak := false } else s
          endWith (if s.fld F.BR_CFG_TYPE b == 2 then s.forN 3 fun p s => s.changePhase b p .mid (4 * v) else s)

/-- NP_IMBALANCE (R166): the deviation has been at or above TRIP for 1 ms. -/
def execNpImbalance (b : Fin 8) (dt : Nat) (s : State) : Host.Outcome State Fault Refusal :=
  let s := s.elapse dt
  match (s.bridge b).npSince with
  | none => endWith s
  | some t =>
    let s := s.elapseTo (t + ticksPerMs)
    let s := s.updBridge b fun r => { r with npSince := none }
    endWith (s.raise 0x1021 (s.fld F.BR_CFG_AXIS b) [wd b])

end Sys2Proof.Machine
end

