-- ==== Sys2Proof/Machine/AxisOps.lean ====
section
/-!
DEFINITION. Machine/AxisOps.lean: a change of mode or source, limit switches, entry to RUN, ALIGN and CATCH, rotor loss and relock, and the
entry and the end of the emergency modes (R211, R214, R222, R223, R227, R228, R242 to R253, R271 to R282).
-/

namespace Sys2Proof.Machine

namespace State

/-! ## Entries (R227, R228, R247) -/

/-- AX_CTRL's mode and source come into force and the loops are preset; a new mode's ramp starts from the present AX_SP_ACTIVE at the rate
at which that changes (R222): a change of counts per second is a speed of the profile. -/
def presetLoops (s : State) (a : Nat) : State :=
  let m := s.fld F.AX_CTRL_MODE a
  let act := (m, s.fld F.AX_CTRL_SRC a)
  let x := s.axis a
  if x.act.1 == m then (s.updAxis a fun x => { x with act := act, limStop := false }).presetPi a
  else
    let g := g27 (s.rd .AX_SPD_SCALE a)
    let (v, s) := if m == 2 then s.quot (x.slope * g.1 * 2 ^ 32) (2 ^ g.2 * ticksPerS) else (0, s)
    (s.updAxis a fun x => { x with
      act := act, limStop := false, rate := satI v, accel := if m == 2 then 0 else x.slope }).presetPi a

/-- LIMSW stands while an enabled limit switch is active, whatever the axis does; it raises LIMIT_SWITCH as it sets (R223).
(log 54 DEDUCED) -/
def limitSwitch (s : State) (a : Nat) : State :=
  let act (f : Fld) : Bool := (s.fld F.H_STATE_ACTIVE).testBit (s.fld f a)
  let now := s.on F.AX_CFG_LIMSW_EN a && (act F.AX_CFG_LIM_FWD || act F.AX_CFG_LIM_REV)
  let was := s.on F.AX_STAT_LIMSW a
  let s := s.setF F.AX_STAT_LIMSW (b2n now) a
  if now && !was then s.raise 0x3016 a [] else s

/-- The bridges the axis is to start pass R153. -/
def bridgesOk (s : State) (a : Nat) : Bool :=
  let own := s.bridgesOf a
  !own.isEmpty && own.all fun b => s.running b || s.cfgOk b

/-- A start that R153 forbids: CFG_ERR is set, the enable ends with BAD_PARAM, the axis goes to DISABLED. (log 49 DEDUCED) -/
def startRefused (s : State) (a : Nat) : State :=
  let s := s.forL (s.bridgesOf a) fun b s => if s.cfgOk b then s else s.startBridge b
  (s.finish 0x0301 a (ans cBAD_PARAM)).toDisabled a

/-- Entry to RUN, or back to EMERGENCY while modes are active (R227, R228, R277); an FR2 held through a relock follows
(R253). (log 49 DEDUCED) -/
def goRun (s : State) (a : Nat) : State :=
  if !s.bridgesOk a then s.startRefused a
  else
    let s := s.runBitsOn a
    let s := (s.presetLoops a).axisTo a (if s.emAny a then aEMERGENCY else aRUN)
    let s := s.updEm a fun e => { e with lastSp := s.tick }
    let s := s.updAxis a fun x => { x with lostNow := false }
    let held := match (s.ob a).relock with | some r => r.heldFr2 | none => none
    let s := s.updOb a fun o => { o with relock := none, rampAt := if o.relock.isSome then some s.tick else o.rampAt }
    let s := s.finish 0x0301 a (ok)
    match held with
    | some c => s.react2 c a
    | none => s

/-- Entry to ALIGN (R228, R242): bridges started, the torque reference at 0. -/
def goAlign (s : State) (a : Nat) : State :=
  if !s.bridgesOk a then s.startRefused a
  else
    let s := (s.runBitsOn a).wr .AX_T_REF 0 a
    let s := s.updOb a fun o => { o with alignT := s.tick, alignK := none, alignTry := 0, peakP := none, peakN := none }
    s.axisTo a aALIGN

/-- The speed search of an induction machine begins (R249): the start bits are set again, at +1.2 pu; bridges that R153 forbids to start
refuse it. (log 49 DEDUCED) -/
def goSearch (s : State) (a : Nat) : State :=
  if !s.bridgesOk a then s.startRefused a
  else (s.updOb a fun o => { o with search := true, catch_ := { o.catch_ with freq := 20132659, ran := 0, found := none } }).runBitsOn a

/-- Entry to CATCH (R228, R244): the bridges stop and a measurement begins; an induction machine without voltage channels goes straight to
the speed search, in a relock once its currents have decayed (R251). -/
def goCatch (s : State) (a : Nat) : State :=
  let s := (s.runBitsOff a).wr .AX_T_REF 0 a
  let s := s.updOb a fun o => { o with entered := s.tick, search := false, catch_ := { Catch.init with began := s.tick } }
  let s := s.axisTo a aCATCH
  if s.induction a && !s.on F.OBS_CFG_VT_EN a && (s.ob a).relock.isNone then s.goSearch a else s

/-- Standstill (R246): ALIGN for a PMSM whose angle is unknown, RUN otherwise. -/
def standstill (s : State) (a : Nat) : State :=
  if s.pmsm a && !s.angleKnown a then s.goAlign a else s.goRun a

/-- Angle units per sample of an electrical speed in pu24 of ω_b (R5, R206). -/
def turnsPerSample (s : State) (a : Nat) (w : Int) : Int :=
  w * 1280 * s.fld F.AX_BASE_F_VALUE a * s.samplePeriod a / 10 ^ 12

/-- The rotor angle, or the rotor flux's, of a voltage vector's angle at speed w (R247): a quarter turn behind it. -/
def behind (theta : Word) (w : Int) : Word := theta - (if w < 0 then wi (-0x40000000) else 0x40000000)

/-- A lock at speed w, with the rotor angle and the voltage vector's magnitude (R247): where the encoder does not know the angle, it goes on
from the one found. (log 48 DEDUCED) -/
def locked (s : State) (a : Nat) (w v : Int) (th : Word) : State :=
  let (flux, s) := s.quot (v * one24) (s.elecW a w)
  let step := s.turnsPerSample a (s.elecW a w)
  let c := s.encOf a
  let s := s.updOb a fun o => { o with
    thEmf := th, thInj := th, wEmf := step, wInj := step
    aligned := if s.pmsm a && !s.onObserver a && !s.angleKnown a then some (th, s.rd .EN_POS c - (nth s.feed.enc c).ofs) else o.aligned }
  let s := (s.setF F.OBS_STAT_LOCKED 1 a).wr .OBS_THETA th a
  let s := (s.wrSat .OBS_SPEED w a).wr .AX_T_REF 0 a
  let s := s.updAxis a fun x => { x with
    spdI := 0, rate := 0, accel := 0, slope := 0, psi := if s.induction a then satI flux.natAbs else x.psi }
  if s.fld F.AX_CTRL_MODE a == 1 then s.wrSat .AX_SP_ACTIVE w a else s

/-! ## Rotor loss and relock (R251 to R253) -/

/-- A relock has failed (R252): the third in a row is FR3, otherwise the next relock starts at once. (log 49 DEDUCED) -/
def relockFailed (s : State) (a : Nat) : State :=
  let n := s.fld F.OBS_STAT_RELOCK_FAIL a + 1
  let s := s.setF F.OBS_STAT_RELOCK_FAIL (min n 3) a
  if 3 ≤ n then s.raise 0x2012 a [wd a]
  else
    let s := s.bump F.OBS_RELOCK_CNT_COUNT a
    s.goCatch a

/-- The observer has lost the rotor (R251): torque zero, CATCH; lost again before the torque ramp ended, the relock before has
failed (R252), the third such failure with the bridges stopped already. (log 49 DEDUCED) -/
def rotorLost (s : State) (a : Nat) : State :=
  let w := s.sg .AX_SPEED a
  let s := (s.raiseF F.OBS_STAT_ROTOR_LOST a).raise 0x2011 a []
  let ramping := (s.ob a).rampAt.isSome
  let em := s.axSt a == aEMERGENCY
  let s := s.setF F.OBS_STAT_LOCKED 0 a
  let s := s.updOb a fun o => { o with relock := some ⟨w, none, em⟩, rampAt := none, lossN := 0 }
  let s := s.updAxis a fun x => { x with plausN := 0 }
  let s := s.goCatch a
  if ramping then s.relockFailed a else s.bump F.OBS_RELOCK_CNT_COUNT a

/-! ## Emergency modes (R271 to R283) -/

/-- Entry of a mode (R272, R274 to R276): logged with the STOPPING it ends, the ramps go on, the loops are preset, the AXIS_EMERGENCY that
asked for it (target 4 + a) is answered; an enable, a disable or an exit that waited for the end of a catch or a stop is PREEMPTED.
(log 43 DEDUCED; log 57 DEDUCED) -/
def emEnter (s : State) (a m : Nat) : State :=
  let was := s.modeOf a
  let stop := s.axSt a == aSTOPPING
  let s := s.raise 0x3043 a (if stop then [wd m, wd aSTOPPING] else [wd m])
  let s := s.updOb a fun o => { o with keRun := false }
  let s := s.updAxis a fun x => { x with stop := .none, lowSince := none, queued := false }
  let s := (s.finish 0x0301 a (ans cPREEMPTED)).finish 0x0302 a (ans cPREEMPTED)
  let s := if stop then s.finish 0x0306 a (ans cPREEMPTED) else s
  let s := match m with
    | 1 => s.setF F.AX_EM_STAT_LIMP 1 a
    | 2 => s.setF F.AX_EM_STAT_SENSORLESS 1 a
    | _ => s.setF F.AX_EM_STAT_OPMODE m a
  let s := if 3 ≤ m then
      s.updEm a fun e => { e with
        hold := false, proveFor := none, proveAt := none, braked := false, leaving := false, overCnt := 0, recSince := none
        fr2 := none, modeSrc := (s.axis a).act, rendFrom := s.rd .EN_POS (s.encOf a) }
    else s
  ((s.axisTo a aEMERGENCY).reaim a was).finish 0x0306 (4 + a) (ok)

/-- EM-SENSORLESS is entered (R277): without a locked observer the axis is handled as a lost rotor. -/
def enterSensorless (s : State) (a : Nat) : State :=
  let s := s.emEnter a 2
  if s.on F.OBS_STAT_LOCKED a then s else s.rotorLost a

/-- EM-LIMP is entered (R276): the bridge of the other winding stops. -/
def enterLimp (s : State) (a w : Nat) : State :=
  let s := (s.setF F.AX_EM_STAT_WINDING w a).emEnter a 1
  s.forL ((s.bridgesOf a).filter fun b => s.fld F.BR_CFG_WINDING b != w) fun b s =>
    (s.setBit F.PWM_CTRL_RUN b false).offSeq b

/-- An automatic trigger of a mode: entered if the envelope admits it, else EMERGENCY_REFUSED (R272). The boolean says that
the mode was entered. (log 57 DEDUCED) -/
def emTrigger (s : State) (a m : Nat) (enter : State → State) : State × Bool :=
  if s.emAdmitted a m then (enter s, true) else (s.raise 0x3047 a [wd m], false)

/-- The operating mode of the axis ends and with it, if no modifier is left, the state EMERGENCY (R274). (log 57 DEDUCED) -/
def opEnd (s : State) (a : Nat) : State :=
  let was := s.modeOf a
  let s := (s.setF F.AX_EM_STAT_OPMODE 0 a).presetLoops a
  (if s.emAny a then s else s.axisTo a aRUN).reaim a was

end State

end Sys2Proof.Machine
end

