-- ==== Sys2Proof/Machine/Feedback.lean ====
section
/-!
DEFINITION. Machine/Feedback.lean: counting, angle, speed, reference, loss and position compare of an encoder channel (R127 to
R150).
-/

namespace Sys2Proof.Machine

namespace State

/-- Encoder channel c. -/
def enc (s : State) (c : Nat) : Enc := nth s.feed.enc c
def updEnc (s : State) (c : Nat) (f : Enc → Enc) : State :=
  { s with feed := { s.feed with enc := upd s.feed.enc c f } }

/-- MODE of a channel (R125): 0 off, 1 quadrature, 2 SSI, 3 pulse/direction. -/
def encMode (s : State) (c : Nat) : Nat := s.fld F.EN_CFG_MODE c

/-- The owner axis of a channel, 4 or more for none (R126). -/
def owner (s : State) (c : Nat) : Nat := s.fld F.EN_CFG_OWNER c

/-- The filter delay of a channel in ticks (R127). (log 15 DEDUCED) -/
def encDelay (s : State) (c : Nat) : Nat := s.fld F.EN_FILT_FILT c * 4 ^ s.fld F.EN_FILT_SCALE c

/-- The Meridian time at which a line changed whose change is accepted now, after a filter of n ticks (R23, R139). (log 15 DEDUCED) -/
def changeTime (s : State) (n : Nat) : Time := s.pwmTime - BitVec.ofNat 64 (5 * (n + 2))

/-- A timestamp of R139. -/
def stampOf (t : Time) : Word := BitVec.ofNat 32 (t.toNat / 5)

/-- The timestamp of the present tick. -/
def nowStamp (s : State) : Word := stampOf s.pwmTime

/-- The internal counter of a channel (R131, R132). -/
def counter (s : State) (c : Nat) : Word := s.rd .EN_POS c - (s.enc c).ofs

/-- EN_ANGLE follows the counter, in SSI mode the single-turn value of the last good frame, also while the position is predicted or the
channel is lost (R131); while REFERENCED is clear its value is not defined. (log 68 DESIGN CHOICE) -/
def showAngle (s : State) (c : Nat) : State :=
  let cpr := s.fld F.EN_CPR_CPR c
  if !s.on F.EN_STAT_REFERENCED c || (s.encMode c != 2 && cpr == 0) then
    let (w, s) := s.freeWord
    s.wr .EN_ANGLE w c
  else if s.encMode c == 2 then
    let bits := s.fld F.EN_SSI_CFG_BITS c
    let v : Int := ((s.enc c).ssiLast.getD 0 : Nat) - (s.sg .EN_IDX_REF c)
    s.wr .EN_ANGLE (wi (v * 2 ^ 32 / 2 ^ bits)) c
  else
    let v := ((s.counter c).toInt - s.sg .EN_IDX_REF c) % (cpr : Int)
    s.wr .EN_ANGLE (wi (v * 2 ^ 32 / cpr)) c

/-- A level that has held for so many ticks passes the filter of the channel (R127). -/
def encPasses (s : State) (c held : Nat) : Bool := s.encDelay c ≤ held

/-- The speed's reference pair moves to the first counted edge after an event (R141). -/
def speedBreak (s : State) (c : Nat) : State :=
  s.updEnc c fun e => { e with refs := [], anchor := none, needFirst := true, reversed := false, fresh := false }

/-! ## Position compare (R146 to R150) -/

/-- Word w of compare entry i (R146). -/
def cmpWord (s : State) (i w : Nat) : Word := s.rd .CMP_LIST (4 * i + w)

/-- The level that SYNC_OUT line o has at a tick: the last change due by then, else the one before them (R150). -/
def syncAt (s : State) (o t : Nat) : Bool :=
  match (s.feed.due.filter fun d => d.2.1 == o && d.1 ≤ t).getLast? with
  | some d => d.2.2
  | none => nth s.feed.sync o

/-- The level of compare output o: 0 and 1 the SYNC_OUT lines, 2 + n field output n. -/
def cmpLevel (s : State) (o : Nat) : Bool := if o < 2 then s.syncAt o s.tick else s.fio.cmpLv.getLsbD (o - 2)

/-- Compare output o takes a level, a SYNC_OUT line at tick t: changes due are kept in the order of their ticks, those of the past are
done. -/
def cmpDrive (s : State) (o : Nat) (v : Bool) (t : Nat) : State :=
  if o < 2 then
    let rest := s.feed.due.filter fun d => !(d.2.1 == o && d.1 ≤ s.tick)
    { s with feed := { s.feed with
      sync := s.feed.sync.set o (s.syncAt o s.tick)
      due := (rest.filter fun d => d.1 ≤ t) ++ (t, o, v) :: rest.filter fun d => t < d.1 } }
  else
    let bit : BitVec 16 := 1#16 <<< (o - 2)
    { s with fio := { s.fio with cmpLv := if v then s.fio.cmpLv ||| bit else s.fio.cmpLv &&& ~~~bit } }

/-- The output that entry i drives, none for a SYNC number beyond 1. -/
def cmpOut (s : State) (i : Nat) : Option Nat :=
  let w := s.cmpWord i 1
  if bitOf w 3 then some (2 + bitsOf w 7 4) else if bitsOf w 7 4 < 2 then some (bitsOf w 7 4) else none

/-- The compare list owns output o (R150). -/
def cmpOwns (s : State) (o : Nat) : Bool :=
  if o == 0 then s.on F.CMP_OUT_SEL_SYNC0 else if o == 1 then s.on F.CMP_OUT_SEL_SYNC1
  else (s.fld F.CMP_OUT_SEL_DO_MASK).testBit (o - 2)

/-- Entry i acts on its output (R146, R148, R150): a SYNC line changes 3 ticks after the counted edge, and a pulse that still runs then
is over. (log 71 DEDUCED) -/
def cmpAct (s : State) (i o : Nat) : State :=
  let n := bitsOf (s.cmpWord i 2) 23 0
  let t := if o < 2 then s.tick + 3 else s.tick
  let end_ := if o < 2 then t + n else t + 20000 * n
  let was := if o < 2 then s.syncAt o t else s.cmpLevel o
  let quiet := { s with feed := { s.feed with pulses := s.feed.pulses.filter fun p => p.1 != o || p.2 < t } }
  match bitsOf (s.cmpWord i 1) 9 8 with
  | 0 => ({ quiet with feed := { quiet.feed with pulses := quiet.feed.pulses ++ [(o, end_)] } }).cmpDrive o true t
  | 1 => quiet.cmpDrive o true t
  | 2 => quiet.cmpDrive o false t
  | _ => quiet.cmpDrive o (!was) t

/-- The entries first to last. -/
def entriesOf (first last : Nat) : List Nat := (upTo (last + 1 - first)).map (first + ·)

/-- The entries of a channel's armed range. (log 71 DEDUCED) -/
def armedEntries (s : State) (c : Nat) : List Nat :=
  if s.on F.CMP_RANGE_ARM c then entriesOf (s.fld F.CMP_RANGE_FIRST c) (s.fld F.CMP_RANGE_LAST c) else []

/-- The entries that a counted edge of this tick can fire: disarming acts at the next tick (R147). -/
def liveEntries (s : State) (c : Nat) : List Nat :=
  match (nth s.feed.cmp c).left with
  | some (t, first, last) => if t == s.tick then entriesOf first last else s.armedEntries c
  | none => s.armedEntries c

/-- A channel's range is disarmed in this tick. A second disarming in one tick leaves the first range in force. -/
def cmpLeave (s : State) (c first last : Nat) : State :=
  { s with feed := { s.feed with cmp := upd s.feed.cmp c fun x =>
    if (x.left.any fun l => l.1 == s.tick) then x else { x with left := some (s.tick, first, last) } } }

/-- The entries from which EN_POS has moved REARM counts or more are armed again (R148). (log 71 DEDUCED) -/
def cmpRearm (s : State) (c : Nat) : State :=
  let p := s.rd .EN_POS c
  { s with feed := { s.feed with cmp := upd s.feed.cmp c fun r =>
    { r with spent := r.spent.filter fun i => (p - s.cmpWord i 0).toInt.natAbs < bitsOf (s.cmpWord i 2) 31 24 } } }

/-- A compare entry that cannot be read is found (R27): the owner axis of the channel whose armed range holds it stops. -/
def cmpLost (s : State) (i : Nat) : State :=
  let a := match (upTo 4).find? fun c => (s.armedEntries c).contains i with
    | some c => s.owner c
    | none => 7
  s.raise 0x7004 (if a < 4 then a else 7) [wd i]

/-- An edge of channel c at which the words of its armed range are read with flipped bits (R27): single ones are corrected; an entry with
a double one does not fire, and the owner of the channel stops. (log 118 DEDUCED) -/
def withErrs (s : State) (c : Nat) (errs : List MemErr) (f : State → State) : State :=
  let met := errs.filter fun x => x.cmp && (s.armedEntries c).contains (x.word / 4)
  let l := ((met.filter fun x => x.double).map fun x => x.word / 4).eraseDups
  let s := s.forL (met.filter fun x => !x.double) fun x s => (s.sramFlips 1 (wd (0x300000 + 4 * x.word))).1
  let s := f { s with feed := { s.feed with lost := l } }
  let s := { s with feed := { s.feed with lost := [] } }
  s.forL l fun i s => (s.bump F.FAB_SECDED_UNCORR).cmpLost i

/-- What an entry that decides its output, or has none, leaves in the registers (R148). -/
def cmpReport (s : State) (i : Nat) (t : Time) : State :=
  let s := (s.setF F.CMP_STAT_LAST_INDEX i).setF F.CMP_STAT_LAST_TAG (bitsOf (s.cmpWord i 1) 31 16)
  (s.wr .CMP_LAST_TIME_LO (lo32 t)).wr .CMP_LAST_TIME_HI (hi32 t)

/-- Entry i fires in this tick on output o (R148). It decides the output unless an entry of lower index has fired on it in this tick; one
of higher index that had decided it is undone. (log 71 DEDUCED) -/
def cmpDecide (s : State) (i o : Nat) (t : Time) : State :=
  match s.feed.fired.find? fun x => x.out == o with
  | some x =>
    if x.entry < i then s
    else
      let s := { s with feed := { s.feed with
        sync := if o < 2 then s.feed.sync.set o x.level else s.feed.sync
        due := x.due ++ s.feed.due.filter fun (d : Nat × Nat × Bool) => d.2.1 != o
        pulses := (s.feed.pulses.filter fun (p : Nat × Nat) => p.1 != o) ++ x.pulses
        fired := { x with entry := i } :: s.feed.fired.filter fun y => y.out != o } }
      let s := if o < 2 then s else s.cmpDrive o x.level s.tick
      (s.cmpAct i o).cmpReport i t
  | none =>
    let x : Fired := ⟨o, i, if o < 2 then nth s.feed.sync o else s.cmpLevel o, s.feed.due.filter fun d => d.2.1 == o,
      s.feed.pulses.filter fun p => p.1 == o⟩
    (({ s with feed := { s.feed with fired := x :: s.feed.fired } }).cmpAct i o).cmpReport i t

/-- A counted edge has brought EN_POS onto its value (R148): every matching entry that is armed fires; the lowest index
decides an output. (log 71 DEDUCED) -/
def cmpFire (s : State) (c : Nat) (rising : Bool) (t : Time) : State :=
  let p := s.rd .EN_POS c
  let hit := (s.liveEntries c).filter fun i =>
    let w := s.cmpWord i 1
    bitOf w 0 && s.cmpWord i 0 == p && !(nth s.feed.cmp c).spent.contains i && !s.feed.lost.contains i &&
      (bitsOf w 2 1 == 0 || bitsOf w 2 1 == (if rising then 1 else 2))
  let s := if s.feed.firedAt == s.tick then s else { s with feed := { s.feed with firedAt := s.tick, fired := [] } }
  let s := s.forL hit fun i s =>
    let s := { (s.bump F.CMP_FIRED_COUNT) with feed := { s.feed with cmp := upd s.feed.cmp c fun x => { x with spent := i :: x.spent } } }
    match s.cmpOut i with
    | some o => if s.cmpOwns o then s.cmpDecide i o t else s.cmpReport i t
    | none => s.cmpReport i t
  s.cmpRearm c

/-! ## Counting (R128, R138, R139, R141) -/

/-- EN_POS has been written in this tick (R132). -/
def presetNow (s : State) (c : Nat) : Bool := (s.enc c).presetAt == some s.tick

/-- The gears on channel c take a jump of d counts out of their master position (R322). (log 80 DEDUCED) -/
def gearJump (s : State) (c : Nat) (d : Int) : State :=
  s.forN 2 fun n s =>
    if s.on F.ME_STAT_GEARED n && s.fld F.ME_GEAR_CFG_MASTER n == c then s.updMe n fun m => { m with jumps := m.jumps + d } else s

/-- EN_POS and the counter move by n. Where EN_POS has been written in this tick its offset takes the change up, so that it reads the
written value at the end of the tick (R132). -/
def moveBy (s : State) (c : Nat) (n : Int) : State :=
  let s := if s.presetNow c then (s.updEnc c fun e => { e with ofs := e.ofs - wi n }).gearJump c (-n)
    else s.wr .EN_POS (s.rd .EN_POS c + wi n) c
  s.showAngle c

/-- A jump by d counts (R132, R149): the counter or the offset changes otherwise than by counting; no entry fires, and a gear
on this channel takes it out of its master position (R322). The seek that follows takes no time. (log 71 DEDUCED; log 80 DEDUCED) -/
def jumped (s : State) (c : Nat) (d : Int) : State :=
  let s := (s.cmpRearm c).forN 2 fun n s =>
    if d == 0 || !s.on F.ME_STAT_GEARED n || s.fld F.ME_GEAR_CFG_MASTER n != c then s else s.bump F.ME_GEAR_JUMP_COUNT n
  s.gearJump c d

/-- EN_POS is written (R132): only the offset changes. -/
def preset (s : State) (c : Nat) (d : Word) : State :=
  (s.updEnc c fun e => { e with ofs := e.ofs + d, presetAt := some s.tick }).jumped c d.toInt

/-- The newest counted edge or SSI latch: the direction of travel and the speed's pairs (R139 to R141). -/
def marked (s : State) (c : Nat) (up : Bool) (ts : Word) : State :=
  let s := (s.wr .EN_EDGE_TS ts c).setF F.EN_STAT_STANDSTILL 0 c
  let turned := s.on F.EN_STAT_DIR c == up && (s.enc c).newest.isSome
  let s := s.setF F.EN_STAT_DIR (b2n !up) c
  let m : Mark := ⟨s.counter c, ts⟩
  let first := (s.enc c).needFirst
  let s := s.updEnc c fun e =>
    if turned then { e with newest := some m, fresh := true, refs := [], anchor := some m, needFirst := false, reversed := true }
    else if first then { e with newest := some m, fresh := true, refs := [], anchor := some m, needFirst := false }
    else { e with newest := some m, fresh := true, reversed := false }
  if turned then s.wr .EN_SPEED 0 c else s

/-- One counted edge: counter, timestamp, direction, the speed's pairs, compare. -/
def count (s : State) (c : Nat) (up : Bool) : State :=
  let t := s.changeTime (s.encDelay c)
  let s := (s.moveBy c (if up then 1 else -1)).marked c up (stampOf t)
  if s.presetNow c then s else s.cmpFire c up t

/-- The channel counts: it works and is VALID. (log 67 DEDUCED) -/
def counting (s : State) (c : Nat) : Bool := s.encMode c != 0 && s.on F.EN_STAT_VALID c

/-- EN_SPEED at a sample point (R140, R141). -/
def speedSample (s : State) (c : Nat) : State :=
  if !s.counting c then s
  else
    let e := s.enc c
    let now := s.nowStamp
    let back := (e.refs.getD (s.fld F.EN_SPD_CFG_WIN c) none).or e.anchor
    let s := s.updEnc c fun e =>
      { e with fresh := false, refs := ((if e.needFirst then none else e.newest) :: e.refs).take 16 }
    match e.newest with
    | none => s
    | some k =>
      let since := (now - k.ts).toNat
      let late := s.fld F.EN_SPD_CFG_TIMEOUT c * ticksPerMs < since
      if s.on F.EN_STAT_STANDSTILL c then s
      else if late then (s.wr .EN_SPEED 0 c).setF F.EN_STAT_STANDSTILL 1 c
      else if e.reversed then s.wr .EN_SPEED 0 c
      else
        let formula := match back with
          | some r => if e.fresh && r.ts != k.ts then some r else none
          | none => none
        match formula with
        | some r => s.wrSat .EN_SPEED (roundDiv ((k.pos - r.pos).toInt * 2 ^ 32) (k.ts - r.ts).toNat) c
        | none =>
          if since = 0 then s
          else
            let v := s.sg .EN_SPEED c
            let (lim, s) := s.quot (2 ^ 32) since
            let mag := min (v.natAbs : Int) lim
            s.wrSat .EN_SPEED (if v < 0 then -mag else mag) c

/-! ## Loss and return (R142, R143) -/

/-- The channel is lost (R142, R143): VALID clears, the FR2 stops the owner axis unless EM-SENSORLESS takes its place. -/
def loseEnc (s : State) (c code : Nat) (flag : Fld) (unref : Bool) : State :=
  let a := s.owner c
  let was := s.on F.EN_STAT_VALID c
  let s := (s.raiseF flag c).setF F.EN_STAT_VALID 0 c
  let s := s.updEnc c fun e => { e with lost := true }
  let s := if unref && s.encMode c != 2 then s.setF F.EN_STAT_REFERENCED 0 c else s
  if 4 ≤ a then s.raise code 7 [wd c] []
  else if !was then s.raise code a [wd c] []
  else if s.on F.EN_CFG_FALLBACK c && s.axSt a == aRUN then
    let (s, ok) := (s.raise code a [wd c] []).emTrigger a 2 (·.enterSensorless a)
    if ok then s else s.react2 code a
  else s.raise code a [wd c]

/-- The causes of the loss are gone (R143). -/
def encCauseGone (s : State) (c : Nat) : Bool := !(s.enc c).line && !(s.enc c).supply && (s.enc c).ssiBad == 0

/-- VALID returns (R143). -/
def encReturn (s : State) (c : Nat) : State :=
  if !s.encCauseGone c || s.encMode c == 0 then s
  else ((s.updEnc c fun e => { e with lost := false, illegal := [] }).setF F.EN_STAT_VALID 1 c).speedBreak c

/-- VALID returns at once to a lost channel without an owner whose causes are gone (R143). -/
def encReturnFree (s : State) (c : Nat) : State :=
  if (s.enc c).lost && 4 ≤ s.owner c then s.encReturn c else s

/-- The channel restarts in its mode, in this step where R126 allows it 10 µs; a lost channel with an owner stays lost until a FAULT_ACK
(R143). (log 72 DEDUCED) -/
def encRestart (s : State) (c : Nat) : State :=
  let s := ((s.setF F.EN_STAT_VALID 0 c).setF F.EN_STAT_REFERENCED 0 c).setF F.EN_STAT_RUN 0 c
  let s := (s.setF F.EN_STAT_SSI_PRED 0 c).updEnc c fun e =>
    { e with illegal := [], illAt := none, agreed := none, ssiLast := none, ssiBad := 0 }
  let s := s.speedBreak c
  if (s.enc c).lost && s.owner c < 4 then s else s.encReturn c

/-! ## Electrical angle and speed of an axis's encoder (R210, R211, R225, R243) -/

/-- The counts of a turn of EN_ANGLE (R131): EN_CPR, in SSI mode 2^BITS. -/
def countsPerTurn (s : State) (c : Nat) : Nat :=
  if s.encMode c == 2 then 2 ^ s.fld F.EN_SSI_CFG_BITS c else s.fld F.EN_CPR_CPR c

/-- The encoder's electrical angle at a tick (R211): the angle with the motion since the last edge, limited to one count. -/
def encAngle (s : State) (a : Nat) : Word :=
  let c := s.encOf a
  let cpr : Int := s.countsPerTurn c
  let dt : Int := (s.nowStamp - s.rd .EN_EDGE_TS c).toNat
  let one := if cpr = 0 then 0 else 2 ^ 32 / cpr
  let d := if cpr = 0 then 0 else clampI (-one) one (s.sg .EN_SPEED c * dt / cpr)
  BitVec.ofNat 32 (s.fld F.AX_POLES_PP a) * (s.rd .EN_ANGLE c + wi d) + s.rd .AX_ANG_OFS a

/-- The electrical angle that a change of the counter stands for (R243). -/
def motion (s : State) (a : Nat) (n : Word) : Word :=
  let cpr : Int := s.fld F.EN_CPR_CPR (s.encOf a)
  if cpr = 0 then 0 else wi (s.fld F.AX_POLES_PP a * n.toInt * 2 ^ 32 / cpr)

/-- The encoder's speed in pu24 (R210). -/
def encSpeed (s : State) (a : Nat) : Int × State :=
  let (v, s) := s.gmul (s.rd .AX_SPD_SCALE a) (s.sg .EN_SPEED (s.encOf a))
  (satI v, s)

/-- OBSERVER_ENCODER_MISMATCH: EM-SENSORLESS where FALLBACK_SL is set and the mode admitted, which stays as it is where it is active
already, else the FR2 (R225, R271). (log 57 DEDUCED) -/
def mismatch (s : State) (a : Nat) : State :=
  let s := (s.raiseF F.AX_STAT_PLAUS a).updAxis a fun x => { x with plausN := 0 }
  if s.on F.AX_CFG_FALLBACK_SL a && s.on F.AX_EM_STAT_SENSORLESS a then s
  else if s.on F.AX_CFG_FALLBACK_SL a && (s.axSt a == aRUN || s.axSt a == aEMERGENCY) then
    let (s, ok) := (s.raise 0x2010 a [] []).emTrigger a 2 fun s => s.enterSensorless a
    if ok then s else s.react2 0x2010 a
  else s.raise 0x2010 a []

/-- A channel is referenced for the first time after an ALIGN of the axes that it feeds (R243): the angle switches to R211, and its difference
from the aligned angle with the motion up to the counter value `was`, before any correction, is reported and judged. (log 50 DESIGN CHOICE) -/
def firstRef (s : State) (c : Nat) (was : Word) : State :=
  s.forN 4 fun a s =>
    match (nth s.obs a).aligned with
    | none => s
    | some (th, n) =>
      if s.encOf a != c then s
      else
        let d := s.encAngle a - (th + s.motion a (was - n))
        let s := (s.wr .OBS_ALIGN_DEV d a).updOb a fun o => { o with aligned := none }
        if s.plausAng a < d.toInt.natAbs then s.mismatch a else s

end State

end Sys2Proof.Machine
end

