-- ==== Sys2Proof/Machine/FeedEvents.lean ====
section
/-!
DEFINITION. Machine/FeedEvents.lean: the events of encoders, Hall inputs, compare pulses and analog inputs (R42, R126 to R150,
R176).
-/

namespace Sys2Proof.Machine

namespace State

/-! ## Quadrature and pulse/direction (R128 to R130, R138) -/

/-- An illegal edge (R129, R130). Three within 1 ms are a cause of that instant: a channel without an owner is VALID again at once
(R143). (log 72 DEDUCED) -/
def illegalEdge (s : State) (c : Nat) : State :=
  let t := stampOf (s.changeTime (s.encDelay c))
  let s := ((s.bump F.EN_ILLEGAL_COUNT c).setF F.EN_STAT_DOUBT 1 c).speedBreak c
  let s := s.updEnc c fun e => { e with illegal := (t :: e.illegal).take 3, illAt := some s.tick }
  match (s.enc c).illegal with
  | [z, _, x] =>
    if (z - x).toNat ≤ ticksPerMs then (s.loseEnc c 0x2001 F.EN_STAT_ILLEGAL_FAULT false).encReturnFree c else s
  | _ => s

/-- New filtered levels in quadrature mode (R128, R129). (log 67 DEDUCED) -/
def quadEdge (s : State) (c : Nat) (a b : Bool) : State :=
  let e := s.enc c
  let s := s.updEnc c fun e => { e with a := a, b := b }
  if !s.counting c then s
  else if a != e.a && b != e.b then s.illegalEdge c
  else if a == e.a && b == e.b then s
  else
    let up := if a != e.a then a != b else a == b
    s.count c (up != s.on F.EN_CFG_INVERT_DIR c)

/-- An edge of A in pulse/direction mode: `b` is the level of B, which it has had for `since` ticks; one that has had it for less than
PD_SETUP is counted with the level before (R138). (log 67 DEDUCED) -/
def pulseEdge (s : State) (c : Nat) (rising b : Bool) (since : Nat) : State :=
  let s := s.updEnc c fun e => { e with a := rising, b := b }
  if !s.counting c || !(rising || s.on F.EN_CFG_PD_EDGE c) then s
  else
    let held := s.fld F.EN_FILT_PD_SETUP c ≤ since
    let s := s.count c (!(if held then b else !b) != s.on F.EN_CFG_INVERT_DIR c)
    if held then s else (s.raiseF F.EN_STAT_DIR_VIOLATION c).raise 0x2009 7 [wd c]

/-! ## Index (R133 to R135) -/

/-- The counter moves by n as a correction, which is a jump (R141, R149). -/
def correct (s : State) (c : Nat) (n : Int) : State :=
  if n = 0 then s else ((s.moveBy c n).jumped c n).speedBreak c

/-- The deviation of R133. -/
def indexDev (s : State) (c : Nat) : Int :=
  let n : Int := s.fld F.EN_CPR_CPR c
  let d := ((s.counter c).toInt - s.sg .EN_IDX_REF c) % n
  if n ≤ 2 * d then d - n else d

/-- A mismatch under REINDEX_ON_REPEAT (R134). -/
def indexRun (s : State) (c : Nat) (d : Int) : State :=
  let run := s.fld F.EN_STAT_RUN c
  let n := if run != 0 && (d - (s.enc c).lastDev).natAbs ≤ 1 then run + 1 else 1
  let s := s.setF F.EN_STAT_RUN (min n 3) c
  s.updEnc c fun e => { e with lastDev := d, agreed := if 3 ≤ n then some d else e.agreed }

/-- An index event (R133 to R135), with its timestamp (R139). -/
def indexEvent (s : State) (c : Nat) : State :=
  let s := s.updEnc c fun e => { e with idxTs := stampOf (s.changeTime (s.encDelay c)) }
  let s := match (s.enc c).agreed with
    | some o =>
      let s := ((s.correct c (-o)).raiseF F.EN_STAT_REINDEXED c).setF F.EN_STAT_RUN 0 c
      (s.updEnc c fun e => { e with agreed := none }).raise 0x2004 7 [wd c]
    | none => s
  let d := s.indexDev c
  if !s.on F.EN_STAT_REFERENCED c then
    let was := s.counter c
    ((((s.correct c (-d)).setF F.EN_STAT_REFERENCED 1 c).setF F.EN_STAT_DOUBT 0 c).showAngle c).firstRef c was
  else
    let s := s.wr .EN_IDX_DEV (wi d) c
    if d.natAbs ≤ s.fld F.EN_IDX_CFG_WIN c then
      ((s.correct c (-d)).setF F.EN_STAT_DOUBT 0 c).setF F.EN_STAT_RUN 0 c
    else
      let s := ((s.raiseF F.EN_STAT_INDEX_MISMATCH c).bump F.EN_IDX_MISMATCH_COUNT c).raise 0x2002 7 [wd c, wi d]
      if s.fld F.EN_IDX_CFG_POLICY c == 2 then s.indexRun c d else s

/-! ## SSI (R136, R137) -/

/-- A Gray code of n bits as a number. -/
def ungray : Nat → Nat → Nat
  | 0, _ => 0
  | n + 1, v => v ^^^ ungray n (v / 2)

/-- The ticks of a frame's clock burst (R136). (log 69 DESIGN CHOICE) -/
def burst (s : State) (c : Nat) : Nat :=
  (1 + s.fld F.EN_SSI_CFG_BITS c + b2n (s.on F.EN_SSI_CFG_PARITY c) + b2n (s.on F.EN_SSI_CFG_ERRBIT c)) *
    2 * (s.fld F.EN_SSI_TIM_DIV c + 1)

/-- The read period of a channel in ticks; on a channel without an owner it counts the 100 µs points of R140. -/
def readPeriod (s : State) (c : Nat) : Nat :=
  (if s.owner c < 4 then s.samplePeriod (s.owner c) else 20000) * 2 ^ s.fld F.EN_SSI_CFG_RATE c

/-- The tick at which the next frame of a channel is due (R136): its last bit arrives 1 µs before a sample instant of the owner axis, one
frame every 2^RATE of them; on a channel without an owner a read period after the last frame. -/
def ssiDue (s : State) (c : Nat) : Option Nat :=
  let a := s.owner c
  let n := 2 ^ s.fld F.EN_SSI_CFG_RATE c
  let next := (s.enc c).ssiAt.map (· + s.readPeriod c)
  if 4 ≤ a then next
  else (s.axis a).grid.map fun g =>
    let d := g + (n - (s.axis a).samples % n) % n * s.samplePeriod a - ticksPerUs
    if (s.enc c).ssiAt.any (d ≤ ·) then d + s.readPeriod c else d

/-- The ones of n bits are even in number. -/
def evenOnes : Nat → Nat → Bool
  | 0, _ => true
  | n + 1, v => evenOnes n (v / 2) != (v % 2 == 1)

/-- A frame of data bits, parity bit and error bit (R137). A frame that moves EN_POS by several counts fires the entry that it lands on, and
none that it passes over; the first frame that moves the counter of a channel that was lost is a jump. (log 69 DESIGN CHOICE; log 71 DEDUCED) -/
def ssiFrame (s : State) (c : Nat) (raw : Word) (par err : Bool) : State :=
  let bits := s.fld F.EN_SSI_CFG_BITS c
  let v := raw.toNat % 2 ^ bits
  let s := s.wr .EN_SSI_RAW (wd v) c
  let data := if s.on F.EN_SSI_CFG_CODE c then ungray bits v else v
  let e := s.enc c
  let span : Int := 2 ^ bits
  let diff : Int := match e.ssiLast with
    | some o => ((data - o : Int) + span / 2) % span - span / 2
    | none => 0
  let even := evenOnes bits v != par
  let parBad := match s.fld F.EN_SSI_CFG_PARITY c with | 1 => !even | 2 => even | _ => false
  let errBad := s.on F.EN_SSI_CFG_ERRBIT c && err == s.on F.EN_SSI_CFG_ERRPOL c
  if parBad || errBad || s.fld F.EN_SSI_CFG_MAX_STEP c < diff.natAbs then
    let s := ((s.setF F.EN_STAT_SSI_PRED 1 c).bump F.EN_SSI_ERR_COUNT c).raise 0x2005 7 [wd c]
    let s := if s.counting c then
        let (n, s) := s.quot (s.sg .EN_SPEED c * s.readPeriod c) (2 ^ 32)
        ((s.moveBy c n).jumped c 0).speedBreak c
      else s
    let s := s.updEnc c fun e => { e with ssiBad := e.ssiBad + 1 }
    if (s.enc c).ssiBad == 3 then s.loseEnc c 0x2006 F.EN_STAT_SSI_FAULT false else s
  else
    let latch := s.pwmTime - BitVec.ofNat 64 (5 * (s.burst c + s.fld F.EN_SSI_TIM_DELAY c))
    let ts := stampOf latch
    let was := s.on F.EN_STAT_SSI_PRED c
    let before := s.counter c
    let known := s.on F.EN_STAT_REFERENCED c
    let s := (s.setF F.EN_STAT_SSI_PRED 0 c).setF F.EN_STAT_REFERENCED 1 c
    let s := s.updEnc c fun e => { e with ssiLast := some data, ssiBad := 0, ssiHeld := !s.counting c }
    if !s.counting c then s.encReturnFree c
    else
      let base := match e.newest with | some m => m.pos | none => s.counter c
      let (n, s) := if e.ssiLast.isSome then ((base + wi diff - s.counter c).toInt, s)
        else
          let (w, s) := s.freeWord
          (w.toInt, s)
      let still := n = 0 && s.on F.EN_STAT_STANDSTILL c
      let s := (s.moveBy c n).marked c (if n = 0 then !s.on F.EN_STAT_DIR c else 0 < n) ts
      let s := if still then s.setF F.EN_STAT_STANDSTILL 1 c else s
      let s := if was || e.ssiHeld || e.ssiLast.isNone then s.jumped c n
        else if n = 0 || s.presetNow c then s else s.cmpFire c (0 < n) latch
      if known then s else s.firstRef c before

/-! ## Hall inputs (R144, R145) -/

/-- The filter of Hall input h in ticks. (log 15 DEDUCED) -/
def hallDelay (s : State) (h : Nat) : Nat :=
  match bitsOf (s.rd .H_FILT) (4 * h + 3) (4 * h) with | 0 => 0 | c => 2 ^ (c - 1) * ticksPerUs

/-- The sector of a code; none for 0 and 7. -/
def sectorOf (code : Nat) : Option Nat :=
  match code with | 1 => some 0 | 3 => some 1 | 2 => some 2 | 6 => some 3 | 4 => some 4 | 5 => some 5 | _ => none

/-- H_SECT_ANGLE shows the centre of a sector (R145). -/
def showSector (s : State) (n : Nat) : State :=
  s.wr .H_SECT_ANGLE (s.rd .H_SECT_OFS + BitVec.ofNat 32 (n * 0x2AAAAAAB + 0x15555555))

/-- The inputs form a code after the sector `old` (R145): an illegal one is reported and leaves the angle as it was. -/
def newSector (s : State) (old : Option Nat) (code : Nat) : State :=
  let new := sectorOf code
  let bad := match old, new with
    | _, none => true
    | some o, some n => o != n && (o + 1) % 6 != n && (n + 1) % 6 != o
    | none, some _ => false
  let s := { s.setF F.H_STATE_CODE code with feed := { s.feed with sector := new, sectHeld := bad } }
  if bad then (s.raiseF F.H_STATE_SECT_ILLEGAL).raise 0x2008 7 [wd code] else s.showSector (new.getD 0)

/-- The sector code of the present levels. -/
def hallCode (s : State) : Nat := (s.fld F.H_STATE_ACTIVE >>> s.fld F.H_CFG_SECT_BASE) % 8

/-- The active levels of the Hall inputs, and the limit switches among them (R144, R223). -/
def showActive (s : State) : State :=
  (s.setF F.H_STATE_ACTIVE (s.fld F.H_STATE_RAW ^^^ s.fld F.H_CFG_POL)).forN 4 fun a s => s.limitSwitch a

/-- H_STATE follows the levels and the polarity, and with SECT_EN a code that changes is a new sector (R144, R145). -/
def showHall (s : State) : State :=
  let s := s.showActive
  if !s.on F.H_CFG_SECT_EN || s.hallCode == s.fld F.H_STATE_CODE then s else s.newSector s.feed.sector s.hallCode

/-- A new H_CFG: its inputs and polarity make a code afresh, which skips none; without SECT_EN none is formed. (log 125 DEDUCED) -/
def newHallCfg (s : State) : State :=
  let s := s.showActive
  if s.on F.H_CFG_SECT_EN then s.newSector none s.hallCode
  else { s with feed := { s.feed with sector := none, sectHeld := false } }

/-- A new H_SECT_OFS moves the angle of the sector, if the angle shows one. -/
def newHallOfs (s : State) : State :=
  match s.feed.sector with
  | some n => if s.feed.sectHeld then s else s.showSector n
  | none => s

end State

/-! ## Meanings -/

/-- ENCODER_EDGE (R127 to R129): the A and B lines take new levels in one tick and have held them for `held` ticks; an edge that the
filter does not accept changes nothing. (log 67 DEDUCED) -/
def execEncoderEdge (dt : Nat) (ch : Fin 4) (a b : Bool) (held : Nat) (errs : List MemErr) (s : State) :
    Host.Outcome State Fault Refusal :=
  let s := s.elapse dt
  if !s.encPasses ch held then endWith s
  else endWith <| s.withErrs ch errs fun s =>
    (if s.encMode ch == 1 then s.quadEdge ch a b else s.updEnc ch fun e => { e with a := a, b := b })

/-- PULSE_EDGE (R127, R138): an edge of A, which has held its level for `held` ticks. (log 67 DEDUCED) -/
def execPulseEdge (dt : Nat) (ch : Fin 4) (rising b : Bool) (held since : Nat) (errs : List MemErr) (s : State) :
    Host.Outcome State Fault Refusal :=
  let s := s.elapse dt
  if !s.encPasses ch held then endWith s
  else endWith <| s.withErrs ch errs fun s => (if s.encMode ch == 3 then s.pulseEdge ch rising b since else s)

/-- INDEX_EVENT (R127, R133 to R135): an edge of Z, which has held its level for `held` ticks; the gate condition is judged on the
filtered A and B levels. While EN_CPR is 0 there is no turn to index, and the event is ignored. (log 67 DEDUCED) -/
def execIndexEvent (dt : Nat) (ch : Fin 4) (rising : Bool) (held : Nat) (s : State) : Host.Outcome State Fault Refusal :=
  let s := s.elapse dt
  let e := s.enc ch
  let gate := match s.fld F.EN_IDX_CFG_GATE ch with | 0 => true | 1 => e.a | 2 => e.b | _ => e.a && e.b
  if rising == s.on F.EN_IDX_CFG_EDGE ch || !gate || !s.counting ch || s.encMode ch == 2 || !s.on F.EN_IDX_CFG_POLICY ch ||
      !s.on F.EN_CPR_CPR ch || e.illAt == some s.tick || !s.encPasses ch held then endWith s
  else endWith (s.indexEvent ch)

/-- SSI_FRAME (R136, R137): the data bits in the order received, the parity bit, the error bit, read by a clock burst on En_CK that ends
1 µs before a sample instant of the owner. (log 2 DESIGN CHOICE; log 69 DESIGN CHOICE) -/
def execSsiFrame (dt : Nat) (ch : Fin 4) (raw : Word) (par err : Bool) (errs : List MemErr) (s : State) : Host.Outcome State Fault Refusal :=
  let s := s.elapse dt
  if s.encMode ch != 2 then endWith s
  else
    let s := s.elapseTo ((s.ssiDue ch).getD s.tick)
    let s := s.emit (.enCk ch (s.fld F.EN_SSI_TIM_DIV ch + 1) (s.burst ch / (2 * (s.fld F.EN_SSI_TIM_DIV ch + 1))))
    let s := s.updEnc ch fun e => { e with ssiAt := some s.tick }
    endWith (s.withErrs ch errs fun s => s.ssiFrame ch raw par err)

/-- EN_SPEED_UPDATE (R140): a 100 µs point of a channel without an owner, 100 µs after the one before. -/
def execEnSpeedUpdate (dt : Nat) (ch : Fin 4) (s : State) : Host.Outcome State Fault Refusal :=
  let s := s.elapseFrom dt ((s.enc ch).spdAt + 100 * ticksPerUs)
  endWith (if 4 ≤ s.owner ch then (s.updEnc ch fun e => { e with spdAt := s.tick }).speedSample ch else s)

/-- COMPARE_PULSE_END (R146): the pulse that ends first; time passes to its end. (log 71 DEDUCED) -/
def execComparePulseEnd (s : State) : Host.Outcome State Fault Refusal :=
  match (s.feed.pulses.map Prod.snd).min? with
  | none => endWith s
  | some t =>
    let s := s.elapseTo t
    let ends := s.feed.pulses.filter fun p => p.2 ≤ t
    let s := { s with feed := { s.feed with pulses := s.feed.pulses.filter fun p => !(p.2 ≤ t) } }
    endWith (s.forL ends fun p s => s.cmpDrive p.1 false p.2)

/-- ENCODER_LINE_FAULT (R142, R143): line 0 A, 1 B, 2 Z below 200 mV for more than 1 µs. -/
def execEncoderLineFault (dt : Nat) (ch : Fin 4) (line : Fin 3) (s : State) : Host.Outcome State Fault Refusal :=
  let s := s.elapse dt
  let watched := match s.encMode ch with
    | 0 => false
    | 2 => line.val == 0
    | _ => line.val != 2 || s.on F.EN_IDX_CFG_POLICY ch
  if !watched then endWith s
  else endWith ((s.updEnc ch fun e => { e with line := true }).loseEnc ch 0x2003 F.EN_STAT_LINE_FAULT true)

/-- ENCODER_LINE_RESTORED (R143). -/
def execEncoderLineRestored (dt : Nat) (ch : Fin 4) (s : State) : Host.Outcome State Fault Refusal :=
  endWith (((s.elapse dt).updEnc ch fun e => { e with line := false }).encReturnFree ch)

/-- ENC_SUPPLY_OVERLOAD (R42, R142). -/
def execEncSupplyOverload (dt : Nat) (ch : Fin 4) (s : State) : Host.Outcome State Fault Refusal :=
  let s := s.elapse dt
  endWith ((s.updEnc ch fun e => { e with supply := true, supplyAt := s.tick }).loseEnc ch 0x2007 F.EN_STAT_SUPPLY_FAULT true)

/-- ENC_SUPPLY_RETRY (R42): 100 ms after the overload the supply is on again. -/
def execEncSupplyRetry (ch : Fin 4) (s : State) : Host.Outcome State Fault Refusal :=
  if !(s.enc ch).supply then endWith s
  else
    let s := s.elapseTo ((s.enc ch).supplyAt + 100 * ticksPerMs)
    endWith ((s.updEnc ch fun e => { e with supply := false }).encReturnFree ch)

/-- HALL_EDGE (R144, R145): input h takes a level and has held it for `held` ticks; the filter accepts it or not. -/
def execHallEdge (dt : Nat) (h : Fin 8) (level : Bool) (held : Nat) (s : State) : Host.Outcome State Fault Refusal :=
  let s := s.elapse dt
  if s.fbit F.H_STATE_RAW h == level || held < s.hallDelay h then endWith s
  else
    let s := (s.setBit F.H_STATE_RAW h level).wr .H_EDGE_TS (State.stampOf (s.changeTime (s.hallDelay h))) h
    endWith s.showHall

/-- AI_CONVERSION (R176), 50 µs after the input's last one: the 16-bit result of a conversion over ±10.24 V. With FILT the output moves by the share 1 - e^(-1/n) of the
difference, n = 2^FILT conversions being the time constant; the share's discrete form is open between 1/(n + 1) and 1/n.
(log 70 DESIGN CHOICE) -/
def execAiConversion (dt : Nat) (n : Fin 8) (code : BitVec 16) (s : State) : Host.Outcome State Fault Refusal :=
  let s := s.elapseFrom dt ((nth s.ai n).at_ + 50 * ticksPerUs)
  if !s.on F.AI_CFG_EN n then endWith s
  else
    let v := code.toInt
    let x := v * 65536
    let y := (nth s.ai n).value
    let k : Int := 2 ^ s.fld F.AI_CFG_FILT n
    let near := (x - y) / (k + 1)
    let far := (x - y) / k
    let (y', s) := if s.fld F.AI_CFG_FILT n == 0 then (x, s)
      else (y + clampI (min near far) (max near far + 1) (Config.freeInt s.free), { s with free := s.free + 1 })
    let beyond := 32640 < v.natAbs
    let s := { s with ai := upd s.ai n fun a => { a with value := y', overRange := beyond, at_ := s.tick } }
    let s := if beyond then s.raiseF F.AI_CFG_OVERRANGE n else s
    let (g, s) := s.quot (y' * s.sg .AI_GAIN n) (125 * 2 ^ 24)
    endWith (s.wrSat .AI_VALUE (g + s.sg .AI_OFFSET n) n)

end Sys2Proof.Machine
end

