-- ==== Sys2Proof/Machine/Stream.lean ====
section
/-!
DEFINITION. Machine/Stream.lean: the stream port: symbols, frames, credit, replay, and a capture at a sample (R380 to R392).
-/

namespace Sys2Proof.Machine

/-! ## Symbols (R380, R381) -/

/-- Ones among the lowest n bits of a number. -/
def onesOf : Nat → Nat → Nat
  | 0, _ => 0
  | n + 1, v => v % 2 + onesOf n (v / 2)

/-- A 40-bit symbol: DATA, K, P (inverted where the word was read with a parity error, R382), MARK. -/
def symbol (data : Word) (k bad : Bool) : BitVec 40 :=
  let v := data.toNat + (if k then 2 ^ 32 else 0)
  let odd := onesOf 33 v % 2 == 1
  BitVec.ofNat 40 (v + (if odd != bad then 2 ^ 33 else 0) + 0x26 * 2 ^ 34)

/-- The SOF symbol's DATA. -/
def sofWord (f : SFrame) : Word :=
  wd (0x10000000 + f.seq % 4096 * 2 ^ 16 + f.source % 16 * 2 ^ 12 + b2n f.first * 2 ^ 11 + b2n f.last * 2 ^ 10 + f.words.length % 64)

/-- The EOF symbol's DATA. -/
def eofWord (f : SFrame) (replay : Bool) : Word :=
  wd (0x20000000 + f.seq % 4096 * 2 ^ 16 + b2n f.dropped * 2 ^ 10 + b2n (!f.bad.isEmpty) * 2 ^ 9 + b2n replay * 2 ^ 8 +
    min f.bad.length 7 * 2 ^ 5 + f.bad.headD 0 % 32)

/-- The ABORT and GONE symbols. -/
def abortSym : BitVec 40 := symbol 0x40000000 true false
def goneSym (seq : Nat) : BitVec 40 := symbol (wd (0x30000000 + seq % 4096 * 2 ^ 16)) true false

/-- The number of symbols of a frame. -/
def SFrame.size (f : SFrame) : Nat := f.words.length + 2

/-- The symbols of a frame. -/
def SFrame.syms (f : SFrame) (replay : Bool) : List (BitVec 40) :=
  symbol (sofWord f) true false ::
    ((upTo f.words.length).map fun i => symbol (nth f.words i) false (f.bad.contains i)) ++
    [symbol (eofWord f replay) true false]

/-- Symbols a replay buffer holds (R386). -/
abbrev replaySize : Nat := 64

namespace State

/-! ## Frames in progress -/

/-- The frame in progress has sent all its symbols: it enters the replay buffer and counts. (log 116 DEDUCED) -/
def frameEnd (s : State) : State :=
  match s.str.cur with
  | none => s
  | some f =>
    let s := { s with str := { s.str with cur := none, sent := (f :: s.str.sent).take replaySize } }
    (s.bump F.STR_FRAMES_COUNT).emit (.stream (f.syms false))

/-- The frame in progress has sent n symbols. (log 116 DEDUCED) -/
def progress (s : State) (n : Nat) : State :=
  match s.str.cur with
  | some f => if f.size ≤ n then s.frameEnd else s
  | none => s

/-- The frame in progress, of which n symbols went, is cut (R383, R385): its data is sent again from its SOF, with a new SEQ, and with
DROPPED where it carried that. (log 116 DEDUCED) -/
def cut (s : State) (n : Nat) (abort : Bool) : State :=
  match s.str.cur with
  | none => s
  | some f =>
    let back (l : List Series) : List Series :=
      match if f.last then none else l.findIdx? fun r => r.source == f.source with
      | some k => upd l k fun r => { r with words := f.words ++ r.words, started := !f.first }
      | none => ⟨f.source, f.words, !f.first, f.last⟩ :: l
    let lossy := if f.dropped then f.source :: s.str.lossy else s.str.lossy
    let s := { s with str := { s.str with cur := none, series := back s.str.series, lossy } }
    let s := s.emit (.stream ((f.syms false).take n ++ (if abort then [abortSym] else [])))
    s.showFill

/-- The series of a source that is allowed and has data: trace first, then condition data, then capture (R381). -/
def nextSeries (s : State) : Option Nat :=
  let has (src : Nat) (en : Fld) : Option Nat :=
    if s.on en then s.str.series.findIdx? fun r => r.source == src && !r.words.isEmpty else none
  (has 3 F.STR_CTRL_TRACE_EN).or ((has 2 F.STR_CTRL_COND_EN).or (has 1 F.STR_CTRL_CAP_EN))

/-- The payload words of the next frame. -/
def maxLen (s : State) : Nat := min 30 (max 1 (s.fld F.STR_CTRL_MAX_LEN))

/-- What follows when CAP_EN is cleared (R389): the capture ends with TRUNC and CAPTURE_ARM receives PREEMPTED. (log 117 DEDUCED) -/
def capStop (s : State) : State :=
  match s.str.cap with
  | some c => if c.ended then s.finish 0x0901 0 (ans cPREEMPTED) else (s.capClose true).finish 0x0901 0 (ans cPREEMPTED)
  | none => s

/-- A series of a source is made ready (R470). -/
def streamSeries (s : State) (source : Nat) (ws : List Word) : State :=
  { s with str := { s.str with series := s.str.series ++ [⟨source, ws, false, true⟩] } }

/-- The symbols sent since the SOF of the k-th newest complete frame, with n of the frame in progress. -/
def sinceSof (s : State) (k n : Nat) : Nat := ((s.str.sent.take (k + 1)).map SFrame.size).sum + n

/-- A frame with this SEQ was started since the last link reset (R386). -/
def wasSent (s : State) (seq : Nat) : Bool := s.str.wrapped || seq < s.fld F.STR_SEQ_NEXT

/-- A LINK_RESET was decoded at this boundary (R387). -/
def linkReset (s : State) : Bool := s.str.linkAt == some s.tick

end State

/-! ## Meanings -/

/-- LINK_RESET (R383): credit set, the replay buffer emptied, SEQ 0; a frame of which n symbols went is cut by ABORT. (log 116 DEDUCED) -/
def execLinkReset (dt : Nat) (value : BitVec 12) (sent : Nat) (s : State) : Host.Outcome State Fault Refusal :=
  let s := s.elapse dt
  if !s.str.clk then endWith s
  else
    let s := (s.progress sent).cut sent true
    let s := { s with str := { s.str with sent := [], linkAt := some s.tick, wrapped := false } }
    endWith (((s.setF F.STR_STAT_LINK 1).setF F.STR_CREDIT_WORDS (16 * value.toNat)).setF F.STR_SEQ_NEXT 0)

/-- CREDIT (R383, R387): 16·VALUE words more, saturating at 65,535; a LINK_RESET of the same boundary supersedes it. -/
def execCredit (dt : Nat) (value : BitVec 12) (s : State) : Host.Outcome State Fault Refusal :=
  let s := s.elapse dt
  if !s.str.clk || s.linkReset then endWith s
  else endWith (s.setF F.STR_CREDIT_WORDS (min 65535 (s.fld F.STR_CREDIT_WORDS + 16 * value.toNat)))

/-- NAK (R386, R387): a replay from the frame named, GONE where its SOF is no longer held or it has been replayed twice, and no
effect but a count where no such frame was sent; a LINK_RESET of the same boundary supersedes it. (log 116 DEDUCED) -/
def execNak (dt : Nat) (value : BitVec 12) (sent : Nat) (s : State) : Host.Outcome State Fault Refusal :=
  let s := (s.elapse dt).progress sent
  let seq := value.toNat
  if !s.str.clk || s.linkReset then endWith s else
  let gone := (s.bump F.STR_GONE_COUNT).emit (.stream [goneSym seq])
  let part := match s.str.cur with | some f => min sent f.size | none => 0
  let replay (k : Nat) : State :=
    let s := (s.bump F.STR_NAK_COUNT).setF F.STR_REPLAY_COUNT (min (2 ^ 32 - 1) (s.fld F.STR_REPLAY_COUNT + k + 1))
    let old := (s.str.sent.take (k + 1)).map fun g => { g with replays := g.replays + 1 }
    let again := (old.reverse.flatMap fun g => g.syms true) ++
      (match s.str.cur with | some c => (c.syms false).take part | none => [])
    { s with str := { s.str with sent := old ++ s.str.sent.drop (k + 1) } }.emit
      (.stream ((if s.str.cur.isSome then [abortSym] else []) ++ again))
  match s.str.cur with
  | some c =>
    if c.seq == seq && 0 < part then
      if c.replays < 2 then
        let s := (s.bump F.STR_NAK_COUNT).bump F.STR_REPLAY_COUNT
        endWith ({ s with str := { s.str with cur := some { c with replays := c.replays + 1 } } }.emit
          (.stream (abortSym :: (c.syms false).take part)))
      else endWith gone
    else
      match s.str.sent.findIdx? fun f => f.seq == seq with
      | some k =>
        let f := nth s.str.sent k
        endWith (if s.sinceSof k part ≤ replaySize && f.replays < 2 then replay k else gone)
      | none => endWith (if s.wasSent seq && c.seq != seq then gone else s.bump F.STR_BK_ERR_COUNT)
  | none =>
    match s.str.sent.findIdx? fun f => f.seq == seq with
    | some k =>
      let f := nth s.str.sent k
      endWith (if s.sinceSof k 0 ≤ replaySize && f.replays < 2 then replay k else gone)
    | none => endWith (if s.wasSent seq then gone else s.bump F.STR_BK_ERR_COUNT)

/-- BACK_CHANNEL_PARITY_ERROR (R383): ignored and counted. The back-channel needs STCLK. -/
def execBackChannelParityError (dt : Nat) (s : State) : Host.Outcome State Fault Refusal :=
  let s := s.elapse dt
  endWith (if s.str.clk then s.bump F.STR_BK_ERR_COUNT else s)

/-- STREAM_FRAME_START (R381, R382, R384): the frame before it has ended; the next one starts where data, permission and
credit are there. `bad` are the indexes of words that capture SRAM reads with a parity error. (log 116 DEDUCED) -/
def execStreamFrameStart (dt : Nat) (bad : List Nat) (s : State) : Host.Outcome State Fault Refusal :=
  let s := (s.elapse dt).frameEnd
  match s.nextSeries with
  | none => endWith s
  | some k =>
    let r := nth s.str.series k
    let ws := r.words.take s.maxLen
    let need := ws.length + 2
    if !s.str.clk || !s.on F.STR_STAT_LINK || !s.on F.STR_CTRL_EN || s.fld F.STR_CREDIT_WORDS < need then endWith s
    else
      let last := r.closed && ws.length == r.words.length
      let bad := if r.source == 1 then (upTo ws.length).filter bad.contains else []
      let seq := s.fld F.STR_SEQ_NEXT
      let f : SFrame := ⟨seq, r.source, !r.started, last, ws, bad, s.str.lossy.contains r.source, 0⟩
      let s := { s with str := { s.str with
        cur := some f
        wrapped := s.str.wrapped || seq == 4095
        lossy := s.str.lossy.filter (· != r.source)
        series := if last then s.str.series.eraseIdx k
          else upd s.str.series k fun r => { r with words := r.words.drop ws.length, started := true } } }
      let s := (s.setF F.STR_CREDIT_WORDS (s.fld F.STR_CREDIT_WORDS - need)).setF F.STR_SEQ_NEXT ((seq + 1) % 4096)
      let s := if bad.isEmpty then s else s.bump F.STR_SRC_ERR_COUNT
      endWith s.showFill

/-- CAPTURE_COMPLETE (R389): the EOF of the closing frame is sent; CAPTURE_ARM ends with OK. (log 117 DEDUCED) -/
def execCaptureComplete (dt : Nat) (s : State) : Host.Outcome State Fault Refusal :=
  let s := s.elapse dt
  match s.str.cap with
  | none => endWith s
  | some c =>
    let closing := match s.str.cur with | some f => f.source == 1 && f.last | none => false
    let left := s.str.series.any fun r => r.source == 1
    if c.ended && !left && (closing || s.str.cur.isNone) then
      let s := (if closing then s.frameEnd else s).setCap none
      endWith ((s.setF F.STR_STAT_CAPTURE 0).finish 0x0901 0 (ok))
    else endWith s

/-- STCLK_LOST (R385). -/
def execStclkLost (dt : Nat) (sent : Nat) (s : State) : Host.Outcome State Fault Refusal :=
  let s := s.elapse dt
  if !s.str.clk then endWith s
  else
    let s := (s.progress sent).cut sent false
    let s := { s with str := { s.str with clk := false, sent := [], linkAt := none } }
    let s := (s.setF F.SYS_CLK_STAT_STCLK_OK 0).raiseF F.STR_STAT_STCLK_LOST
    endWith ((s.setF F.STR_CREDIT_WORDS 0).setF F.STR_STAT_LINK 0)

/-- STCLK_PRESENT (R384): IDLE symbols start; frames wait for the first LINK_RESET. -/
def execStclkPresent (dt : Nat) (s : State) : Host.Outcome State Fault Refusal :=
  let s := s.elapse dt
  endWith (({ s with str := { s.str with clk := true } }.setF F.SYS_CLK_STAT_STCLK_OK 1).emit
    (.stream (if s.str.clk then [] else [symbol 0x00C3A5A5 true false])))

end Sys2Proof.Machine
end

