-- ==== Sys2Proof/Machine/CanOps.lean ====
section
/-!
DEFINITION. Machine/CanOps.lean: the message buffers of the CAN controllers, requests and cancels, what a write to a buffer changes,
the rules of the time-triggered schedule, and the states of a controller (R360, R362 to R371, R374, R378).
-/

namespace Sys2Proof.Machine.State

/-- Controller c. -/
def canR (s : State) (c : Nat) : Can := nth s.can c
/-- The state with controller c changed. -/
def updCan (s : State) (c : Nat) (f : Can → Can) : State := { s with can := upd s.can c f }

/-- The index of word w of buffer k of controller c (R363). -/
def mbIx (c k w : Nat) : Nat := (c * 64 + k) * 24 + w
/-- Word w of buffer k. -/
def mb (s : State) (c k w : Nat) : Word := s.rd .CAN_MB (mbIx c k w)
/-- Word w of buffer k replaced. -/
def setMb (s : State) (c k w : Nat) (v : Word) : State := s.wr .CAN_MB v (mbIx c k w)
/-- Bits hi to lo of word 0. -/
def mb0 (s : State) (c k hi lo : Nat) : Nat := bitsOf (s.mb c k 0) hi lo
/-- Bits hi to lo of word 0 replaced. -/
def setMb0 (s : State) (c k hi lo v : Nat) : State := s.setMb c k 0 (putBits (s.mb c k 0) hi lo v)

/-- CODE of a buffer. -/
def mbCode (s : State) (c k : Nat) : Nat := s.mb0 c k 1 0
/-- PENDING of a buffer. -/
def mbPending (s : State) (c k : Nat) : Bool := s.mb0 c k 11 11 == 1
/-- LOCKED of a buffer. -/
def mbLocked (s : State) (c k : Nat) : Bool := s.mb0 c k 3 3 == 1

/-- INIT is set and in effect (R362). -/
def canInit (s : State) (c : Nat) : Bool := s.on F.CAN_CTRL_INIT c && !(s.canR c).initAsk
/-- The controller is on the bus: error-active or error-passive. -/
def canOn (s : State) (c : Nat) : Bool := s.fld F.CAN_STAT_STATE c < 2
/-- The command transport uses the controller: MB62 and MB63 are reserved to it (R378). -/
def canCmd (s : State) (c : Nat) : Bool := s.on F.CAN_CMD_REQ_EN c

/-- Data bytes of a DLC in an FD or classical frame (R364). -/
def dlcBytes (fd : Bool) (dlc : Nat) : Nat :=
  if dlc ≤ 8 then dlc
  else if !fd then 8
  else match dlc with
    | 9 => 12 | 10 => 16 | 11 => 20 | 12 => 24 | 13 => 32 | 14 => 48 | _ => 64

/-- LASTW of n data bytes (R364). -/
def lastW (n : Nat) : Nat := 3 + (n + 3) / 4

/-- The request bit of a buffer. (log 93 DEDUCED) -/
def setReq (s : State) (c k : Nat) (v : Bool) : State :=
  if k < 32 then s.setBit F.CAN_TXREQ_LO_REQ k v c else s.setBit F.CAN_TXREQ_HI_REQ (k - 32) v c

/-- A buffer's request ends with a TX_RES (R370). (log 93 DEDUCED) -/
def endReq (s : State) (c k res : Nat) : State := ((s.setMb0 c k 9 8 res).setMb0 c k 11 11 0).setReq c k false

/-- A SET of a request (R368). (log 93 DEDUCED) -/
def askTx (s : State) (c k : Nat) : State :=
  let fdf := s.mb0 c k 18 18 == 1
  let rtr := s.mb0 c k 17 17 == 1
  if s.mbPending c k then s
  else if s.mbCode c k != 2 || (fdf && rtr) || (fdf && !s.on F.CAN_CTRL_FD_EN c) then s.raiseF F.CAN_STAT_WRITE_REFUSED c
  else (((s.setMb0 c k 11 11 1).setMb0 c k 9 8 0).setMb0 c k 10 10 0).setReq c k true

/-- A CLR of a request is a cancel (R368, R371): at once without an attempt, else at its end. -/
def cancelTx (s : State) (c k : Nat) : State :=
  if !s.mbPending c k then s
  else match (s.canR c).attempt with
    | some t => if t.mb == k then s.updCan c fun r => { r with attempt := some { t with cancel := true } } else s.endReq c k 2
    | none => s.endReq c k 2

/-- The requests set and cleared in one cycle on the low or the high half. -/
def txReqs (s : State) (c : Nat) (hi : Bool) (sets clrs : Word) : State :=
  s.forN 32 fun b s =>
    let k := b + (if hi then 32 else 0)
    if bitOf clrs b then s.cancelTx c k else if bitOf sets b then s.askTx c k else s

/-- A buffer is closed to writes of words 1 to 19 (R367, R378). -/
def mbClosed (s : State) (c k w : Nat) : Bool :=
  (s.canCmd c && 62 ≤ k) || (s.mbPending c k && 1 ≤ w && w ≤ 19)

/-- What a write of v to word w of a buffer leaves in it (R363, R367). -/
def mbWrite (s : State) (c k w : Nat) (v : Word) : Word :=
  let old := s.mb c k w
  let code := s.mbCode c k
  match w with
  | 0 =>
    let lost := if bitOf v 4 then putBits old 4 4 0 else old
    if s.mbPending c k then lost
    else
      let x := putBits (putBits lost 1 0 (bitsOf v 1 0)) 5 5 (bitsOf v 5 5)
      if bitsOf v 1 0 == 1 then x else putBits x 19 12 (bitsOf v 19 12)
  | 1 => if code == 1 then old else v &&& 0x1FFFFFFF
  | 20 => v &&& 0x3FFFFFFF
  | 21 => v &&& 0x1FFFFFFF
  | _ => if 4 ≤ w && w ≤ 19 && code != 1 then v else old

/-- The bit timing of a phase is in the ranges of R360. (log 93 DEDUCED) -/
def timingOk (brp seg1 seg2 sjw : Nat) (fd : Bool) : Bool :=
  if fd then brp < 32 && seg1 < 32 && seg2 < 16 && sjw ≤ seg2
  else brp < 32 && 1 ≤ seg1 && seg1 < 256 && 1 ≤ seg2 && seg2 < 128 && sjw ≤ seg2

/-- The offset and the window of column k. -/
def ttOfs (s : State) (c k : Nat) : Nat := s.fld F.CAN_TT_COL_OFS (16 * c + k)
def ttWin (s : State) (c k : Nat) : Nat := s.fld F.CAN_TT_COL_WIN (16 * c + k)
/-- The length of a basic cycle in µs. -/
def ttLen (s : State) (c : Nat) : Nat := s.fld F.CAN_TT_CFG_CYC_LEN c
/-- Column k is used (R374). -/
def ttUsed (s : State) (c k : Nat) : Bool := s.ttOfs c k != s.ttLen c

/-- The schedule keeps the rules of R374: among the columns used, offsets rise strictly and each window ends before the next column
and before the end of the basic cycle. -/
def ttOk (s : State) (c : Nat) : Bool :=
  !s.on F.CAN_CTRL_TT_EN c ||
    (let l := (upTo 16).filter (s.ttUsed c)
     (upTo l.length).all fun j =>
       let k := nth l j
       let stop := if j + 1 < l.length then s.ttOfs c (nth l (j + 1)) else s.ttLen c
       s.ttOfs c k < stop && s.ttOfs c k + s.ttWin c k ≤ stop && s.ttOfs c k < s.ttLen c)

/-- The controller leaves the bus (R362): INIT takes effect. -/
def canStop (s : State) (c : Nat) : State :=
  (s.setF F.CAN_STAT_STATE 3 c).updCan c fun r => { r with initAsk := false, joinAsk := false, stopAt := none }

/-- The controller joins the bus: error-active with its error counters at zero (R362, R373), its schedule waiting for a cycle start. -/
def canJoin (s : State) (c : Nat) : State :=
  let s := ((s.wr .CAN_ERRCNT 0 c).setF F.CAN_STAT_STATE 0 c).wr .CAN_TT_STAT 0 c
  s.updCan c fun r => { r with joinAsk := false, recOver := false, attempt := none, col := none, next := 16, tried := []
                               refCount := none, refRun := 0, refAt := s.tick, refTx := none, stopAt := none }

/-- The time-triggered schedule loses its synchronisation (R372, R376): no window is open, and the run of reference messages begins
afresh. -/
def ttLost (s : State) (c : Nat) : State :=
  let s := s.updCan c fun r => { r with refCount := none }
  if !s.on F.CAN_TT_STAT_SYNC c then s
  else
    let s := (s.setF F.CAN_TT_STAT_SYNC 0 c).updCan c fun r => { r with col := none, next := 16, refRun := 0 }
    s.raise 0x4024 7 [wd c]

/-- Meridian has become FREE: schedules on Meridian lose their synchronisation (R376). (log 94 DEDUCED) -/
def ttFree (s : State) : State := s.forN 2 fun c s => if s.fld F.CAN_TT_CFG_REF c == 1 then s else s.ttLost c

end Sys2Proof.Machine.State
end

