-- ==== Sys2Proof/Machine/EngineCheck.lean ====
section
/-!
DEFINITION. Machine/EngineCheck.lean: the static check of an engine program and the schedule check of its tasks (R185, R186,
R188, R190 to R192, R195, R197, R198).
-/

namespace Sys2Proof.Machine

/-- What the static check needs of an instruction: its cycles, or what kind of flow it makes; from a BR whose COND is 0 the word after
it is not reached. -/
inductive Flow where
  | plain (cycles : Nat)
  | out
  | br (waits always : Bool) (target : Nat)
  | loop (passes len : Nat)
  | ends
  | illegal
  deriving DecidableEq, Repr, Inhabited

/-- The fields of the register format that must be zero (R185). -/
def zeroR (w : Word) (sh : Bool) : Bool := bitsOf w 13 5 == 0 && (sh || bitsOf w 4 0 == 0)

/-- The fields of the memory format that must be zero. -/
def zeroM (w : Word) : Bool := bitsOf w 17 14 == 0

/-- The fields of the coefficient format that must be zero; on a loop engine ACC is 0 and K below 256. -/
def zeroK (e : Nat) (w : Word) (sh : Bool) : Bool :=
  bitsOf w 6 5 == 0 && (sh || bitsOf w 4 0 == 0) && (8 ≤ e || (bitsOf w 8 7 == 0 && bitsOf w 17 9 < 256))

/-- What instruction word w is to the static check on engine e (R185, R186, R190). (log 75 DEDUCED) -/
def flowOf (e : Nat) (w : Word) : Flow :=
  let op := bitsOf w 31 26
  let legal (b : Bool) (f : Flow) : Flow := if b then f else .illegal
  if op = 0x0E ∨ op = 0x0F then legal (zeroR w true) (.plain 1)
  else if op = 0x02 ∨ op = 0x03 then legal (bitsOf w 21 16 == 0) (.plain 1)
  else if op ≤ 0x11 then legal (zeroR w false) (.plain 1)
  else if op = 0x12 ∨ op = 0x15 then legal (zeroK e w false) (.plain 2)
  else if op = 0x13 ∨ op = 0x14 then legal (zeroR w false) (.plain 2)
  else if op = 0x16 then legal (zeroK e w true) (.plain 1)
  else if op = 0x17 then legal (zeroK e w false) (.plain 1)
  else if op = 0x18 then legal (zeroR w false && bitsOf w 22 22 == 0 && bitsOf w 25 22 != 0) (.plain 4)
  else if op = 0x19 then legal (zeroR w false) (.plain 12)
  else if op = 0x1A then legal (zeroR w false) (.plain 20)
  else if op = 0x1B then legal (zeroR w false) (.plain 16)
  else if op = 0x20 ∨ op = 0x21 then legal (zeroM w) (.plain 1)
  else if op = 0x24 then legal (zeroM w) (.plain 3)
  else if op = 0x25 then legal (zeroM w) .out
  else if 0x26 ≤ op ∧ op ≤ 0x29 then legal (zeroR w false) (.plain 1)
  else if op = 0x30 then
    let c := bitsOf w 25 22
    legal (bitsOf w 21 13 == 0 && c ≤ 12) (.br (c == 9 || c == 10) (c == 0) (bitsOf w 12 0))
  else if op = 0x31 then legal (bitsOf w 25 22 == 0 && bitsOf w 7 0 == 0) (.loop (bitsOf w 21 14 + 1) (bitsOf w 13 8 + 1))
  else if op = 0x3F then legal (zeroR w false) .ends
  else .illegal

/-! ## The pass over a program -/

/-- The largest times with which an address is reached, by cycles since the last OUT issued (3 for three or more, R188). -/
abbrev Reach := List (Nat × Nat)

/-- One more way to reach an address. -/
def Reach.add (m : Reach) (k t : Nat) : Reach :=
  match m.find? fun p => p.1 == k with
  | none => (k, t) :: m
  | some p => if p.2 < t then (k, t) :: m.filter fun q => q.1 != k else m

/-- Two sets of ways together. -/
def Reach.join (m n : Reach) : Reach := n.foldl (fun m p => m.add p.1 p.2) m

/-- The largest of the times. -/
def Reach.top (m : Reach) : Nat := m.foldl (fun t p => max t p.2) 0

/-- Addresses still to be looked at, rising, each with the ways it is reached. -/
abbrev Front := List (Nat × Reach)

/-- Address a is reached. -/
def Front.put : Front → Nat → Reach → Front
  | [], a, r => [(a, r)]
  | (b, m) :: l, a, r =>
    if a = b then (b, m.join r) :: l else if a < b then (a, r) :: (b, m) :: l else (b, m) :: Front.put l a r

/-- The ways after an instruction of so many cycles that is no OUT. -/
def Reach.after (m : Reach) (cycles : Nat) : Reach :=
  m.foldl (fun r p => r.add (min 3 (p.1 + cycles)) (p.2 + cycles)) []

/-- The ways after an OUT. -/
def Reach.afterOut (m : Reach) : Reach := [(1, m.top + 1)]

/-- The ways after a BR, taken to be 2 cycles; one that waits begins when the outcome of the last OUT is known. -/
def Reach.afterBr (m : Reach) (waits : Bool) : Reach :=
  m.foldl (fun r p =>
    let st := if waits then 3 - p.1 else 0
    r.add (min 3 (p.1 + st + 2)) (p.2 + st + 2)) []

/-- What a pass has found: the times of its ends, and offending addresses. -/
structure Found where
  ends : Reach
  bad : List Nat
  deriving DecidableEq, Repr, Inhabited

/-- One pass of a loop's body up to the address after it (R191); n bounds the addresses. -/
def bodyPass (code : Nat → Flow) (after : Nat) : Nat → Front → Found → Found
  | 0, _, f => f
  | _, [], f => f
  | n + 1, (a, m) :: rest, f =>
    if a = after then bodyPass code after n rest { f with ends := f.ends.join m }
    else
      let bad := { f with bad := a :: f.bad }
      match code a with
      | .plain c => bodyPass code after n (Front.put rest (a + 1) (m.after c)) f
      | .out => bodyPass code after n (Front.put rest (a + 1) m.afterOut) f
      | .br w all t =>
        if a < t ∧ t ≤ after then
          bodyPass code after n (Front.put (if all then rest else Front.put rest (a + 1) (m.afterBr w)) t (m.afterBr w)) f
        else bodyPass code after n rest bad
      | .loop _ _ | .ends | .illegal => bodyPass code after n rest bad

/-- k passes of a loop's body. -/
def bodyPasses (code : Nat → Flow) (first after : Nat) : Nat → Reach → List Nat → Found
  | 0, m, bad => ⟨m, bad⟩
  | k + 1, m, bad =>
    let f := bodyPass code after (after - first + 2) [(first, m)] ⟨[], []⟩
    bodyPasses code first after k f.ends (f.bad ++ bad)

/-- The pass over a program of a given size (R191); n bounds the addresses. (log 75 DEDUCED) -/
def pass (code : Nat → Flow) (size : Nat) : Nat → Front → Found → Found
  | 0, _, f => f
  | _, [], f => f
  | n + 1, (a, m) :: rest, f =>
    let bad := { f with bad := a :: f.bad }
    let next (m : Reach) : Found := if a + 1 < size then pass code size n (Front.put rest (a + 1) m) f else pass code size n rest bad
    match code a with
    | .plain c => next (m.after c)
    | .out => next m.afterOut
    | .br w all t =>
      if a < t ∧ t < size then
        pass code size n (Front.put (if all then rest else Front.put rest (a + 1) (m.afterBr w)) t (m.afterBr w)) f
      else pass code size n rest bad
    | .loop k len =>
      let after := a + 1 + len
      if after < size then
        let g := bodyPasses code (a + 1) after k (m.after 1) []
        let rest := if g.ends.isEmpty then rest else Front.put rest after g.ends
        pass code size n rest { f with bad := g.bad ++ f.bad }
      else pass code size n rest bad
    | .ends => pass code size n rest { f with ends := f.ends.join (m.after 1) }
    | .illegal => pass code size n rest bad

namespace State

/-- An enabled slot. -/
def slotOn (s : State) (e k : Nat) : Bool := s.on F.LE_TASK_CFG_EN (4 * e + k)

/-- The enabled slots of an engine. -/
def slotsOn (s : State) (e : Nat) : List Nat := (upTo 4).filter (s.slotOn e)

/-- The pass from the ENTRY of a slot: its WCET, or the first offending address; an entry whose time is too large is itself
the offending instruction. (log 75 DEDUCED) -/
def checkSlot (s : State) (e k : Nat) : Nat × Option Nat :=
  let prog := (s.engine e).prog
  let entry := s.fld F.LE_TASK_CFG_ENTRY (4 * e + k)
  let size := progSize e
  if size ≤ entry then (0, some entry)
  else
    let f := pass (fun a => flowOf e (Store.get zeroMem prog a)) size (size + 1) [(entry, [(3, 0)])] ⟨[], []⟩
    match f.bad.min? with
    | some a => (0, some a)
    | none => if 2 ^ 24 ≤ f.ends.top then (0, some entry) else (f.ends.top, none)

/-- The static check of an engine (R192). (log 75 DEDUCED) -/
def staticCheck (s : State) (e : Nat) : State :=
  let res := (s.slotsOn e).map fun k => (k, s.checkSlot e k)
  match (res.filterMap fun r => r.2.2).min? with
  | some a =>
    let s := ((s.raiseF F.LE_STAT_PROG_ERR e).setF F.LE_STAT_PROG_OK 0 e).setF F.LE_EXC_INFO_PC a e
    s.setF F.LE_EXC_INFO_CAUSE 0 e
  | none =>
    let s := s.forL res fun r s => s.setF F.LE_TASK_WCET_WCET r.2.1 (4 * e + r.1)
    s.setF F.LE_STAT_PROG_OK 1 e

/-! ## The schedule check (R195, R197, R198) -/

/-- BUDGET_EFF of a slot. -/
def budgetEff (s : State) (k : Nat) : Nat := max (s.fld F.LE_TASK_BUDGET_BUDGET k) (s.fld F.CDL_MARGIN_BUDGET_PLAN k)

/-- LE_TASK_BUDGET.EFF follows. -/
def showBudget (s : State) (k : Nat) : State := s.setF F.LE_TASK_BUDGET_EFF (s.budgetEff k) k

/-- e_j of R197, with a budget. -/
def taskTime (s : State) (k budget : Nat) : Nat := s.fld F.LE_TASK_WCET_WCET k + budget + 2

/-- p_j of R197: the release period of a slot. -/
def taskPeriod (s : State) (k : Nat) : Nat :=
  2 ^ s.fld F.LE_TASK_CFG_RATE k * s.samplePeriod (s.fld F.LE_TASK_CFG_AXIS k)

/-- need_i of R197 for slot i of an engine with given budgets. (log 75 DEDUCED) -/
def taskNeed (s : State) (e i : Nat) (budget : Nat → Nat) : Nat :=
  let k := 4 * e + i
  let a := s.fld F.LE_TASK_CFG_AXIS k
  let start := s.fld F.LE_TASK_START_START k
  let ready := if s.on F.LE_TASK_CFG_TRIG k then start + s.fld F.SNS_SHIFT_SHIFT_MAX a + 15 * s.maxOsr a + 2 else start
  let time (j : Nat) : Nat := s.taskTime (4 * e + j) (budget j)
  let on := s.slotsOn e
  let behind := (on.filter (i < ·)).foldl (fun m j => max m (time j)) 0
  let before := ((on.filter (· < i)).map fun j =>
    let p := s.taskPeriod (4 * e + j)
    if p = 0 then 0 else time j * ((s.fld F.LE_TASK_DEADLINE_DEADLINE k + p - 1) / p)).sum
  ready + behind + before + time i

/-- R197 holds for every enabled slot with given budgets. (log 75 DEDUCED) -/
def scheduleFits (s : State) (e : Nat) (budget : Nat → Nat) : Bool :=
  (s.slotsOn e).all fun i => s.taskNeed e i budget ≤ s.fld F.LE_TASK_DEADLINE_DEADLINE (4 * e + i)

/-- DEADLINE is within 2^RATE sample periods for every enabled slot (R195). (log 75 DEDUCED) -/
def deadlinesOk (s : State) (e : Nat) : Bool :=
  (s.slotsOn e).all fun i => s.fld F.LE_TASK_DEADLINE_DEADLINE (4 * e + i) ≤ s.taskPeriod (4 * e + i)

/-- RUN comes into force. -/
def engineOn (s : State) (e : Nat) : State :=
  let s := ((s.setF F.LE_CTRL_RUN 1 e).setF F.LE_STAT_RUNNING 1 e)
  s.updEng e fun g => { g with ready := max g.ready s.tick }

/-- RUN ends. -/
def engineOff (s : State) (e : Nat) : State :=
  let s := ((s.dropRun e).setF F.LE_CTRL_RUN 0 e).setF F.LE_STAT_RUNNING 0 e
  s.updEng e fun g => { g with waiting := [], due := [] }

/-- The schedule check of an engine (R195, R197): SCHED_ERR where it fails; the boolean says that RUN may be set. -/
def scheduleCheck (s : State) (e : Nat) : State × Bool :=
  let fits := s.deadlinesOk e && s.scheduleFits e fun j => s.budgetEff (4 * e + j)
  (if fits then s else s.raiseF F.LE_STAT_SCHED_ERR e, fits || s.deadlinesOk e && s.on F.LE_CTRL_OVERCOMMIT e)

/-- RUN is written to 1 (R195, R197): an engine stopped by R200 and a program that has not passed R192 do not run. (log 41 DEDUCED) -/
def engineRun (s : State) (e : Nat) : State :=
  if s.on F.LE_CTRL_RUN e then s
  else if (s.engine e).dead || !s.on F.LE_STAT_PROG_OK e then s.raiseF F.LE_STAT_SCHED_ERR e
  else
    let (s, may) := s.scheduleCheck e
    if may then s.engineOn e else s

/-- A planned budget of a slot of an engine as applied, and whether it was clipped (R198, R463): on a running engine without
OVERCOMMIT the largest value up to it with which R197 still passes; n bounds the search. -/
def fitBudget (s : State) (e slot : Nat) : Nat → Nat → Nat
  | 0, b => b
  | n + 1, b =>
    let k := 4 * e + slot
    let budget (j : Nat) : Nat := if j = slot then max (s.fld F.LE_TASK_BUDGET_BUDGET k) b else s.budgetEff (4 * e + j)
    if s.scheduleFits e budget then b else if b = 0 then 0 else s.fitBudget e slot n (b - 1)

end State

/-- STATIC_CHECK_DONE (R192): a check that runs ends within 2 ms of its start. -/
def execStaticCheckDone (e : Fin 10) (dt : Nat) (s : State) : Host.Outcome State Fault Refusal :=
  match (s.engine e).checking with
  | none => endWith (s.elapse dt)
  | some t => endWith (((s.elapse (min dt (t + 2 * ticksPerMs - s.tick))).updEng e fun g => { g with checking := none }).staticCheck e)

end Sys2Proof.Machine
end

