-- ==== Sys2Proof/Machine/Lamp.lean ====
section
/-!
DEFINITION. Machine/Lamp.lean: the entries of the Timed Action Table, their status, the registers that show them, and the epochs
by which an entry is fenced (R339, R340, R342, R345, R352, R356, R358).
-/

namespace Sys2Proof.Machine

/-- Epoch a is newer than epoch b (R352). -/
def newer (a b : BitVec 16) : Bool := let d := (a - b).toNat; 1 ≤ d && d ≤ 32767

/-- The STATUS codes of R340. -/
abbrev tPENDING : Nat := 1
abbrev tLAUNCHED : Nat := 2
abbrev tPREEMPTED : Nat := 3
abbrev tLATE : Nat := 4
abbrev tEXPIRED : Nat := 5
abbrev tWITHHELD : Nat := 6
abbrev tREFUSED : Nat := 7
abbrev tSTALE : Nat := 8
abbrev tCANCELLED : Nat := 9

/-- An index put into a list that rises by key, after equal keys. -/
def putBy (key : Nat → Nat) (i : Nat) : List Nat → List Nat
  | [] => [i]
  | j :: l => if key i < key j then i :: j :: l else j :: putBy key i l

/-- The indexes in rising order of a key, equal keys in their first order. -/
def sortBy (key : Nat → Nat) (l : List Nat) : List Nat := l.foldl (fun acc i => putBy key i acc) []

/-- The address of a word of the table (R339). -/
def tatAddr (w : Nat) : Nat := 0x200000 + 4 * w

namespace State

/-! ## The table of roles (R352) -/

/-- The entry of a role. -/
def peer (s : State) (role : Nat) : Option Peer := s.mem.peers.find? fun p => p.role == role

/-! ## Entries (R339) -/

/-- Word k of entry i. -/
def tatWord (s : State) (i k : Nat) : Word := Store.get zeroMem s.lamp.tat (8 * i + k)

/-- Word k of entry i replaced. -/
def setTat (s : State) (i k : Nat) (w : Word) : State :=
  { s with lamp := { s.lamp with tat := Store.set zeroMem s.lamp.tat (8 * i + k) w } }

/-- STATUS of entry i (R340). -/
def tatStatus (s : State) (i : Nat) : Nat := (s.tatWord i 7).toNat % 16

/-- LAUNCH of entry i. -/
def tatLaunch (s : State) (i : Nat) : Nat := (mk64 (s.tatWord i 1) (s.tatWord i 0)).toNat

/-- The occupied entries, in rising order: those whose word 7 is listed. -/
def tatUsed (s : State) : List Nat :=
  (s.lamp.tat.filter fun p => p.1 % 8 == 7 && p.2.toNat % 16 != 0).map fun p => p.1 / 8

/-- The PENDING entries, in rising order. -/
def tatPending (s : State) : List Nat := s.tatUsed.filter fun i => s.tatStatus i == tPENDING

/-- The lowest FREE index (R341). -/
def tatFree (s : State) : Option Nat := (upTo 2048).find? fun i => s.tatStatus i == 0

/-- LAMP_STAT, LAMP_HEAD and LAMP_NEXT follow the pending entries (R358); LAMP_NEXT holds its value when there is none. (log 88 DEDUCED) -/
def showLamp (s : State) : State :=
  let l := s.tatPending
  let s := s.setF F.LAMP_STAT_PENDING l.length
  match (sortBy s.tatLaunch l).head? with
  | none => s.wr .LAMP_HEAD 0x80000000
  | some i => ((s.wr .LAMP_HEAD (wd i)).wr .LAMP_NEXT_LO (s.tatWord i 0)).wr .LAMP_NEXT_HI (s.tatWord i 1)

/-- An entry's STATUS is set; VALID stays (R342). -/
def setStatus (s : State) (i st : Nat) : State := s.setTat i 7 (putBits (s.tatWord i 7) 3 0 st)

/-- What an entry's final status counts and raises (R340, R358). -/
def tatReport (s : State) (st : Nat) (i : Nat) : State :=
  let d := [wd i, s.tatWord i 2, s.tatWord i 5]
  match st with
  | 2 => s.bump F.LAMP_LAUNCH_CNT_COUNT
  | 3 => (s.bump F.LAMP_PREEMPT_CNT_COUNT).raise 0x3062 7 d
  | 4 => (s.bump F.LAMP_LATE_CNT_COUNT).raise 0x3061 7 d
  | 6 => (s.bump F.LAMP_WITHHELD_CNT_COUNT).raise 0x3060 7 d
  | 8 => (s.bump F.LAMP_STALE_CNT_COUNT).raise 0x3063 7 d
  | _ => s

/-- An entry reaches a final status (R340, R342): RETAIN counts from this tick. -/
def tatFinal (s : State) (i st : Nat) : State :=
  let s := s.setStatus i st
  let s := { s with lamp := { s.lamp with done := s.lamp.done ++ [(i, s.tick)] } }
  (s.tatReport st i).showLamp

/-- An entry becomes FREE: its words read as zeros. -/
def tatClear (s : State) (i : Nat) : State :=
  { s with lamp := { s.lamp with tat := Store.clear s.lamp.tat (8 * i) 8, done := s.lamp.done.filter fun d => d.1 != i
                                 late := s.lamp.late.filter (· != i)
                                 posters := s.lamp.posters.filter fun d => d.1 != i } }.showLamp

/-- The epoch fence (R356): the entry's role is in the table at a newer epoch than SRC_EPOCH. -/
def tatStale (s : State) (i : Nat) : Bool :=
  let w := s.tatWord i 6
  let unit := bitsOf w 15 0
  unit != 0xFFFF && (match s.peer unit with | some p => newer p.epoch (BitVec.ofNat 16 (bitsOf w 31 16)) | none => false)

/-- A newer epoch has entered the table: the pending entries of the role become STALE (R356). -/
def fence (s : State) : State := s.forL s.tatPending fun i s => if s.tatStale i then s.tatFinal i tSTALE else s

/-- Lamplighter refuses to launch (R19). -/
def refusing (s : State) : Bool := s.on F.LAMP_STAT_REFUSING

/-- NEED_LOCK is unmet (R339). -/
def lockUnmet (s : State) (i : Nat) : Bool := bitOf (s.tatWord i 4) 4 && s.fld F.MER_STAT_MSTATE != 2

/-- A forward step passes over the pending entries whose LAUNCH is at or before the PWM-copy time after it (R345): those with
DISCARD_LATE expire, the others launch late from this tick, in order of LAUNCH and then of index. (log 88 DEDUCED) -/
def passOver (s : State) : State :=
  let l := s.tatPending.filter fun i => s.tatLaunch i ≤ s.pwmTime.toNat && !s.lamp.late.contains i
  let s := s.forL (l.filter fun i => bitOf (s.tatWord i 4) 5) fun i s => s.tatFinal i tEXPIRED
  let rest := sortBy s.tatLaunch (l.filter fun i => !bitOf (s.tatWord i 4) 5)
  if rest.isEmpty then s
  else { s with lamp := { s.lamp with late := s.lamp.late ++ rest, lateAt := max s.lamp.lateAt s.tick } }

end State

end Sys2Proof.Machine
end

