-- ==== Sys2Proof/Machine/Meridian.lean ====
section
/-!
DEFINITION. Machine/Meridian.lean: Meridian time, its sources and states, steps, PPS, and the PTP messages (R23, R332 to R337,
R498).
-/

namespace Sys2Proof.Machine

/-- MSTATE codes of R334. -/
abbrev mFREE : Nat := 0
abbrev mACQUIRING : Nat := 1
abbrev mLOCKED : Nat := 2
abbrev mHOLDOVER : Nat := 3

/-- ±100 ppm in units of MER_FREQ (R335). (log 85 DESIGN CHOICE) -/
abbrev freqMax : Nat := 6553600

/-- One second in nanoseconds. -/
abbrev nsPerS : Nat := 1000000000

/-- A PTP message concerns this part: it came on the port of PTP_PORT, over the TRANSPORT, in the domain PTP_DOMAIN, through a link
that BOOT has started (R74, R332, R333). (log 86 PRESUMED) -/
def State.ptpFor (s : State) (h : PtpHead) : Bool :=
  s.linked && (s.fld F.MER_CFG_PTP_PORT == 0 || s.fld F.MER_CFG_PTP_PORT == h.port.val + 1) &&
    s.on F.MER_CFG_TRANSPORT == h.udp && s.fld F.MER_CFG_PTP_DOMAIN == h.domain.toNat

namespace State

/-- MSTATE. -/
def mst (s : State) : Nat := s.fld F.MER_STAT_MSTATE

/-- The Meridian state changes; the counts of measurements in a row begin again. In FREE the time-triggered schedules on Meridian lose
their synchronisation (R376). (log 84 DEDUCED) -/
def merTo (s : State) (m : Nat) : State :=
  let s := s.setF F.MER_STAT_MSTATE m
  let s := if m == mFREE then s.ttFree else s
  { s with mer := { s.mer with good := 0, bad := 0, held := if m == mHOLDOVER then s.tick else s.mer.held } }

/-- Meridian is steered by PTP (SRC 1, 3). -/
def usesPtp (s : State) : Bool := s.fld F.MER_CFG_SRC == 1 || s.fld F.MER_CFG_SRC == 3

/-- The PWM PLL is locked to MERIDIAN (R18, R19, R496). -/
def pwmOnMer (s : State) : Bool :=
  s.on F.SYS_CLK_STAT_PWMPLL_LOCK && !s.on F.SYS_CLK_STAT_PWM_ON_REF && !s.sys.merClk.lost && !s.sys.pwmClk.lost

/-- The steering in force changes, which the last hour's record keeps (R335, R456). -/
def setFreq (s : State) (f : Int) : State :=
  let since := s.tick - 3600 * ticksPerS
  let newer := s.mer.hour.takeWhile fun x => since < x.1
  let hour := (s.tick, f) :: s.mer.hour.take (newer.length + 1)
  { s.wr .MER_FREQ (wi f) with mer := { s.mer with hour := hour } }

/-- A step of Meridian time by d ns (R335, R336): carried to the PWM copy, STEP and 0x7060, and the launch times that a forward
step passes over (R345); after a backward step PPS_OUT rises at the whole seconds that come again (R337). While the PWM PLL is locked to MERIDIAN the tick of the step ends at the next whole multiple of 5 ns (R18).
(log 84 DEDUCED) -/
def merStep (s : State) (d : Int) : State :=
  let t := s.merTime + BitVec.ofInt 64 d
  let s := if s.pwmOnMer then { s with merTime := wholeTick t, pwmTime := wholeTick t }
    else { s with merTime := t, pwmTime := s.pwmTime + BitVec.ofInt 64 d }
  let s := (s.raiseF F.MER_STAT_STEP).raise 0x7060 7 [wi d]
  if 0 < d then s.passOver else { s with mer := { s.mer with ppsSec := 0 } }

/-- The time is set (R336): a step to the value. (log 84 DEDUCED) -/
def merSet (s : State) (t : Time) : State := s.merStep ((t.toNat : Int) - s.meridian.toNat)

/-- The steering of an offset within STEP_THR (R335): any value within ±100 ppm; the law is the firmware's. (log 16 DEDUCED; log 85 DESIGN CHOICE) -/
def merSteer (s : State) : State :=
  let (f, s) := s.freeErr freqMax
  let s := s.setFreq f
  if s.mst == mLOCKED then { s with mer := { s.mer with freqs := (f :: s.mer.freqs).take 16 } } else s

/-- MER_OFFSET shows the last offset; what it reads for one beyond 32 bits is not stated. (log 84 DEDUCED) -/
def showOffset (s : State) (off : Int) : State :=
  if satI off == off then s.wr .MER_OFFSET (wi off) else let (w, s) := s.freeWord; s.wr .MER_OFFSET w

/-- A measurement (R334, R335): its offset in ns, and whether a PPS_IN edge made it. The first one outside ACQUIRING and LOCKED leads
to ACQUIRING and counts towards its 16; one taken in FREE is not corrected. (log 84 DEDUCED) -/
def measure (s : State) (off : Int) (pps : Bool) : State :=
  if s.sys.merClk.lost then s
  else
    let s := { s with mer := { s.mer with last := s.tick, byPps := pps } }
    let s := s.showOffset off
    let m := s.mst
    let free := m == mFREE
    let s : State :=
      if m == mFREE || m == mHOLDOVER then
        let s := s.merTo mACQUIRING
        { s with mer := { s.mer with good := b2n (off.natAbs < s.fld F.MER_LIM_LOCK_THR) } }
      else if m == mACQUIRING then
        if off.natAbs < s.fld F.MER_LIM_LOCK_THR then
          let s := { s with mer := { s.mer with good := s.mer.good + 1 } }
          if 16 ≤ s.mer.good then s.merTo mLOCKED else s
        else { s with mer := { s.mer with good := 0 } }
      else if 1000 < off.natAbs then
        let s := { s with mer := { s.mer with bad := s.mer.bad + 1 } }
        if 3 ≤ s.mer.bad then s.merTo mACQUIRING else s
      else { s with mer := { s.mer with bad := 0 } }
    if free then { s with mer := { s.mer with far := 0 } }
    else if off.natAbs ≤ 1000 * s.fld F.MER_LIM_STEP_THR then { s with mer := { s.mer with far := 0 } }.merSteer
    else if s.mer.far < 2 then { s with mer := { s.mer with far := s.mer.far + 1 } }
    else { s with mer := { s.mer with far := 0 } }.merStep (-off)

/-- The offset of an instant from the whole second nearest it; an instant midway may count to either (R336). (log 87 DEDUCED) -/
def secondOffset (s : State) (t : Time) : Int × State :=
  let r := t.toNat % nsPerS
  if 2 * r = nsPerS then
    let (b, s) := s.freeBit
    (if b then (r : Int) else (r : Int) - nsPerS, s)
  else (if 2 * r < nsPerS then (r : Int) else (r : Int) - nsPerS, s)

/-- The corrected timestamp of a PPS_IN edge or a PTP event in the MERIDIAN domain: within 5 ns of the edge (R23). (log 15 DEDUCED) -/
def merStamp (s : State) : Time × State :=
  let (e, s) := s.freeErr 5
  (s.merTime + BitVec.ofInt 64 e, s)

/-- Ticks of silence after which Meridian leaves LOCKED and ACQUIRING (R334). -/
def merSilence (s : State) : Nat :=
  if s.fld F.MER_CFG_SRC == 2 || (s.fld F.MER_CFG_SRC == 3 && s.mer.byPps) then 3 * ticksPerS / 2 else 4 * s.mer.ptp.interval

/-- PPS_OUT is high (R337). (log 87 DEDUCED) -/
def ppsOut (s : State) : Bool :=
  s.on F.MER_CFG_PPS_OUT_EN && (s.mst == mLOCKED || s.mst == mHOLDOVER) && !s.sys.merClk.lost && s.tick < s.mer.ppsOff

/-- The level of SYNC_OUT n (R150, R337). -/
def syncOut (s : State) (n : Nat) : Bool :=
  if s.on (if n == 0 then F.CMP_OUT_SEL_SYNC0 else F.CMP_OUT_SEL_SYNC1) then s.cmpLevel n
  else match s.fld (if n == 0 then F.LAMP_CFG_SYNC0 else F.LAMP_CFG_SYNC1) with
    | 1 => s.fbit F.LAMP_SYNC_LEVEL n
    | 2 => s.ppsOut
    | _ => false

/-- The MERIDIAN clock is lost (R498): MSTATE goes to FREE, leaving LOCKED is a fault. -/
def merLost (s : State) : State :=
  let was := s.mst == mLOCKED
  let s := s.merTo mFREE
  if was then s.raise 0x7061 else s

/-- SRC has become 0: the part runs free on the reference oscillator (R332, R334). -/
def merFree (s : State) : State := (s.merTo mFREE).setFreq 0

/-! ## PTP (R333) -/

/-- The PTP exchange changes. -/
def setPtp (s : State) (f : Ptp → Ptp) : State := { s with mer := { s.mer with ptp := f s.mer.ptp } }

/-- A correctionField in whole nanoseconds. -/
def corrNs (s : State) (c : Int) : Int × State := s.quot c 65536

/-- A message of the time transmitter in use, under a source that uses PTP. (log 86 PRESUMED) -/
def fromMaster (s : State) (h : PtpHead) : Bool :=
  s.usesPtp && s.ptpFor h && !s.sys.merClk.lost &&
    (match s.mer.best with | some b => b.id == h.id && b.port == h.port.val | none => false)

/-- A Sync exchange is complete (R335): local receive time, origin, correction. (log 86 PRESUMED) -/
def syncDone (s : State) (rx origin corr : Int) : State :=
  let s := s.setPtp fun p => { p with sync := none, diff := some (rx - origin - corr) }
  s.measure (rx - origin - corr - s.sg .MER_MPD - s.sg .MER_ASYM) false

/-- The mean path delay, half of a round trip. (log 86 PRESUMED) -/
def showDelay (s : State) (twice : Int) : State :=
  let (d, s) := s.quot twice 2
  s.wrSat .MER_MPD d

end State

/-! ## Meanings -/

/-- PTP_SYNC (R333, R335): a one-step Sync is a measurement; a two-step one waits for its Follow_Up. `interval` is the Sync
interval in 1/128 s, `origin` the origin timestamp. -/
def execPtpSync (dt : Nat) (h : PtpHead) (twoStep : Bool) (interval : Nat) (origin : Time) (s : State) :
    Host.Outcome State Fault Refusal :=
  let s := s.elapse dt
  if !s.fromMaster h then endWith s
  else
    let (rx, s) := s.merStamp
    endWith <| s.through 3 h.moved fun s =>
    let (c, s) := s.corrNs h.corr
    let s := s.setPtp fun p => { p with interval := interval * 1562500 }
    if twoStep then s.setPtp fun p => { p with sync := some (h.seq.toNat, rx.toNat, c) }
      else s.syncDone rx.toNat origin.toNat c

/-- PTP_FOLLOW_UP (R333): completes the two-step Sync of its sequence number. -/
def execPtpFollowUp (dt : Nat) (h : PtpHead) (origin : Time) (s : State) : Host.Outcome State Fault Refusal :=
  let s := s.elapse dt
  if !s.fromMaster h then endWith s
  else match s.mer.ptp.sync with
    | some (q, rx, c) =>
      if q != h.seq.toNat then endWith s
      else endWith <| s.through 3 h.moved fun s =>
        let (c', s) := s.corrNs h.corr
        s.syncDone rx origin.toNat (c + c')
    | none => endWith s

/-- PTP_DELAY_REQ (R333): the time receiver sends a Delay_Req, or under P2P a Pdelay_Req, on a port. -/
def execPtpDelayReq (dt : Nat) (port : Fin 2) (out : Moved) (s : State) : Host.Outcome State Fault Refusal :=
  let s := s.elapse dt
  let p := s.fld F.MER_CFG_PTP_PORT
  if !s.linked || !s.usesPtp || s.sys.merClk.lost || !(p == 0 || p == port.val + 1) then endWith s
  else
    let (t, s) := s.merStamp
    let q := s.mer.ptp.seq
    let s := s.setPtp fun x => { x with delay := some (port.val, q, t.toNat), pdelay := none, seq := (q + 1) % 65536 }
    endWith (s.through 3 out fun s => s.emit (.ptp (if s.on F.MER_CFG_P2P then 2 else 1) [wd port.val, wd q]))

/-- PTP_DELAY_RESP (R333): the mean path delay from the last Sync and the Delay_Req it answers; `rxAt` is the time transmitter's
receive time. -/
def execPtpDelayResp (dt : Nat) (h : PtpHead) (rxAt : Time) (s : State) : Host.Outcome State Fault Refusal :=
  let s := s.elapse dt
  if !s.fromMaster h || s.on F.MER_CFG_P2P then endWith s
  else match s.mer.ptp.delay, s.mer.ptp.diff with
    | some (p, q, t3), some d =>
      if p != h.port.val || q != h.seq.toNat then endWith s
      else endWith <| s.through 3 h.moved fun s =>
        let (c, s) := s.corrNs h.corr
        (s.setPtp fun x => { x with delay := none }).showDelay (d + ((rxAt.toNat : Int) - t3) - c)
    | _, _ => endWith s

/-- PTP_PDELAY_REQ (R333): a peer's request is answered on its port with a response and its follow-up: the receive time, then the
send time of the response. (log 86 PRESUMED) -/
def execPtpPdelayReq (dt : Nat) (h : PtpHead) (out : Moved) (s : State) : Host.Outcome State Fault Refusal :=
  let s := s.elapse dt
  if !s.linked || !s.on F.MER_CFG_P2P || s.sys.merClk.lost || s.on F.MER_CFG_TRANSPORT != h.udp ||
      s.fld F.MER_CFG_PTP_DOMAIN != h.domain.toNat then endWith s
  else
    let (t2, s) := s.merStamp
    let (w, s) := s.freeWord
    let t3 := t2 + BitVec.ofNat 64 w.toNat
    endWith <| s.through 3 h.moved fun s => s.through 3 out fun s =>
      let s := s.emit (.ptp 3 [wd h.port.val, wd h.seq.toNat, lo32 t2, hi32 t2])
      s.emit (.ptp 4 [wd h.port.val, wd h.seq.toNat, lo32 t3, hi32 t3])

/-- PTP_PDELAY_RESP (R333): a one-step response gives the peer delay from its correction; a two-step one, with the receipt time
`rxAt` of the request, waits for its follow-up. (log 86 PRESUMED) -/
def execPtpPdelayResp (dt : Nat) (h : PtpHead) (twoStep : Bool) (rxAt : Time) (s : State) : Host.Outcome State Fault Refusal :=
  let s := s.elapse dt
  if !s.usesPtp || !s.ptpFor h || !s.on F.MER_CFG_P2P || s.sys.merClk.lost then endWith s
  else match s.mer.ptp.delay with
    | some (p, q, t1) =>
      if p != h.port.val || q != h.seq.toNat then endWith s
      else
        let (t4, s) := s.merStamp
        endWith <| s.through 3 h.moved fun s =>
        let (c, s) := s.corrNs h.corr
        if twoStep then s.setPtp fun x => { x with pdelay := some (q, t4.toNat, rxAt.toNat, c) }
          else (s.setPtp fun x => { x with delay := none }).showDelay ((t4.toNat : Int) - t1 - c)
    | none => endWith s

/-- PTP_PDELAY_RESP_FOLLOW_UP (R333): completes a two-step peer delay with the send time `txAt` of the response. -/
def execPtpPdelayRespFollowUp (dt : Nat) (h : PtpHead) (txAt : Time) (s : State) : Host.Outcome State Fault Refusal :=
  let s := s.elapse dt
  if !s.usesPtp || !s.ptpFor h || !s.on F.MER_CFG_P2P || s.sys.merClk.lost then endWith s
  else match s.mer.ptp.delay, s.mer.ptp.pdelay with
    | some (p, q, t1), some (q', t4, t2, c) =>
      if p != h.port.val || q != h.seq.toNat || q' != q then endWith s
      else endWith <| s.through 3 h.moved fun s =>
        let (c', s) := s.corrNs h.corr
        let s := s.setPtp fun x => { x with delay := none, pdelay := none }
        s.showDelay ((t4 - t1) - ((txAt.toNat : Int) - t2) - c - c')
    | _, _ => endWith s

/-- The first list is smaller in the order that compares number by number. (log 86 PRESUMED) -/
def lexLess : List Nat → List Nat → Bool
  | a :: x, b :: y => a < b || (a == b && lexLess x y)
  | [], _ :: _ => true
  | _, [] => false

/-- PTP_ANNOUNCE (R333): the sender becomes the time transmitter if it is the one in use, if none is, if its data set is the
better one, or if the one in use has been silent for three of its Announce intervals. `rank` is the data set in the order of
comparison, `interval` its Announce interval in 1/128 s. An Announce not of the PTP timescale is ignored. (log 86 PRESUMED) -/
def execPtpAnnounce (dt : Nat) (h : PtpHead) (rank : List Nat) (interval : Nat) (tai : Bool) (utc : BitVec 16) (utcValid : Bool)
    (s : State) : Host.Outcome State Fault Refusal :=
  let s := s.elapse dt
  if !s.ptpFor h || !s.usesPtp || !tai then endWith s
  else
    let fresh : Transmitter := ⟨h.id, h.port.val, rank ++ [h.port.val], s.tick, interval * 1562500⟩
    let take := match s.mer.best with
      | none => true
      | some b => (b.id == h.id && b.port == h.port.val) || lexLess fresh.rank b.rank || b.heard + 3 * b.interval ≤ s.tick
    if !take then endWith s
    else endWith <| s.through 3 h.moved fun s =>
      let s := { s with mer := { s.mer with best := some fresh } }
      let s := (s.wr .MER_GM_ID_LO (lo32 h.id)).wr .MER_GM_ID_HI (hi32 h.id)
      (s.setF F.MER_UTC_OFS_OFFSET utc.toNat).setF F.MER_UTC_OFS_VALID (b2n utcValid)

/-- PPS_IN_EDGE (R334, R336): under SRC 2 the first edge after a set applies it, and every other one within 100 ms of a whole second
is a measurement; under SRC 3 an edge is a measurement while PTP is not LOCKED. (log 84 DEDUCED; log 87 DEDUCED) -/
def execPpsInEdge (dt : Nat) (s : State) : Host.Outcome State Fault Refusal :=
  let s := s.elapse dt
  if s.sys.merClk.lost then endWith s
  else match s.fld F.MER_CFG_SRC with
    | 2 =>
      match s.mer.set with
      | some (t, _) =>
        let s := { s with mer := { s.mer with set := none } }.setF F.MER_STAT_SET_PEND 0
        endWith (s.merSet t)
      | none =>
        let (t, s) := s.merStamp
        let (off, s) := s.secondOffset t
        endWith (if 100000000 < off.natAbs then s.bump F.MER_PPS_BAD_COUNT else s.measure off true)
    | 3 =>
      if s.mst == mLOCKED && !s.mer.byPps then endWith s
      else
        let (t, s) := s.merStamp
        let (off, s) := s.secondOffset t
        endWith (s.measure off true)
    | _ => endWith s

/-- MERIDIAN_UNLOCKED (R334): no measurement for 4 Sync intervals, or 1.5 s on PPS_IN: LOCKED and ACQUIRING go to HOLDOVER, with the
frequency at its mean over the last 16 LOCKED measurements. -/
def execMeridianUnlocked (s : State) : Host.Outcome State Fault Refusal :=
  if s.mst != mLOCKED && s.mst != mACQUIRING then endWith s
  else
    let s := s.elapseTo (s.mer.last + s.merSilence)
    let was := s.mst == mLOCKED
    let fs := s.mer.freqs
    let s := if fs.isEmpty then s else let (m, s) := s.quot (fs.foldl (· + ·) 0) fs.length; s.setFreq m
    let s := s.merTo mHOLDOVER
    endWith (if was then s.raise 0x7061 else s)

/-- MERIDIAN_HOLDOVER_EXPIRED (R334): HOLD_MAX in HOLDOVER has elapsed. -/
def execMeridianHoldoverExpired (s : State) : Host.Outcome State Fault Refusal :=
  if s.mst != mHOLDOVER then endWith s
  else
    let s := s.elapseTo (s.mer.held + s.fld F.MER_LIM_HOLD_MAX * ticksPerS)
    endWith ((s.merTo mFREE).raise 0x7062)

/-- PPS_OUT_PULSE (R337): within 10 ns of the next whole Meridian second PPS_OUT rises for 100 ms. (log 87 DEDUCED) -/
def execPpsOutPulse (s : State) : Host.Outcome State Fault Refusal :=
  if s.sys.merClk.lost then endWith s
  else
    let sec := (s.merTime.toNat + nsPerS - 1) / nsPerS
    let sec := if sec == s.mer.ppsSec then sec + 1 else sec
    let (e, s) := s.freeErr 2
    let s := s.elapse ((((sec * nsPerS - s.merTime.toNat + 4) / 5 : Nat) : Int) + e).toNat
    let s := { s with mer := { s.mer with ppsSec := sec } }
    endWith (if s.on F.MER_CFG_PPS_OUT_EN && (s.mst == mLOCKED || s.mst == mHOLDOVER)
      then { s with mer := { s.mer with ppsOff := s.tick + ticksPerS / 10 } } else s)

/-- MER_SET_DROP (R336): no PPS_IN edge within 1.5 s of the set: the pending value is dropped. -/
def execMerSetDrop (s : State) : Host.Outcome State Fault Refusal :=
  match s.mer.set with
  | none => endWith s
  | some (_, t) =>
    let s := s.elapseTo (t + 3 * ticksPerS / 2)
    let s := { s with mer := { s.mer with set := none } }.setF F.MER_STAT_SET_PEND 0
    endWith ((s.raiseF F.MER_STAT_SET_DROP).raise 0x7063)

end Sys2Proof.Machine
end

