-- ==== Sys2Proof/Machine/Ramps.lean ====
section
/-!
DEFINITION. Machine/Ramps.lean: the ways in which a speed comes to rest within limits of acceleration and jerk (R222, R315).
-/

namespace Sys2Proof.Machine

/-- The largest number from lo up that passes a test which no number after a failing one passes, less than 2^k above lo. -/
def lastPass (p : Int → Bool) : Nat → Int → Int
  | 0, lo => lo
  | k + 1, lo => lastPass p k (if p (lo + 2 ^ k) then lo + 2 ^ k else lo)

/-- The sum of a change per step that falls from x by dj a step until it is zero. -/
def windDown (x dj : Int) : Int :=
  let m := if dj ≤ 0 then 0 else x / dj
  m * x - dj * (m * (m + 1) / 2)

/-- The way to rest from a speed r at rest of acceleration, in 2^-16 of speed times seconds, with a deceleration and a jerk limit (0: none). -/
def restWay (dec jerk r : Int) : Int :=
  if r ≤ 0 then 0
  else if dec ≤ 0 then 2 ^ 80
  else if jerk = 0 then r * r * 2 ^ 15 / dec
  else if dec * dec ≤ r * jerk then r * r * 2 ^ 15 / dec + r * dec * 2 ^ 15 / jerk
  else r * isqrt (r * 2 ^ 32 / jerk).toNat

/-- The way to rest from a speed r with an acceleration a, in the same units. -/
def stopWay (dec jerk r a : Int) : Int :=
  if jerk = 0 then restWay dec 0 r
  else if 0 ≤ a then
    r * a * 2 ^ 16 / jerk + a ^ 3 * 2 ^ 16 / (3 * jerk * jerk) + restWay dec jerk (r + a * a / (2 * jerk))
  else
    let r0 := r + a * a / (2 * jerk)
    restWay dec jerk r0 - (r0 * -a * 2 ^ 16 / jerk - (-a) ^ 3 * 2 ^ 16 / (6 * jerk * jerk))

/-- The limits of the acceleration x of the next step in the direction of the target (R222): within the jerk of the present one, within ACC
where the magnitude of the speed rises and DEC where it falls, and not further away from the target. -/
def accelBounds (acc dec v a : Int) (dj : Option Int) : Int × Int :=
  let up := if 0 ≤ v then acc else dec
  let down := if 0 < v then dec else acc
  match dj with
  | none => (-down, up)
  | some j =>
    let hi := max (-down) (min up (a + j))
    (min hi (max (a - j) (-down)), hi)

end Sys2Proof.Machine
end

