-- ==== Sys2Proof/Machine/Motion.lean ====
section
/-!
DEFINITION. Machine/Motion.lean: the motion engines and the current regulation of the auxiliary bridge (R304 to R308, R311 to
R329).
-/

namespace Sys2Proof.Machine

namespace State

/-! ## Helpers -/

/-- Coil (winding or phase) n. -/
def coil (s : State) (n : Nat) : Coil := nth s.mot.coils n
def updCoil (s : State) (n : Nat) (f : Coil → Coil) : State := { s with mot := { s.mot with coils := upd s.mot.coils n f } }

/-- The auxiliary period in ticks. -/
def auxPer (s : State) : Nat := s.fld F.GATE_AUX_CFG_PER

/-- Motion may take place (R313): the device is ARMED or RUN, and Lantern releases the auxiliary bridge, which is configured and has its
gate supply (R48, R66, R81). (log 81 DEDUCED) -/
def motionOk (s : State) : Bool := (s.dev == dARMED || s.dev == dRUN) && s.auxMode != 0 && s.on F.GATE_AUX_STAT_VDRV_OK

/-- The auxiliary bridge may switch: no stop holds it high impedance. -/
def auxReleased (s : State) : Bool := s.motionOk && !s.mot.hiz

/-- The engine that drives the auxiliary bridge (R311). -/
def auxDriver (s : State) : Option Nat := (upTo 2).find? fun n => s.on F.ME_CFG_OUT n

/-- The position takes a value in 2^-16 microsteps. (log 80 DEDUCED) -/
def setMePos (s : State) (n : Nat) (p : Int) : State :=
  let w := wi (p / 65536)
  let moved := w != s.rd .ME_POS n
  (s.wr .ME_POS w n).updMe n fun m => { m with frac := (p % 65536).toNat, lastStep := if moved then s.tick else m.lastStep }

/-- The largest advance of one update in microsteps, times four (R312): half a full step in MODE 1, three quarters in MODE 2. -/
def advance4 (s : State) (n : Nat) : Nat := (if s.auxMode == 1 then 2 else 3) * 2 ^ s.fld F.ME_CFG_MICRO_LOG2 n

/-- R312 admits a maximum speed; without a mode there is no electrical angle. (log 40 DEDUCED) -/
def vmaxOk (s : State) (n v : Nat) : Bool :=
  s.auxMode == 0 || 4 * v * s.auxPer ≤ s.advance4 n * 256 * ticksPerS

/-- The electrical angle of an engine (R311), rounded to nearest in MODE 2. (log 81 DEDUCED) -/
def elecAngle (s : State) (n : Nat) : Word :=
  let p := s.sg .ME_POS n
  let k := s.fld F.ME_CFG_MICRO_LOG2 n
  if s.auxMode == 1 then wi (p * 2 ^ (30 - k)) else wi (roundDiv (p * 2 ^ 32) (6 * 2 ^ k))

/-- The limit input of a direction is active (R317); rising is LIM_FWD. -/
def meLimit (s : State) (n : Nat) (rising : Bool) : Bool :=
  let act (f : Fld) : Bool := (s.fld F.H_STATE_ACTIVE).testBit (s.fld f n)
  if rising then s.on F.ME_CFG_LIM_FWD_EN n && act F.ME_CFG_LIM_FWD else s.on F.ME_CFG_LIM_REV_EN n && act F.ME_CFG_LIM_REV

/-- The engine leaves rest. -/
def meStart (s : State) (n : Nat) (flag : Fld) (f : Me → Me) : State :=
  let s := ((s.setF F.ME_STAT_AT_REST 0 n).setF flag 1 n).updMe n fun m => { f m with stallN := 0, held := false }
  if s.on F.ME_CFG_OUT n then { s with mot := { s.mot with hiz := false } } else s

/-! ## Gearing (R320 to R322) -/

/-- Word w of gear list entry i. -/
def gearWord (s : State) (n i w : Nat) : Word := s.rd .ME_GEAR_LIST (96 * n + 3 * i + w)

/-- A sum of fractions with positive denominators. -/
def addQ (a b : Int × Int) : Int × Int := (a.1 * b.2 + b.1 * a.2, a.2 * b.2)

/-- The integral of a step from 0 to 1 at 0, blended linearly over B, up to x: a fraction. -/
def stepInt (x : Int) (blend : Nat) : Int × Int :=
  if 2 * x ≤ -(blend : Int) then (0, 1)
  else if (blend : Int) ≤ 2 * x then (x, 1)
  else ((2 * x + blend) * (2 * x + blend), 8 * blend)

/-- The ratio of entry i as a fraction. (log 80 DEDUCED) -/
def gearRatio (s : State) (n i : Nat) : Int × Int := ((s.gearWord n i 1).toInt, bitsOf (s.gearWord n i 2) 15 0)

/-- f(m) up to a constant, in microsteps (R321): a fraction. -/
def gearSum (s : State) (n : Nat) (m : Int) : Int × Int :=
  let r0 := s.gearRatio n 0
  let blend := s.fld F.ME_GEAR_CFG_BLEND n
  (upTo (s.fld F.ME_GEAR_CFG_COUNT n - 1)).foldl (fun acc k =>
    let a := s.gearRatio n k
    let b := s.gearRatio n (k + 1)
    let g := stepInt (m - (s.gearWord n (k + 1) 0).toInt) blend
    let d := addQ b (-a.1, a.2)
    addQ acc (d.1 * g.1, d.2 * g.2)) (r0.1 * m, r0.2)

/-- The ratio at a place x beside a position, as the part of the step from one ratio to the next: a fraction (R321). -/
def stepPart (x : Int) (blend : Nat) : Int × Int :=
  if 2 * x ≤ -(blend : Int) then (0, 1) else if (blend : Int) ≤ 2 * x then (1, 1) else (2 * x + blend, 2 * blend)

/-- r(m), in microsteps per master count (R321): a fraction. -/
def gearRate (s : State) (n : Nat) (m : Int) : Int × Int :=
  let blend := s.fld F.ME_GEAR_CFG_BLEND n
  (upTo (s.fld F.ME_GEAR_CFG_COUNT n - 1)).foldl (fun acc k =>
    let a := s.gearRatio n k
    let g := stepPart (m - (s.gearWord n (k + 1) 0).toInt) blend
    let d := addQ (s.gearRatio n (k + 1)) (-a.1, a.2)
    addQ acc (d.1 * g.1, d.2 * g.2)) (s.gearRatio n 0)

/-- The gear master position (R322). (log 80 DEDUCED) -/
def gearMaster (s : State) (n : Nat) : Int :=
  let k := s.fld F.ME_GEAR_CFG_MASTER n
  if k < 4 then (s.rd .EN_POS k - wi (s.me n).jumps).toInt else s.sg .ME_POS (1 - n)

/-- The gear engages at the present positions. (log 80 DEDUCED) -/
def engage (s : State) (n : Nat) : State :=
  let s := s.updMe n fun m => { m with jumps := 0 }
  let m0 := s.gearMaster n
  let p := s.mePos n
  (s.meStart n F.ME_STAT_GEARED fun m => { m with gearS := p, gearM := m0 }).wr .ME_GEAR_M (wi m0) n

/-- A stop with an FR2 (R317, R318, R324): `hiz` says whether the bridge goes high impedance. -/
def meTrip (s : State) (code n : Nat) (hiz : Bool) : State :=
  if hiz then s.meFault code n
  else
    let link := s.fld F.ME_CFG_LINK_AXIS n
    (s.raise code (if link < 4 then link else 7) [wd n]).meStop n (ans cINTERNAL code)

/-- s(m) at the present master position in 2^-16 microsteps (R321); its rounding to them is open, and the same at every return to m.
(log 80 DEDUCED) -/
def gearPlace (s : State) (n : Nat) : Int :=
  let a := s.gearSum n (s.me n).gearM
  let d := addQ (s.gearSum n (s.gearMaster n)) (-a.1, a.2)
  let x := d.1 * 65536
  (s.me n).gearS + x / d.2 + (if x % d.2 != 0 && Config.gearUp d.1 d.2 then 1 else 0)

/-- The geared speed (R322), the master's speed times r(m), as a fraction in 1/256 microstep/s. (log 80 DEDUCED) -/
def gearSpeed (s : State) (n : Nat) : Int × Int :=
  let k := s.fld F.ME_GEAR_CFG_MASTER n
  let r := s.gearRate n (s.gearMaster n)
  if k < 4 then (r.1 * s.sg .EN_SPEED k * ticksPerS, r.2 * 2 ^ 24) else (r.1 * s.sg .ME_SPEED (1 - n), r.2)

/-- The speed register from a distance of one update, in 2^-16 microsteps. -/
def showSpeed (s : State) (n : Nat) (d : Int) : State :=
  let (v, s) := s.quot (d * ticksPerS) (256 * s.auxPer)
  s.wr .ME_SPEED (wi v) n

/-- One update of a geared engine (R321, R322). (log 80 DEDUCED) -/
def gearStep (s : State) (n : Nat) : State :=
  let k := s.fld F.ME_GEAR_CFG_MASTER n
  if k < 4 && !s.on F.EN_STAT_VALID k then s.meTrip 0x3054 n true
  else
    let s := s.wr .ME_GEAR_M (wi (s.gearMaster n)) n
    let p := s.gearPlace n
    let delta := p - s.mePos n
    let v := s.gearSpeed n
    let far := s.advance4 n * 65536 < 4 * delta.natAbs
    let fast := (s.rd .ME_VMAX n).toNat * v.2.natAbs < v.1.natAbs
    if far || fast then s.meTrip 0x3053 n true
    else
      let (w, s) := s.quot v.1 v.2
      let s := (s.setMePos n p).wrSat .ME_SPEED w n
      if delta == 0 then s else s.updMe n fun x => { x with dir := 0 < delta }

/-! ## Profiles (R314, R315) -/

/-- The distance of one update at a speed, in 2^-16 microsteps, within the advance of R312. -/
def stepDist (s : State) (n : Nat) (v : Int) : Int × State :=
  let (d, s) := s.quot (v * s.auxPer * 256) (ticksPerS * 2 ^ 32)
  (min d (s.advance4 n * 16384 : Nat), s)

/-- The distance in which a speed comes to zero at the engine's acceleration, in 2^-16 microsteps. -/
def stopDist (s : State) (n : Nat) (v : Int) : Int × State := s.quot (v * v * 128) ((s.me n).acc * 2 ^ 64)

/-- A speed can be kept for one update and still come to rest within a distance. -/
def fits (s : State) (n : Nat) (v rem : Int) : Bool × State :=
  let (d, s) := s.stepDist n v
  let (q, s) := s.stopDist n v
  (decide (d + q ≤ rem), s)

/-- The speed of the next update without a jerk limit (R315), and whether it is the profile's last: the rest is less than a step. -/
def speedStep (s : State) (n : Nat) (rem : Int) : (Int × Bool) × State :=
  let m := s.me n
  let (dv, s) := s.quot (m.acc * s.auxPer * 2 ^ 32) ticksPerS
  let up := min (m.vmax * 2 ^ 32) (m.speed + dv)
  let (ok, s) := s.fits n up rem
  if ok then ((up, false), s)
  else
    let (keep, s) := s.fits n m.speed rem
    let v := if keep then m.speed else max 0 (m.speed - dv)
    ((v, v == 0), s)

/-- The speed of the next update with a jerk limit (R315), and whether it is the profile's last: the rest is within what one change of the
acceleration from rest makes. The acceleration is the largest within its limit and the jerk's with which the profile can come to rest at
the target; an engine at rest that no such one moves goes on at the speed of one change. (log 53 DESIGN CHOICE) -/
def jerkSpeed (s : State) (n : Nat) (rem : Int) : (Int × Bool) × State :=
  let m := s.me n
  let per : Int := s.auxPer
  let jerk : Int := (s.rd .ME_JERK n).toNat * 2 ^ 32
  let lim := m.acc * 2 ^ 32
  let (dj, s) := s.quot (jerk * per) ticksPerS
  let (jump, s) := s.quot (dj * per) ticksPerS
  let (near, s) := s.stepDist n jump
  if m.speed ≤ jump && rem ≤ near then ((0, true), s)
  else
    let (lo, hi) := accelBounds lim lim m.speed m.accel (some dj)
    let after (x : Int) : Int := m.speed + x * per / ticksPerS
    let fits (x : Int) : Bool :=
      after x + (if x ≤ 0 then 0 else x * x / (2 * jerk)) ≤ m.vmax * 2 ^ 32 &&
        after x * per * 2 ^ 16 / ticksPerS + stopWay lim jerk (after x) x ≤ rem * 2 ^ 40
    let top := if fits lo then min hi (lastPass fits 66 lo) else lo
    if m.speed == 0 && top ≤ 0 then ((max jump (ticksPerS * 2 ^ 24 / max per 1), false), s)
    else ((max 0 (after top), false), s.updMe n fun m => { m with accel := top })

/-- One update of a profile towards a target in microsteps (R315). -/
def profileStep (s : State) (n : Nat) (target : Int) : State :=
  let p := s.mePos n
  let goal := target * 65536
  let rem : Int := (goal - p).natAbs
  if rem == 0 then (s.updMe n fun m => { m with speed := 0, accel := 0 }).wr .ME_SPEED 0 n
  else
    let ((v, last), s) := if s.rd .ME_JERK n == 0 then s.speedStep n rem else s.jerkSpeed n rem
    let (d, s) := s.stepDist n v
    let last := last || rem ≤ d
    let signed := if p < goal then (if last then rem else d) else -(if last then rem else d)
    let s := (s.setMePos n (p + signed)).updMe n fun m => { m with
      speed := if last then 0 else v, accel := if last then 0 else m.accel, dir := p < goal }
    s.showSpeed n signed

/-! ## Homing (R323, R324) -/

/-- The lag of the rotor at a stall, in 2^-16 microsteps: asin(LOAD) as a part of 90°, of one full step. (log 79 DEDUCED) -/
def stallLag (s : State) (n : Nat) : Int × State :=
  let l := s.fld F.ME_LOAD_LOAD n
  let a := atanTurn (l * 10 ^ 6) (isqrt ((10 ^ 6 - l * l) * 10 ^ 12))
  s.quot (a * 2 ^ s.fld F.ME_CFG_MICRO_LOG2 n * 65536) (2 ^ 30)

/-- One update of the move out (R323 step 1). (log 79 DEDUCED) -/
def homeOut (s : State) (n : Nat) : State :=
  let m := s.me n
  let top : Int := (s.rd .ME_HOME_V n).toNat * 2 ^ 32
  let (dv, s) := s.quot (top * s.auxPer) (100 * ticksPerMs)
  let v := min top (m.speed + dv)
  let (d, s) := s.stepDist n v
  let signed := if m.dir then d else -d
  let s := (s.setMePos n (s.mePos n + signed)).updMe n fun m => { m with speed := v }
  let s := s.showSpeed n signed
  if (s.rd .ME_HOME_MAX n).toNat * 65536 < (s.mePos n - m.homeFrom).natAbs then s.meTrip 0x3052 n false else s

/-- A stall during homing (R323 step 2). (log 79 DEDUCED) -/
def homeStall (s : State) (n : Nat) : State :=
  let (lag, s) := s.stallLag n
  let p := s.mePos n
  (s.wr .ME_SPEED 0 n).updMe n fun m => { m with
    move := some (.homeHold (s.tick + 50 * ticksPerMs)), speed := 0, stallN := 0, homeFrom := p
    stallPos := if m.dir then p - lag else p + lag }

/-- Where the back-off ends, in 2^-16 microsteps. (log 79 DEDUCED) -/
def backTarget (s : State) (n : Nat) : Int :=
  let m := s.me n
  let b : Int := s.fld F.ME_HOME_BACK_BACK n * 65536
  if m.dir then m.homeFrom - b else m.homeFrom + b

/-- One update of the back-off (R323 step 3), at ME_HOME_V. (log 79 DEDUCED) -/
def homeBack (s : State) (n : Nat) : State :=
  let p := s.mePos n
  let rem := s.backTarget n - p
  let (d, s) := s.stepDist n ((s.rd .ME_HOME_V n).toNat * 2 ^ 32)
  let signed := if rem < 0 then max rem (-d) else min rem d
  (s.setMePos n (p + signed)).showSpeed n signed

/-! ## Load and stall (R328, R329) -/

/-- The bus voltage in mV: of the analog input's value, whose scale is not given, or the nominal one. (log 82 DESIGN CHOICE) -/
def auxBus (s : State) : Int :=
  if s.on F.AUX_VBUS_AI_EN then Config.busMv (s.rd .AI_VALUE (s.fld F.AUX_VBUS_AI)) else s.fld F.AUX_VBUS_NOM * 100

/-- The back-EMF of a coil over the period that ends, in mV. (log 82 DESIGN CHOICE) -/
def coilEmf (s : State) (n : Nat) (bus : Int) : Int × State :=
  let c := s.coil n
  let per := s.auxPer
  let (v, s) := s.quot (c.onTicks * bus) per
  let (r, s) := s.quot (s.fld F.AUX_MOT_R_R * c.now) 1000
  let (l, s) := s.quot (s.fld F.AUX_MOT_L_L * (c.now - c.start) * 1000) (5 * per)
  (v - r - l, s)

/-- A vector from three phases: α and √3·β, both times 3. (log 81 DEDUCED) -/
def fromThree (a b c : Int) : Int × Int := (2 * a - b - c, b - c)

/-- LOAD of the driving engine (R328): |sin| of the angle between the current and the flux, which is 90° from the back-EMF by the sign of the
speed, and at the back-EMF's angle at speed 0; without a current, or without a back-EMF, no angle is given. (log 82 DESIGN CHOICE) -/
def updateLoad (s : State) (n : Nat) : State :=
  let bus := s.auxBus
  let (e0, s) := s.coilEmf 0 bus
  let (e1, s) := s.coilEmf 1 bus
  let (e2, s) := s.coilEmf 2 bus
  let i0 := (s.coil 0).now
  let i1 := (s.coil 1).now
  let i2 := (s.coil 2).now
  let still := s.rd .ME_SPEED n == 0
  let q : (Int × Int × Int) × Int := if s.auxMode == 1 then
      ((e0 * e0 + e1 * e1, i0 * i0 + i1 * i1, if still then e0 * i1 - e1 * i0 else e0 * i0 + e1 * i1), 1)
    else
      let e := fromThree e0 e1 e2
      let i := fromThree i0 i1 i2
      ((e.1 * e.1 + 3 * e.2 * e.2, i.1 * i.1 + 3 * i.2 * i.2,
        if still then isqrt (3 * (e.1 * i.2 - e.2 * i.1) ^ 2).toNat else e.1 * i.1 + 3 * e.2 * i.2), 9)
  let ee := q.1.1
  let ii := q.1.2.1
  let ei := q.1.2.2
  let lim := s.fld F.AUX_EMF_MIN_EMF
  let ok := decide (q.2 * lim * lim ≤ ee)
  let s := s.setF F.ME_LOAD_VALID (b2n ok) n
  if !ok then s
  else if ii == 0 || ee == 0 then
    let (l, s) := s.freeBelow 1001
    s.setF F.ME_LOAD_LOAD l n
  else
    let (l, s) := s.quot (1000 * (ei.natAbs : Int)) (isqrt ((ee * ii).toNat))
    s.setF F.ME_LOAD_LOAD (min l.toNat 1000) n

/-- The end of a period for one coil (R325): periods in a row in which a driven winding stayed low. -/
def coilPeriod (s : State) (k : Nat) : State :=
  s.updCoil k fun c => { c with
    lowN := if c.was && c.low then c.lowN + 1 else 0, was := c.driven, low := true, onTicks := 0, start := c.now }

/-! ## Current magnitude (R327) -/

/-- I_MIN + (I_RUN − I_MIN)·clip((LOAD − L0)/(L1 − L0), 0, 1) in 2^-16 mA (R327); with L1 equal to L0 the fraction is open. -/
def magOfLoad (s : State) (n : Nat) : Int × State :=
  let run : Int := s.fld F.AUX_I_LEVELS_I_RUN
  let low : Int := s.fld F.AUX_I_MIN_I_MIN
  let l0 : Int := s.fld F.AUX_LOAD_MAP_L0
  let l1 : Int := s.fld F.AUX_LOAD_MAP_L1
  let sign : Int := if l1 < l0 then -1 else 1
  let y := clampI 0 (sign * (l1 - l0)) (sign * ((s.fld F.ME_LOAD_LOAD n : Int) - l0))
  if l1 == l0 then
    let (y, s) := s.freeBelow 65537
    (low * 65536 + (run - low) * y, s)
  else
    let (v, s) := s.quot ((run - low) * y * 65536) (sign * (l1 - l0))
    (low * 65536 + v, s)

/-- The target of the magnitude in 2^-16 mA, none to keep the present one. -/
def magTarget (s : State) (n : Nat) : Option Int × State :=
  let m := s.me n
  let mA (x : Nat) : Option Int := some (x * 65536)
  if s.on F.ME_STAT_HOMING n then (mA m.homeI, s)
  else if s.on F.ME_STAT_AT_REST n then
    if m.held || s.tick < m.restSince + s.fld F.AUX_I_MIN_HOLD_DLY * ticksPerMs then (none, s)
    else (mA (s.fld F.AUX_I_LEVELS_I_HOLD), s)
  else if s.on F.ME_LOAD_VALID n then
    let (t, s) := s.magOfLoad n
    (some t, s)
  else (mA (s.fld F.AUX_I_MIN_I_MIN), s)

/-- The magnitude moves towards its target by at most RISE and FALL, and never exceeds I_RUN (R327). -/
def magStep (s : State) (n : Nat) : State :=
  let now : Int := s.fld F.ME_I_I n * 65536 + (s.me n).curFrac
  let (t, s) := s.magTarget n
  let (up, s) := s.quot (s.fld F.AUX_I_RATE_RISE * s.auxPer * 65536) ticksPerMs
  let (down, s) := s.quot (s.fld F.AUX_I_RATE_FALL * s.auxPer * 65536) ticksPerMs
  let v : Int := match t with | some goal => clampI (now - down) (now + up) goal | none => now
  let v := (min v (s.fld F.AUX_I_LEVELS_I_RUN * 65536 : Nat)).toNat
  (s.setF F.ME_I_I (v / 65536) n).updMe n fun m => { m with curFrac := v % 65536 }

/-! ## One update (R311) -/

/-- The move of one engine in one update. -/
def meMove (s : State) (n : Nat) : State :=
  match (s.me n).move with
  | some .profile => s.profileStep n (s.me n).target
  | some .homeOut => s.homeOut n
  | some (.homeHold t) => if t ≤ s.tick then s.updMe n fun m => { m with move := some .homeBack } else s
  | some .homeBack => s.homeBack n
  | none => if s.on F.ME_STAT_GEARED n then s.gearStep n else s

/-- The limit input that stops the present travel is active (R317); in homing that of the direction other than DIR (R323), geared that of
the step to be made. (log 79 DEDUCED) -/
def meBlocked (s : State) (n : Nat) : Bool :=
  let m := s.me n
  match m.move with
  | some (.homeHold _) => false
  | some .homeOut | some .homeBack => s.meLimit n (!m.dir)
  | some .profile => s.meLimit n m.dir
  | none => s.on F.ME_STAT_GEARED n && s.gearPlace n != s.mePos n && s.meLimit n (s.mePos n < s.gearPlace n)

/-- This update is the last one of a profile: the state after it. No stop in the same update takes place (R316). -/
def lastUpdate (s : State) (n : Nat) : Option State :=
  let t := s.meMove n
  if t.meArrived n then some t else none

/-- A stop by a limit input (R317). -/
def meLimitStop (s : State) (n : Nat) : State :=
  ((s.raiseF F.ME_STAT_LIMSW n).raise 0x3050 7 [wd n]).meStop n (ans cINTERNAL 0x3050)

/-- The reads of a motion engine's memory in an update, the first of which failed parity n times in a row: up to three repetitions are
reported; more stop the engine until its FUNC_REINIT (R26, R200, R202). (log 77 DEDUCED) -/
def meParity (s : State) (n fails : Nat) : State :=
  if fails == 0 then s
  else if fails ≤ 3 then
    let link := s.fld F.ME_CFG_LINK_AXIS n
    s.raise 0x7050 (if link < 4 then link else 7) [wd (10 + n)]
  else (s.meFault 0x7051 n).updMe n fun m => { m with dead := true }

/-- One engine's update; while motion may not take place nothing moves (R313). -/
def meUpdate (s : State) (n : Nat) : State :=
  let stalled := s.on F.ME_LOAD_VALID n && s.fld F.ME_STALL_LOAD n ≤ s.fld F.ME_LOAD_LOAD n
  let s := s.updMe n fun m => { m with stallN := if stalled then m.stallN + 1 else 0 }
  let stall := s.fld F.ME_STALL_N n ≤ (s.me n).stallN && stalled
  if s.on F.ME_STAT_AT_REST n || !s.motionOk then s
  else match s.lastUpdate n with
    | some t => t
    | none =>
      if stall && (s.me n).move == some .homeOut then s.homeStall n
      else if stall && !s.on F.ME_STAT_HOMING n then (s.raiseF F.ME_STAT_STALL n).meTrip 0x3051 n true
      else if s.meBlocked n then s.meLimitStop n
      else s.meMove n

/-- Half-bridge x changes. -/
def updHalf (s : State) (x : Nat) (f : Half → Half) : State := { s with gate := { s.gate with halves := upd s.gate.halves x f } }

/-- UVLO shows the bootstrap supplies: `hb` tells which read above 9.0 V (R308). -/
def showUvlo (s : State) (hb : BitVec 4) : State := s.forN 4 fun x s => if hb.getLsbD x then s.setBit F.GATE_AUX_STAT_UVLO x false else s

/-- A refresh pulse is asked for every 64 periods after an AUX_UVLO, until 1 s has passed without one (R308). -/
def refresh (s : State) : State :=
  s.forN 4 fun x s =>
    let h := nth s.gate.halves x
    match h.uvAt with
    | none => s
    | some t =>
      let pulse := 64 ≤ h.refreshN + 1
      let over_ := t + ticksPerS ≤ s.tick && !h.uvHold
      let s := s.updHalf x fun h => { h with
        refreshN := if pulse then 0 else h.refreshN + 1
        uvAt := if over_ then none else some t
        pulseAt := if pulse && h.pulseAt.isNone then some s.tick else h.pulseAt }
      if over_ then s.setBit F.GATE_AUX_STAT_REFRESH x false else s

/-! ## Current regulation (R305, R325, R326) -/

/-- The dead time after the last turn-off of a half-bridge is over (R305). -/
def deadOver (s : State) (x : Nat) : Bool := (nth s.gate.halves x).offAt + s.fld F.GATE_AUX_CFG_DT ≤ s.tick

/-- A refresh pulse of a half-bridge goes on (R308): both sides off, after DT the low side on for 60 ticks; at its end the half-bridge
switches again if its bootstrap supply reads above 9.0 V. (log 66 DEDUCED) -/
def pulseStep (s : State) (hb : BitVec 4) (x : Nat) : State :=
  let h := nth s.gate.halves x
  if h.pulseAt.isNone then s
  else match h.lowAt with
    | none =>
      if h.ho || h.lo then s.setHalf x false false
      else if s.deadOver x then (s.setHalf x false true).updHalf x fun h => { h with lowAt := some s.tick }
      else s
    | some t =>
      if s.tick < t + 60 then s
      else (s.setHalf x false false).updHalf x fun h => { h with
        pulseAt := none, lowAt := none, uvHold := h.uvHold && !hb.getLsbD x }

/-- What a half-bridge is to do: high side on, low side on, or neither; the dead time of R305 stands between the two sides. A refresh
pulse comes before it. (log 81 DEDUCED) -/
def drivePole (s : State) (x : Nat) (want : Option Bool) : State :=
  let h := nth s.gate.halves x
  let late := s.deadOver x
  if h.pulseAt.isSome then s
  else if h.uvHold then s.setHalf x false false
  else match want with
    | none => s.setHalf x false false
    | some true => if h.lo then s.setHalf x false false else if late then s.setHalf x true false else s
    | some false => if h.ho then s.setHalf x false false else if late then s.setHalf x false true else s

/-- The reference of coil k in mA (R325). (log 81 DEDUCED) -/
def coilRef (s : State) (n k : Nat) : Int × State :=
  let a := (s.elecAngle n).toNat
  let c : Int := if s.auxMode == 1 then (if k == 0 then cosTurn a else sinTurn a)
    else cosTurn ((a + (3 - k) % 3 * 1431655765) % 2 ^ 32)
  s.quot (s.fld F.ME_I_I n * c) (2 ^ 64)

/-- How coil k is switched: driven with its polarity, or decaying (R325). (log 81 DEDUCED) -/
def switchCoil (s : State) (k : Nat) (pos : Bool) : State :=
  let c := s.coil k
  let quarter := s.tick < c.offAt + s.fld F.AUX_CHOP_TOFF_MIN / 4
  let fast := match s.fld F.AUX_CHOP_DECAY with | 0 => false | 1 => true | _ => quarter
  let forward := c.driven == pos
  if s.auxMode == 1 then
    if c.driven || fast then (s.drivePole (2 * k) (some forward)).drivePole (2 * k + 1) (some !forward)
    else (s.drivePole (2 * k) (some false)).drivePole (2 * k + 1) (some false)
  else if c.driven || fast then s.drivePole k (some forward) else s.drivePole k (some false)

/-- The peak after a turn-off has been looked for: OFS is adjusted (R326). -/
def adjustOfs (s : State) (k : Nat) (ref : Int) : State :=
  let hyst := s.fld F.AUX_CHOP_HYST
  let d := roundDiv (2 * (s.coil k).peak - (2 * ref.natAbs + hyst)) 16
  s.setF F.AUX_CHOP_OFS_OFS (clampI 0 hyst (s.fld F.AUX_CHOP_OFS_OFS k + d)).toNat k

/-- The sign of the bus voltage on coil k as its half-bridges stand (R328): a winding across two of them, a phase at one. -/
def coilSign (s : State) (k : Nat) : Int :=
  let h (x : Nat) : Half := nth s.gate.halves x
  if s.auxMode == 1 then
    if (h (2 * k)).ho && (h (2 * k + 1)).lo then 1 else if (h (2 * k)).lo && (h (2 * k + 1)).ho then -1 else 0
  else b2n (h k).ho

/-- One comparison of coil k with its band (R325, R326). (log 81 DEDUCED) -/
def regulate (s : State) (n k : Nat) : State :=
  let (ref, s) := s.coilRef n k
  let c := s.coil k
  let pos := decide (0 ≤ ref)
  let i := if pos then c.now else -c.now
  let mag : Int := ref.natAbs
  let hyst : Int := s.fld F.AUX_CHOP_HYST
  let off := c.driven && decide (2 * mag + hyst - 2 * s.fld F.AUX_CHOP_OFS_OFS k ≤ 2 * i)
  let turnOn := !c.driven && decide (2 * i < 2 * mag - hyst) && c.onPeriod != s.mot.period &&
    c.offAt + s.fld F.AUX_CHOP_TOFF_MIN ≤ s.tick
  let ended := c.peakN == 1
  let s := s.updCoil k fun c =>
    let c := { c with
      driven := (c.driven && !off) || turnOn
      offAt := if off then s.tick else c.offAt
      onPeriod := if turnOn then s.mot.period else c.onPeriod
      peak := if off then i else max c.peak i
      peakN := if off then 10 else c.peakN - 1 }
    { c with
      was := c.was || c.driven
      low := c.low && decide (10 * i < mag) }
  let s := if ended && !off then s.adjustOfs k ref else s
  let s := s.switchCoil k pos
  s.updCoil k fun c => { c with onTicks := c.onTicks + 10 * s.coilSign k }

end State

/-! ## Meanings -/

/-- AUX_PERIOD_UPDATE (R304, R308, R311 to R329): the next auxiliary period begins; time passes to it. `hb` tells which
bootstrap supplies read above 9.0 V, `par` how often a read of each engine's memory failed parity (R26). -/
def execAuxPeriodUpdate (hb : BitVec 4) (par : List Nat) (s : State) : Host.Outcome State Fault Refusal :=
  let s := s.elapseTo (s.mot.periodAt + s.auxPer)
  let s := { s with mot := { s.mot with period := s.mot.period + 1, periodAt := s.tick } }
  let s := (s.showUvlo hb).refresh
  let s := match s.auxDriver with | some n => s.updateLoad n | none => s
  let s := s.forN 3 fun k s => s.coilPeriod k
  let open_ := (upTo 3).any fun k => (s.coil k).lowN == 64
  let s := match s.auxDriver with
    | some n => if open_ && (s.lastUpdate n).isNone then s.meTrip 0x3055 n true else s
    | none => s
  let s := s.forN 2 fun n s =>
    let s := s.meParity n (nth par n)
    if (s.me n).dead then s else s.meUpdate n
  endWith (match s.auxDriver with | some n => s.magStep n | none => s)

/-- AUX_CURRENT_SAMPLE (R308, R325, R326): the conversion of XCS0 to XCS2, in µV, 10 ticks after the one before, with the bootstrap
supplies that read above 9.0 V. -/
def execAuxCurrentSample (hb : BitVec 4) (xcs : List Int) (s : State) : Host.Outcome State Fault Refusal :=
  let s := s.elapseTo (s.mot.sampleAt + 10)
  let s := { s with mot := { s.mot with sampleAt := s.tick } }.showUvlo hb
  let s := s.forN 3 fun k s =>
    let (i, s) := s.quot (10 * nth xcs k) (s.fld F.AUX_SHUNT_R)
    (s.setF F.AUX_I_MEAS_I (i % 65536).toNat k).updCoil k fun c => { c with now := i }
  if !s.auxReleased then
    endWith ((s.forN 4 fun x s => s.setHalf x false false).forN 3 fun k s => s.updCoil k fun c => { c with driven := false })
  else
    let s := s.forN 4 fun x s => s.pulseStep hb x
    match s.auxDriver with
    | none => endWith (s.forN 4 fun x s => s.drivePole x none)
    | some n => endWith (s.forN (if s.auxMode == 1 then 2 else 3) fun k s => s.regulate n k)

/-- MOVE_COMPLETE (R315): a profile that has reached its target at speed zero is complete. (log 83 DEDUCED) -/
def execMoveComplete (me : Fin 2) (s : State) : Host.Outcome State Fault Refusal :=
  endWith (if s.meArrived me then s.meComplete me else s)

/-- HOME_COMPLETE (R323 step 4, R324): the back-off has ended. (log 79 DEDUCED) -/
def execHomeComplete (me : Fin 2) (s : State) : Host.Outcome State Fault Refusal :=
  let m := s.me me
  if m.move == some .homeBack && s.mePos me == s.backTarget me then
    let p := s.mePos me + s.sg .ME_HOME_POS me * 65536 - m.stallPos
    let s := ((s.setMePos me p).setF F.ME_STAT_UNCERTAIN 0 me).setF F.ME_STAT_HOME_OK 1 me
    endWith ((s.meRest me false).finish 0x0402 me (ok [s.rd .ME_POS me]))
  else endWith s

end Sys2Proof.Machine
end

