-- ==== Sys2Proof/Machine/WriteRules.lean ====
section
/-!
DEFINITION. Machine/WriteRules.lean: writers and their rights, the value a write leaves in a register by its access codes, the
ranges of R117, and the change rules of the blocks (R3, R30, R115 to R117, R121, R122, R126, R136, R147, R150, R154, R199, R203, R240,
R241, R245, R254, R262, R304, R310 to R312, R319, R336, R360, R362, R367, R378, R465, R493).
-/

namespace Sys2Proof

/-! ## Writers (R30) -/

/-- The rank of a writer. -/
def Writer.rank : Writer → Nat
  | .lantern => 1 | .lamplighter => 2 | .le _ => 3 | .oe _ => 4 | .me _ => 5 | .pairA _ => 6 | .pairB _ => 7 | .host _ => 8

/-- The index of a writer within its rank. -/
def Writer.index : Writer → Nat
  | .le n => n | .oe n => n | .me n => n | .pairA n => n | .pairB n => n | _ => 0

/-- A host command. -/
def Writer.isHost : Writer → Bool
  | .host _ => true | _ => false

/-- The engine of a writer, 0 to 9. -/
def Writer.engine? : Writer → Option Nat
  | .le n => some n.val | .oe n => some (8 + n.val) | _ => none

/-- The initiator code of R123; for an engine or Lamplighter none is given. -/
def Writer.code? : Writer → Option Nat
  | .pairA _ => some 0 | .pairB _ => some 1 | .host _ => some 2 | _ => none

/-- A role that may write RL fields (R3). (log 34 DEDUCED) -/
def Role.mayRl (r : Role) : Bool := r != .operator

/-- A writer that may change RL fields after BOOT: an installer or maker session alone (R3, R116). -/
def Writer.mayRl : Writer → Bool
  | .host r => r.mayRl | _ => false

/-- A core or an engine, whose attempt on an RL field sets RL_DENY (R116, R123). -/
def Writer.inside : Writer → Bool
  | .lantern | .lamplighter | .host _ => false | _ => true

namespace Machine

/-- A write on its way to a register: the writer, whether it may change RL fields, its kind, its value. -/
structure Req where
  who : Writer
  rl : Bool
  kind : WKind
  value : Word
  deriving DecidableEq, Repr, Inhabited

/-- A write as an operand gives it. -/
def reqOf (w : Write) : Req := ⟨w.who, w.who.mayRl, w.kind, w.value⟩

/-- What became of a write. -/
inductive Verdict where
  | applied (clipped : Bool)
  | lost
  | refused (a : Answer)
  deriving DecidableEq, Repr, Inhabited

namespace State

/-! ## The value a write leaves (R3) -/

/-- The observer engine of an axis writes an OW field (R493). -/
def mayOw (s : State) (r : RegId) (i : Nat) (who : Writer) : Bool :=
  r == .AX_T_LOAD && who.engine? == some (8 + s.fld F.AX_CFG_OE i)

/-- Bits that no write changes although their field is writable: outputs that the compare list owns (R400), the bit of group 0xFFFF
(R358), the reserved bits of words 1 and 3 of a compare entry (R2, R146). -/
def heldBits (s : State) (r : RegId) (i : Nat) : Word :=
  match r with
  | .FIO_DO => wd (s.fld F.CMP_OUT_SEL_DO_MASK)
  | .MEM_GROUPS => if i == 7 then 0x80000000 else 0
  | .CMP_LIST => if i % 4 == 1 then 0x0000FC00 else if i % 4 == 3 then 0xFFFFFFFF else 0
  | _ => 0

/-- The fields of a register that a writer's write takes. -/
def takes (s : State) (r : RegId) (i : Nat) (who : Writer) (rl : Bool) (f : Fld) : Bool :=
  match f.acc with
  | .rw | .wo => true
  | .rl => rl
  | .ow => s.mayOw r i who
  | _ => false

/-- The word a plain write leaves in a register by its access codes; WO fields hold what is written until their effect is taken. (log 34 DEDUCED) -/
def compose (s : State) (r : RegId) (i : Nat) (who : Writer) (rl : Bool) (v : Word) : Word :=
  let old := s.rd r i
  if r == .CAN_MB then s.mbWrite (i / 1536) (i / 24 % 64) (i % 24) v
  else
    let new := r.fields.foldl (fun w f =>
      if s.takes r i who rl f then putBits w f.hi f.lo (bitsOf v f.hi f.lo)
      else if f.acc == .w1c then w &&& ~~~(v &&& maskOf f.hi f.lo)
      else w) old
    let h := s.heldBits r i
    (old &&& h) ||| (new &&& ~~~h)

/-- The bits of a register's RL fields. -/
def rlMask (r : RegId) : Word := r.fields.foldl (fun w f => if f.acc == .rl then w ||| maskOf f.hi f.lo else w) 0

/-- The bits of a register's W1C fields. -/
def w1cMask (r : RegId) : Word :=
  r.fields.foldl (fun w f => if f.acc == .w1c then w ||| maskOf f.hi f.lo else w) 0

/-- The register has a field that a role may write (R115). -/
def writable (r : RegId) (rl : Bool) : Bool :=
  r == .CAN_MB || r.fields.any fun f => f.acc == .rw || f.acc == .wo || f.acc == .w1c || (rl && f.acc == .rl)

/-! ## Ranges (R117) -/

/-- A value is legal in a field. (log 32 DEDUCED; log 36 DEDUCED) -/
def legal (f : Fld) (v : Nat) : Bool := f.legal.isEmpty || f.legal.any fun r => r.1 ≤ v && v ≤ r.2

/-- The longest read period and the burst of SSI in ticks (R136), from the words of its registers. (log 40 DEDUCED) -/
def ssiFits (s : State) (cfg ssi tim : Word) : Bool :=
  let a := bitsOf cfg 4 2
  let bits := 1 + bitsOf ssi 5 0 + (if bitsOf ssi 8 7 == 0 then 0 else 1) + bitsOf ssi 9 9
  let burst := bits * 2 * (bitsOf tim 9 0 + 1)
  let period := 2 ^ bitsOf ssi 14 12 * s.samplePeriod a
  period == 0 || burst + (bitsOf tim 15 10 + 1) * ticksPerUs ≤ period

/-- The saliency condition of R240: 20·|l_q − l_d| ≥ l_q + l_d, on a machine that is not an induction machine. (log 40 DEDUCED) -/
def salient (s : State) (a : Nat) : Bool :=
  let d := s.sg .AX_MOT_LD a
  let q := s.sg .AX_MOT_LQ a
  !s.induction a && q + d ≤ 20 * ((q - d).natAbs : Int)

/-- The words of a compare entry (R146, R147): DIR 3 is reserved, SYNC_OUT has two lines, and WIDTH has the minimum of the kind of
output that word 1 of the entry names. A WIDTH that stands already is not judged again. (log 32 DEDUCED; log 120 DEDUCED) -/
def entryOk (s : State) (i : Nat) (new : Word) : Bool :=
  match i % 4 with
  | 1 => bitsOf new 2 1 != 3 && (bitOf new 3 || bitsOf new 7 4 ≤ 1)
  | 2 =>
    let least := if bitOf (s.rd .CMP_LIST (i - 1)) 3 then 10 else 2
    least ≤ bitsOf new 23 0 || bitsOf new 23 0 == bitsOf (s.rd .CMP_LIST i) 23 0
  | _ => true

/-- A rule of its own on the values of a register, beside the ranges of its fields (R117). (log 32 DEDUCED) -/
def valueOk (s : State) (r : RegId) (i : Nat) (new : Word) : Bool :=
  match r with
  | .EN_CPR => new == 0 || (4 ≤ new.toNat && new.toNat ≤ 16777216)
  | .EN_CFG =>
    bitsOf new 1 0 != 2 || (bitsOf new 4 2 != 4 && s.ssiFits new (s.rd .EN_SSI_CFG i) (s.rd .EN_SSI_TIM i))
  | .EN_SSI_CFG => s.encMode i != 2 || s.ssiFits (s.rd .EN_CFG i) new (s.rd .EN_SSI_TIM i)
  | .EN_SSI_TIM => s.encMode i != 2 || s.ssiFits (s.rd .EN_CFG i) (s.rd .EN_SSI_CFG i) new
  | .OBS_CFG => !bitOf new 9 || s.salient i
  | .OBS_CATCH_CFG =>
    let f := (s.rd .AX_BASE_F i).toNat
    f == 0 || 800000000 ≤ 3 * bitsOf new 15 0 * f
  | .ME_CFG => !bitOf new (F.ME_CFG_OUT.lo) || !s.on F.ME_CFG_OUT (1 - i)
  | .ME_VMAX => s.vmaxOk i new.toNat
  | .LE_TASK_CFG => bitsOf new 9 6 < 2 ^ bitsOf new 5 3
  | .LE_MBX_BASE => new.toNat % 2048 == 0 && new.toNat < 0x100000
  | .SNS_SHIFT => s.samplePeriod i == 0 || 4 * bitsOf new 15 0 ≤ s.samplePeriod i
  | .CAN_NBT => timingOk (bitsOf new 4 0) (bitsOf new 15 8) (bitsOf new 22 16) (bitsOf new 30 24) false
  | .CAN_DBT => timingOk (bitsOf new 4 0) (bitsOf new 12 8) (bitsOf new 19 16) (bitsOf new 27 24) true
  | .CAN_TT_PHASE => bitsOf new 19 0 < s.ttLen i
  | .CAN_CMD_REQ =>
    !bitOf new 31 || (s.mbCode i 62 == 0 && s.mbCode i 63 == 0 &&
      !(bitsOf new 29 0 == bitsOf (s.rd .CAN_CMD_RSP i) 29 0))
  | .CAN_CMD_RSP => !s.canCmd i || bitsOf new 29 0 != bitsOf (s.rd .CAN_CMD_REQ i) 29 0
  | .CAN_MB => i % 24 != 0 || bitsOf new 1 0 != 3
  | .CMP_LIST => s.entryOk i new
  | _ => true

/-- A write would put a reserved code or a value out of range into a field it changes (R117). (log 32 DEDUCED) -/
def badValue (s : State) (r : RegId) (i : Nat) (q : Req) (new : Word) : Bool :=
  let old := s.rd r i
  (r.fields.any fun f =>
    s.takes r i q.who q.rl f && bitsOf new f.hi f.lo != bitsOf old f.hi f.lo && !legal f (bitsOf new f.hi f.lo)) ||
    !s.valueOk r i new

/-! ## Change rules of the blocks -/

/-- BUSY for a device state, a membership or a mode that does not allow the write. (log 32 DEDUCED) -/
def busyState : Option Answer := some (ans cBUSY 3)
/-- BUSY for a register that may change only while something is stopped. (log 32 DEDUCED) -/
def busyFixed : Option Answer := some (ans cBUSY 5)
/-- BAD_PARAM. -/
def badParam (d : Nat := 0) : Option Answer := some (ans cBAD_PARAM d)
/-- A refusal under a condition. -/
def unless_ (c : Bool) (a : Option Answer) : Option Answer := if c then none else a

/-- An axis named by number is DISABLED; a number that names none counts as such. -/
def axisOff (s : State) (a : Nat) : Bool := 4 ≤ a || s.axSt a == aDISABLED

/-- A range can be armed (R147): the outputs that its entries name are owned, their positions rise strictly, no other armed range meets it.
One with FIRST above LAST, on which the spec is silent, cannot; an accepted arm acts in the step of its write. (log 41 DEDUCED) -/
def rangeOk (s : State) (c first last : Nat) : Bool :=
  let l := ((upTo (last + 1 - first)).map (first + ·)).filter fun i => bitOf (s.cmpWord i 1) 0
  let rise := (upTo (l.length - 1)).all fun j => (s.cmpWord (nth l j) 0).toInt < (s.cmpWord (nth l (j + 1)) 0).toInt
  let owned := l.all fun i => match s.cmpOut i with | some o => s.cmpOwns o | none => false
  let apart := (upTo 4).all fun d => d == c || !s.on F.CMP_RANGE_ARM d ||
    last < s.fld F.CMP_RANGE_FIRST d || s.fld F.CMP_RANGE_LAST d < first
  first ≤ last && rise && owned && apart

/-- A write arms a range or moves an armed one. -/
def arms (s : State) (c : Nat) (new : Word) : Bool := bitOf new 31 && new != s.rd .CMP_RANGE c

/-- An output is named by an armed range (R150). (log 41 DEDUCED) -/
def outArmed (s : State) (o : Nat) : Bool :=
  (upTo 4).any fun c => (s.armedEntries c).any fun i => bitOf (s.cmpWord i 1) 0 && s.cmpOut i == some o

/-- The schedule of an engine may not be touched (R199). -/
def engFixed (s : State) (e : Nat) : Option Answer := unless_ (!s.on F.LE_CTRL_RUN e) busyFixed

/-- The motor speed at which MEASURE is allowed in RUN (R254). -/
def measureOk (s : State) (a : Nat) : Bool :=
  let fast := s.fld F.OBS_KE_CFG_VMIN a * 2 ^ 24 ≤ 1000 * (s.sg .AX_SPEED a).natAbs
  (s.axSt a == aRUN && fast) || ((s.dev == dREADY || s.dev == dARMED) && s.axSt a == aDISABLED)

/-- MEASURE is refused (R254). -/
def measureRefused (s : State) (a : Nat) : Option Answer :=
  if s.induction a || !s.on F.OBS_CFG_VT_EN a then badParam
  else unless_ (s.measureOk a) busyState

/-- A bridge is not at rest: it is switching, or in its off sequence, at whose end alone a 3-level bridge is at rest (R154, R293).
(log 60 DEDUCED) -/
def inUse (s : State) (b : Nat) : Bool := s.running b || s.fbit F.GATE_STAT_OFFSEQ b

/-- The bridges whose use closes a configuration word: the one named before and the one named after (R154). -/
def namesRunning (s : State) (on_ : Word → Bool) (bridge : Word → Nat) (old new : Word) : Option Answer :=
  unless_ (!((on_ old && s.inUse (bridge old)) || (on_ new && s.inUse (bridge new)))) busyFixed

/-- The rule by which a block refuses a change of a register, with the answer to a host command. (log 32 DEDUCED; log 40 DEDUCED; log 41 DEDUCED;
log 72 DEDUCED) -/
def changeRule (s : State) (r : RegId) (i : Nat) (q : Req) (new : Word) : Option Answer :=
  let old := s.rd r i
  match r with
  | .SYS_UNIT => unless_ (!(s.fld F.MEM_STAT_STATE == 2 || s.fld F.MEM_STAT_STATE == 3)) busyState
  | .SYS_SPLIT => unless_ ((s.dev == dSAFE || s.dev == dREADY) && s.allDisabled) busyState
  | .EN_CFG =>
    unless_ (bitsOf old 4 0 == bitsOf new 4 0 ||
      (s.axisOff (bitsOf old 4 2) && s.axisOff (bitsOf new 4 2) && !s.on F.CMP_RANGE_ARM i)) busyFixed
  | .EN_CPR | .EN_IDX_CFG | .EN_SSI_CFG | .EN_SSI_TIM =>
    unless_ (s.axisOff (s.owner i) && !s.on F.CMP_RANGE_ARM i) busyFixed
  | .CMP_RANGE => unless_ (!(q.who.isHost && s.arms i new && !s.rangeOk i (bitsOf new 9 0) (bitsOf new 25 16))) (badParam 1)
  | .CMP_LIST => unless_ (!(upTo 4).any fun c => (s.liveEntries c).contains (i / 4)) badParam
  | .CMP_OUT_SEL =>
    let ch := old ^^^ new
    unless_ (!(upTo 18).any fun o => bitOf ch (if o < 2 then o else o + 14) && s.outArmed o) busyFixed
  | .BR_CFG | .BR_HALF | .BR_DT | .BR_MINPULSE | .BR_MAP0 | .BR_MAP1 | .BR_MAP2 | .BR_WOFS | .GATE_TSEQ =>
    unless_ (!s.inUse i) busyFixed
  | .CHOP_CFG => s.namesRunning (bitOf · 31) (bitsOf · 10 8) old new
  | .SD_CFG => s.namesRunning (bitsOf · 22 20 != 0) (bitsOf · 18 16) old new
  | .GC_CFG => unless_ (!(s.bridgesNaming i).any s.inUse) busyFixed
  | .LE_CTRL =>
    if bitOf old 0 && bitOf old 2 != bitOf new 2 then busyFixed
    else if bitOf old 0 && !bitOf new 0 then
      unless_ ((s.slotsOn i).all fun k => s.axisOff (s.fld F.LE_TASK_CFG_AXIS (4 * i + k))) busyFixed
    else none
  | .LE_TASK_CFG | .LE_TASK_START | .LE_TASK_DEADLINE | .LE_TASK_BUDGET | .LE_TASK_STATE => s.engFixed (i / 4)
  | .LE_MDATA =>
    if s.on F.LE_MADDR_SPACE i then s.engFixed i
    else unless_ (!(s.on F.LE_CTRL_RUN i && 64 ≤ (s.engine i).staged.length)) busyFixed
  | .OBS_CFG | .OBS_KP_INJ | .OBS_KI_INJ | .OBS_KP_EMF | .OBS_KI_EMF | .OBS_INJ_V | .OBS_INJ_MIN | .OBS_ALIGN | .OBS_POL_I
  | .OBS_POL_MIN | .OBS_CATCH_CFG | .AX_SH_CFG | .AX_SH_W | .AX_SH_SCALE | .AX_SH_CLIM | .AX_SH_DROOP | .AX_SH_TMO =>
    unless_ (s.axSt i == aDISABLED) busyFixed
  | .OBS_KE_CFG => if bitOf new 1 then s.measureRefused i else none
  | .GATE_AUX_CFG | .GATE_AUX_OC | .AUX_I_LEVELS | .AUX_I_MIN | .AUX_I_RATE | .AUX_LOAD_MAP | .AUX_CHOP | .AUX_SHUNT | .AUX_MOT_R
  | .AUX_MOT_L | .AUX_VBUS | .AUX_EMF_MIN =>
    unless_ (s.on F.ME_STAT_AT_REST 0 && s.on F.ME_STAT_AT_REST 1 && s.fld F.GATE_AUX_STAT_HIZ == 15) busyFixed
  | .ME_POS => unless_ (s.on F.ME_STAT_AT_REST i) busyFixed
  | .MER_SET_HI => unless_ (!s.usesPtp) busyState
  | .CAN_CTRL =>
    if !s.canInit i && (old ^^^ new) &&& 0x2E != 0 then busyFixed
    else unless_ (!(bitOf old 0 && !bitOf new 0 && !(s.wr .CAN_CTRL new i).ttOk i)) busyFixed
  | .CAN_NBT | .CAN_DBT | .CAN_TDC | .CAN_TT_CFG | .CAN_TT_PHASE | .CAN_TT_REF | .CAN_CMD_REQ | .CAN_CMD_RSP =>
    unless_ (s.canInit i) busyFixed
  | .CAN_TT_COL => unless_ (s.canInit (i / 16)) busyFixed
  | .CAN_TT_MTX => unless_ (s.canInit (i / 256)) busyFixed
  | .CAN_MB => unless_ (!s.mbClosed (i / 1536) (i / 24 % 64) (i % 24)) badParam
  | .CDL_BR_CFG | .CDL_DT_MAX | .CDL_AX_CFG | .CDL_DERATE_MIN | .CDL_GUARD_MAX | .CDL_MARGIN_BUDGET =>
    unless_ s.allDisabled busyFixed
  | _ => none

end State

end Machine

end Sys2Proof
end

