-- ==== Sys2Proof/Machine/Writes.lean ====
section
/-!
DEFINITION. Machine/Writes.lean: what a write does beside changing its register, the refusals it leaves in the FABRIC registers, and
the arbitration of the writes of one cycle (R24, R25, R29 to R34, R112 to R117, R119, R123, R124, R224, R269).
-/

namespace Sys2Proof.Machine

/-- How a write is judged and recorded: who is named in audit records (none for no record), whether a value beyond the envelope is
clipped for a host command too (BOOT, R448), and the index of the payload word that carries the value. -/
structure WOpt where
  by_ : Option By
  clip : Bool
  word : Nat
  deriving DecidableEq, Repr, Inhabited

/-- A write of a role without a packet. (log 34 DEDUCED) -/
def byRole (r : Role) : By := ⟨roleCode r, 0, 0, 0⟩

namespace State

/-! ## Effects -/

/-- The engine memory word at LE_MADDR is written (R203). (log 36 DEDUCED) -/
def memWrite (s : State) (e : Nat) (w : Word) : State :=
  let a := s.fld F.LE_MADDR_ADDR e
  let s :=
    if s.on F.LE_MADDR_SPACE e then
      if a < progSize e then
        (s.updEng e fun g => { g with prog := Store.set zeroMem g.prog a w }).setF F.LE_STAT_PROG_OK 0 e
      else s
    else if dataSize e ≤ a then s
    else if s.on F.LE_CTRL_RUN e then
      let s := s.updEng e fun g => { g with staged := g.staged ++ [(a, w)] }
      s.setF F.LE_MSTAT_PENDING (s.engine e).staged.length e
    else s.updEng e fun g => { g with data := Store.set zeroMem g.data a w }
  s.setF F.LE_MADDR_ADDR ((a + 1) % 8192) e

/-- A power hold starts or restarts on a register of axis a at its value (R269). -/
def holdStart (s : State) (a : Nat) (gen : Bool) (w : Word) : State :=
  let s := { s with lamp := { s.lamp with holds := upd s.lamp.holds a fun h =>
    if gen then (h.1, some s.tick) else (some s.tick, h.2) } }
  (s.wr (if gen then .AX_PL_HELD_GEN else .AX_PL_HELD) w a).setF F.AX_PL_HOLD_ACTIVE 1 a

/-- The power holds of axis a that a test names end (R270). -/
def holdEnd (s : State) (a : Nat) (ends : Nat → Bool) : State :=
  let h := nth s.lamp.holds a
  let keep := fun (o : Option Nat) => o.filter fun t => !ends t
  let h' := (keep h.1, keep h.2)
  ({ s with lamp := { s.lamp with holds := upd s.lamp.holds a fun _ => h' } }).setF F.AX_PL_HOLD_ACTIVE
    (b2n (h'.1.isSome || h'.2.isSome)) a

/-- The held value that binds a register, while its hold runs (R269). -/
def heldAt (s : State) (r : RegId) (i : Nat) : Option Word :=
  let h := nth s.lamp.holds i
  match r with
  | .AX_PLIM => h.1.map fun _ => s.rd .AX_PL_HELD i
  | .AX_PLIM_GEN => h.2.map fun _ => s.rd .AX_PL_HELD_GEN i
  | _ => none

/-- The motor identity becomes unconfirmed (R255). (log 51 DEDUCED) -/
def keUnconfirmed (s : State) (a : Nat) : State :=
  (s.setF F.OBS_STAT_KE_STATE 0 a).updOb a fun o => { o with identWrong := false }

/-- A write of MEASURE is carried out (R254): in RUN through a start catch, in DISABLED over a window with the gates off. (log 51 DEDUCED) -/
def measureKe (s : State) (a : Nat) : State :=
  if s.axSt a == aRUN then s.updOb a fun o => { o with keRun := true }
  else ((s.gridOn a).updAxis a fun x => { x with keMeas := true }).updOb a fun o => { o with
    entered := s.tick, catch_ := { Catch.init with began := s.tick } }

/-- A write of MER_SET_HI is carried out (R336). -/
def merSetWrite (s : State) : State :=
  let t := mk64 (s.rd .MER_SET_HI) (s.rd .MER_SET_LO)
  if s.fld F.MER_CFG_SRC == 0 then s.merSet t
  else ({ s with mer := { s.mer with set := some (t, s.tick) } }).setF F.MER_STAT_SET_PEND 1

/-- INIT changes (R362): 1 acts at the end of the attempt on the bus, 0 waits for 11 recessive bits. (log 93 DEDUCED) -/
def canInitWrite (s : State) (c : Nat) (on_ : Bool) : State :=
  if on_ then
    if (s.canR c).attempt.isSome then s.updCan c fun r => { r with initAsk := true, joinAsk := false }
    else (s.canStop c).updCan c fun r => { r with stopAt := if s.canOn c then some s.tick else none }
  else s.updCan c fun r => { r with initAsk := false, joinAsk := true }

/-- What a write does beside leaving its word in the register (`old` before, `new` as written): the effects that the rules of the
blocks give it. (log 37 DEDUCED; log 62 DEDUCED) -/
def effect (s : State) (r : RegId) (i : Nat) (q : Req) (old new : Word) : State :=
  let rose := fun (b : Nat) => bitOf new b && !bitOf old b
  let fell := fun (b : Nat) => !bitOf new b && bitOf old b
  match r with
  | .BR_COMMIT => let s := s.wr .BR_COMMIT 0 i; if bitOf new 0 then s.commit i else s
  | .AX_TUNE_COMMIT =>
    let s := s.wr .AX_TUNE_COMMIT 0 i
    if bitOf new 0 then s.updAxis i fun x => { x with tunePend := true } else s
  | .PWM_CTRL => s.forN 8 fun b s => if rose b then s.startBridge b else if fell b then (s.offSeq b).notRunning b else s
  | .LE_CTRL =>
    let s := s.setF F.LE_CTRL_CHECK 0 i
    let s := if bitOf new 1 then s.updEng i fun g => { g with checking := some s.tick } else s
    if rose 0 then (s.setF F.LE_CTRL_RUN 0 i).engineRun i else if fell 0 then s.engineOff i else s
  | .LE_MDATA => (s.wr .LE_MDATA 0 i).memWrite i new
  | .LE_MBX_OPTR | .LE_MBX_IPTR => s.moveMail i ⟨0, 0⟩
  | .LE_TASK_BUDGET => s.showBudget i
  | .EN_POS => s.preset i (new - old)
  | .EN_IDX_REF => s.showAngle i
  | .EN_CFG => if bitsOf old 4 0 != bitsOf new 4 0 then s.encRestart i else s
  | .EN_CPR | .EN_IDX_CFG | .EN_SSI_CFG | .EN_SSI_TIM => if old != new then s.encRestart i else s
  | .CMP_RANGE =>
    let s := if bitOf old 31 && old != new then s.cmpLeave i (bitsOf old 9 0) (bitsOf old 25 16) else s
    if !bitOf new 31 || old == new then s
    else if (s.setF F.CMP_RANGE_ARM 0 i).rangeOk i (bitsOf new 9 0) (bitsOf new 25 16) then
      { s with feed := { s.feed with cmp := upd s.feed.cmp i fun x => { x with spent := [] } } }
    else (s.setF F.CMP_RANGE_ARM 0 i).raiseF F.CMP_STAT_ARM_ERR
  | .H_CFG => if old != new then s.newHallCfg else s
  | .H_SECT_OFS => s.newHallOfs
  | .AX_PLIM =>
    let s := s.updAxis i fun x => { x with plims := (s.tick, old) :: x.plims.filter fun p => s.tick < p.1 + 2 }
    if q.who == .lamplighter then s.holdStart i false new else s
  | .AX_PLIM_GEN =>
    let s := s.updAxis i fun x => { x with pgens := (s.tick, old) :: x.pgens.filter fun p => s.tick < p.1 + 2 }
    if q.who == .lamplighter then s.holdStart i true new else s
  | .AX_PL_HOLD =>
    let s := s.setF F.AX_PL_HOLD_RELEASE 0 i
    if q.who.isHost && bitOf new 17 then s.holdEnd i fun _ => true else s
  | .AX_SP_HOST => if q.who.isHost && s.fld F.AX_CTRL_SRC i == 0 then s.updEm i fun e => { e with lastSp := s.tick } else s
  | .AX_CFG => (s.updAxis i fun x => { x with progLoaded := false }).limitSwitch i
  | .AX_SH_CFG =>
    if bitsOf old 15 8 == bitsOf new 15 8 && bitOf old 3 == bitOf new 3 then s
    else { s with share := upd s.share i fun (x : Share) => { x with remotes := [], used := [] } }
  | .CHOP_CFG =>
    let old := s.wr .CHOP_CFG old i
    (if bitOf new 31 && bitsOf new 5 0 == old.fld F.CHOP_CFG_CH i then s else (old.driveChop i false).wr .CHOP_CFG new i).judgeStanding
  | .GC_CFG => (s.dropWins i).judgeStanding
  | .BR_CFG | .BR_MAP0 | .BR_MAP1 | .BR_MAP2 => s.judgeStanding
  | .AX_KP_ID | .AX_KI_ID | .AX_KP_IQ | .AX_KI_IQ | .AX_KP_SPD | .AX_KI_SPD | .AX_KP_POS | .AX_KP_TEN | .AX_KI_TEN | .AX_KP_CIRC
  | .AX_KI_CIRC | .AX_KI_FW | .AX_SH_KS => if old == new then s else s.setF F.AX_STAT_TUNE_PEND 1 i
  | .SNS_GUARD => s.showGuard i
  | .SNS_CTRL => s.forN 16 fun c s =>
    if bitOf old (b2n (s.on F.SD_CFG_CLK c)) == bitOf new (b2n (s.on F.SD_CFG_CLK c)) then s else s.sdRestart c
  | .SD_CFG => if old == new then s else s.sdRestart i
  | .GATE_AUX_CFG => s.showWick
  | .ME_POS => if !q.rl then s else
    (s.updMe i fun m => { m with frac := 0 }).setF F.ME_STAT_UNCERTAIN 0 i
  | .OBS_KE_REF => s.keUnconfirmed i
  | .OBS_KE_CFG =>
    let s := s.setF F.OBS_KE_CFG_MEASURE 0 i
    let s := if bitOf new 0 && q.rl then s.keUnconfirmed i else s
    if bitOf new 1 then s.measureKe i else s
  | .MER_SET_HI => s.merSetWrite
  | .MER_CFG => if bitsOf new 1 0 == 0 && bitsOf old 1 0 != 0 then s.merFree else s
  | .CAN_CTRL => if rose 0 then s.canInitWrite i true else if fell 0 then s.canInitWrite i false else s
  | .CDL_CTRL => (if bitOf new 0 then { s with cdl := { s.cdl with rebase := true } } else s).setF F.CDL_CTRL_REBASE 0
  | .STR_CTRL => if fell 4 then s.capStop else s
  | .SYS_SPLIT => s.keep .SYS_SPLIT
  | _ => s

/-- The flags that a refusal of the word `new` by a block's rule leaves (R147, R367, R374). (log 41 DEDUCED) -/
def onRefused (s : State) (r : RegId) (i : Nat) (new : Word) : State :=
  match r with
  | .CMP_RANGE => s.raiseF F.CMP_STAT_ARM_ERR
  | .CMP_LIST => s.raiseF F.CMP_STAT_WRITE_REFUSED
  | .CAN_MB => s.raiseF F.CAN_STAT_WRITE_REFUSED (i / 1536)
  | .CAN_CTRL => if s.canInit i && !(s.wr .CAN_CTRL new i).ttOk i then s.raiseF F.CAN_STAT_TT_ERR i else s
  | _ => s

/-! ## Fabric errors and losses -/

/-- A refused writer receives the fabric error response (R113, R117, R199); a host command has a reply instead. -/
def errTo (s : State) (w : Writer) (addr : Nat) : State := if w.isHost then s else s.emit (.fabricErr w (wd addr))

/-- A refusal that sets a bit of FAB_ERR_STAT (R123), with its response. (log 30 DESIGN CHOICE) -/
def writeErr (s : State) (w : Writer) (flag : Fld) (addr : Nat) : State :=
  (if w.isHost then s else s.fabErr w.code? flag addr).errTo w addr

/-- DOMAIN of FAB_ARB_STAT: 0 FABRIC, 1 PWM; for a register of another domain not stated. (log 30 DESIGN CHOICE) -/
def arbDomain (s : State) (a : Nat) : Nat × State :=
  let b := a / 65536
  if (2 ≤ b && b ≤ 9) || b == 14 || (0xA1000 ≤ a && a < 0xA2000) then (1, s)
  else if b ≤ 1 || b == 12 || b == 13 || 15 ≤ b then (0, s)
  else s.freeBelow 2

/-- The counter of lost plain writes of a rank (R123). -/
def lossReg (s : State) (rank : Nat) : State := s.bump F.FAB_LOSS_COUNT (rank - 1)

/-- A write loses (R30, R124): a plain one is counted in its rank's FAB_LOSS_n. A loop or observer engine learns it by RT and RETRY
(R188), a motion engine by its retry flag, a core by the preempted indication of its fabric response; Lamplighter and a host command
have it in their status. (log 119 DEDUCED) -/
def lose (s : State) (q : Req) (addr : Nat) : State :=
  let s := if q.kind == .plain then s.lossReg q.who.rank else s
  match q.who with
  | .le n => ((s.updEng n fun g => { g with rt := true }).raiseF F.LE_STAT_RETRY n).bump F.LE_RETRY_CNT_COUNT n
  | .oe n => ((s.updEng (8 + n) fun g => { g with rt := true }).raiseF F.LE_STAT_RETRY (8 + n)).bump F.LE_RETRY_CNT_COUNT (8 + n)
  | .me n => s.updMe n fun m => { m with retry := true }
  | .pairA _ | .pairB _ => s.emit (.preempted q.who (wd addr))
  | _ => s

/-- A write has won or was merged: its engine's retry flag clears (R188). (log 119 DEDUCED) -/
def won (s : State) (w : Writer) : State :=
  match w with
  | .le n => s.updEng n fun g => { g with rt := false }
  | .oe n => s.updEng (8 + n) fun g => { g with rt := false }
  | .me n => s.updMe n fun m => { m with retry := false }
  | _ => s

/-- The first of two writers in rank and index. -/
def ahead (x y : Writer) : Bool := x.rank < y.rank || (x.rank == y.rank && x.index < y.index)

/-- The write of the highest-ranked writer (R30). (log 29 DEDUCED) -/
def topOf : List Req → Option Req
  | [] => none
  | q :: l => match topOf l with
    | none => some q
    | some t => if ahead t.who q.who then some t else some q

/-- A loser of this cycle that stands before a writer in rank and index is recorded already, at another register (R124). -/
def outranked (s : State) (w : Writer) : Bool :=
  let r := s.fld F.FAB_ARB_STAT_LOSER_RANK
  s.sys.arbAt == some s.tick && (r < w.rank || (r == w.rank && s.fld F.FAB_ARB_STAT_LOSER_INDEX ≤ w.index))

/-- A loser in FAB_ARB_STAT and FAB_ARB_ADDR with the rank that beat it (R123). -/
def recordLoser (s : State) (w : Writer) (winner addr : Nat) : State :=
  let (d, s) := { s with sys := { s.sys with arbAt := some s.tick } }.arbDomain addr
  let s := (s.setF F.FAB_ARB_STAT_LOSER_RANK w.rank).setF F.FAB_ARB_STAT_WINNER_RANK winner
  ((s.setF F.FAB_ARB_STAT_LOSER_INDEX w.index).setF F.FAB_ARB_STAT_DOMAIN d).wr .FAB_ARB_ADDR (wd addr)

/-- The losers at a register are recorded: each in its counter, the highest-ranked of the cycle in FAB_ARB_STAT (R124). -/
def recordLosses (s : State) (losers : List Req) (winner : Req → Nat) (addr : Nat) : State :=
  match topOf losers with
  | none => s
  | some t =>
    let s := if s.outranked t.who then s else s.recordLoser t.who (winner t) addr
    s.forL losers fun q s => s.lose q addr

/-! ## One write -/

/-- The requests of a write to a CAN request register: what it sets and clears. -/
def txWrite (s : State) (r : RegId) (i : Nat) (sets clrs : Word) : State := s.txReqs i (r == .CAN_TXREQ_HI) sets clrs

/-- The audit record of a write that changes an RL field; a write of ME_POS has its own event (R319, R451). (log 34 DEDUCED; log 35 DEDUCED) -/
def auditRl (s : State) (by_ : Option By) (r : RegId) (i : Nat) (old new : Word) : State :=
  match by_ with
  | none => s
  | some b =>
    if r == .ME_POS then s.audit b 0x000F (wd i) old new
    else if (old ^^^ new) &&& rlMask r == 0 then s
    else s.audit b 0x0001 (wd (r.addr i)) old new

/-- A register whose words close as a whole, whatever is written (R147, R367): that refusal comes before one of the value (R117). -/
def wordRule (r : RegId) : Bool := r == .CMP_LIST || r == .CAN_MB

/-- A write that has won is checked and applied (R31, R115 to R117, R119): the ranges, the block's rule, the envelope, then the
register, its audit record and its effects. `v` is the word that a plain write would carry; sets and clrs are the bits it sets and
clears. -/
def applyWrite (s : State) (r : RegId) (i : Nat) (q : Req) (v sets clrs hwSet : Word) (opt : WOpt) : State × Verdict :=
  let old := s.rd r i
  let addr := aliasAddr q.kind (r.addr i)
  if r == .CAN_TXREQ_LO || r == .CAN_TXREQ_HI then (s.txWrite r i sets clrs, .applied false)
  else
    let s := if q.who.inside && !q.rl && (v ^^^ old) &&& rlMask r != 0 then s.fabErr q.who.code? F.FAB_ERR_STAT_RL_DENY addr else s
    let new := s.compose r i q.who q.rl v
    let closed := s.changeRule r i q new
    if s.badValue r i q new && !(wordRule r && closed.isSome) then
      (s.writeErr q.who F.FAB_ERR_STAT_BAD_VALUE addr, .refused (ans cBAD_PARAM))
    else match closed with
      | some a => ((s.onRefused r i new).errTo q.who addr, .refused a)
      | none =>
        let beyond := s.beyondEnv r i new
        if beyond && q.who.isHost && !opt.clip then (s, .refused (ans cOUT_OF_ENVELOPE opt.word))
        else
          let s := if beyond then s.markClip r i else s
          let new := if beyond then s.clipEnv r i new else new
          let held := new ||| (hwSet &&& w1cMask r)
          let s := (s.wr r held i).auditRl (if q.rl then opt.by_ else none) r i old held
          (s.effect r i q old new, .applied beyond)

/-! ## One cycle (R29 to R34) -/

/-- The bits that alias writes set and clear together (R33): a bit that any writer clears is cleared. (log 29 DEDUCED) -/
def merged (l : List Req) : Word × Word :=
  let sets := (l.filter fun q => q.kind == .set).foldl (fun w q => w ||| q.value) 0
  let clrs := (l.filter fun q => q.kind == .clr).foldl (fun w q => w ||| q.value) 0
  (sets &&& ~~~clrs, clrs)

/-- The writes of one cycle meet at a register: writes above a power hold are set aside (R269), the highest-ranked writer decides the
kind, one plain write or the merged alias writes apply, the others lose. The verdicts stand in the order of the writes. -/
def meet (s : State) (r : RegId) (i : Nat) (l : List Req) (hwSet : Word) (opt : WOpt) : State × List Verdict :=
  let addr := r.addr i
  let aside := fun (q : Req) => match s.heldAt r i with
    | some h => q.kind == .plain && 3 ≤ q.who.rank && h.toInt < q.value.toInt
    | none => false
  let left := l.filter fun q => !aside q
  match topOf left with
  | none => ((s.recordLosses l (fun _ => 2) addr).wr r (s.rd r i ||| (hwSet &&& w1cMask r)) i, l.map fun _ => .lost)
  | some top =>
    let old := s.rd r i
    let plain := top.kind == .plain
    let wins := fun (q : Req) => !aside q && (if plain then q == top else q.kind != .plain)
    let s := s.recordLosses (l.filter fun q => !wins q) (fun q => if aside q then 2 else top.who.rank) addr
    let (sets, clrs) := if plain then (top.value, ~~~top.value) else merged (left.filter wins)
    let v := if plain then top.value else (old ||| sets) &&& ~~~clrs
    let (s, verdict) := s.applyWrite r i top v sets clrs hwSet opt
    ((left.filter wins).foldl (fun s q => s.won q.who) s, l.map fun q => if wins q then verdict else .lost)

/-! ## What the interpreter and the fabric check first -/

/-- A write is refused before it reaches the register (R32, R113, R115): both alias bits, an alias of a register without aliases, a
register with nothing the role may write, a change of an RL field by an operator; the rule of SYS_SPLIT refuses every other writer
than an installer or maker with BUSY (R122). The address reported is the one accessed. (log 31 DEDUCED; log 119 DEDUCED) -/
def early (s : State) (r : RegId) (i : Nat) (q : Req) : State × Option Answer :=
  let addr := aliasAddr q.kind (r.addr i)
  if q.kind == .both then (s.writeErr q.who F.FAB_ERR_STAT_ALIAS_BOTH addr, badParam)
  else if q.kind != .plain && !r.setClr then (s.writeErr q.who F.FAB_ERR_STAT_UNMAPPED addr, badParam)
  else if !q.who.isHost then (s, none)
  else if r == .SYS_SPLIT && !q.rl then (s, busyState)
  else if !writable r q.rl then (s, if rlMask r != 0 then some (ans cDENIED_ROLE) else badParam)
  else if !q.rl && q.kind == .plain && (q.value ^^^ s.rd r i) &&& rlMask r != 0 then (s, some (ans cDENIED_ROLE))
  else (s, none)

/-- How often the fabric transfer of a write failed: only transfers over the fabric have parity (R24). (log 31 DEDUCED) -/
def failsOf (w : Write) : Nat := if w.who.code?.isSome then w.fails else 0

/-- Writes to one register that leave in one cycle: those whose transfer failed arrive later, 4 FABRIC cycles for each replay, and are
arbitrated in the cycle in which they arrive (R25). Writes are given with their rights; the verdicts stand in their order. (log 29 DEDUCED; log 31 DEDUCED) -/
def cycle (s : State) (r : RegId) (i : Nat) (l : List (Req × Nat)) (hwSet : Word) (opt : WOpt) : State × List Verdict :=
  let t0 := s.tick
  let pre := l.foldl (fun (p : State × List (Option Answer)) (x : Req × Nat) =>
    let s := p.1.replays x.1.who.code? (aliasAddr x.1.kind (r.addr i)) x.2
    if 4 ≤ x.2 then (s, p.2 ++ [some (ans cINTERNAL 0x7020)])
    else let e := s.early r i x.1; (e.1, p.2 ++ [e.2])) (s, [])
  let items := (upTo l.length).map fun j => (j, nth l j, nth pre.2 j)
  let start : List Verdict := items.map fun x => match x.2.2 with | some a => .refused a | none => .lost
  (upTo 4).foldl (fun (p : State × List Verdict) k =>
    let now := items.filter fun x => x.2.2.isNone && x.2.1.2 == k
    if now.isEmpty && k != 0 then p
    else
      let s := if k == 0 then p.1 else p.1.elapseTo (t0 + 4 * k)
      let m := s.meet r i (now.map fun x => x.2.1.1) (if k == 0 then hwSet else 0) opt
      (m.1, (upTo now.length).foldl (fun vs j => vs.set (nth now j).1 (nth m.2 j)) p.2)) (pre.1, start)

/-- The writes of an operand to a register of a row of its own. (log 29 DEDUCED) -/
def cycleAt (s : State) (r : RegId) (i : Nat) (c : WCycle) : State :=
  let s := s.elapse c.dt
  let role := (c.ws.filterMap fun w => match w.who with | .host r => some r | _ => none).head?
  (s.cycle r i (c.ws.map fun w => (reqOf w, failsOf w)) c.hwSet ⟨role.map byRole, false, 1⟩).1

end State

end Sys2Proof.Machine
end

