-- ==== Sys2Proof/Machine/Access.lean ====
section
/-!
DEFINITION. Machine/Access.lean: reads with their effects, what an address names for an access, and the commands that are register
accesses (R32, R111 to R119, R123, R188, R201, R203, R365).
-/

namespace Sys2Proof.Machine

/-- What an access finds at an address: a place with the kind of the address, or the FAB_ERR_STAT bit of its refusal. -/
inductive Found_ where
  | at_ (p : Place) (k : WKind)
  | bad (f : Fld)
  deriving DecidableEq, Repr, Inhabited

/-- What an address names (R32, R113). The alias addresses that R113 counts as unmapped are those of registers: a word of the Timed Action
Table or of the NV window is found at its aliases too, where a read returns it and a write is refused (R112). (log 121 DESIGN CHOICE) -/
def locate (a : Word) : Found_ :=
  let k := aliasOf a
  if a.toNat % 4 != 0 then .bad F.FAB_ERR_STAT_MISALIGNED
  else if k == .both then .bad F.FAB_ERR_STAT_ALIAS_BOTH
  else match placeAt (baseOf a) with
    | none => .bad F.FAB_ERR_STAT_UNMAPPED
    | some (.reg r i) => if k != .plain && !r.setClr then .bad F.FAB_ERR_STAT_UNMAPPED else .at_ (.reg r i) k
    | some p => .at_ p k

/-- The upper half of a register pair (R118), as an index offset within the same register for a CAN buffer. -/
def highOf (r : RegId) (i : Nat) : Option (RegId × Nat) :=
  match r with
  | .CAN_TXREQ_LO => some (.CAN_TXREQ_HI, i) | .CDL_LAST_TIME_LO => some (.CDL_LAST_TIME_HI, i)
  | .CMP_LAST_TIME_LO => some (.CMP_LAST_TIME_HI, i) | .GATE_FLT_MASK_LO => some (.GATE_FLT_MASK_HI, i)
  | .GATE_FLT_TIME_LO => some (.GATE_FLT_TIME_HI, i) | .LAMP_NEXT_LO => some (.LAMP_NEXT_HI, i)
  | .MER_GM_ID_LO => some (.MER_GM_ID_HI, i) | .MER_SET_LO => some (.MER_SET_HI, i)
  | .MER_TIME_LO => some (.MER_TIME_HI, i) | .SYS_SERIAL_LO => some (.SYS_SERIAL_HI, i)
  | .CAN_MB => if i % 24 == 2 then some (.CAN_MB, i + 1) else none
  | _ => none

/-- The initiator code of R123; an engine has none. -/
def initCode : Initiator → Option Nat
  | .pairA => some 0 | .pairB => some 1 | .interp => some 2 | .ethMover => some 3 | .canMover => some 4 | .mailboxes => some 5
  | .engine _ => none

namespace State

/-! ## Reads -/

/-- The latches change. -/
def setLatches (s : State) (l : List Latch) : State := { s with hst := { s.hst with latches := l } }

/-- A lock on a receive buffer ends (R365, R366): by a read of LASTW it clears FULL; a frame lost meanwhile sets MSG_LOST. -/
def unlockMb (s : State) (c k : Nat) (read : Bool) : State :=
  let s := s.setMb0 c k 3 3 0
  let s := if read then s.setMb0 c k 2 2 0 else s
  let s := if (s.canR c).lostWait.contains k then s.setMb0 c k 4 4 1 else s
  s.updCan c fun r => { r with locks := r.locks.set k none, lostWait := r.lostWait.filter (· != k) }

/-- What a read of a CAN buffer word does to the lock of a receive buffer (R365). (log 42 DEDUCED) -/
def mbRead (s : State) (c k w : Nat) : State :=
  if s.mbCode c k != 1 then s
  else if w == 0 then
    if s.mb0 c k 2 2 == 1 && !s.mbLocked c k then
      (s.setMb0 c k 3 3 1).updCan c fun r => { r with locks := r.locks.set k (some s.tick) }
    else s
  else if w == s.mb0 c k 28 24 && s.mbLocked c k then s.unlockMb c k true
  else s

/-- The engine memory word at LE_MADDR is read (R203); beyond the memory nothing is stated. (log 36 DEDUCED) -/
def memRead (s : State) (e : Nat) : Word × State :=
  let a := s.fld F.LE_MADDR_ADDR e
  let prog := s.on F.LE_MADDR_SPACE e
  let (v, s) :=
    if a < (if prog then progSize e else dataSize e) then
      (Store.get zeroMem (if prog then (s.engine e).prog else (s.engine e).data) a, s)
    else s.freeWord
  (v, s.setF F.LE_MADDR_ADDR ((a + 1) % 8192) e)

/-- The register with its RC fields cleared (R3). (log 42 DEDUCED) -/
def clearRc (s : State) (r : RegId) (i : Nat) : State :=
  let m := r.fields.foldl (fun w f => if f.acc == .rc then w ||| maskOf f.hi f.lo else w) 0
  if m == 0 then s else s.wr r (s.rd r i &&& ~~~m) i

/-- A read of a register by an initiator (R3, R118, R365): its value, and the state after the effects of reading it. (log 42 DEDUCED) -/
def readReg (s : State) (by_ : Initiator) (r : RegId) (i : Nat) : Word × State :=
  if r == .LE_MDATA then s.memRead i
  else
    let addr := r.addr i
    match s.hst.latches.find? fun l => l.by_ == by_ && l.addr == addr with
    | some l => (l.value, s.setLatches (s.hst.latches.filter fun x => !(x.by_ == by_ && x.addr == addr)))
    | none =>
      let v := s.view r i
      let s := match highOf r i with
        | some (h, j) =>
          let a := h.addr j
          s.setLatches (⟨by_, a, s.view h j⟩ :: s.hst.latches.filter fun x => !(x.by_ == by_ && x.addr == a))
        | none => s
      let s := if r == .CAN_MB then s.mbRead (i / 1536) (i / 24 % 64) (i % 24) else s
      (v, s.clearRc r i)

/-- A word of the NV store below the logs (R445, R446, R497): the content of the boot record and of the Candle region is not specified. (log 105 DEDUCED) -/
def nvWord (s : State) (w : Nat) : Word × State :=
  if w < 0x400 || (0x10000 ≤ w && w < 0x20000) then s.freeWord else (Store.get zeroMem s.nv.mem w, s)

/-- A read at a place. -/
def readPlace (s : State) (by_ : Initiator) : Place → Word × State
  | .reg r i => s.readReg by_ r i
  | .tat w => (Store.get zeroMem s.lamp.tat w, s)
  | .nv w => s.nvWord w

/-- A refused read (R113): a fabric error with its response; the interpreter's command has a reply instead. -/
def readErr (s : State) (by_ : Initiator) (f : Fld) (a : Word) : State :=
  if by_ == .interp then s else (s.fabErr (initCode by_) f a.toNat).emit (.readErr by_ a)

/-- A read at an address: none where it is refused (R113), which an initiator other than the interpreter sees as a fabric error. -/
def readAddr (s : State) (by_ : Initiator) (a : Word) : Option Word × State :=
  match locate a with
  | .at_ p _ => let (v, s) := s.readPlace by_ p; (some v, s)
  | .bad f => (none, s.readErr by_ f a)

/-- A read over the fabric at an address comes through after its replays, or not at all (R24, R25). -/
def fetch (s : State) (q : Rd) (a : Nat) : State × Bool := s.transfer (initCode q.by_) a q.fails

/-- A read of a register by an initiator over the fabric (R24): where the transfer fails for good it has no effect. -/
def readOver (s : State) (q : Rd) (r : RegId) (i : Nat) : State :=
  let (s, came) := s.fetch q (r.addr i)
  if came then (s.readReg q.by_ r i).2 else s

/-! ## Writes at an address -/

/-- Writes of one cycle at an address (R112, R113): each is refused where the address names no register that takes register writes. -/
def writeAddr (s : State) (a : Word) (l : List (Req × Nat)) (hwSet : Word) (opt : WOpt) : State × List Verdict :=
  let base := wd (baseOf a)
  let refuse := fun (f : Fld) =>
    (s.forL l fun x s =>
      s.writeErr x.1.who (if x.1.kind == .both && f != F.FAB_ERR_STAT_MISALIGNED then F.FAB_ERR_STAT_ALIAS_BOTH else f) a.toNat,
      l.map fun _ => Verdict.refused (ans cBAD_PARAM))
  match locate base with
  | .bad f => refuse f
  | .at_ (.reg r i) _ => s.cycle r i l hwSet opt
  | .at_ _ _ => refuse F.FAB_ERR_STAT_RO_WINDOW

end State

/-! ## Meanings -/

/-- REGISTER_WRITE (R30): the writes that reach the register at an address in one cycle, each of its own kind. -/
def execRegisterWrite (addr : Word) (c : WCycle) (s : State) : Host.Outcome State Fault Refusal :=
  let s := s.elapse c.dt
  let role := (c.ws.filterMap fun w => match w.who with | .host r => some r | _ => none).head?
  endWith (s.writeAddr addr (c.ws.map fun w => (reqOf w, State.failsOf w)) c.hwSet ⟨role.map byRole, false, 1⟩).1

/-- RC_COUNTER_READ (R119): each initiator receives the value, the RC fields clear once and then hold what the hardware counts in each of
them in the same cycle (`hwInc`, in the order of the fields; in GATE_RT_MAX the greatest time it measures). -/
def execRcCounterRead (dt : Nat) (addr : Word) (by_ : List Rd) (hwInc : List Nat) (s : State) :
    Host.Outcome State Fault Refusal :=
  let s := s.elapse dt
  let s := by_.foldl (fun s q => if q.fails == 0 then s else (s.fetch q addr.toNat).1) s
  let came := (by_.filter fun q => q.fails < 4).map fun q => q.by_
  match locate addr with
  | .at_ (.reg r i) _ =>
    let s := if came.isEmpty then s else (s.readReg (came.headD .interp) r i).2
    let rcs := r.fields.filter fun f => f.acc == .rc
    endWith (s.forN rcs.length fun k s =>
      let f := nth rcs k
      let n := if r == .GATE_RT_MAX then max (s.fld f i) (nth hwInc k) else s.fld f i + nth hwInc k
      s.setF f (min n (2 ^ (f.hi + 1 - f.lo) - 1)) i)
  | .at_ _ _ => endWith s
  | .bad f => endWith (s.forL came fun b s => s.readErr b f addr)

/-- PAIR_LO_READ (R118): the upper half is latched for the initiator. -/
def execPairLoRead (dt : Nat) (addr : Word) (by_ : Rd) (s : State) : Host.Outcome State Fault Refusal :=
  let (s, came) := (s.elapse dt).fetch by_ addr.toNat
  endWith (if came then (s.readAddr by_.by_ addr).2 else s)

/-- BR_COMMIT (R158). -/
def execBrCommit (b : Fin 8) (c : WCycle) (s : State) : Host.Outcome State Fault Refusal := endWith (s.cycleAt .BR_COMMIT b c)

/-- AX_TUNE_COMMIT (R226). -/
def execAxTuneCommit (a : Fin 4) (c : WCycle) (s : State) : Host.Outcome State Fault Refusal :=
  endWith (s.cycleAt .AX_TUNE_COMMIT a c)

/-- PWM_CTRL_RUN_WRITE (R153, R177). -/
def execPwmCtrlRunWrite (c : WCycle) (s : State) : Host.Outcome State Fault Refusal := endWith (s.cycleAt .PWM_CTRL 0 c)

/-- LE_CTRL_CHECK (R192): the static check starts. -/
def execLeCtrlCheck (e : Fin 10) (c : WCycle) (s : State) : Host.Outcome State Fault Refusal := endWith (s.cycleAt .LE_CTRL e c)

/-- LE_CTRL_RUN_WRITE (R197, R199): setting RUN runs the schedule check, clearing it stops the engine. -/
def execLeCtrlRunWrite (e : Fin 10) (c : WCycle) (s : State) : Host.Outcome State Fault Refusal :=
  endWith (s.cycleAt .LE_CTRL e.val c)

/-- LE_MDATA_ACCESS (R203). -/
def execLeMdataAccess (e : Fin 10) (dt : Nat) (access : MAccess) (s : State) : Host.Outcome State Fault Refusal :=
  let s := s.elapse dt
  match access with
  | .read by_ => endWith (s.readOver by_ .LE_MDATA e)
  | .write ws => endWith (s.cycleAt .LE_MDATA e ⟨0, ws, 0⟩)

/-- EN_POS_WRITE (R132). -/
def execEnPosWrite (ch : Fin 4) (c : WCycle) (s : State) : Host.Outcome State Fault Refusal := endWith (s.cycleAt .EN_POS ch c)

/-- EN_CFG_CHANGE (R126): a write to a mode or setup register of an encoder channel. (log 72 DEDUCED) -/
def execEnCfgChange (ch : Fin 4) (reg : EnSetup) (c : WCycle) (s : State) : Host.Outcome State Fault Refusal :=
  let r : RegId := match reg with
    | .cfg => .EN_CFG | .cpr => .EN_CPR | .idxCfg => .EN_IDX_CFG | .ssiCfg => .EN_SSI_CFG | .ssiTim => .EN_SSI_TIM
  endWith (s.cycleAt r ch c)

/-- CMP_RANGE_ARM (R147). -/
def execCmpRangeArm (ch : Fin 4) (c : WCycle) (s : State) : Host.Outcome State Fault Refusal := endWith (s.cycleAt .CMP_RANGE ch c)

/-- SYS_UNIT_WRITE (R121). -/
def execSysUnitWrite (c : WCycle) (s : State) : Host.Outcome State Fault Refusal := endWith (s.cycleAt .SYS_UNIT 0 c)

/-- SYS_SPLIT_WRITE (R122). -/
def execSysSplitWrite (c : WCycle) (s : State) : Host.Outcome State Fault Refusal := endWith (s.cycleAt .SYS_SPLIT 0 c)

/-- AX_T_LOAD_WRITE (R493): the axis's observer engine writes; a write of any other writer changes nothing. (log 52 DESIGN CHOICE) -/
def execAxTLoadWrite (a : Fin 4) (c : WCycle) (s : State) : Host.Outcome State Fault Refusal := endWith (s.cycleAt .AX_T_LOAD a c)

/-- AX_PL_HOLD_RELEASE (R270). -/
def execAxPlHoldRelease (a : Fin 4) (c : WCycle) (s : State) : Host.Outcome State Fault Refusal :=
  endWith (s.cycleAt .AX_PL_HOLD a c)

/-- OBS_KE_MEASURE (R254). -/
def execObsKeMeasure (a : Fin 4) (c : WCycle) (s : State) : Host.Outcome State Fault Refusal := endWith (s.cycleAt .OBS_KE_CFG a c)

/-- OBS_KE_REF_WRITE (R255): a write to OBS_KE_REF, or to OBS_KE_CFG with COMMISSION. -/
def execObsKeRefWrite (a : Fin 4) (c : WCycle) (commission : Bool) (s : State) : Host.Outcome State Fault Refusal :=
  endWith (s.cycleAt (if commission then .OBS_KE_CFG else .OBS_KE_REF) a c)

/-- ME_POS_WRITE (R319). -/
def execMePosWrite (me : Fin 2) (c : WCycle) (s : State) : Host.Outcome State Fault Refusal := endWith (s.cycleAt .ME_POS me c)

/-- MER_SET_HI_WRITE (R336). -/
def execMerSetHiWrite (c : WCycle) (s : State) : Host.Outcome State Fault Refusal := endWith (s.cycleAt .MER_SET_HI 0 c)

/-- CDL_REBASE_WRITE (R457). -/
def execCdlRebaseWrite (c : WCycle) (s : State) : Host.Outcome State Fault Refusal := endWith (s.cycleAt .CDL_CTRL 0 c)

/-- LAN_SBC_REQ_WRITE (R425). -/
def execLanSbcReqWrite (c : WCycle) (s : State) : Host.Outcome State Fault Refusal := endWith (s.cycleAt .LAN_SBC 0 c)

/-- FIO_DO_WRITE (R400). -/
def execFioDoWrite (c : WCycle) (s : State) : Host.Outcome State Fault Refusal := endWith (s.cycleAt .FIO_DO 0 c)

/-- CAN_INIT_WRITE (R362). -/
def execCanInitWrite (can : Fin 2) (c : WCycle) (s : State) : Host.Outcome State Fault Refusal := endWith (s.cycleAt .CAN_CTRL can c)

/-- CAN_TXREQ_SET (R368). -/
def execCanTxreqSet (can : Fin 2) (hi : Bool) (c : WCycle) (s : State) : Host.Outcome State Fault Refusal :=
  endWith (s.cycleAt (if hi then .CAN_TXREQ_HI else .CAN_TXREQ_LO) can c)

/-- CAN_TX_CANCEL (R368, R371). -/
def execCanTxCancel (can : Fin 2) (hi : Bool) (c : WCycle) (s : State) : Host.Outcome State Fault Refusal :=
  endWith (s.cycleAt (if hi then RegId.CAN_TXREQ_HI else RegId.CAN_TXREQ_LO) can c)

/-- CAN_MB_WORD0_READ (R365). -/
def execCanMbWord0Read (can : Fin 2) (mb : Fin 64) (dt : Nat) (by_ : Rd) (s : State) :
    Host.Outcome State Fault Refusal :=
  endWith ((s.elapse dt).readOver by_ .CAN_MB (State.mbIx can mb 0))

/-- CAN_MB_LASTW_READ (R365): a read of the word that LASTW names. -/
def execCanMbLastwRead (can : Fin 2) (mb : Fin 64) (dt : Nat) (by_ : Rd) (s : State) :
    Host.Outcome State Fault Refusal :=
  let s := s.elapse dt
  endWith (s.readOver by_ .CAN_MB (State.mbIx can mb (s.mb0 can mb 28 24 % 24)))

/-- CAN_LOCK_TIMEOUT (R365): a lock held for 1 ms ends without clearing FULL. -/
def execCanLockTimeout (can : Fin 2) (mb : Fin 64) (s : State) : Host.Outcome State Fault Refusal :=
  match nth (s.canR can).locks mb with
  | none => endWith s
  | some t => endWith (((s.elapseTo (t + ticksPerMs)).unlockMb can mb false).bump F.CAN_LOCK_TMO_COUNT can)

/-- CAN_INIT_RELEASE_DONE (R362): 11 recessive bits have passed after INIT 0; the controller joins with its error counters at zero. -/
def execCanInitReleaseDone (can : Fin 2) (dt : Nat) (s : State) : Host.Outcome State Fault Refusal :=
  let s := s.elapse dt
  if !(s.canR can).joinAsk then endWith s
  else endWith (s.canJoin can)

/-- The blocks an IN may read (R201): bits 19 to 16 of the base address. -/
def inBlocks : List Nat := [2, 3, 4, 5, 6, 7, 8, 9, 14]

/-- The blocks an OUT may write (R201). -/
def outBlocks : List Nat := [2, 3, 5, 6, 8, 9]

/-- IN (R186, R201): xD is the register at xA + 4·OFF; outside the permitted blocks it is exception 2. A refused address leaves the
value unstated. (log 38 DESIGN CHOICE) -/
def execInReg (u : Issue) (d a : Fin 16) (off : Fin 16384) (s : State) : Host.Outcome State Fault Refusal :=
  endWith (s.issue u 3 fun s =>
    let addr := s.xReg u.e a + wd (4 * off)
    if !inBlocks.contains (baseOf addr / 65536) then s.exception u.e 2
    else match s.readAddr (.engine u.e) addr with
      | (some v, s) => s.resultW u.e d v
      | (none, s) => let (v, s) := s.freeWord; s.resultW u.e d v)

/-- OUT (R188, R201): the register at xA + 4·OFF is written, plainly or through an alias, and meets the writes of others in the same
tick; outside the permitted blocks it is exception 3. The outcome is known 3 cycles later. (log 38 DESIGN CHOICE) -/
def execOutReg (u : Issue) (d a : Fin 16) (off : Fin 16384) (rivals : List Write) (s : State) :
    Host.Outcome State Fault Refusal :=
  endWith (s.issue u 1 fun s =>
    let e := u.e.val
    let addr := s.xReg e a + wd (4 * off)
    if !outBlocks.contains (baseOf addr / 65536) then s.exception e 3
    else
      let s := s.updEng e fun g => { g with outAt := s.tick + 3 }
      let who : Writer := if h : e < 8 then .le ⟨e, h⟩ else .oe ⟨(e - 8) % 2, Nat.mod_lt _ (by decide)⟩
      match locate addr with
      | .bad f => s.writeErr who f addr.toNat
      | .at_ _ k =>
        (s.writeAddr addr (((⟨who, false, k, s.xReg e d⟩ : Req), 0) :: rivals.map fun w => (reqOf w, State.failsOf w)) 0
          ⟨none, false, 1⟩).1)

end Sys2Proof.Machine
end

