-- ==== Sys2Proof/Machine/Launch.lean ====
section
/-!
DEFINITION. Machine/Launch.lean: the checks of a post, the launches, and what becomes of entries and power holds with time (R269, R270,
R339 to R345, R351).
-/

namespace Sys2Proof.Machine

namespace State

/-- Ticks until the PWM copy is at or after a launch time (R342); negative when it has passed. -/
def ticksTo (s : State) (launch : Nat) : Int := ((launch : Int) - s.pwmTime.toNat + 4) / 5

/-! ## Posts (R341) -/

/-- A reserved bit of the words is not 0, or SRC_EPOCH of a host post: the first such word. -/
def postReserved (ws : List Word) : Option Nat :=
  if nth ws 4 &&& 0xFFFFFFCF != 0 then some 4
  else if bitsOf (nth ws 6) 15 0 == 0xFFFF && bitsOf (nth ws 6) 31 16 != 0 then some 6
  else if nth ws 7 != 0 then some 7 else none

/-- ADDRESS of a post is one that Lamplighter may write, and a register write of the role would be accepted there. -/
def postAddress (s : State) (ws : List Word) (role : Role) : Option Answer :=
  match locate (nth ws 2) with
  | .at_ (.reg r i) k =>
    if [2, 3, 5, 6, 9].contains (r.addr i / 65536) || r == .LAMP_SYNC then
      (s.early r i ⟨.host role, role.mayRl, k, nth ws 3⟩).2.map fun a =>
        if a.status == cBAD_PARAM then ans cBAD_PARAM 2 else a
    else some (ans cBAD_PARAM 2)
  | _ => some (ans cBAD_PARAM 2)

/-- SRC_UNIT of a post is this host, or a live role at its epoch. -/
def postSource (s : State) (ws : List Word) : Option Answer :=
  let w := nth ws 6
  if bitsOf w 15 0 == 0xFFFF then none
  else match s.peer (bitsOf w 15 0) with
    | some p =>
      if !p.live then some (ans cNOT_MEMBER)
      else if p.epoch.toNat == bitsOf w 31 16 then none else some (ans cSTALE_EPOCH p.epoch.toNat)
    | none => some (ans cNOT_MEMBER)

/-- A post of eight words by a role: the index it takes, or its refusal. -/
def post (s : State) (ws : List Word) (role : Role) : Answer × State :=
  let launch := (mk64 (nth ws 1) (nth ws 0)).toNat
  match postReserved ws, s.postAddress ws role, s.postSource ws with
  | some k, _, _ => (ans cBAD_PARAM k, s)
  | none, some a, _ => (a, s)
  | none, none, some a => (a, s)
  | none, none, none =>
    if launch < s.meridian.toNat + 1000 * s.fld F.LAMP_CFG_LEAD then (ans cLAUNCH_IN_PAST, s)
    else match s.tatFree with
      | none => (ans cTABLE_FULL, s)
      | some i =>
        let same := s.tatPending.filter fun j => s.ticksTo (s.tatLaunch j) == s.ticksTo launch
        if 32 ≤ same.length then (ans cTABLE_FULL 1, s)
        else
          let image := ws.take 7 ++ [0x80000001]
          let s := s.forN 8 fun k s => s.setTat i k (nth image k)
          let s := { s with lamp := { s.lamp with posters := (i, role) :: s.lamp.posters } }
          (ok [wd i], s.showLamp)

/-! ## Launches (R342, R343, R345) -/

/-- The role whose rights an entry's write has. (log 34 DEDUCED) -/
def posterRole (s : State) (i : Nat) : Role :=
  match s.lamp.posters.find? fun d => d.1 == i with | some d => d.2 | none => .operator

/-- The write of an entry. -/
def entryReq (s : State) (i : Nat) : Req :=
  ⟨.lamplighter, (s.posterRole i).mayRl, aliasOf (s.tatWord i 2), s.tatWord i 3⟩

/-- A launched entry's status from what became of its write; CLIPPED is set with the status. -/
def entryEnd (s : State) (i st : Nat) : Verdict → State
  | .applied clipped =>
    let s := if clipped then s.setTat i 7 (s.tatWord i 7 ||| 0x10) else s
    s.tatFinal i st
  | .lost => s.tatFinal i tPREEMPTED
  | .refused _ => s.tatFinal i tREFUSED

/-- The entries of one tick that target one register launch (R343): the lowest index decides the kind; a plain write applies alone, alias
writes merge, and the entries left out are PREEMPTED. `rivals` are the writes of others to that register. (log 88 DEDUCED) -/
def launchGroup (s : State) (addr : Word) (l : List Nat) (st : Nat → Nat) (rivals : List Write) : State :=
  match l with
  | [] => s
  | first :: _ =>
    let plain := (s.entryReq first).kind == .plain
    let wins := if plain then [first] else l.filter fun i => (s.entryReq i).kind != .plain
    let out := l.filter fun i => !wins.contains i
    let reqs := wins.map fun i => (s.entryReq i, 0)
    let (s, vs) := s.writeAddr addr (reqs ++ rivals.map fun w => (reqOf w, failsOf w)) 0 ⟨none, false, 1⟩
    let s := s.forN wins.length fun j s => s.entryEnd (nth wins j) (st (nth wins j)) (nth vs j)
    let s := if out.isEmpty then s else s.recordLosses (out.map s.entryReq) (fun _ => 2) (baseOf addr)
    s.forL out fun i s => s.tatFinal i tPREEMPTED

/-- Entries launch in this tick, given in rising order of index and each with the status it takes: the epoch fence and the conditions of a launch are judged first (R345, R356),
then the registers are written. -/
def launchAll (s : State) (l : List Nat) (st : Nat → Nat) (rivals : List (Word × Write)) : State :=
  let stale := l.filter s.tatStale
  let held := l.filter fun i => !s.tatStale i && (s.refusing || s.lockUnmet i)
  let go := l.filter fun i => !s.tatStale i && !s.refusing && !s.lockUnmet i
  let s := s.forL stale fun i s => s.tatFinal i tSTALE
  let s := s.forL held fun i s => s.tatFinal i tWITHHELD
  let addrs := (go.map fun i => baseOf (s.tatWord i 2)).eraseDups
  s.forL addrs fun a s =>
    s.launchGroup (wd a) (go.filter fun i => baseOf (s.tatWord i 2) == a) st
      ((rivals.filter fun r => baseOf r.1 == a).map fun r => r.2)

/-- The axes that an unreadable entry stops (R27): the one its ADDRESS belongs to, else every axis that is not DISABLED. -/
def lostAxes (s : State) (i : Nat) (addrLost : Bool) : List Nat :=
  let all := (upTo 4).filter fun a => s.axSt a != aDISABLED
  let ofBridge := fun (b : Nat) => if s.on F.BR_CFG_TYPE b then [s.fld F.BR_CFG_AXIS b] else all
  if addrLost then all
  else match placeAt (baseOf (s.tatWord i 2)) with
    | some (.reg r k) =>
      match r.addr k / 65536, r.dims with
      | 2, _ => [k % 4]
      | 3, (8, 0x100) :: _ => ofBridge k
      | 3, (8, _) :: _ => if s.on F.CHOP_CFG_ASSIGNED k then ofBridge (s.fld F.CHOP_CFG_BRIDGE k) else all
      | 5, (4, _) :: _ => [k]
      | 5, (16, _) :: _ => if s.on F.SD_CFG_ROLE k then ofBridge (s.fld F.SD_CFG_BRIDGE k) else all
      | 8, (4, _) :: _ => [k]
      | _, _ => all
    | _ => all

/-- An entry that cannot be read is found (R27): a pending one, or one whose word 7 cannot be read, is discarded without launch and stops
its axes, a final one is freed. (log 88 DEDUCED) -/
def tatLost (s : State) (i : Nat) (addrLost statusLost : Bool) : State :=
  match if statusLost then tPENDING else s.tatStatus i with
  | 0 => s
  | 1 =>
    let axes := s.lostAxes i addrLost
    (s.tatClear i).raise 0x7003 (if axes.length == 1 then axes.headD 7 else 7) [wd i] axes
  | _ => (s.tatClear i).logFault 0x7005 7 [wd i]

/-- A read of the words lo to hi - 1 of the table meets flipped bits (R27): single ones are corrected, an entry with a double one is
lost. (log 118 DEDUCED) -/
def tatErrs (s : State) (errs : List MemErr) (lo hi : Nat) : State :=
  let met := errs.filter fun x => !x.cmp && lo ≤ x.word && x.word < hi
  let s := s.forL (met.filter fun x => !x.double) fun x s => (s.sramFlips 1 (wd (tatAddr x.word))).1
  let dbl := (met.filter fun x => x.double).map fun x => x.word
  let s := s.forL dbl fun _ s => s.bump F.FAB_SECDED_UNCORR
  s.forL (dbl.map (· / 8)).eraseDups fun i s => s.tatLost i (dbl.contains (8 * i + 2)) (dbl.contains (8 * i + 7))

/-- The pending entries whose LAUNCH the PWM copy has reached, without those that launch late. -/
def tatDue (s : State) : List Nat :=
  s.tatPending.filter fun i => s.tatLaunch i ≤ s.pwmTime.toNat && !s.lamp.late.contains i

/-- The late entries whose turn has come: at most 32 in a tick (R345). -/
def lateNow (s : State) : List Nat :=
  if s.lamp.lateAt ≤ s.tick then (s.lamp.late.take 32).filter fun i => s.tatStatus i == tPENDING else []

/-- What is due in this tick launches, late entries and others together (R343, R345). (log 88 DEDUCED) -/
def launchTick (s : State) (rivals : List (Word × Write)) : State :=
  let late := s.lateNow
  let due := s.tatDue
  let s := if s.lamp.lateAt ≤ s.tick then
      { s with lamp := { s.lamp with late := s.lamp.late.drop 32, lateAt := s.tick + 1 } } else s
  s.launchAll (sortBy (fun i => i) (late ++ due)) (fun i => if late.contains i then tLATE else tLAUNCHED) rivals

/-- The earliest pending entry that does not launch late. -/
def tatNext (s : State) : Option Nat :=
  (sortBy s.tatLaunch (s.tatPending.filter fun i => !s.lamp.late.contains i)).head?

end State

/-! ## Meanings -/

/-- ACTION_LAUNCH (R27, R342): the next launch tick comes and its entries launch; `rivals` are the writes of others in that tick, each
with its address, `errs` the words of the table in which the search for the launch meets flipped bits. While the PWM clock is lost there
is no tick. -/
def execActionLaunch (rivals : List (Word × Write)) (errs : List MemErr) (s : State) : Host.Outcome State Fault Refusal :=
  let s := s.tatErrs errs 0 16384
  match s.tatNext with
  | none => endWith s
  | some i =>
    if s.sys.pwmClk.lost then endWith s
    else
      let s := s.elapse (s.ticksTo (s.tatLaunch i)).toNat
      endWith (s.launchTick rivals)

/-- ACTION_LATE_LAUNCH (R345): the next at most 32 entries that a forward step passed over launch in their tick, with STATUS LATE, and with
them what is due in it; `rivals` and `errs` as for ACTION_LAUNCH. (log 88 DEDUCED) -/
def execActionLateLaunch (rivals : List (Word × Write)) (errs : List MemErr) (s : State) : Host.Outcome State Fault Refusal :=
  let s := s.tatErrs errs 0 16384
  if s.lamp.late.isEmpty || s.sys.pwmClk.lost then endWith s
  else endWith ((s.elapseTo s.lamp.lateAt).launchTick rivals)

/-- ACTION_RETAIN_EXPIRY (R342): RETAIN after its final status the oldest finished entry, and every other one due, becomes FREE. -/
def execActionRetainExpiry (s : State) : Host.Outcome State Fault Refusal :=
  match s.lamp.done with
  | [] => endWith s
  | (_, t) :: _ =>
    let keep := s.fld F.LAMP_CFG_RETAIN * ticksPerMs
    let s := s.elapseTo (t + keep)
    endWith (s.forL (s.lamp.done.filter fun d => d.2 + keep ≤ s.tick) fun d s => s.tatClear d.1)

/-- POWER_HOLD_EXPIRY (R270): TIME after its start a power hold of the axis ends; TIME 0 means no expiry. -/
def execPowerHoldExpiry (a : Fin 4) (s : State) : Host.Outcome State Fault Refusal :=
  let time := s.fld F.AX_PL_HOLD_TIME a * ticksPerMs
  let h := nth s.lamp.holds a
  match (h.1.toList ++ h.2.toList).min? with
  | none => endWith s
  | some t =>
    if time == 0 then endWith s
    else
      let s := s.elapseTo (t + time)
      endWith (s.holdEnd a fun t => t + time ≤ s.tick)

end Sys2Proof.Machine
end

