-- ==== Sys2Proof/Machine/Frames.lean ====
section
/-!
DEFINITION. Machine/Frames.lean: Constellation frames as the unit sends them (R346, R347, R349, R350).
-/

namespace Sys2Proof.Machine.State

/-- The membership state of R357: 0 none, 1 joining, 2 member, 3 spare, 4 quarantined. -/
def member (s : State) : Nat := s.fld F.MEM_STAT_STATE

/-- A frame of a TYPE with its payload (R347); SEQ counts. -/
def frame (s : State) (type : Nat) (leaving : Bool) (payload : List Word) : List Word × State :=
  let head := [wd (1 + 16 * type + 256 * s.fld F.MEM_CFG_DOMAIN + 2 ^ 16 * b2n s.mem.spare + 2 ^ 17 * b2n leaving),
    wd (s.fld F.SYS_UNIT_UNIT + 2 ^ 16 * s.fld F.MEM_STAT_EPOCH), s.mem.sent, wd payload.length]
  (head ++ [crcWords head] ++ payload ++ [crcWords payload],
   { s with mem := { s.mem with sent := s.mem.sent + 1 } })

/-- The Ethernet head of the Constellation frames this unit sends (R346). -/
def ethHead (s : State) : EthHead :=
  ⟨s.fld F.MEM_CFG_ETHERTYPE, BitVec.ofNat 48 (0x034D58000000 + s.fld F.MEM_CFG_DOMAIN),
    if s.on F.MEM_CFG_VLAN_EN then some (s.fld F.MEM_VLAN_PCP, s.fld F.MEM_VLAN_VID) else none⟩

/-- Beacon word 2 (R349): the device state, MSTATE, SAFE_FUNCTIONS and PERIOD. -/
def beaconState (s : State) : Word :=
  wd (s.dev + 16 * s.fld F.MER_STAT_MSTATE + 256 * b2n (s.on F.SYS_STATE_SAFE_FUNCTIONS) + 2 ^ 16 * s.fld F.MEM_BEACON_PERIOD)

/-- A beacon (R349), which goes out over the fabric as `out` says. -/
def beacon (s : State) (leaving : Bool) (out : Moved := ⟨0, 0⟩) : State :=
  let (ws, s) := s.frame 1 leaving [s.rd .SYS_SERIAL_LO, s.rd .SYS_SERIAL_HI, s.beaconState]
  { s with mem := { s.mem with beaconAt := s.tick } }.through 3 out fun s => s.emit (.beacon s.ethHead ws)

/-- A cyclic frame with one record (R350). -/
def cyclic (s : State) (id kind : Nat) (ws : List Word) : State :=
  let (f, s) := s.frame 2 false (wd (id % 65536 + ws.length * 2 ^ 16 + kind * 2 ^ 24) :: ws)
  s.emit (.cyclic s.ethHead f)

end Sys2Proof.Machine.State
end

