-- ==== Sys2Proof/Machine/Predict.lean ====
section
/-!
DEFINITION. Machine/Predict.lean: phase quantities in alpha-beta and dq, the motor model, and the predictor (R173, R206 to
R208).
-/

namespace Sys2Proof.Machine

/-! ## Vectors -/

/-- 1/√3 and √3/2, scaled by 2^64. -/
abbrev invSqrt3 : Int := 10650232656628343401
abbrev halfSqrt3 : Int := 15975348984942515101

/-- (alpha, beta) of three phase values, scaled by 2^16. -/
def clarke (u v w : Int) : Int × Int := ((2 * u - v - w) * 2 ^ 16 / 3, (v - w) * 2 ^ 16 * invSqrt3 / 2 ^ 64)

/-- Three phase values of (alpha, beta) scaled by 2^16. -/
def phases (ab : Int × Int) : List Int :=
  let b := ab.2 * halfSqrt3 / 2 ^ 64
  [ab.1 / 2 ^ 16, (-(ab.1 / 2) + b) / 2 ^ 16, (-(ab.1 / 2) - b) / 2 ^ 16]

/-- A vector in the frame at an angle. -/
def park (ab : Int × Int) (th : Word) : Int × Int :=
  let c := cosTurn th.toNat
  let s := sinTurn th.toNat
  ((ab.1 * c + ab.2 * s) / 2 ^ 64, (ab.2 * c - ab.1 * s) / 2 ^ 64)

/-- A vector of the frame at an angle, in alpha-beta. -/
def unpark (dq : Int × Int) (th : Word) : Int × Int :=
  let c := cosTurn th.toNat
  let s := sinTurn th.toNat
  ((dq.1 * c - dq.2 * s) / 2 ^ 64, (dq.1 * s + dq.2 * c) / 2 ^ 64)

/-- The magnitude of a vector. -/
def magnitude (p : Int × Int) : Int := isqrt ((p.1 * p.1 + p.2 * p.2).toNat)

/-- A pu24 product within a longer computation, cut off. -/
def pm (a b : Int) : Int := a * b / one24

/-- An interval of n ticks in units of 1/ω_b for a rated frequency in mHz, scaled by 2^48 (R206, R207). -/
def perUnitTime (mHz : Nat) (n : Int) : Int := pi64 * mHz * n / (10 ^ 11 * 2 ^ 16)

namespace State

/-- A free error within ±16 pu24 LSB on a value that several unstated roundings enter. (log 11 DESIGN CHOICE) -/
def rough (s : State) (v : Int) : Int × State :=
  let (e, s) := s.freeErr 16
  (v + e, s)

/-- The present phase currents of a bridge. -/
def phaseI (s : State) (b : Nat) : List Int := [1, 2, 3].map fun r => match s.sdOf b r with | some c => s.sg .SD_VALUE c | none => 0

/-! ## The voltage a bridge applied (R173) -/

/-- The potential of a phase against the middle of the DC link, in halves of the link, for the switches that are on and the sign of its
current: a current that no switch carries runs through the diodes. (log 65 DEDUCED) -/
def poleOf (type : Nat) (on : List Bool) (i : Int) : Int :=
  match type, on with
  | 2, [true, true, _, _] => 1
  | 2, [_, true, true, _] => 0
  | 2, [_, _, true, true] => -1
  | 2, [_, true, _, _] => if 0 < i then 0 else 1
  | 2, [_, _, true, _] => if i < 0 then 0 else -1
  | 1, [true, _] => 1
  | 1, [_, true] => -1
  | _, _ => -i.sign

/-- What a phase's potential sums to from one time to another in 1.25 ns units: `ch` are the channels of its switches, `on` their levels at
`at_`, and the edges follow in time. -/
def poleSum (type : Nat) (i : Int) (ch : List Nat) (from_ till : Nat) : Nat → List Bool → List Edge → Int
  | at_, on, [] => poleOf type on i * ((till - max at_ from_ : Nat) : Int)
  | at_, on, e :: l =>
    let part := poleOf type on i * ((min e.at_ till - max at_ from_ : Nat) : Int)
    part + poleSum type i ch from_ till (max at_ e.at_) (List.zipWith (fun c o => if c == e.g then e.on else o) ch on) l

/-- The mean phase voltages that a bridge applied from tick t1 to tick t2 (R173): from the command lines at the last sample instant not
after t1, the edges that followed, and the measured DC link. (log 65 DEDUCED) -/
def appliedV (s : State) (b t1 t2 : Nat) : List Int :=
  match (s.axis (s.fld F.BR_CFG_AXIS b)).snaps.find? fun p => p.1 ≤ t1 with
  | none => [0, 0, 0]
  | some (t0, lines) =>
    let type := s.fld F.BR_CFG_TYPE b
    let es := (s.pwm.past.filter fun e => e.br == b && 4 * t0 ≤ e.at_).reverse
    (upTo 3).map fun p =>
      let ch := (s.phaseSlots b ((if type == 2 then 4 else 2) * p)).map (s.slot b)
      let sum := poleSum type (nth (s.phaseI b) p) ch (4 * t1) (4 * t2) (4 * t0) (ch.map lines.getLsbD) es
      if t2 ≤ t1 then 0 else s.vdc b * sum / (8 * (t2 - t1 : Nat))

/-! ## The motor model (R206 to R208) -/

/-- The magnet flux, or kr·psi_r of the model flux. -/
def fluxOf (s : State) (a : Nat) : Int :=
  if s.induction a then pm (s.sg .AX_MOT_KR a) (s.axis a).psi else s.sg .AX_MOT_PSI a

/-- Slip in pu of ω_b (R208): lm·i_q / (tau_r·psi_r), 0 without flux. -/
def slipOf (s : State) (a : Nat) (iq : Int) : Int :=
  let tau := perUnitTime (s.fld F.AX_BASE_F_VALUE a) (200 * (s.rd .AX_MOT_TR a).toNat)
  let den := tau * (s.axis a).psi
  if s.induction a && den != 0 then s.sg .AX_MOT_LM a * iq * 2 ^ 48 / den else 0

/-- The electrical rotor speed in pu of ω_b (R206). -/
def rotorW (s : State) (a : Nat) : Int := s.elecW a (s.sg .AX_SPEED a)

/-- The electrical speed of the model (R207, R208): the observer's, whose angle is the rotor flux's already, else the rotor's with the
slip. -/
def modelW (s : State) (a : Nat) (iq : Int) : Int := if s.onObserver a then s.rotorW a else s.rotorW a + s.slipOf a iq

/-- e(ω, i) of R207 and R208, in the scale of the currents given. -/
def backEmf (s : State) (a : Nat) (w : Int) (dq : Int × Int) (k : Int) : Int × Int :=
  let ld := s.sg .AX_MOT_LD a
  let lq := if s.induction a then ld else s.sg .AX_MOT_LQ a
  (-(pm w (pm lq dq.2)), pm w (pm ld dq.1 + s.fluxOf a * k))

/-- The phase currents of a bridge n ticks later (R173): i + dt·inv(l)·(v − r·i − e), the currents expressed at the angle `th` before and
at `th'` after, the voltage half-way. (log 11 DESIGN CHOICE) -/
def predict (s : State) (a : Nat) (i v : List Int) (th th' : Word) (n : Int) : List Int × State :=
  let iab := park (clarke (nth i 0) (nth i 1) (nth i 2)) th
  let vab := park (clarke (nth v 0) (nth v 1) (nth v 2)) (th + wi ((th' - th).toInt / 2))
  let e := s.backEmf a (s.modelW a (iab.2 / 2 ^ 16)) iab (2 ^ 16)
  let r := s.sg .AX_MOT_RS a
  let dt := perUnitTime (s.fld F.AX_BASE_F_VALUE a) n
  let ld := s.sg .AX_MOT_LD a
  let lq := s.sg .AX_MOT_LQ a
  if ld = 0 || lq = 0 then
    let (x, s) := s.freeErr (2 ^ 31)
    let (y, s) := s.freeErr (2 ^ 31)
    ([satI x, satI y, satI (-x - y)], s)
  else
    let step (i v e l : Int) : Int := i + dt * (v - pm r i - e) / 2 ^ 48 * one24 / l
    let out := phases (unpark (step iab.1 vab.1 e.1 ld, step iab.2 vab.2 e.2 lq) th')
    let (x, s) := s.rough (nth out 0)
    let (y, s) := s.rough (nth out 1)
    let (z, s) := s.rough (nth out 2)
    ([satI x, satI y, satI z], s)

end State

end Sys2Proof.Machine
end

