-- ==== Sys2Proof/Machine/Setpoint.lean ====
section
/-!
DEFINITION. Machine/Setpoint.lean: the set-point of an axis from its source to AX_SP_ACTIVE, and the torque reference of a
sample (R212 to R215, R220 to R223, R240, R251, R275 to R281).
-/

namespace Sys2Proof.Machine

namespace State

/-! ## Periods -/

/-- The sample period, and the outer-loop period, in ticks (R212). -/
def outerPeriod (s : State) (a : Nat) : Nat := s.samplePeriod a * 2 ^ s.fld F.AX_CFG_SUB a

/-! ## Sources (R220, R221, R266) -/

/-- The leader's record from another unit (R266). -/
def leaderRecord (s : State) (a : Nat) : Option Remote := (nth s.share a).remotes.find? fun r => r.leader

/-- The record is stale (R266). -/
def staleRec (s : State) (a : Nat) (r : Remote) : Bool := s.fld F.AX_SH_TMO_STALE a ≤ r.missed

/-- The value of a source and whether the source is lost (R220, R221): of the leader's records the last one used (R266). In MODE 0 and 3 the
spec gives the pulse source no value. (log 56 DESIGN CHOICE; log 67 DEDUCED) -/
def sourceValue (s : State) (a src : Nat) : (Int × Bool) × State :=
  let mode := s.setMode a
  match src with
  | 0 => ((s.inForce .AX_SP_HOST a, false), s)
  | 1 =>
    let k := s.fld F.AX_SRC_CFG_AI a
    let v := s.sg .AI_VALUE k
    ((if 1000 * v.natAbs ≤ s.fld F.AX_SRC_CFG_DEADBAND a * 2 ^ 24 then 0 else v, (nth s.ai k).overRange), s)
  | 2 =>
    let c := s.fld F.AX_SRC_CFG_PULSE_ENC a
    let lost := !s.on F.EN_STAT_VALID c
    if mode == 1 then
      let (v, s) := s.gmul (s.rd .AX_PULSE_SCALE a) (s.sg .EN_SPEED c)
      ((satI v, lost), s)
    else if mode == 2 then
      let (v, s) := s.gmul (s.rd .AX_PULSE_SCALE a) (s.sg .EN_POS c)
      ((satI v, lost), s)
    else
      let (w, s) := s.freeWord
      ((w.toInt, lost), s)
  | _ =>
    match s.leaderRecord a with
    | some r => ((r.spUsed, s.staleRec a r), s)
    | none => ((0, true), s)

/-- The source with its hold (R221): the last valid value for HOLD ms after a loss, then zero. -/
def heldSource (s : State) (a src : Nat) : Int × State :=
  let ((v, lost), s) := s.sourceValue a src
  let x := s.axis a
  if !lost then
    (v, (s.updAxis a fun x => { x with rawHeld := v, lostAt := none }).setF F.AX_STAT_SRC_LOST 0 a)
  else
    match x.lostAt with
    | none =>
      let s := (s.updAxis a fun x => { x with lostAt := some s.tick }).setF F.AX_STAT_SRC_LOST 1 a
      (x.rawHeld, s.raise 0x3015 a [wd src])
    | some t => (if s.tick < t + s.fld F.AX_SRC_CFG_HOLD a * ticksPerMs then x.rawHeld else 0, s)

/-! ## Limits on the raw set-point (R12, R223, R240, R275, R279, R414, R423) -/

/-- The limit switches block a value (R223). -/
def blocked (s : State) (a : Nat) (v : Int) : Bool :=
  let act (f : Fld) : Bool := (s.fld F.H_STATE_ACTIVE).testBit (s.fld f a)
  let d := if s.setMode a == 2 then v - (s.axis a).seen.pos.toInt else v
  s.on F.AX_CFG_LIMSW_EN a && ((0 < d && act F.AX_CFG_LIM_FWD) || (d < 0 && act F.AX_CFG_LIM_REV))

/-- A stop at a limit switch begins or ends (R223): in the other modes the axis runs at its present speed in MODE 1 meanwhile, and its own
set-point goes on from where the axis then is, with the loops preset. (log 54 DEDUCED) -/
def limitStop (s : State) (a : Nat) (stop : Bool) : State :=
  if (s.axis a).limStop == stop then s
  else
    let was := s.modeOf a
    let s := s.updAxis a fun x => { x with limStop := stop }
    if s.modeOf a == was then s else s.reaim a was

/-- A set-point of MODE 0 or 1 is kept within the envelope, whatever its source (R12, R414). -/
def clipSet (s : State) (a : Nat) (mode : Nat) (v : Int) : Int × State :=
  let w := if !s.envValid then v else match mode with
    | 0 => limitTo (s.sg .LAN_ENV_TMAX a) v
    | 1 => limitTo (s.sg .LAN_ENV_VMAX a) v
    | _ => v
  (w, if w == v then s else s.raiseF F.AX_STAT_ENV_CLIP a)

/-- The raw set-point of this outer-loop sample. The least speed of R240 gives way to the limits of EMERGENCY, SLS and the envelope, on
which the spec is silent; in EM-RENDER the limit switches block as in MODE 3. (log 54 DEDUCED) -/
def rawSetpoint (s : State) (a : Nat) : Int × State :=
  if s.stopping a || s.emStill a then (0, s.updAxis a fun x => { x with limStop := false })
  else if s.opMode a == 6 then
    let v := s.sg .AX_EM_REND_T a
    let stop := s.blocked a v
    (if stop then 0 else v, s.limitStop a stop)
  else
    let mode := s.setMode a
    let (v, s) := s.heldSource a (if s.opMode a == 3 then 1 else (s.axis a).act.2)
    let s := s.updAxis a fun x => { x with raw := v }
    let v := if s.opMode a == 4 && (if s.on F.AX_EM_CFG_LOWER_DIR a then v ≤ 0 else 0 ≤ v) then 0 else v
    let slow := mode == 1 && s.onObserver a && !s.on F.OBS_CFG_INJ_EN a && !s.on F.OBS_CFG_IF_EN a
    let v := if slow && v != 0 && 20 * v.natAbs < 2 ^ 24 then (if v < 0 then -838861 else 838861) else v
    let v := if s.axSt a == aEMERGENCY && mode == 1 then limitTo (s.sg .AX_EM_VLIM a) v else v
    let v := if s.slsDemand && mode == 1 then limitTo (s.parAx a 5).toInt v else v
    let (v, s) := s.clipSet a mode v
    let stop := s.blocked a v
    (if stop then 0 else v, s.limitStop a stop)

end State

/-! ## Ramps (R222) -/

/-- One step from sp ≥ 0 towards raw: up limits the rise of the magnitude, down its fall; a step through zero spends the rest
of its time on the rise. -/
def stepFrom (sp raw up down : Int) : Int :=
  if sp ≤ raw then min raw (sp + up)
  else if max raw 0 ≤ sp - down then sp - down
  else if 0 ≤ raw then raw
  else if down ≤ 0 then sp
  else max raw (-(up * (down - sp) / down))

namespace State

/-- The largest change of a value in n ticks at a rate per second. -/
def rateStep (s : State) (rate : Int) (n : Nat) : Int × State := s.quot (rate.natAbs * n) ticksPerS

/-- The acceleration and deceleration limits that act: AX_STOP_DEC in a stop and at a limit switch (R223, R227). -/
def rampRates (s : State) (a : Nat) : Int × Int :=
  let stop : Int := (s.sg .AX_STOP_DEC a).natAbs
  if s.stopping a || s.emStill a || (s.axis a).limStop then (stop, stop)
  else ((s.sg .AX_RAMP_ACC a).natAbs, (s.sg .AX_RAMP_DEC a).natAbs)

/-- One step of a set-point with a jerk limit: the next value and its rate of change. The rate is free within the limits, so far as it can
come to rest at the target. (log 53 DESIGN CHOICE) -/
def jerkStep (s : State) (n : Nat) (acc dec jerk v a raw : Int) : (Int × Int) × State :=
  let m : Int := if raw < v then -1 else 1
  let (dj, s) := s.rateStep jerk n
  let d := m * (raw - v) * ticksPerS
  let (lo, hi) := accelBounds acc dec (m * v) (m * a) (some dj)
  let top := if hi < 0 then hi else min hi (lastPass (fun x => n * (x + windDown x dj) ≤ d) 32 0)
  let lo := max lo (min 0 hi)
  let f := Config.freeInt s.free
  let s := { s with free := s.free + 1 }
  let x := if top < lo then lo else clampI lo top f
  let (g, s) := s.quot (x * n) ticksPerS
  let next := m * v + g
  ((m * (if x ≤ top then min next (m * raw) else next), m * x), s)

/-- One step of a position profile: the next position, its speed and its acceleration. The acceleration is free within the limits, so far
as the speed limit is kept and the profile can come to rest at the target. (log 53 DESIGN CHOICE) -/
def positionStep (s : State) (n : Nat) (acc dec jerk vmax : Int) (scale : Int × Nat) (p r a raw : Int) : (Int × Int × Int) × State :=
  let m : Int := if raw < p then -1 else 1
  let (dj, s) := s.rateStep jerk n
  let way := m * (raw - p) * scale.1 * 2 ^ 48 / (2 ^ scale.2 * ticksPerS)
  let v := m * r
  let (lo, hi) := accelBounds acc dec v (m * a) (if jerk = 0 then none else some dj)
  let after (x : Int) : Int := v + x * n / ticksPerS
  let fits (x : Int) : Bool :=
    after x + (if jerk = 0 || x ≤ 0 then 0 else x * x / (2 * jerk)) ≤ vmax &&
      after x * n * 2 ^ 16 / ticksPerS + stopWay dec jerk (after x) x ≤ way
  let top := if fits lo then min hi (lastPass fits 32 lo) else lo
  let low := min top (max lo (if 0 ≤ v then -(v * ticksPerS / max n 1) else min 0 hi))
  let f := Config.freeInt s.free
  let s := { s with free := s.free + 1 }
  let x := clampI low top f
  let (g, s) := s.quot (x * n) ticksPerS
  let w := v + g
  let (d, s) := s.quot (w * 2 ^ scale.2 * n) (scale.1 * 2 ^ 32)
  if fits x && m * raw ≤ m * p + d then ((raw, 0, 0), s) else ((m * (m * p + d), m * w, m * x), s)

/-- AX_SP_ACTIVE follows the raw set-point for one outer-loop period (R222). (log 53 DESIGN CHOICE) -/
def ramp (s : State) (a : Nat) (raw : Int) : State :=
  let n := s.outerPeriod a
  let sp := s.sg .AX_SP_ACTIVE a
  let x := s.axis a
  let (acc, dec) := s.rampRates a
  let jerk : Int := (s.sg .AX_RAMP_JERK a).natAbs
  let r : (Int × Int × Int) × State :=
    match s.modeOf a with
    | 0 => ((raw, 0, 0), s)
    | 1 =>
      if jerk == 0 then
        let (up, s) := s.rateStep acc n
        let (down, s) := s.rateStep dec n
        let next := if 0 ≤ sp then stepFrom sp raw up down else -(stepFrom (-sp) (-raw) up down)
        ((next, 0, if n = 0 then 0 else (next - sp) * ticksPerS / n), s)
      else
        let (q, s) := s.jerkStep n acc dec jerk sp x.accel raw
        ((q.1, 0, q.2), s)
    | 2 => s.positionStep n acc dec jerk (s.speedLimit a) (g27 (s.rd .AX_SPD_SCALE a)) sp x.rate x.accel raw
    | _ =>
      let (up, s) := s.rateStep acc n
      ((if sp ≤ raw then min raw (sp + up) else max raw (sp - up), 0, 0), s)
  let s := r.2
  let next := satI r.1.1
  let s := (s.wr .AX_SP_ACTIVE (wi next) a).setF F.AX_STAT_RAMP (b2n (next != raw)) a
  s.updAxis a fun x => { x with
    rate := satI r.1.2.1, accel := satI r.1.2.2, slope := if n = 0 then 0 else satI ((next - sp) * ticksPerS / n) }

/-! ## Torque reference (R213 to R215) -/

/-- A limit as it acts now: a write acts from 2 ticks after it (R215); `was` are the values before the last writes, newest first. -/
def afterTwo (now : Nat) (v : Word) : List (Nat × Word) → Int
  | [] => v.toInt
  | (t, old) :: l => if now < t + 2 then afterTwo now old l else v.toInt

/-- AX_PLIM or AX_PLIM_GEN as it acts now (R215, R275, R279). -/
def powerLimit (s : State) (a : Nat) (gen : Bool) : Int :=
  let x := s.axis a
  let v := if gen then afterTwo s.tick (s.rd .AX_PLIM_GEN a) x.pgens else afterTwo s.tick (s.rd .AX_PLIM a) x.plims
  let em : Int := s.sg .AX_EM_PLIM a
  if s.axSt a != aEMERGENCY || (s.opMode a == 4 && gen) then v else min v em

/-- A torque limit with the limit of EMERGENCY and the torque ramp after a relock (R251, R275). -/
def torqueLimit (s : State) (a : Nat) (lim : Int) : Int × State :=
  let lim := if s.axSt a == aEMERGENCY then min lim (s.sg .AX_EM_TLIM a) else lim
  match (s.ob a).rampAt with
  | some t => if s.tick < t + 200 * ticksPerMs then s.quot (lim * (s.tick - t : Nat)) (200 * ticksPerMs) else (lim, s)
  | none => (lim, s)

/-- The brake that EM-HOLD has asked for holds the axis (R279, R280, R424). -/
def brakeHolds (s : State) (a : Nat) : Bool := (s.emr a).braked && (!s.sbcPresent || s.braked)

/-- What drives the torque path before its clips: AX_SP_ACTIVE, AX_T_OUT, the proving torque, or zero with the brake on (R280)
or before a back-EMF measurement (R254). -/
def torqueDemand (s : State) (a : Nat) : Int :=
  let e := s.emr a
  let mode := s.modeOf a
  if (s.ob a).keRun then 0
  else if e.proveFor.isSome && s.brakeHolds a then (if e.heldT < 0 then -(s.sg .AX_EM_PROVE a) else s.sg .AX_EM_PROVE a)
  else if s.opMode a == 5 && s.brakeHolds a then 0
  else
    let t := if mode == 0 then s.sg .AX_SP_ACTIVE a else s.sg .AX_T_OUT a
    if s.on F.AX_CTRL_LOBS_FF a && mode != 0 then t + s.sg .AX_T_LOAD a else t

/-- A value moves towards a target by at most a step. -/
def stepTo (from_ target step : Int) : Int := clampI (from_ - step) (from_ + step) target

/-- AX_T_REF of this sample and the clips of R213; the state keeps which clip acted and whether it held the torque below its
demand (-1), above it (1), or not (0). -/
def torqueRef (s : State) (a : Nat) : Int × State :=
  let n := s.samplePeriod a
  let old := s.sg .AX_T_REF a
  let s := s.updAxis a fun x => { x with refWas := old }
  let t0 := s.torqueDemand a
  let (lp, s) := s.torqueLimit a (s.sg .AX_TLIM_P a)
  let (ln, s) := s.torqueLimit a (s.sg .AX_TLIM_N a)
  let t1 := clampI (-ln) lp t0
  let v := s.sg .AX_SPEED a
  let gen := t1 * v < 0
  let p := s.powerLimit a gen
  let (m, s) := if 20 * v.natAbs < 2 ^ 24 then s.quot (20 * p) 1 else s.quot (p * one24) v.natAbs
  let t2 := clampI (-m) m t1
  let cut := t2 != t1 && t2.natAbs < old.natAbs && 0 ≤ t2 * old
  let pl := s.sg .AX_PL_RATE a
  let (step, s) := s.rateStep (if cut then pl else s.sg .AX_TRATE a) n
  let t3 := if cut && pl == 0 then t2 else stepTo old t2 step
  let s := (s.setF F.AX_STAT_T_LIM (b2n (t1 != t0)) a).setF F.AX_STAT_P_LIM (b2n (t2 != t1)) a
  let s := s.setF F.AX_STAT_RATE_LIM (b2n (t3 != t2)) a
  let s := s.wrSat .AX_T_REF t3 a
  (if t3 < t0 then -1 else if t0 < t3 then 1 else 0, s)

/-! ## The outer loop of the standard programs (R212, R214) -/

/-- An integrator of gain k: it holds in a sample whose clip its error drives further into (R214). (log 54 DEDUCED) -/
def integrate (s : State) (a k : Nat) (i err clip : Int) : Int × State :=
  if clip * err < 0 then (i, s)
  else
    let (d, s) := s.gain a k err
    (satI (i + d), s)

/-- The speed PI: the output of this run with the integral before it; the integrator follows. (log 54 DEDUCED) -/
def speedPi (s : State) (a : Nat) (clip : Int) : Int × State :=
  let (v, s) := s.speedTarget a (s.axis a).refWas
  let err := v - s.sg .AX_SPEED a
  let (p, s) := s.gain a gKpSpd err
  let i := (s.axis a).spdI
  let (i', s) := s.integrate a gKiSpd i err clip
  (p + i, s.updAxis a fun x => { x with spdI := i' })

/-- One run of the outer loop: AX_T_OUT for the next sample (R212, R213, R267). `clip` is the sign of the clip of this
sample. -/
def outerLoop (s : State) (a : Nat) (clip : Int) : State :=
  let clip := if clip == 0 && s.on F.AX_STAT_I_LIM a then -(s.sg .AX_T_REF a).sign else clip
  let mode := s.modeOf a
  if mode == 0 then s
  else if mode == 3 && (s.tensionBand a).1 ≤ s.sg .AX_SPEED a && s.sg .AX_SPEED a ≤ (s.tensionBand a).2 then
    let err := s.sg .AX_SP_ACTIVE a - (s.axis a).seen.ten
    let (p, s) := s.gain a gKpTen err
    let i := (s.axis a).tenI
    let (i', s) := s.integrate a gKiTen i err clip
    (s.updAxis a fun x => { x with tenI := i' }).wrSat .AX_T_OUT (p + i) a
  else
    let (t, s) := s.speedPi a clip
    s.wrSat .AX_T_OUT t a

end State

end Sys2Proof.Machine
end

