-- ==== Sys2Proof/Machine/Share.lean ====
section
/-!
DEFINITION. Machine/Share.lean: load sharing of an axis at a sample instant, share records, droop (R258 to R268).
-/

namespace Sys2Proof.Machine.State

/-- The share record of axis a. -/
def shr (s : State) (a : Nat) : Share := nth s.share a
def updShr (s : State) (a : Nat) (f : Share → Share) : State := { s with share := upd s.share a f }

/-- The local members of the group of axis a (R258). -/
def groupOf (s : State) (a : Nat) : List Nat :=
  (upTo 4).filter fun k =>
    (k == a || (s.fld F.AX_SH_CFG_LOCAL a).testBit k) && s.on F.AX_SH_CFG_MODE k && s.fld F.AX_SH_CFG_GROUP k == s.fld F.AX_SH_CFG_GROUP a

/-- The winding-0 bridge of member k has the grid of that of the lowest-indexed local member (R259). -/
def sameGrid (s : State) (a k : Nat) : Bool :=
  match s.groupOf a with
  | [] => true
  | m :: _ =>
    match s.mainBridge m, s.mainBridge k with
    | some b, some c => [F.BR_HALF_HALF, F.BR_CFG_UPDATES, F.BR_PHASE_PHASE].all fun f => s.fld f b == s.fld f c
    | _, _ => false

/-- A local member is counted (R259). -/
def counted (s : State) (a k : Nat) : Bool :=
  (s.axSt k == aRUN || (s.axSt k == aEMERGENCY && !s.on F.AX_EM_STAT_OPMODE k)) && s.sameGrid a k

/-- The weight of a local member as counted (R259). -/
def weight (s : State) (k : Nat) : Int := if s.on F.AX_EM_STAT_LIMP k then s.sg .AX_SH_W k / 2 else s.sg .AX_SH_W k

/-- Group pu of a value of axis k. -/
def groupPu (s : State) (k : Nat) (v : Int) : Int × State := s.gmul (s.rd .AX_SH_SCALE k) v

/-- Axis pu of a value in group pu: divided by AX_SH_SCALE. -/
def axisPu (s : State) (k : Nat) (v : Int) : Int × State :=
  let g := g27 (s.rd .AX_SH_SCALE k)
  s.quot (v * 2 ^ g.2) g.1

/-- The counted members among the other units' records that axis a uses in this sample (R266). -/
def freshRemotes (s : State) (a : Nat) : List Remote :=
  if s.on F.AX_SH_CFG_REMOTE a then (s.shr a).used.filter fun r => r.counted else []

/-- The leader of a FOLLOW group is counted: a local one, or one of another unit by its newest record until it is stale (R266, R267). -/
def leaderCounted (s : State) (a : Nat) : Bool :=
  ((s.groupOf a).any fun k => s.on F.AX_SH_CFG_LEADER k && s.counted a k) ||
    (s.on F.AX_SH_CFG_REMOTE a && (s.shr a).remotes.any fun r => r.leader && r.counted && !s.staleRec a r)

/-- The members with LEADER set that axis a knows in its group, of this unit and of others (R264). -/
def leaders (s : State) (a : Nat) : Nat :=
  ((s.groupOf a).filter fun k => s.on F.AX_SH_CFG_LEADER k).length +
    (if s.on F.AX_SH_CFG_REMOTE a then ((s.shr a).remotes.filter fun r => r.leader).length else 0)

/-- A follower of a FOLLOW group. -/
def follower (s : State) (a : Nat) : Bool := s.fld F.AX_SH_CFG_MODE a == 1 && !s.on F.AX_SH_CFG_LEADER a

/-- A member goes to droop (R267); a follower switches to speed mode at its present speed. -/
def enterDroop (s : State) (k : Nat) : State :=
  if s.on F.AX_SH_STAT_DROOP k then s
  else
    let first := !((s.groupOf k).any fun m => s.on F.AX_SH_STAT_DROOP m)
    let s := (s.setF F.AX_SH_STAT_DROOP 1 k).wr .AX_SH_CORR 0 k
    let s := s.updShr k fun x => { x with wasFollow := s.follower k, absent := 0, clipSince := none, restoreAt := none }
    let s := if first then s.raise 0x3040 k [] else s
    if !s.follower k then s
    else
      let s := (s.setF F.AX_CTRL_MODE 1 k).wr .AX_SP_ACTIVE (s.rd .AX_SPEED k) k
      (s.updAxis k fun x => { x with act := (1, x.act.2), rate := 0 }).presetPi k

/-- A member takes remote records, and one of them is stale (R266). -/
def remoteStale (s : State) (k : Nat) : Bool :=
  s.axSt k != aDISABLED && s.on F.AX_SH_CFG_REMOTE k && (s.shr k).remotes.any (s.staleRec k)

/-- The other units' records at a sample instant of axis a, whatever its state and its MODE: those of the previous instant are used in
this sample, the others have missed one more (R266); a fresh leader record is a set-point received under SRC 3 (R278). -/
def shareAge (s : State) (a : Nat) (prev : Option Word) : State :=
  let old := (s.shr a).remotes
  let fresh (r : Remote) : Bool := match prev with | some t => (r.time - t).toInt.natAbs ≤ 5 | none => false
  let aged (r : Remote) : Remote :=
    if fresh r then { r with missed := 0, spUsed := r.sp } else { r with missed := min (r.missed + 1) 255 }
  let s := s.updShr a fun x => { x with remotes := old.map aged, used := old.filter fresh }
  let s := s.setF F.AX_SH_STAT_REMOTE_N (if s.on F.AX_SH_CFG_REMOTE a then (old.filter fresh).length else 0) a
  if (s.axis a).act.2 == 3 && old.any fun r => r.leader && fresh r then s.updEm a fun e => { e with lastSp := s.tick } else s

/-- The members that go to droop at a sample instant of axis a: a stale remote member concerns every local member of its group, a leader
that is not counted its followers (R267). (log 56 DESIGN CHOICE) -/
def shareLink (s : State) (a : Nat) : State :=
  if !s.on F.AX_SH_CFG_MODE a then s
  else
    let stale := (s.groupOf a).any s.remoteStale
    let lost := s.regulates a && s.follower a && !s.leaderCounted a
    let s := s.updShr a fun x => { x with absent := if stale || lost then 0 else x.absent + 1 }
    let s := if stale then s.forL (s.groupOf a) fun k s => s.enterDroop k else s
    if lost then s.enterDroop a else s

/-- The correction, or the follower's torque, of a counted member (R260), after the rate limit of the sample, within the torque limits that
act (R251, R275). Where the leader of another unit sent no record for this sample and is not stale, a follower keeps its
torque. (log 56 DESIGN CHOICE) -/
def shareTorque (s : State) (a : Nat) : State :=
  let own := (s.groupOf a).filter (s.counted a)
  let s := s.setF F.AX_SH_STAT_MEMBERS ((own.map fun k => 2 ^ k).sum) a
  let s := s.forL (s.groupOf a) fun k s => if s.sameGrid a k then s else s.raiseF F.AX_SH_STAT_GRID_ERR k
  if !own.contains a || s.on F.AX_SH_STAT_DROOP a then (s.wr .AX_SH_CORR 0 a).updShr a fun x => { x with clipSince := none }
  else
    let far := s.freshRemotes a
    let wsum := (own.map s.weight).sum + (far.map fun r => r.w).sum
    let t := own.foldl (fun (p : Int × State) k =>
      let q := p.2.groupPu k (p.2.sg .AX_T_EST k)
      (p.1 + q.1, q.2)) (0, s)
    let tsum := t.1 + (far.map fun r => r.tEst).sum
    let s := t.2.wrSat .AX_SH_TSUM tsum a
    let w := s.weight a
    let clampT (s : State) (v : Int) : State :=
      let (lp, s) := s.torqueLimit a (s.sg .AX_TLIM_P a)
      let (ln, s) := s.torqueLimit a (s.sg .AX_TLIM_N a)
      s.wrSat .AX_T_REF (clampI (-ln) lp v) a
    if s.fld F.AX_SH_CFG_MODE a == 2 then
      let (mine, s) := s.groupPu a (s.sg .AX_T_EST a)
      let (part, s) := s.quot (w * tsum) wsum
      let (c, s) := s.gain a gShKs (part - mine)
      let lim := s.sg .AX_SH_CLIM a
      let (l, s) := match (s.shr a).restoreAt with
        | some t0 => if s.tick < t0 + 100 * ticksPerMs then s.quot (lim * (s.tick - t0 : Nat)) (100 * ticksPerMs) else (lim, s)
        | none => (lim, s)
      let (d, s) := s.axisPu a (limitTo l c)
      let s := s.updShr a fun x => { x with clipSince := if lim.natAbs ≤ c.natAbs then some (x.clipSince.getD s.tick) else none }
      clampT (s.wrSat .AX_SH_CORR d a) (s.sg .AX_T_REF a + d)
    else if !s.follower a then s
    else
      let s := s.wr .AX_SH_CORR 0 a
      match own.find? fun k => s.on F.AX_SH_CFG_LEADER k with
      | some k =>
        let (g, s) := s.groupPu k (s.sg .AX_T_REF k)
        let (v, s) := s.quot (w * g) (s.weight k)
        let (v, s) := s.axisPu a v
        clampT s v
      | none =>
        match far.find? fun r => r.leader with
        | some r =>
          let (v, s) := s.quot (w * r.tRef) r.w
          let (v, s) := s.axisPu a v
          clampT s v
        | none => clampT s (s.axis a).refWas

/-- The Meridian time of the last sample instant of axis a, its low word, by the PWM copy. -/
def instTime (s : State) (a : Nat) : Word :=
  lo32 (s.pwmTime - BitVec.ofNat 64 (5 * (s.tick - (s.axis a).lastSample.getD s.tick)))

/-- A share record is published for this sample, whatever the axis's state (R265, R350); the record ID of a share record is not given.
(log 56 DESIGN CHOICE) -/
def publish (s : State) (a : Nat) : State :=
  if !s.on F.AX_SH_CFG_MODE a || !s.on F.AX_SH_CFG_REMOTE a || s.member != 2 then s
  else
    let (e, s) := s.groupPu a (s.sg .AX_T_EST a)
    let (t, s) := s.groupPu a (s.sg .AX_T_REF a)
    let (id, s) := s.freeWord
    let w0 := s.fld F.SYS_UNIT_UNIT % 65536 + 2 ^ 16 * s.fld F.AX_SH_CFG_GROUP a + 2 ^ 24 * a +
      2 ^ 26 * b2n (s.on F.AX_SH_CFG_LEADER a && s.fld F.AX_SH_CFG_MODE a == 1) + 2 ^ 27 * b2n (s.counted a a) +
      2 ^ 28 * b2n (s.on F.AX_SH_STAT_DROOP a)
    s.cyclic id.toNat 1 [wd w0, satW e, wi (s.weight a), s.rd .AX_SP_ACTIVE a, satW t, s.instTime a]

/-- Sharing of axis a in the sample under way, and its record. -/
def shareSample (s : State) (a : Nat) : State := if s.on F.AX_SH_CFG_MODE a then (s.shareTorque a).publish a else s

/-- Member k has still to latch the currents of the sample instant t (R260): its values are on their way, or the instant itself is. -/
def owes (s : State) (k : Nat) (t : Option Nat) : Bool :=
  let x := s.axis k
  x.staged != t && (x.lastSample == t || x.grid == t)

end Sys2Proof.Machine.State
end

