-- ==== Sys2Proof/Machine/Member.lean ====
section
/-!
DEFINITION. Machine/Member.lean: Constellation frames as they are received, the table of roles, membership, supersession
(R86, R266, R346 to R356).
-/

namespace Sys2Proof.Machine

/-- The Constellation header and payload of a frame that passes steps 1 to 4 of R348. -/
structure ConFrame where
  type : Nat
  spare : Bool
  leaving : Bool
  unit : Nat
  epoch : BitVec 16
  seq : Word
  payload : List Word
  deriving DecidableEq, Repr, Inhabited

/-- The records of a cyclic frame (R350): ID, KIND and words; a record that runs past the payload ends the list. (log 56 DESIGN CHOICE) -/
def cyclicRecords : Nat → List Word → List (Nat × Nat × List Word)
  | 0, _ => []
  | _, [] => []
  | n + 1, h :: ws =>
    let len := bitsOf h 23 16
    if ws.length < len then [] else (bitsOf h 15 0, bitsOf h 31 24, ws.take len) :: cyclicRecords n (ws.drop len)

namespace State

/-- A unit address reaches this unit (R86): its own ID, the broadcast, or a group of which it is a member. -/
def addressed (s : State) (u : Nat) : Bool :=
  (u ≤ 0x3FFF && u == s.fld F.SYS_UNIT_UNIT) || u == 0xFFFF ||
    (0xFF00 ≤ u && u ≤ 0xFFFE && bitOf (s.rd .MEM_GROUPS ((u - 0xFF00) / 32)) ((u - 0xFF00) % 32))

/-! ## The table of roles (R352) -/

/-- MEM_LIVE counts the live roles. (log 91 DEDUCED) -/
def showLive (s : State) : State := s.setF F.MEM_LIVE_COUNT (s.mem.peers.filter fun p => p.live).length

/-- The table with an entry put in, in place of that of its role. -/
def setPeer (s : State) (p : Peer) : State :=
  ({ s with mem := { s.mem with peers := p :: s.mem.peers.filter fun q => q.role != p.role } }).showLive

/-- The unit holds a role: it is a member or a spare. -/
def holdsRole (s : State) : Bool := s.member == 2 || s.member == 3

/-- A role is this unit's own. -/
def ownRole (s : State) (role : Nat) : Bool := s.holdsRole && role == s.fld F.SYS_UNIT_UNIT

/-- The epoch of a role: its own, or the one in the table. -/
def epochOf (s : State) (role : Nat) : Option (BitVec 16) :=
  if s.ownRole role then some (BitVec.ofNat 16 (s.fld F.MEM_STAT_EPOCH)) else (s.peer role).map fun p => p.epoch

/-! ## Supersession (R355) -/

/-- The unit is superseded at an epoch: QUARANTINE, which comes before the reaction of ROLE_SUPERSEDED (R80), the quarantine record
(R77, R79). A device that an FR5 has halted stays in SAFE (R10). (log 90 DEDUCED) -/
def supersede (s : State) (epoch : BitVec 16) : State :=
  let role := s.rd .SYS_UNIT
  let old := wd (s.fld F.MEM_STAT_EPOCH)
  let s := if [dSAFE, dREADY, dARMED, dRUN, dFAULT].contains s.dev && !s.halted then s.setDev dQUARANTINE 0x4011 else s
  let s := s.raise 0x4011 7 [role, old, wd epoch.toNat]
  let s := { s with nv := { s.nv with quarantine := true } }.audit byDevice 0x000D role old (wd epoch.toNat)
  s.setF F.MEM_STAT_STATE 4

/-- An older epoch, or the frame of the higher serial at an epoch in conflict, is stale (R348, R355). (log 90 DEDUCED) -/
def staleFrame (s : State) (code : Nat) (f : ConFrame) : State :=
  (s.bump F.MEM_STALE_CNT_COUNT).raise code 7 [wd f.unit, wd f.epoch.toNat]

/-! ## Receiving (R348) -/

/-- Steps 2 to 4 of R348 on the words of a frame. -/
def parseFrame (s : State) (ws : List Word) : Option ConFrame × State :=
  let h0 := nth ws 0
  let len := bitsOf (nth ws 3) 15 0
  if bitsOf h0 3 0 != 1 || bitsOf h0 15 8 != s.fld F.MEM_CFG_DOMAIN || bitsOf h0 31 18 != 0 || bitsOf (nth ws 3) 31 16 != 0 then
    (none, s)
  else if ws.length < 5 || nth ws 4 != crcWords (ws.take 4) || 369 < len || ws.length < 6 + len ||
      nth ws (5 + len) != crcWords ((ws.drop 5).take len) then (none, s.bump F.MEM_CRC_CNT_COUNT)
  else if 0x3FFF < bitsOf (nth ws 1) 15 0 then (none, s)
  else (some ⟨bitsOf h0 7 4, bitOf h0 16, bitOf h0 17, bitsOf (nth ws 1) 15 0, BitVec.ofNat 16 (bitsOf (nth ws 1) 31 16), nth ws 2,
    (ws.drop 5).take len⟩, s)

/-- Share records in a frame of an older epoch are counted by the axes that take records of their group (R266). -/
def staleShares (s : State) (f : ConFrame) : State :=
  if f.type != 2 then s
  else s.forL (cyclicRecords f.payload.length f.payload) fun r s =>
    if r.2.1 != 1 || r.2.2.length != 6 then s
    else s.forN 4 fun a s =>
      if s.on F.AX_SH_CFG_REMOTE a && s.fld F.AX_SH_CFG_GROUP a == bitsOf (nth r.2.2 0) 23 16 then s.bump F.AX_SH_STALE_COUNT a
      else s

/-- A newer epoch of a role enters the table (R352, R356); a unit that holds the role is superseded by it. (log 89 DEDUCED) -/
def newEpoch (s : State) (f : ConFrame) : State :=
  let own := s.ownRole f.unit
  let old := s.peer f.unit
  let p : Peer := ⟨f.unit, f.epoch, (old.map fun p => p.serial).getD 0, (old.map fun p => p.live).getD false, false, none,
    (old.map fun p => p.last).getD none, (old.map fun p => p.period).getD 0, (old.map fun p => p.word2).getD 0, none, (old.map fun p => p.spare).getD false⟩
  let s := (s.setPeer p).fence
  if own then s.supersede f.epoch else s

/-- What a heard beacon does to a join under way (R354). (log 89 DEDUCED) -/
def joinHears (s : State) (f : ConFrame) : State :=
  match s.mem.join with
  | some j =>
    if j.role != f.unit || f.leaving then s
    else
      let a := if newer f.epoch j.expect then ans cSTALE_EPOCH f.epoch.toNat else ans cBUSY 5
      { s with mem := { s.mem with join := some { j with lost := some (j.lost.getD a) } } }
  | none => s

/-- A beacon of this unit's own role at its own epoch (R355): the lower serial keeps the role. (log 90 DEDUCED) -/
def ownBeacon (s : State) (f : ConFrame) : State :=
  let mine := mk64 (s.rd .SYS_SERIAL_HI) (s.rd .SYS_SERIAL_LO)
  let theirs := mk64 (nth f.payload 1) (nth f.payload 0)
  if theirs < mine then s.supersede f.epoch
  else if theirs = mine then s
  else s.staleFrame 0x4012 f

/-- A beacon of another role (R349, R352, R355): LEAVING makes the role dead at once; at an epoch in conflict the frames of the higher
serial are stale. (log 90 DEDUCED) -/
def peerBeacon (s : State) (f : ConFrame) : State :=
  let serial := BitVec.ofNat 16 (bitsOf (nth f.payload 0) 15 0)
  match s.peer f.unit with
  | some p =>
    let clash := p.live && p.heard == some f.epoch && p.serial != serial
    if clash && p.serial < serial then (s.setPeer { p with conflict := true }).staleFrame 0x4012 f
    else s.setPeer { p with
      serial := serial, live := !f.leaving, conflict := !f.leaving && (clash || (p.conflict && p.live)), heard := some f.epoch
      last := some s.tick, period := bitsOf (nth f.payload 2) 31 16, word2 := nth f.payload 2, spare := f.spare }
  | none => s

/-- A record of a cyclic frame (R265, R266, R350): a share record goes to the axes that take records of its group, user data to the
receive ring. (log 56 DESIGN CHOICE; log 91 DEDUCED) -/
def cyclicRecord (s : State) (kind : Nat) (ws : List Word) : State :=
  match kind with
  | 1 =>
    if ws.length != 6 then s
    else s.forN 4 fun a s =>
      let h := nth ws 0
      if !s.on F.AX_SH_CFG_REMOTE a || s.fld F.AX_SH_CFG_GROUP a != bitsOf h 23 16 then s
      else s.updShr a fun x =>
        let same := fun (r : Remote) => r.unit == bitsOf h 15 0 && r.axis == bitsOf h 25 24
        let (missed, sp) := match x.remotes.find? same with | some r => (r.missed, r.spUsed) | none => (0, 0)
        let r : Remote := ⟨bitsOf h 15 0, bitsOf h 25 24, bitsOf h 23 16, bitOf h 26, bitOf h 27, bitOf h 28,
          (nth ws 1).toInt, (nth ws 2).toInt, (nth ws 3).toInt, (nth ws 4).toInt, nth ws 5, missed, sp⟩
        { x with remotes := (x.remotes.filter fun r => !same r) ++ [r] }
  | 2 => { s with mem := { s.mem with ring := ws :: s.mem.ring } }
  | _ => s

/-- An action frame (R351): an addressed unit posts its entry as an operator would; a refusal is counted. An entry whose transfer into the
table fails for good is not posted (R24). (log 31 DEDUCED) -/
def actionFrame (s : State) (f : ConFrame) (fails : Nat) : State :=
  if f.payload.length != 7 || !s.addressed (bitsOf (nth f.payload 0) 15 0) then s
  else
    let (s, came) := s.transfer (some 3) (tatAddr (8 * (s.tatFree.getD 0))) fails
    if !came then s else
    let (a, s) := s.post ((f.payload.drop 1).take 6 ++ [wd (f.unit + 2 ^ 16 * f.epoch.toNat), 0]) .operator
    if a.status == cOK then s else s.bump F.MEM_ACT_REFUSED_COUNT

/-- Step 8 of R348: the frame is processed by its TYPE; in QUARANTINE only beacons are. A TYPE 5 frame goes to the safety layer, which
takes its PDU by a command of its own. -/
def byType (s : State) (f : ConFrame) (fails : Nat) : State :=
  let quiet := s.dev == dQUARANTINE
  match f.type with
  | 1 =>
    if f.payload.length != 3 then s
    else
      let s := s.joinHears f
      if s.ownRole f.unit then s.ownBeacon f else s.peerBeacon f
  | 2 => if quiet then s else s.forL (cyclicRecords f.payload.length f.payload) fun r s => s.cyclicRecord r.2.1 r.2.2
  | 3 => if quiet then s else s.actionFrame f fails
  | _ => s

/-- SEQ of the sender is followed; a gap counts in MEM_LOSS_CNT (R347, R358). (log 91 DEDUCED) -/
def seqSeen (s : State) (f : ConFrame) : State :=
  match s.peer f.unit with
  | some p =>
    let gap := match p.seq with | some q => f.seq != q + 1 | none => false
    let s := s.setPeer { p with seq := some f.seq }
    if gap then s.bump F.MEM_LOSS_CNT_COUNT else s
  | none => s

/-- A frame that came through the fabric (R348). -/
def conAccept (s : State) (e : EthFrame) : State :=
  if !s.on F.MEM_CFG_EN || e.ethertype.toNat != s.fld F.MEM_CFG_ETHERTYPE || 1 < e.tags ||
      e.mac != BitVec.ofNat 48 (0x034D58000000 + s.fld F.MEM_CFG_DOMAIN) then s
  else
    let (g, s) := s.parseFrame e.words
    match g with
    | none => s
    | some f =>
      match s.epochOf f.unit with
      | some t =>
        if newer t f.epoch then (s.staleFrame 0x4010 f).staleShares f
        else
          let s := if newer f.epoch t then s.newEpoch f else s
          let s := s.seqSeen f
          let heard := match s.peer f.unit with | some p => p.heard.isSome | none => false
          if (f.type == 2 || f.type == 3) && !heard then s else s.byType f e.post
      | none =>
        let s := (s.newEpoch f).seqSeen f
        if f.type == 2 || f.type == 3 then s else s.byType f e.post

/-- A received frame, once the Ethernet links have been started (R73 to R75): the frame mover brings it into the shared SRAM, and one that
does not come through is lost (R24, R27). (log 31 DEDUCED) -/
def conReceive (s : State) (e : EthFrame) : State :=
  if !s.linked then s else s.through 3 e.moved fun s => s.conAccept e

/-! ## Joins (R353, R354) -/

/-- Who asked for the join under way: the session of the command in flight, or the device itself. -/
def joinBy (s : State) : By :=
  match s.inFlight 0x0503 0 with
  | f :: _ =>
    match s.hst.sessions.find? fun x => x.id == f.pkt.session with
    | some x => byPkt x.role f.pkt
    | none => byDevice
  | [] => byDevice

/-- A join begins: the unit listens for the named role (R354). A rejoin expects the stored epoch, the other forms the one in the
table. (log 89 DEDUCED) -/
def joinStart (s : State) (role : Nat) (spare : Bool) : State :=
  let stored := s.nv.role.filter fun r => r.1 == role
  let rejoin := !spare && stored.isSome
  let expect := match stored with
    | some r => if rejoin then BitVec.ofNat 16 r.2 else ((s.peer role).map fun p => p.epoch).getD 0
    | none => ((s.peer role).map fun p => p.epoch).getD 0
  let j : Joining := { role, expect, prev := s.member, spare, take := !spare && !rejoin, start := s.tick, lost := none
                       auto := (s.inFlight 0x0503 0).isEmpty }
  ({ s with mem := { s.mem with join := some j } }).setF F.MEM_STAT_STATE 1

/-- A join has succeeded: the unit holds the role and beacons. (log 89 DEDUCED) -/
def joinDone (s : State) (j : Joining) : State :=
  let epoch := if j.take then j.expect + 1 else j.expect
  let by_ := s.joinBy
  let s := if j.take then { s with nv := { s.nv with role := some (j.role, epoch.toNat) } } else s
  let s := s.audit by_ 0x000D (wd j.role) (wd (s.fld F.MEM_STAT_EPOCH)) (wd epoch.toNat)
  let s := (s.wr .SYS_UNIT (wd j.role)).setF F.MEM_STAT_EPOCH epoch.toNat
  let s := s.setF F.MEM_STAT_STATE (if j.spare then 3 else 2)
  let s := { s with mem := { s.mem with spare := j.spare, join := none, peers := s.mem.peers.filter fun p => p.role != j.role } }
  let s := s.showLive
  let s := if j.spare then { s with nv := { s.nv with quarantine := false } } else s
  let s := if j.spare && s.dev == dQUARANTINE then s.setDev dSAFE else s
  s.beacon false

end State

/-! ## Meanings -/

/-- BEACON_TX (R349): a member or spare sends its beacon PERIOD after the last one; a unit in QUARANTINE sends nothing (R81). -/
def execBeaconTx (out : Moved) (s : State) : Host.Outcome State Fault Refusal :=
  let sends := s.holdsRole || (match s.mem.join with | some j => j.prev == 3 | none => false)
  if !sends || !s.on F.MEM_CFG_EN || s.dev == dQUARANTINE then endWith s
  else endWith ((s.elapseTo (s.mem.beaconAt + s.fld F.MEM_BEACON_PERIOD * ticksPerMs)).beacon false out)

/-- BEACON_RX (R348, R349, R352, R355). -/
def execBeaconRx (dt : Nat) (f : EthFrame) (s : State) : Host.Outcome State Fault Refusal := endWith ((s.elapse dt).conReceive f)

/-- CYCLIC_FRAME_RX (R348, R350). -/
def execCyclicFrameRx (dt : Nat) (f : EthFrame) (s : State) : Host.Outcome State Fault Refusal :=
  endWith ((s.elapse dt).conReceive f)

/-- ACTION_FRAME_RX (R348, R351). -/
def execActionFrameRx (dt : Nat) (f : EthFrame) (s : State) : Host.Outcome State Fault Refusal :=
  endWith ((s.elapse dt).conReceive f)

/-- ROLE_DEAD (R349): no beacon of a live role for MISS times its own PERIOD. -/
def execRoleDead (role : Fin 16384) (s : State) : Host.Outcome State Fault Refusal :=
  match s.peer role.val with
  | some p =>
    if !p.live then endWith s
    else
      let s := s.elapseTo (p.last.getD s.tick + s.fld F.MEM_BEACON_MISS * p.period * ticksPerMs)
      endWith (s.setPeer { p with live := false, conflict := false })
  | none => endWith s

/-- MEMBER_JOIN_LISTEN_END (R354): after listening for (MISS + 1) × PERIOD the join ends. -/
def execMemberJoinListenEnd (s : State) : Host.Outcome State Fault Refusal :=
  match s.mem.join with
  | none => endWith s
  | some j =>
    let s := s.elapseTo (j.start + (s.fld F.MEM_BEACON_MISS + 1) * s.fld F.MEM_BEACON_PERIOD * ticksPerMs)
    match j.lost with
    | some a =>
      let s := ({ s with mem := { s.mem with join := none } }).setF F.MEM_STAT_STATE j.prev
      endWith (s.finish 0x0503 0 a)
    | none =>
      let s := s.joinDone j
      endWith (s.finish 0x0503 0 (ok [wd (if j.spare then 0 else s.fld F.MEM_STAT_EPOCH)]))

end Sys2Proof.Machine
end

