-- ==== Sys2Proof/Machine/Candle.lean ====
section
/-!
DEFINITION. Machine/Candle.lean: ageing measurements, re-plans and the margins they apply, lifetime counters, reports (R456 to R470).
-/

namespace Sys2Proof.Machine

/-- An integer put into a list that rises. -/
def putInt (v : Int) : List Int → List Int
  | [] => [v]
  | w :: l => if v < w then v :: w :: l else w :: putInt v l

namespace State

/-- Integers in rising order. -/
def sortInt (l : List Int) : List Int := l.foldl (fun acc v => putInt v acc) []

/-- The median: the middle value, or the mean of the two in the middle; 0 of an empty list. (log 114 DEDUCED) -/
def median (s : State) (l : List Int) : Int × State :=
  let m := sortInt l
  let n := m.length
  if n == 0 then (0, s)
  else if n % 2 == 1 then (m.getD (n / 2) 0, s)
  else s.quot (m.getD (n / 2 - 1) 0 + m.getD (n / 2) 0) 2

/-- The wear record of bridge b. -/
def wearOf (s : State) (b : Nat) : Wear := nth s.cdl.wear b
/-- The wear record of bridge b changes. -/
def updWear (s : State) (b : Nat) (f : Wear → Wear) : State := { s with cdl := { s.cdl with wear := upd s.cdl.wear b f } }

/-- A signed field of 16 bits as an integer. -/
def sfld (s : State) (f : Fld) (i : Nat) : Int := (BitVec.ofNat 16 (s.fld f i)).toInt

/-- An integer in a signed field of 16 bits, saturated. -/
def setS (s : State) (f : Fld) (v : Int) (i : Nat) : State :=
  s.setF f (BitVec.ofInt 16 (clampI (-32768) 32767 v)).toNat i

/-- A configured bridge (R152). -/
def configured (s : State) (b : Nat) : Bool := s.on F.BR_CFG_TYPE b

/-- The power-stage baseline is valid. -/
def baseValid (s : State) : Bool := s.on F.CDL_STAT_PS_BASE_VALID

/-! ## Gate round trips (R456) -/

/-- The ECHO channels of a bridge. -/
def echoOf (s : State) (b : Nat) : List Nat := (s.chansOf b).filter fun g => s.fld F.GC_CFG_MODE g == 1

/-- CDL_RT_NOW of a bridge follows its ECHO channels. -/
def showRt (s : State) (b : Nat) : State :=
  let mx := fun (f : Fld) => (s.echoOf b).foldl (fun m g => max m (s.fld f g)) 0
  (s.setF F.CDL_RT_NOW_ON (mx F.GATE_RT_RT_ON) b).setF F.CDL_RT_NOW_OFF (mx F.GATE_RT_RT_OFF) b

/-- The positive drifts of RT_ON and RT_OFF of a bridge in 1.25 ns units (R460). -/
def rtDrift (s : State) (b : Nat) : Nat × Nat :=
  if !s.baseValid || (s.echoOf b).isEmpty then (0, 0)
  else (s.fld F.CDL_RT_NOW_ON b - s.fld F.CDL_RT_BASE_ON b, s.fld F.CDL_RT_NOW_OFF b - s.fld F.CDL_RT_BASE_OFF b)

/-! ## Windows (R457, R458, R467) -/

/-- A window of bridge b qualifies (R458); what a window holds with no sample of its axis does not. (log 114 DEDUCED) -/
def qualifies (s : State) (b : Nat) : Bool :=
  let w := s.wearOf b
  w.n != 0 && !w.spoilt && 10 * w.pred < w.n && 3 * (2 ^ 24 : Int) * w.n ≤ 10 * w.sumI && w.sumI ≤ 2 ^ 24 * w.n

/-- The entries of the last 24 h of switching. (log 114 DEDUCED) -/
def lastDay (w : Wear) (l : List (Nat × Int)) : List (Nat × Int) := l.filter fun x => w.swTicks ≤ x.1 + 86400 * ticksPerS

/-- A drift in ‰ of its baseline from the values of the last 24 h; fewer than 16 values, or a baseline of 0, leave it (R458). -/
def showDrift (s : State) (f : Fld) (b : Nat) (l : List (Nat × Int)) (base : Int) : State :=
  if l.length < 16 || base == 0 || !s.baseValid then s
  else
    let (m, s) := s.median (l.map fun x => x.2)
    let (d, s) := s.quot ((m - base) * 1000) base
    s.setS f d b

/-- The baselines are complete: every configured bridge has its own (R457). (log 114 DEDUCED) -/
def baseDone (s : State) : State :=
  let cfg := (upTo 8).filter s.configured
  if s.baseValid || cfg.isEmpty || !(cfg.all fun b => (s.wearOf b).base.isSome && (s.wearOf b).taking.isNone) then s
  else
    let s := s.setF F.CDL_STAT_PS_BASE_VALID 1
    s.forL cfg fun b s => (s.setF F.CDL_RT_BASE_ON (s.wearOf b).rtBase.1 b).setF F.CDL_RT_BASE_OFF (s.wearOf b).rtBase.2 b

/-- The fit of a window by least squares (R458): V0, R_ON and the mean loss power, in pu24; equal currents throughout fix neither V0 nor
R_ON. (log 114 DEDUCED) -/
def windowFit (s : State) (b : Nat) : (Int × Int × Int) × State :=
  let w := s.wearOf b
  let den := w.n * w.sumII - w.sumI * w.sumI
  let (v0, s) := s.quot (w.sumV * w.sumII - w.sumI * w.sumIV) den
  let (r, s) := s.quot ((w.n * w.sumIV - w.sumI * w.sumV) * 2 ^ 24) den
  let (p, s) := s.quot w.sumIV (w.n * 2 ^ 24)
  ((satI v0, satI r, satI p), s)

/-- A qualifying window of bridge b ends with its fit (R458): V0, R_ON and the mean loss power, in pu24. (log 114 DEDUCED) -/
def wearFit (s : State) (b : Nat) (fit : Int × Int × Int) : State :=
  let w := s.wearOf b
  let loss := satI (fit.1 + fit.2.1)
  let before := w.fits.find? fun x => s.tick - x.1 < 61 * ticksPerS && 59 * ticksPerS < s.tick - x.1
  let (imp, s) : Option Int × State := match before with
    | some x =>
      let step := satI (fit.2.2 - x.2.2)
      if 2 ^ 24 ≤ 5 * step then
        let (v, s) := s.quot (satI (fit.1 - x.2.1) * 2 ^ 24) step
        (some (satI v), s)
      else (none, s)
    | none => (none, s)
  let s := s.updWear b fun w => { w with
    losses := lastDay w ((w.swTicks, loss) :: w.losses)
    imps := lastDay w (match imp with | some v => (w.swTicks, v) :: w.imps | none => w.imps)
    fits := (s.tick, fit.1, fit.2.2) :: w.fits.filter fun x => s.tick - x.1 < 61 * ticksPerS
    taking := w.taking.map fun t => (loss :: t.1, imp.toList ++ t.2) }
  match (s.wearOf b).taking with
  | some t =>
    if t.1.length < 64 then s
    else
      let (l, s) := s.median t.1
      let (z, s) := s.median t.2
      (s.updWear b fun w => { w with taking := none, base := some (l, z) }).baseDone
  | none => s

/-- A 1 s window of bridge b ends: the fit where it qualifies, the thermal cycle, the switching time (R458, R467). (log 114 DEDUCED) -/
def wearWindow (s : State) (b : Nat) : State :=
  let w := s.wearOf b
  let n : Int := max w.n 1
  let s := if s.qualifies b then let (fit, s) := s.windowFit b; s.wearFit b fit else s
  let s := match (s.wearOf b).base with
    | some base =>
      (s.showDrift F.CDL_VCE_DRIFT_VCE b (s.wearOf b).losses base.1).showDrift F.CDL_VCE_DRIFT_ZTH b (s.wearOf b).imps base.2
    | none => s
  let rise := s.fld F.CDL_CYC_CFG_HI b * 2 ^ 24 * n < 1000 * w.sumI
  let fall := 1000 * w.sumI < s.fld F.CDL_CYC_CFG_LO b * 2 ^ 24 * n
  let s := if w.hot && fall then s.bump F.CDL_CYCLES_COUNT b else s
  let s := s.updWear b fun w => { w with
    hot := if w.hot then !fall else rise, sumI := 0, sumV := 0, sumII := 0, sumIV := 0, n := 0, pred := 0, spoilt := false }
  s.wr .CDL_HOURS_SW (wd (min (w.swTicks / (60 * ticksPerS)) 0xFFFFFFFF)) b

/-! ## Targets and margins (R460 to R464) -/

/-- A target beyond its bound raises CANDLE_MARGIN_LIMIT (R461). -/
def marginLimit (s : State) (over_ : Bool) : State := if over_ then (s.raiseF F.CDL_STAT_MARGIN_LIMIT).raise 0x7080 else s

/-- A margin moves to its target, or only up to it unless it may relax (R463). -/
def raised (relax : Bool) (old target : Nat) : Nat := if relax then target else max old target

/-- The dead-time margin of bridge b. -/
def planDt (s : State) (relax : Bool) (b : Nat) : State :=
  let dt := s.fld F.BR_DT_DT b
  let bound := max (s.fld F.CDL_DT_MAX_MAX b) dt
  let (k, s) := s.quot (s.fld F.CDL_BR_CFG_K_DT b * (s.rtDrift b).2 : Nat) 8
  let target := dt + k.toNat
  (s.setF F.CDL_MARGIN_DT_PLAN (raised relax (s.fld F.CDL_MARGIN_DT_PLAN b) (min target bound)) b).marginLimit (bound < target)

/-- The guard margins of axis a. -/
def planGuard (s : State) (relax : Bool) (a : Nat) : State :=
  let pre := s.fld F.SNS_GUARD_PRE a
  let post := s.fld F.SNS_GUARD_POST a
  let d := (s.bridgesOf a).foldl (fun m b => max m (max (s.rtDrift b).1 (s.rtDrift b).2)) 0
  let (k, s) := s.quot (s.fld F.CDL_AX_CFG_K_G a * ((d + 3) / 4) : Nat) 8
  let target := pre + k.toNat
  let bound := max (s.fld F.CDL_GUARD_MAX_PRE_MAX a) pre
  let s := s.setF F.CDL_MARGIN_GUARD_PRE (raised relax (s.fld F.CDL_MARGIN_GUARD_PRE a) (min target bound)) a
  let s := s.setF F.CDL_MARGIN_GUARD_POST (raised relax (s.fld F.CDL_MARGIN_GUARD_POST a) post) a
  (s.marginLimit (bound < target)).showGuard a

/-- The wear w of a bridge in ‰ (R460). -/
def wearMax (s : State) (b : Nat) : Int := max (s.sfld F.CDL_VCE_DRIFT_VCE b) (s.sfld F.CDL_VCE_DRIFT_ZTH b)

/-- The derating of axis a. -/
def planDerate (s : State) (relax : Bool) (a : Nat) : State :=
  let w := (s.bridgesOf a).foldl (fun m b => max m (s.wearMax b)) 0
  let over_ := max 0 (w - s.fld F.CDL_AX_CFG_W0 a)
  let (k, s) := s.quot (s.fld F.CDL_AX_CFG_K_I a * over_ * 2 ^ 24) 8000
  let target := 2 ^ 24 - k
  let bound := s.sg .CDL_DERATE_MIN a
  let v := max target bound
  let v := if relax then v else min v (s.sg .CDL_MARGIN_DERATE a)
  (s.wrSat .CDL_MARGIN_DERATE v a).marginLimit (target < bound)

/-- The overrun budget of slot k = 4·e + slot (R198, R460, R464). -/
def planBudget (s : State) (relax : Bool) (k : Nat) : State :=
  let budget := s.fld F.LE_TASK_BUDGET_BUDGET k
  let worst := (s.cdl.replays.filter fun x => x.1 == k && s.tick ≤ x.2.1 + 3600 * ticksPerS).foldl (fun m x => max m x.2.2) 0
  let bound := max (s.fld F.CDL_MARGIN_BUDGET_MAX k) budget
  let target := budget + 4 * worst
  let want := min (raised relax (s.fld F.CDL_MARGIN_BUDGET_PLAN k) (min target bound)) 32767
  let e := k / 4
  let fit := if s.on F.LE_CTRL_RUN e && !s.on F.LE_CTRL_OVERCOMMIT e then s.fitBudget e (k % 4) 32768 want else want
  let s := (s.setF F.CDL_MARGIN_BUDGET_PLAN fit k).setF F.CDL_MARGIN_BUDGET_CLIPPED (b2n (fit < want)) k
  (s.marginLimit (bound < target)).showBudget k

/-- The planned values are kept in the Candle region (R464). -/
def keepMargins (s : State) : State :=
  let s := s.forN 8 fun b s => s.keep .CDL_MARGIN_DT b
  let s := s.forN 4 fun a s => (s.keep .CDL_MARGIN_GUARD a).keep .CDL_MARGIN_DERATE a
  s.forN 40 fun k s => s.keep .CDL_MARGIN_BUDGET k

/-- A warning of R466 is raised once per crossing: `k` is its place among the three of the device. (log 39 DEDUCED) -/
def deviceWarn (s : State) (k : Nat) (on_ : Bool) (f : Fld) (code : Nat) : State :=
  let was := s.cdl.crossed.getD k false
  let pad := s.cdl.crossed ++ List.replicate (3 - s.cdl.crossed.length) false
  let s := { s with cdl := { s.cdl with crossed := pad.set k on_ } }
  if on_ && !was then (s.setF f 1).raise code else s

/-- The warnings of a re-plan (R466). -/
def warnings (s : State) : State :=
  let s := s.deviceWarn 0 (s.fld F.CDL_DEV_LIM_RO_LIM < (s.sg .CDL_RO_DRIFT).natAbs) F.CDL_STAT_SILICON 0x7081
  let s := s.deviceWarn 1 (10 * s.fld F.CDL_DEV_LIM_OSC_LIM < (s.sg .CDL_OSC_DRIFT).natAbs) F.CDL_STAT_OSC 0x7082
  let s := s.deviceWarn 2 (s.fld F.CDL_NV_MARGIN_PCT < s.fld F.CDL_DEV_LIM_NV_MIN) F.CDL_STAT_NV_LOW 0x7083
  s.forN 8 fun b s =>
    let on_ := s.configured b && s.baseValid && (s.fld F.CDL_BR_CFG_WEAR_LIM b : Int) ≤ s.wearMax b
    let was := (s.wearOf b).worn
    let s := s.updWear b fun w => { w with worn := on_ }
    if on_ && !was then (s.setF F.CDL_STAT_WEAR 1).raise 0x7084 7 [wd b] else s

/-! ## Reports (R469, R470) -/

/-- The eight words of a report. -/
def report (s : State) (sel : Nat) : Option (List Word) :=
  let r := fun (x : RegId) (i : Nat) => s.view x i
  if sel == 0 then
    some [r .CDL_RO_DRIFT 0, r .CDL_OSC_DRIFT 0, r .CDL_NV_MARGIN 0, r .CDL_HOURS_ON 0, r .CDL_STAT 0, r .CDL_LAST_TIME_LO 0,
      r .CDL_LAST_TIME_HI 0, r .CDL_REPLAN_CNT 0]
  else if 0x10 ≤ sel && sel < 0x18 then
    let b := sel - 0x10
    some [r .CDL_MARGIN_DT b, r .CDL_RT_BASE b, r .CDL_RT_NOW b, r .CDL_VCE_DRIFT b, r .CDL_CYCLES b, r .CDL_HOURS_SW b,
      wd (s.fld F.BR_DT_DT_EFF b), 0]
  else if 0x20 ≤ sel && sel < 0x24 then
    let a := sel - 0x20
    some [r .CDL_MARGIN_DERATE a, r .CDL_MARGIN_GUARD a, r .SNS_EFF_GUARD a, r .CDL_ENERGY_MOT a, r .CDL_ENERGY_GEN a,
      r .AX_ILIM a, 0, 0]
  else if 0x30 ≤ sel && sel < 0x3A then
    let e := sel - 0x30
    some (((upTo 4).map fun k => r .CDL_MARGIN_BUDGET (4 * e + k)) ++ (upTo 4).map fun k => r .LE_TASK_BUDGET (4 * e + k))
  else none

/-- The condition series of a re-plan (R470). -/
def condition (s : State) : State :=
  if !s.on F.STR_CTRL_COND_EN then s
  else
    let sels := 0 :: ((((upTo 8).filter s.configured).map (0x10 + ·)) ++
      (((upTo 4).filter fun a => !(s.bridgesOf a).isEmpty).map (0x20 + ·)) ++
      (((upTo 10).filter fun e => !(s.slotsOn e).isEmpty).map (0x30 + ·)))
    let ws := sels.flatMap fun k => wd k :: (s.report k).getD []
    s.streamSeries 2 ws

/-! ## A re-plan (R459 to R466) -/

/-- A steering in force summed from `since` to `till`, with the time that the record covers: `l` are its changes, newest first. -/
def steerSum (since : Nat) : Nat → List (Nat × Int) → Int × Nat
  | _, [] => (0, 0)
  | till, (t, f) :: l =>
    let rest := if t ≤ since then (0, 0) else steerSum since t l
    (rest.1 + f * ((till - max t since : Nat) : Int), rest.2 + (till - max t since))

/-- The mean steering over the last hour in 0.01 ppm (R456). -/
def meanSteer (s : State) : Int × State :=
  let (sum, time) := steerSum (s.tick - 3600 * ticksPerS) s.tick s.mer.hour
  if time == 0 then (0, s) else s.quot (sum * 100) (time * 2 ^ 16)

/-- The device quantities of a re-plan (R456): under LOCKED the oscillator drift is the mean steering of the last hour, which is stored;
otherwise the one measured is taken against the stored one. (log 111 DEDUCED) -/
def devDrift (s : State) (ro osc : Int) (nv : Nat) : State :=
  let s := (s.wrSat .CDL_RO_DRIFT ro).setF F.CDL_NV_MARGIN_PCT (min nv 255)
  if s.fld F.MER_STAT_MSTATE == 2 then
    let (m, s) := s.meanSteer
    { s with cdl := { s.cdl with oscRef := m } }.wrSat .CDL_OSC_DRIFT m
  else s.wrSat .CDL_OSC_DRIFT (osc - s.cdl.oscRef)

/-- A pending REBASE takes a new baseline (R457): the round trips now, the windows to come. (log 114 DEDUCED) -/
def rebase (s : State) : State :=
  let s := { s with cdl := { s.cdl with rebase := false } }.setF F.CDL_STAT_PS_BASE_VALID 0
  s.forN 8 fun b s =>
    let s := s.updWear b fun w => { w with
      rtBase := (s.fld F.CDL_RT_NOW_ON b, s.fld F.CDL_RT_NOW_OFF b), taking := some ([], []), base := none }
    (s.wr .CDL_RT_BASE 0 b).wr .CDL_VCE_DRIFT 0 b

/-- The margins of a re-plan apply together in one tick. (log 115 DEDUCED) -/
def margins (s : State) (relax : Bool) : State :=
  let s := s.forN 8 fun b s => s.planDt relax b
  let s := s.forN 4 fun a s => (s.planGuard relax a).planDerate relax a
  (s.forN 40 fun k s => s.planBudget relax k).keepMargins

/-- A re-plan ends (R464): measurements, baseline, margins, warnings, the time and the count, the condition series, and the final reply of
a MARGIN_REPLAN. (log 115 DEDUCED) -/
def replanEnd (s : State) (ro osc : Int) (nv : Nat) (atBoot : Bool) : State :=
  let s := s.devDrift ro osc nv
  let s := s.forN 8 fun b s => s.showRt b
  let take := s.cdl.rebase
  let s := if take then s.rebase else s
  let s := (s.margins (take || atBoot)).warnings
  let t := s.meridian
  let s := ((s.wr .CDL_LAST_TIME_LO (lo32 t)).wr .CDL_LAST_TIME_HI (hi32 t)).bump F.CDL_REPLAN_CNT_COUNT
  let s := { s with cdl := { s.cdl with
    run := none, lastEnd := s.tick, replays := s.cdl.replays.filter fun x => s.tick ≤ x.2.1 + 3600 * ticksPerS } }
  ((s.setF F.CDL_STAT_RUNNING 0).condition).finish 0x0C01 0 (ok)

/-- The lifetime counters are written to the Candle region (R468). (log 114 DEDUCED) -/
def saveCounters (s : State) : State :=
  let s := (s.keep .CDL_HOURS_ON).forN 8 fun b s => (s.keep .CDL_HOURS_SW b).keep .CDL_CYCLES b
  s.forN 4 fun a s => (s.keep .CDL_ENERGY_MOT a).keep .CDL_ENERGY_GEN a

/-- A periodic re-plan has to wait (R459): UPDATE, QUARANTINE, BOOT, or pair B halted or under resynchronisation. (log 102 DEDUCED) -/
def replanWaits (s : State) : Bool :=
  s.dev == dUPDATE || s.dev == dQUARANTINE || s.dev == dBOOT || s.halted || nth s.lan.resync 1

end State

/-! ## Meanings -/

/-- REPLAN_PERIODIC (R459): 3,600 s after the end of the last re-plan the next one starts, unless it has to wait. (log 115 DEDUCED) -/
def execReplanPeriodic (s : State) : Host.Outcome State Fault Refusal :=
  if !s.on F.CDL_CTRL_PERIODIC || s.cdl.run.isSome || s.replanWaits then endWith s
  else endWith (s.elapseTo (s.cdl.lastEnd + 3600 * ticksPerS)).replanStart

/-- REPLAN_COMPLETE (R456, R459, R464): within 500 ms of its start the re-plan under way ends with the device quantities it measured. (log 115 DEDUCED) -/
def execReplanComplete (dt : Nat) (ro osc : Int) (nv : Nat) (s : State) : Host.Outcome State Fault Refusal :=
  match s.cdl.run with
  | none => endWith (s.elapse dt)
  | some t => endWith ((s.elapse (min dt (t + 500 * ticksPerMs - s.tick))).replanEnd ro osc nv false)

/-- CANDLE_WINDOW (R458, R467): the 1 s windows under way end, with the fit of each that qualifies. (log 114 DEDUCED) -/
def execCandleWindow (s : State) : Host.Outcome State Fault Refusal :=
  let s := s.elapseTo (s.cdl.winAt + ticksPerS)
  let s := s.forN 8 fun b s => s.wearWindow b
  endWith { s with cdl := { s.cdl with winAt := s.tick } }

/-- CANDLE_COUNTER_SAVE (R467, R468): a further minute with the logic supply good; the counters are saved. -/
def execCandleCounterSave (s : State) : Host.Outcome State Fault Refusal :=
  if s.sys.phase == .unpowered then endWith s
  else
    let s := s.elapseTo (s.cdl.savedAt + 60 * ticksPerS)
    let s := { s with cdl := { s.cdl with savedAt := s.tick } }
    endWith (s.bump F.CDL_HOURS_ON_MIN).saveCounters

end Sys2Proof.Machine
end

