-- ==== Sys2Proof/Machine/LanternEvents.lean ====
section
/-!
DEFINITION. Machine/LanternEvents.lean: safety records in force, the STO inputs, the safe speed with SS1, SLS and SMS, the DC
link, the brake test, the safety layer and lockstep supervision (R408, R410, R412, R413, R416 to R437).
-/

namespace Sys2Proof.Machine

namespace State

/-! ## Records (R408, R410, R412, R413, R497) -/

/-- Word index in the NV store and length of the stored record of KIND 1 or 2. -/
abbrev recAt (kind : Nat) : Nat := if kind == 1 then 0x800 else 0xC00
abbrev recLen (kind : Nat) : Nat := if kind == 1 then 85 else 77

/-- Word k of the stored record of a KIND; zeros where none is stored. -/
def recWord (s : State) (kind k : Nat) : Word := Store.get zeroMem s.nv.mem (recAt kind + k)

/-- A record of this KIND is stored. -/
def recStored (s : State) (kind : Nat) : Bool := s.recWord kind 0 != 0

/-- The body of the stored record: its words from 5 up to the TAG. -/
def recBody (s : State) (kind : Nat) : List Word :=
  if s.recStored kind then Store.read zeroMem s.nv.mem (recAt kind + 5) (recLen kind - 13) else []

/-- The safety configuration identity (R412). -/
def configId (s : State) : Word := lanCrc 0xFFFFFFFF (wd s.sw :: (s.recBody 1 ++ s.recBody 2))

/-- A connection is in use; it is in fail-safe, or only produces (R431, R439). -/
def connState (s : State) (c : Nat) : Nat :=
  if s.parConn c 0 == 0 then 0 else if s.networked && s.consumes c then 1 else if s.produces c then 3 else 0

/-- NET_FAILSAFE (R439). -/
def showNet (s : State) : State :=
  s.setF F.LAN_STAT_NET_FAILSAFE (b2n (s.consuming.any fun c => s.fld F.LAN_CONN_STAT_STATE c == 1))

/-- Every connection starts afresh (R429, R431). -/
def connStart (s : State) : State :=
  let s := { s with lan := { s.lan with conns := List.replicate 8 ⟨false, 0, 0, 0, s.tick, 0, none, false⟩ } }
  (s.forN 8 fun c s => (s.wr .LAN_CONN_STAT (wd (s.connState c)) c).wr .LAN_CONN_DATA 0 c).showNet

/-- The safety parameter record comes into force (R408, R411, R431). -/
def applyParam (s : State) (body : List Word) : State :=
  let s := { s with lan := { s.lan with par := body } }
  let s := if s.lan.configBad then s else s.setF F.LAN_STAT_PARAM_VALID 1
  s.connStart

/-- The envelope record comes into force (R413, R414). -/
def applyEnvelope (s : State) (body : List Word) : State :=
  let ax : List RegId := [.LAN_ENV_IMAX, .LAN_ENV_VMAX, .LAN_ENV_TMAX, .LAN_ENV_TRATE, .LAN_ENV_PMAX, .LAN_ENV_EM]
  let br : List RegId := [.LAN_ENV_DTMIN, .LAN_ENV_TSEQ, .LAN_ENV_VDC_HI, .LAN_ENV_VDC_LO]
  let s := s.forN 4 fun n s => s.forN 6 fun k s => s.wr (nth ax k) (nth body (8 * n + k)) n
  let s := s.forN 8 fun b s => s.forN 4 fun k s => s.wr (nth br k) (nth body (32 + 4 * b + k)) b
  let s := s.forN 4 fun n s => s.setF F.AX_EM_ADMIT_MODES (bitsOf (s.rd .LAN_ENV_EM n) 6 1) n
  (s.setF F.LAN_STAT_ENV_VALID 1).clipAll

/-- LAN_ID follows. -/
def showId (s : State) : State := s.wr .LAN_ID s.configId

/-! ## The STO inputs (R418 to R420) -/

/-- The two channels' filtered requests: bit 0 STO_A, bit 1 STO_B release. (log 97 DEDUCED) -/
def stoRel (s : State) : Nat := s.fld F.LAN_STO_IN_REL

/-- The time since which the channels differ, and whether both have demanded together (R419). (log 97 DEDUCED) -/
def stoCompare (s : State) : State :=
  let r := s.stoRel
  { s with lan := { s.lan with
    diffSince := if r == 1 || r == 2 then some (s.lan.diffSince.getD s.tick) else none
    bothSince := s.lan.bothSince || r == 0 } }

/-! ## Safe speed (R417) -/

/-- The safe speed of source A: counter change over 4 ms. (log 99 DEDUCED) -/
def speedA (s : State) (n : Nat) : Option Int × State :=
  let ch := bitsOf (s.parAx n 0) 1 0
  if !bitOf (s.parAx n 0) 2 || !s.on F.EN_STAT_VALID ch then (none, s)
  else
    let c := s.counter ch
    let old := (nth s.lan.ax n).counts
    let s := { s with lan := { s.lan with ax := upd s.lan.ax n fun x => { x with counts := (c :: x.counts).take 4 } } }
    let (v, s) := s.quot ((c - old.getLastD c).toInt * 1500000 * 2 ^ 24) ((s.parAx n 1).toNat * (s.parAx n 2).toNat)
    (some v, s)

/-- The safe speed of source B: change of the applied angle over 4 ms. (log 99 DEDUCED) -/
def speedB (s : State) (n : Nat) : Option Int × State :=
  match s.mainBridge n with
  | none => (none, s)
  | some b =>
    if !s.running b then (none, s)
    else
      let t := (s.bridge b).turned
      let old := (nth s.lan.ax n).angles
      let s := { s with lan := { s.lan with ax := upd s.lan.ax n fun x => { x with angles := (t :: x.angles).take 4 } } }
      let (v, s) := s.quot ((t - old.getLastD t) * 1500000) (256 * bitsOf (s.parAx n 0) 15 8 * (s.parAx n 2).toNat)
      (some v, s)

/-- The safe speed record of axis n changes. (log 99 DEDUCED) -/
def updSafe (s : State) (n : Nat) (f : SafeAx → SafeAx) : State :=
  { s with lan := { s.lan with ax := upd s.lan.ax n f } }

/-- A source that is not valid forgets its window and leaves its register. (log 99 DEDUCED) -/
def showSource (s : State) (n : Nat) (r : RegId) (f : Fld) (v : Option Int) (drop : SafeAx → SafeAx) : State :=
  let s := s.setF f (b2n v.isSome) n
  match v with
  | some x => s.wrSat r x n
  | none => s.updSafe n drop

/-- The safe speed of axis n is formed (R417). (log 99 DEDUCED) -/
def safeSpeed (s : State) (n : Nat) : State :=
  let (va, s) := s.speedA n
  let (vb, s) := s.speedB n
  let s := s.showSource n .LAN_SPD_A F.LAN_SPD_STAT_A_VALID va fun x => { x with counts := [] }
  let s := s.showSource n .LAN_SPD_B F.LAN_SPD_STAT_B_VALID vb fun x => { x with angles := [] }
  let safe := match va, vb with
    | some x, some y => some (if x.natAbs < y.natAbs then y else x)
    | some x, none => some x
    | none, some y => some y
    | none, none => none
  let s := s.setF F.LAN_SPD_STAT_UNKNOWN (b2n safe.isNone) n
  let s := match safe with | some v => s.wrSat .LAN_SPD_SAFE v n | none => s
  let one := (va.isSome != vb.isSome) && (s.hasFunc 2 || s.hasFunc 3)
  let was := s.on F.LAN_SPD_STAT_SINGLE n
  let s := s.setF F.LAN_SPD_STAT_SINGLE (b2n one) n
  let s := if one && !was then s.raise 0x5009 n [] else s
  let apart := match va, vb with
    | some x, some y => decide (bitsOf (s.parAx n 7) 31 16 * 2 ^ 24 < 1000 * (x - y).natAbs)
    | _, _ => false
  let r := nth s.lan.ax n
  if !apart then s.updSafe n fun x => { x with differ := none, told := false }
  else
    match r.differ with
    | none => s.updSafe n fun x => { x with differ := some s.tick }
    | some t =>
      if r.told || s.tick < t + 100 * ticksPerMs then s
      else (s.updSafe n fun x => { x with told := true }).raise 0x5008 n []

/-- The safe speed of an axis, none while unknown. (log 99 DEDUCED) -/
def safeOf (s : State) (n : Nat) : Option Int :=
  if s.on F.LAN_SPD_STAT_UNKNOWN n then none else some (s.sg .LAN_SPD_SAFE n)

/-! ## SS1, SLS, SMS (R422, R423) -/

/-- The bound of SS1 on an axis whose safe speed was v0 at its start. (log 98 DEDUCED) -/
def ss1Limit (s : State) (n : Nat) (v0 : Int) (t0 : Nat) : Int × State :=
  let run := (s.tick - t0) - bitsOf (s.par 6) 15 0 * ticksPerMs
  let (d, s) := s.quot ((s.parAx n 3).toInt * run) ticksPerS
  (max (v0 - d) 0 + (s.parAx n 4).toInt, s)

/-- Step 2 of SS1 for one axis; the boolean is a breach. -/
def ss1Axis (s : State) (q : Ss1) (n : Nat) : State × Bool :=
  if !nth q.axes n then (s, false)
  else match nth q.v0 n with
    | none => (s, false)
    | some v0 =>
      let (lim, s) := s.ss1Limit n v0 q.t0
      let s := s.wrSat .LAN_SS1_LIM lim n
      match s.safeOf n with
      | some v => (s, decide (lim < v.natAbs))
      | none => (s, false)

/-- The monitoring of SS1 (R422 steps 2 and 3). (log 98 DEDUCED) -/
def ss1Check (s : State) : State :=
  match s.lan.ss1 with
  | none => s
  | some q =>
    if !q.monitored then s
    else
      let r := (upTo 4).foldl (fun (r : State × Option Nat) n =>
        let p := r.1.ss1Axis q n
        (p.1, r.2.or (if p.2 then some n else none))) (s, none)
      match r.2 with
      | some n => r.1.raise 0x5006 n []
      | none => r.1

/-- SLS and SMS on one axis (R423): judged while STO is released. (log 98 DEDUCED) -/
def speedLimits (s : State) (n : Nat) : State :=
  let v : Nat := match s.safeOf n with | some v => v.natAbs | none => 0
  let known := (s.safeOf n).isSome && !s.stoOn
  let late := match s.lan.slsSince with
    | some t => decide (t + bitsOf (s.parAx n 7) 15 0 * ticksPerMs ≤ s.tick)
    | none => false
  let sls := known && late && decide ((s.parAx n 5).toInt + (s.parAx n 4).toInt < v)
  let sms := known && s.hasFunc 3 && s.on F.LAN_STAT_PARAM_VALID && !s.nonsafe && decide ((s.parAx n 6).toInt < v)
  let was := nth s.lan.ax n
  let s := s.updSafe n fun x => { x with slsOver := sls, smsOver := sms }
  let s := if sls && !was.slsOver then s.raise 0x500A n [] else s
  if sms && !was.smsOver then s.raise 0x500B n [] else s

/-! ## The brake outputs (R424 to R426) -/

/-- An output is energised while commanded off: both go off and the fault is latched. (log 100 DEDUCED) -/
def sbcFault (s : State) (b : Bool) : State :=
  let s := { s with lan := { s.lan with sbcPin := s.lan.sbcPin.set (b2n b) true } }
  let s := (s.setF F.LAN_STAT_SBC_FAULT 1).raise 0x500C 7 [wd (b2n b)]
  s.brakeEval

/-! ## The safety layer (R428 to R431) -/

/-- Connection c's record. -/
def conn (s : State) (c : Nat) : Conn := nth s.lan.conns c
def updConn (s : State) (c : Nat) (f : Conn → Conn) : State :=
  { s with lan := { s.lan with conns := upd s.lan.conns c f } }

/-- TRANSPORT of a connection: 0 Constellation, 1 UDP, 2 and 3 the CAN controllers (R427). -/
def pduVia (s : State) (c : Nat) : Nat := bitsOf (s.parConn c 1) 1 0

/-- WD of a connection in ms. -/
def connWd (s : State) (c : Nat) : Nat := bitsOf (s.parConn c 3) 15 0

/-- What the consumed permits demand (R430). (log 97 DEDUCED) -/
def netDemands (s : State) : State :=
  if !s.permit 2 then
    if s.stoOn then s else (s.bump F.LAN_DEMAND_CNT_COUNT).stoDemand
  else if !s.permit 0 then
    if s.stoOn || s.lan.ss1.isSome then s else (s.bump F.LAN_DEMAND_CNT_COUNT).funcDemand
  else s

/-- A connection enters fail-safe (R431). -/
def failSafe (s : State) (c : Nat) : State :=
  let s := (s.setF F.LAN_CONN_STAT_STATE 1 c).wr .LAN_CONN_DATA 0 c
  let s := s.updConn c fun x => { x with any := false, row := 0, acked := false }
  ((s.showNet).raise 0x5020 7 [wd c]).netDemands

/-- A connection in fail-safe that has two accepted PDUs in a row and a FAULT_ACK leaves it. -/
def leaveFailSafe (s : State) (c : Nat) : State :=
  let x := s.conn c
  if s.fld F.LAN_CONN_STAT_STATE c == 1 && x.acked && 2 ≤ x.row then
    ((s.setF F.LAN_CONN_STAT_STATE 2 c).wr .LAN_CONN_DATA x.data c).showNet.netDemands
  else s

/-- A consumed PDU is refused (R429, R431). (log 101 DEDUCED) -/
def refusePdu (s : State) (c : Nat) : State :=
  let s := (s.bump F.LAN_CONN_ERR_COUNT c).updConn c fun x => { x with row := 0, refused := x.refused + 1 }
  if (s.conn c).refused == 3 && s.fld F.LAN_CONN_STAT_STATE c == 2 then s.failSafe c else s

/-- A consumed PDU on connection c (R429, R430); the watchdog of a valid connection that has run out has acted before it. (log 101 DEDUCED) -/
def consumePdu (s : State) (c : Nat) (pdu : List Word) : State :=
  let s := if s.fld F.LAN_CONN_STAT_STATE c == 2 && (s.conn c).lastAt + s.connWd c * ticksPerMs < s.tick then s.failSafe c else s
  let w (k : Nat) : Word := nth pdu k
  let seq := bitsOf (w 1) 15 0
  let link := w 0 != s.parConn c 0 || bitsOf (w 1) 31 16 != s.connWd c || bitOf (w 2) 17
  let s := if link then s.raise 0x5021 7 [wd c] else s
  let sound := pdu.length == 6 && w 5 == lanCrc (s.parConn c 0) (pdu.take 5) &&
    bitsOf (w 2) 31 18 == 0 && bitsOf (w 2) 15 0 == 0 && w 4 == 0
  let inOrder := (s.fld F.LAN_CONN_STAT_STATE c == 1 && !(s.conn c).any) ||
    seq == (s.fld F.LAN_CONN_STAT_RX_SEQ c + 1) % 65536
  if link || !sound || !inOrder then s.refusePdu c
  else
    let data := if bitOf (w 2) 16 then 0 else w 3
    let s := s.setF F.LAN_CONN_STAT_RX_SEQ seq c
    let s := s.updConn c fun x => { x with any := true, row := x.row + 1, refused := 0, data := data, lastAt := s.tick }
    if s.fld F.LAN_CONN_STAT_STATE c == 2 then (s.wr .LAN_CONN_DATA data c).netDemands else s.leaveFailSafe c

/-- A PDU from a source belongs to connection c (R427, R428). (log 101 DEDUCED) -/
def fromPeer (s : State) (c : Nat) (src : PduSrc) : Bool :=
  let w := s.parConn c 1
  let addr := s.parConn c 2
  match src with
  | .constellation u => bitsOf w 1 0 == 0 && bitsOf w 31 16 == u.toNat
  | .udp ip port => bitsOf w 1 0 == 1 && addr == ip && bitsOf (s.parConn c 3) 31 16 == port
  | .can k id ide => bitsOf w 1 0 == 2 + k.val && bitsOf addr 28 0 == id.toNat && bitOf addr 29 == ide

/-- A safe speed in units of 0.1 %, 16 bits signed; 0 while unknown. (log 99 DEDUCED) -/
def permilleSafe (s : State) (n : Nat) : Nat × State :=
  match s.safeOf n with
  | none => (0, s)
  | some v =>
    let (q, s) := s.quot (1000 * v) (2 ^ 24)
    ((clampI (-32768) 32767 q % 65536).toNat, s)

/-- The next PDU that connection c produces (R428, R430). (log 101 DEDUCED) -/
def producePdu (s : State) (c : Nat) : List Word × State :=
  let (v0, s) := s.permilleSafe 0
  let (v1, s) := s.permilleSafe 1
  let x := s.conn c
  let w1 := wd (x.txSeq % 65536 + s.connWd c * 65536)
  let w2 := wd (b2n (s.fld F.LAN_CONN_STAT_STATE c == 1) * 2 ^ 16 + b2n s.nonsafe * 2 ^ 17)
  let d0 := wd (b2n s.stoOn + 2 * b2n s.lan.ss1.isSome + 4 * b2n s.slsDemand + 8 * b2n s.braked + 16 * b2n (!s.flt.latched.isEmpty))
  let ws := [s.parConn c 0, w1, w2, d0, wd (v0 + v1 * 65536)]
  (ws ++ [lanCrc (s.parConn c 0) ws], s)

/-- PDUs of this kind reach the safety layer: Constellation frames only with MEM_CFG.EN set (R346). (log 101 DEDUCED) -/
def hearsPdu (s : State) : PduSrc → Bool
  | .constellation _ => s.on F.MEM_CFG_EN
  | _ => true

/-- A safety PDU leaves over its transport (R428): as the payload of a Constellation frame of TYPE 5 (R347), or by itself. -/
def sendPdu (s : State) (c : Nat) (pdu : List Word) : State :=
  if s.pduVia c == 0 then
    let (ws, s) := s.frame 5 false pdu
    s.emit (.safetyFrame s.ethHead c ws)
  else s.emit (.safetyPdu c pdu)

/-- A PDU may go by the transport of connection c: a Constellation frame asks for MEM_CFG.EN (R346), and none is sent in QUARANTINE
(R81). (log 101 DEDUCED) -/
def pduWay (s : State) (c : Nat) : Bool := s.pduVia c != 0 || (s.on F.MEM_CFG_EN && s.dev != dQUARANTINE)

/-! ## Lockstep (R432 to R435) -/

/-- For how long a STO input must be low to be accepted (R55, R418): 20 µs, or 1.2 ms where STO_PULSE_TOL is ON. -/
def stoLowTime (s : State) : Nat := ticksPerUs * (if s.sw.testBit 7 then 1200 else 20)

/-- A pair runs split. -/
def splitPair (s : State) (b : Bool) : Bool := s.on (if b then F.SYS_STATE_SPLIT_B else F.SYS_STATE_SPLIT_A)

/-- A mismatch on a bus output, or what counts as one (R433, R434); the pair restarts at once from its checkpoint. (log 102 DEDUCED) -/
def pairMismatch (s : State) (b : Bool) : State :=
  let again := match s.lan.mismatch with | some t => decide (s.tick ≤ t + 60 * ticksPerS) | none => false
  let s := { s with lan := { s.lan with mismatch := some s.tick } }
  let s := s.raise (if b then 0x5031 else 0x5030) 7 []
  let s := if again then s.raise 0x5033 7 [] else s
  if b then s.replanAbandon.replanResume else s

end State

/-! ## Meanings -/

/-- STO_LOW_ACCEPTED (R418, R419): the level of a channel has been low for `held` ticks; one shorter than its filter is a test pulse,
which is ignored. (log 97 DEDUCED) -/
def execStoLowAccepted (dt : Nat) (chB : Bool) (held : Nat) (s : State) : Host.Outcome State Fault Refusal :=
  if held < s.stoLowTime then endWith (s.elapse dt)
  else
  let s := (s.elapse dt).setBit F.LAN_STO_IN_RAW (b2n chB) false
  if !s.fbit F.LAN_STO_IN_REL (b2n chB) then endWith s
  else
    let s := (s.setBit F.LAN_STO_IN_REL (b2n chB) false).stoCompare
    endWith ((s.bump F.LAN_DEMAND_CNT_COUNT).raise 0x5005 7 [wd (b2n chB)]).funcDemand

/-- STO_RELEASE_ACCEPTED (R418, R420): the level of a channel has been high for `held` ticks; one held for 10 ms requests release, which
releases nothing by itself. (log 97 DEDUCED) -/
def execStoReleaseAccepted (dt : Nat) (chB : Bool) (held : Nat) (s : State) : Host.Outcome State Fault Refusal :=
  if held < 10 * ticksPerMs then endWith (s.elapse dt)
  else
  let s := (s.elapse dt).setBit F.LAN_STO_IN_RAW (b2n chB) true
  endWith (s.setBit F.LAN_STO_IN_REL (b2n chB) true).stoCompare

/-- STO_DISCREPANCY (R419, R435): the channels have differed for longer than STO_DISC. -/
def execStoDiscrepancy (dt : Nat) (s : State) : Host.Outcome State Fault Refusal :=
  let s := s.elapse dt
  match s.lan.diffSince with
  | none => endWith s
  | some t =>
    if s.nonsafe || s.on F.LAN_STAT_DISC then endWith s
    else
      let s := s.elapseTo (t + bitsOf (s.par 5) 31 16 * ticksPerMs + 1)
      let s := { s with lan := { s.lan with bothSince := false } }
      endWith ((s.setF F.LAN_STAT_DISC 1).raise 0x5004 7 [])

/-- SAFE_SPEED_UPDATE (R417, R422, R423): the evaluation, 1 ms after the one before. -/
def execSafeSpeedUpdate (dt : Nat) (s : State) : Host.Outcome State Fault Refusal :=
  let s := s.elapseFrom dt (s.lan.updAt + ticksPerMs)
  let s := { s with lan := { s.lan with updAt := s.tick } }.forN 4 fun n s => s.safeSpeed n
  let s := s.slsTrack.ss1Check
  endWith (s.forN 4 fun n s => s.speedLimits n)

/-- SS1_END (R422): STO follows when every axis is at SS1_ZERO, otherwise at SS1_TMAX. (log 98 DEDUCED) -/
def execSs1End (dt : Nat) (s : State) : Host.Outcome State Fault Refusal :=
  let s := s.elapse dt
  match s.lan.ss1 with
  | none => endWith s
  | some q =>
    let zero := (s.par 7).toInt
    let still := (upTo 4).all fun n =>
      !nth q.axes n || (match s.safeOf n with | some v => decide ((v.natAbs : Int) ≤ zero) | none => false)
    if still then endWith s.stoTake
    else
      let s := s.elapseTo (q.t0 + bitsOf (s.par 6) 31 16 * 10 * ticksPerMs)
      endWith (s.raise 0x5007 7 []).stoTake

/-- VDC_LO_COMPARE (R416): bits arrive, and 1 ms after the comparison before the fast value of each running bridge's DC link is compared;
the tenth comparison below VDC_LO in a row raises the fault. -/
def execVdcLoCompare (dt : Nat) (bits : List (List Bool)) (s : State) : Host.Outcome State Fault Refusal :=
  let s := s.elapseFrom dt (s.lan.cmpAt + ticksPerMs)
  endWith (({ s with lan := { s.lan with cmpAt := s.tick } }.sdFeedAll bits).forN 8 fun b s =>
    let (v, s) := s.fastLink b
    let below := s.running b && s.envValid && v.any fun v => decide (v < s.sg .LAN_ENV_VDC_LO b)
    let n := if below then min (nth s.lan.vdcLow b + 1) 11 else 0
    let s := { s with lan := { s.lan with vdcLow := s.lan.vdcLow.set b n } }
    if n == 10 then s.raise 0x500D (s.fld F.BR_CFG_AXIS b) [wd b] else s)

/-- SBC_TEST_PULSE (R426): each output is switched off for 500 µs in turn; ok says that it turned off. (log 100 DEDUCED) -/
def execSbcTestPulse (dt : Nat) (okA okB : Bool) (s : State) : Host.Outcome State Fault Refusal :=
  let s := (s.elapse dt).brakeEval
  if s.fld F.LAN_SBC_ON != 3 || s.nonsafe then endWith s
  else
    let s := s.elapseTo (s.lan.sbcTestAt + bitsOf (s.par 9) 15 0 * ticksPerS)
    let s := { s with lan := { s.lan with sbcTestAt := s.tick } }
    let s := s.elapse (500 * ticksPerUs)
    if !okA then endWith (s.sbcFault false)
    else
      let s := s.elapse (500 * ticksPerUs)
      endWith (if okB then s else s.sbcFault true)

/-- SBC_OUTPUT_FAULT (R426, R435): the read-back of an output commanded off changes: one that reads energised is a fault, whose cause
has gone once it reads de-energised again. (log 100 DEDUCED) -/
def execSbcOutputFault (dt : Nat) (outB energised : Bool) (s : State) : Host.Outcome State Fault Refusal :=
  let s := (s.elapse dt).brakeEval
  let k := b2n outB
  if s.fbit F.LAN_SBC_ON k || nth s.lan.sbcPin k == energised then endWith s
  else if energised then endWith (s.sbcFault outB)
  else endWith { s with lan := { s.lan with sbcPin := s.lan.sbcPin.set k false } }

/-- SAFETY_PDU_TX (R74, R428, R430): a producer sends every WD/4, rounded down to 250 µs, once BOOT has started its links. -/
def execSafetyPduTx (dt : Nat) (conn : Fin 8) (out : Moved) (s : State) : Host.Outcome State Fault Refusal :=
  let s := s.elapse dt
  if !s.linked || !s.produces conn || !s.pduWay conn then endWith s
  else
    let s := match (s.conn conn).txAt with
      | some t => s.elapseTo (t + s.connWd conn * ticksPerMs / 4 / (250 * ticksPerUs) * (250 * ticksPerUs))
      | none => s
    let (ws, s) := s.producePdu conn
    let s := s.updConn conn fun x => { x with txSeq := (x.txSeq + 1) % 65536, txAt := some s.tick }
    endWith (s.through (if s.pduVia conn < 2 then 3 else 4) out fun s => s.sendPdu conn ws)

/-- SAFETY_PDU_RX (R428 to R431, R435): a consumed PDU is checked and its permits taken; a PDU of no connection, or of a
device that ignores consuming connections, changes nothing, nor does one before BOOT has started the links (R74), nor a Constellation frame
with MEM_CFG.EN clear (R346). (log 101 DEDUCED) -/
def execSafetyPduRx (dt : Nat) (src : PduSrc) (pdu : List Word) (moved : Moved) (s : State) : Host.Outcome State Fault Refusal :=
  let s := s.elapse dt
  if !s.linked || !s.hearsPdu src then endWith s else
  endWith <| s.through (match src with | .can _ _ _ => 4 | _ => 3) moved fun s =>
  let mine := s.consuming.filter fun c => s.fromPeer c src
  match (mine.find? fun c => s.parConn c 0 == nth pdu 0).or mine.head? with
  | none => s
  | some c => s.consumePdu c pdu

/-- SAFETY_WD_EXPIRY (R429, R431): no accepted PDU for WD; one in the tick in which WD expires would have been in time. -/
def execSafetyWdExpiry (conn : Fin 8) (s : State) : Host.Outcome State Fault Refusal :=
  if s.fld F.LAN_CONN_STAT_STATE conn != 2 || !s.consuming.contains conn.val then endWith s
  else endWith ((s.elapseTo ((s.conn conn).lastAt + s.connWd conn * ticksPerMs + 1)).failSafe conn)

/-- The least time between two digests of a pair: digest points every 10 ms, each compared within 40 µs (R432). -/
abbrev digestGap : Nat := 10 * ticksPerMs - 40 * ticksPerUs

/-- LOCKSTEP_DIGEST (R432, R433, R435): the comparison of a pair's registers at its digest point, which a pair under resynchronisation does
not reach. (log 102 DEDUCED) -/
def execLockstepDigest (dt : Nat) (pairB equal : Bool) (s : State) : Host.Outcome State Fault Refusal :=
  if s.splitPair pairB || nth s.lan.resync (b2n pairB) then endWith (s.elapse dt)
  else
    let s := s.elapseFrom dt (nth s.lan.digestAt (b2n pairB) + digestGap)
    let s := { s with lan := { s.lan with digestAt := s.lan.digestAt.set (b2n pairB) s.tick } }
    let s := s.bump F.LAN_LS_DIGEST_COUNT
    if equal then endWith s
    else
      let last := if pairB then s.lan.latentB else s.lan.latentA
      let again := match last with | some t => decide (s.tick ≤ t + ticksPerS) | none => false
      let s := s.bump (if pairB then F.LAN_LS_LATENT_B else F.LAN_LS_LATENT_A)
      let s := { s with lan := { s.lan with
        latentA := if pairB then s.lan.latentA else some s.tick
        latentB := if pairB then some s.tick else s.lan.latentB } }
      let s := s.raise 0x5032 7 [wd (b2n pairB)]
      let s := if pairB then s.replanAbandon else s
      if again then endWith (s.pairMismatch pairB)
      else endWith { s with lan := { s.lan with resync := s.lan.resync.set (b2n pairB) true } }

/-- LOCKSTEP_RESYNC_DONE (R433): the pair runs again, within 2 ms of the divergence; LAN_LS_RESYNC holds how long that took. (log 102 DEDUCED) -/
def execLockstepResyncDone (dt : Nat) (pairB : Bool) (s : State) : Host.Outcome State Fault Refusal :=
  if !nth s.lan.resync (b2n pairB) then endWith (s.elapse dt)
  else
    let t := (if pairB then s.lan.latentB else s.lan.latentA).getD s.tick
    let s := s.elapse (min dt (t + 2 * ticksPerMs - s.tick))
    let s := s.setF F.LAN_LS_RESYNC_LAST (min ((s.tick - t) / ticksPerUs) 65535)
    let s := { s with lan := { s.lan with resync := s.lan.resync.set (b2n pairB) false } }
    endWith (if pairB then s.replanResume else s)

/-- LOCKSTEP_MISMATCH (R434, R435): a mismatch on a bus output of a pair in lockstep. (log 102 DEDUCED) -/
def execLockstepMismatch (dt : Nat) (pairB : Bool) (s : State) : Host.Outcome State Fault Refusal :=
  let s := s.elapse dt
  endWith (if s.splitPair pairB then s else s.pairMismatch pairB)

end Sys2Proof.Machine
end

