-- ==== Sys2Proof/Machine/Supply.lean ====
section
/-!
DEFINITION. Machine/Supply.lean: supply thresholds, the clock supervision, the switches, the die temperature, the scrubber, test access
and the Ethernet switch (R18, R19, R27, R28, R54, R60, R66, R333, R346, R490, R496, R498).
-/

namespace Sys2Proof.Machine

namespace State

/-- The supervision of one clock after a window (R19, R496): lost after two windows off nominal in a row, present again after 16 within. (log 111 DEDUCED) -/
def clockStep (c : ClockSup) (off : Bool) : ClockSup :=
  if off then ⟨min (c.bad + 1) 2, 0, c.lost || 2 ≤ c.bad + 1⟩
  else if c.lost then let g := c.good + 1; if 16 ≤ g then ⟨0, 0, false⟩ else ⟨0, g, true⟩
  else ⟨0, 0, false⟩

/-- The PWM PLL locks to MERIDIAN (R18): its ticks fall at whole multiples of 5 ns, the first at the next one, and the copy is loaded. -/
def loadCopy (s : State) : State :=
  let t := wholeTick s.merTime
  { s with merTime := t, pwmTime := t }

/-- The gates go off by Lantern's asynchronous path and the auxiliary bridge goes high impedance (R19). (log 111 DEDUCED) -/
def clockOff (s : State) (code : Nat) : State := s.offAll.auxStop code true

/-- What a clock declared lost leads to (R19). (log 111 DEDUCED) -/
def pwmLost (s : State) : State :=
  (((s.setF F.SYS_CLK_STAT_PWM_LOSS 1).setF F.SYS_CLK_STAT_PWMPLL_LOCK 0).clockOff 0x7012).raise 0x7012

/-- The MERIDIAN clock is declared lost (R19, R498). (log 111 DEDUCED) -/
def meridianLost (s : State) : State :=
  let s := ((s.setF F.SYS_CLK_STAT_MER_LOSS 1).setF F.SYS_CLK_STAT_PWM_ON_REF 1).setF F.LAMP_STAT_REFUSING 1
  (s.merLost).raise 0x7013

/-- The contacts with a boundary-scan cell that can only observe (R54), as they stand: GC0 to GC47, Xn_HO and Xn_LO of X0 to X3, SBC_A,
SBC_B, STO_FB, DO0 to DO15, then STFCK and the STL lanes with the levels given, and the idle En_CK lines. (log 122 DEDUCED) -/
def observedCells (s : State) (lvo : List Bool) : List Bool :=
  (upTo 48).map (fun g => s.gate.gc.getLsbD g) ++ s.gate.halves.flatMap (fun h => [h.ho, h.lo]) ++
    [s.fbit F.LAN_SBC_ON 0, s.fbit F.LAN_SBC_ON 1, s.on F.LAN_STAT_STO_FB] ++ (upTo 16).map s.doLevel ++
    lvo ++ List.replicate 4 true

/-- The levels of STFCK and of the four STL lanes at one moment: static 0 without STCLK (R41, R43), of the running clock and of the symbol
being sent with it (R380, R381). (log 122 DEDUCED) -/
def lanes (s : State) : List Bool × State :=
  if !s.str.clk then (List.replicate 5 false, s)
  else (upTo 5).foldl (fun r _ => let (b, s) := r.2.freeBit; (r.1 ++ [b], s)) ([], s)

/-- A boundary scan shifts the observed cells out (R54). (log 122 DEDUCED) -/
def scan (s : State) : State := let (l, s) := s.lanes; s.emit (.scan (s.observedCells l))

end State

/-! ## Meanings -/


/-- LOGIC_SUPPLY_HIGH_GONE (R66). -/
def execLogicSupplyHighGone (dt : Nat) (s : State) : Host.Outcome State Fault Refusal :=
  let s := s.elapse dt
  endWith { s with sys := { s.sys with supplyHigh := false } }

/-- VDRV_UNDERVOLTAGE (R66, R307): no fault while no auxiliary bridge is configured. -/
def execVdrvUndervoltage (dt : Nat) (s : State) : Host.Outcome State Fault Refusal :=
  let s := s.elapse dt
  let was := s.on F.GATE_AUX_STAT_VDRV_OK
  let s := (s.setF F.GATE_AUX_STAT_VDRV_OK 0).showWick
  endWith (if was && s.auxMode != 0 then s.auxFault 0x1060 else s)

/-- VDRV_RESTORED (R66, R307). -/
def execVdrvRestored (dt : Nat) (s : State) : Host.Outcome State Fault Refusal :=
  endWith (((s.elapse dt).setF F.GATE_AUX_STAT_VDRV_OK 1).showWick)

/-- CLOCK_SUPERVISION_WINDOW (R19, R496, R498), 1.6 µs after the one before: the four internal clocks are judged, then what
became lost or present again acts. A lost system clock or reference oscillator stays lost until a new BOOT. PWM that comes back while
MERIDIAN is lost takes the Meridian counter as it stood. (log 111 DEDUCED) -/
def execClockSupervisionWindow (dt : Nat) (off : ClockWin) (s : State) : Host.Outcome State Fault Refusal :=
  let s := s.elapseFrom dt (s.sys.clkAt + 320)
  if s.sys.phase == .unpowered then endWith s
  else
    let y := s.sys
    let pwm := State.clockStep y.pwmClk off.pwm
    let mer := State.clockStep y.merClk off.meridian
    let sys := if y.sysClk.lost then y.sysClk else State.clockStep y.sysClk off.system
    let ref := if y.refClk.lost then y.refClk else State.clockStep y.refClk off.reference
    let s := { s with sys := { s.sys with pwmClk := pwm, merClk := mer, sysClk := sys, refClk := ref, clkAt := s.tick } }
    let s := if y.pwmClk.lost && !pwm.lost then (s.setF F.SYS_CLK_STAT_PWMPLL_LOCK 1).loadCopy else s
    let s := if y.merClk.lost && !mer.lost then { s with merTime := s.pwmTime } else s
    let s := if !y.pwmClk.lost && pwm.lost then s.pwmLost else s
    let s := if !y.merClk.lost && mer.lost then s.meridianLost else s
    let s := if !y.refClk.lost && ref.lost then ((s.setF F.SYS_CLK_STAT_REF_LOSS 1).clockOff 0x7015).raise 0x7015 else s
    endWith (if !y.sysClk.lost && sys.lost then (s.setF F.SYS_CLK_STAT_SYS_LOSS 1).raise 0x7014 else s)

/-- PWM_REF_RETURN (R496). -/
def execPwmRefReturn (dt : Nat) (s : State) : Host.Outcome State Fault Refusal :=
  let s := s.elapse dt
  if !s.on F.SYS_CLK_STAT_PWM_ON_REF || s.sys.merClk.lost || (upTo 8).any s.running then endWith s
  else endWith ((s.loadCopy.setF F.SYS_CLK_STAT_PWM_ON_REF 0).setF F.LAMP_STAT_REFUSING 0)

/-- PWM_TIME_COMPARE (R18), 1,024 MERIDIAN cycles after the one before: `slip` is by how many ticks the copy has come to differ since
then; while the PWM PLL is locked to MERIDIAN any difference reloads the copy at the next tick. (log 8 DESIGN CHOICE) -/
def execPwmTimeCompare (dt : Nat) (slip : Int) (s : State) : Host.Outcome State Fault Refusal :=
  let s := s.elapseFrom dt (s.sys.timeAt + 2048)
  let s := { s with pwmTime := s.pwmTime + BitVec.ofInt 64 (5 * slip), sys := { s.sys with timeAt := s.tick } }
  if s.sys.pwmClk.lost || s.sys.merClk.lost || s.on F.SYS_CLK_STAT_PWM_ON_REF || s.pwmTime == s.merTime then endWith s
  else endWith (((s.elapse 1).loadCopy.bump F.SYS_TIME_SLIP_COUNT).raise 0x7011)

/-- SW1_POLL (R60), 10 ms after the one before: two reads in a row agree on a word that differs from the accepted one, once for each such word. An accepted
word has odd parity (R59); while none is accepted there is none to differ from. (log 112 DEDUCED) -/
def execSw1Poll (dt : Nat) (word : BitVec 12) (s : State) : Host.Outcome State Fault Refusal :=
  let s := s.elapseFrom dt (s.sys.swAt + 10 * ticksPerMs)
  if s.sys.phase != .up || s.sys.updBootsel then endWith s
  else
    let w := word.toNat
    let acc := s.sw
    let twice := s.sys.swSeen && s.sys.swPrev == w
    let raised := s.sys.swRaised
    let s := (s.setF F.SYS_SW1_LIVE w).setF F.SYS_SW1_CHANGED (b2n (w != acc))
    let s := { s with sys := { s.sys with
      swAt := s.tick, swPrev := w, swSeen := true, swRaised := if twice then (if w == acc then none else some w) else raised } }
    endWith (if twice && acc != 0 && w != acc && raised != some w then
        (s.audit byDevice 0x000C 0 (wd acc) (wd w)).raise 0x5002 7 [wd acc, wd w]
      else s)

/-- DIE_TEMP_SAMPLE (R490), 10 ms after the one before: the die temperature in tenths of a degree. -/
def execDieTempSample (dt : Nat) (deci : Int) (s : State) : Host.Outcome State Fault Refusal :=
  let s := s.elapseFrom dt (s.sys.dieAt + 10 * ticksPerMs)
  if s.sys.phase == .unpowered then endWith s
  else
    let hot := s.sys.dieHot
    let lim := s.sys.dieLimit
    let s := { s with sys := { s.sys with
      dieAt := s.tick, dieHot := 1100 < deci || (hot && 1050 ≤ deci), dieLimit := 1250 < deci || (lim && 1050 ≤ deci) } }
    let s := if 1100 < deci && !hot then s.raise 0x7090 7 [wi deci] else s
    endWith (if 1250 < deci && !lim then s.raise 0x7091 7 [wi deci] else s)

/-- SCRUB_READ (R27, R28, R123): the scrubber reads the next word of shared SRAM, 8 FABRIC cycles after the one before; one flipped bit
is corrected, two are not correctable. The pass is complete with the last word of the 1 MiB. -/
def execScrubRead (dt : Nat) (flips : Nat) (s : State) : Host.Outcome State Fault Refusal :=
  let s := s.elapseFrom dt (s.sys.scrubAt + 8)
  let word := s.sys.scrubWord
  let s := { s with sys := { s.sys with scrubAt := s.tick, scrubWord := (word + 1) % 262144 } }
  let s := if word == 262143 then s.bump F.FAB_SCRUB_PASSES else s
  endWith (s.sramFlips flips (wd word)).1

/-- JTAG_ACCESS (R54): no instruction drives the gate, auxiliary, brake or field outputs, whose cells a boundary scan observes; where
debug is not allowed, its instructions select the bypass register (settle). -/
def execJtagAccess (dt : Nat) (ins : JtagIns) (s : State) : Host.Outcome State Fault Refusal :=
  let s := s.elapse dt
  let s := { s with sys := { s.sys with debugOpen := ins == .debug, jtagIr := ins } }
  endWith (if ins == .boundaryScan then s.scan else s)

/-- CUT_THROUGH_FORWARD (R333, R346): a frame that arrives on a port leaves on the other within 2.5 µs. A PTP Sync, or the Follow_Up of a
two-step one, leaves with its correctionField raised by its residence time in 2^-16 ns, peer-to-peer by the link delay too. (log 113 DEDUCED) -/
def execCutThroughForward (dt : Nat) (port : Fin 2) (sync : Bool) (corr : Int) (residence : Nat) (s : State) :
    Host.Outcome State Fault Refusal :=
  let s := s.elapse dt
  if !s.linked || s.reiniting 0x11 0 || s.reiniting 0x11 1 then endWith s
  else
    let res : Int := min residence (2500 * 65536)
    let link := if s.on F.MER_CFG_P2P then s.sg .MER_MPD * 65536 else 0
    endWith (s.emit (.forward (1 - port.val) sync (if sync then corr + res + link else corr)))

end Sys2Proof.Machine
end

