-- ==== Sys2Proof/Machine/Boot.lean ====
section
/-!
DEFINITION. Machine/Boot.lean: the reset of the module, PGOOD and RESET#, the sequence of BOOT with its failures, and the configuration
records (R47, R55 to R59, R66 to R76, R79, R92, R120 to R122, R408, R413, R448, R449, R459, R464, R499).
-/

namespace Sys2Proof.Machine

/-- The functions of the switch word's profile include SBC as its brake switch tells (R408). -/
def sbcFits (sw : Nat) : Bool := sw % 16 == 15 || (profileFuncs (sw % 16)).testBit 4 == sw.testBit 6

/-- An odd number of switches is ON (R55). (log 112 DEDUCED) -/
def oddOn (sw : Nat) : Bool := ((upTo 12).map fun k => b2n (sw.testBit k)).sum % 2 == 1

/-- The word that the switch reads give (R59): that of the first three reads that agree, if its parity is odd. A triple takes 3 ms, so
the 100 ms of repeated reads hold at most 33 more. (log 112 DEDUCED) -/
def acceptWord (l : List (Nat × Nat × Nat)) : Option Nat :=
  match (l.take 34).find? fun x => x.1 == x.2.1 && x.2.1 == x.2.2 with
  | some x => let w := x.1 % 4096; if oddOn w then some w else none
  | none => none

namespace State

/-! ## Reset -/

/-- PGOOD is released (R69): the supply has qualified, and the internal rails are within their limits. (log 109 DEDUCED) -/
def pgood (s : State) : Bool :=
  s.sys.phase != .unpowered && !s.gate.railLow && decide (s.sys.supplyAt + 5 * ticksPerMs ≤ s.tick)

/-- The module drives RESET# low (R70): until 5 ms after PGOOD is released, and during an internal reset. -/
def resetLow (s : State) : Bool :=
  s.sys.phase == .unpowered || s.resetWaits

/-- The off sequence of every bridge runs to its end (R71). (log 109 DEDUCED) -/
def offNow (s : State) : State :=
  let s := s.offAll
  let due := s.gate.offDue.foldl (fun m o => max m (o.getD 0)) 0
  let s := s.elapseTo due
  s.forN 8 fun b s => if (nth s.gate.offDue b).isSome then s.offInner b else s

/-- Everything is as right after reset but for what outlasts it: the NV store with the boot record, the banks and the logs, the loss bits
of SYS_CLK_STAT and Meridian time (not the loss of the supply), and what stands outside: levels at contacts and supplies. (log 109 DEDUCED) -/
def resetAll (s : State) (supply : Bool) : State :=
  let r := State.reset
  let r := { r with
    pending := s.pending, tick := s.tick, free := s.free, outs := s.outs
    merTime := if supply then 0 else s.meridian
    pwmTime := if supply then 0 else s.meridian
    hst := { r.hst with challenges := s.hst.challenges }
    flt := { r.flt with log := s.flt.log, nextSeq := s.flt.nextSeq, audit := s.flt.audit, nextAudit := s.flt.nextAudit }
    nv := { s.nv with loadNext := none, verifying := none }
    sys := { r.sys with
      bootAt := s.tick, supplyAt := s.sys.supplyAt, supplyLow := s.sys.supplyLow, supplyHigh := s.sys.supplyHigh
      powerLost := s.sys.powerLost, rstAt := s.sys.rstAt }
    gate := { r.gate with gs := s.gate.gs, railLow := s.gate.railLow }
    feed := { r.feed with enc := s.feed.enc.map fun e => { Enc.init with a := e.a, b := e.b } }
    fio := if supply then { r.fio with
        vfLow := s.fio.vfLow, heldOff := if s.fio.vfLow then 0xFFFF else 0, fieldAt := s.tick, logicAt := s.tick, sampledAt := s.tick }
      else { r.fio with
        vfLow := s.fio.vfLow, heldOff := s.fio.heldOff, latched := s.fio.latched, high := s.fio.high, event := s.fio.event, set := s.fio.set
        sampledAt := s.fio.sampledAt, fieldAt := s.tick, logicAt := s.tick
        filts := s.fio.filts.map fun x => { x with held := 0, fresh := true } }
    mot := { r.mot with periodAt := s.tick, sampleAt := s.tick }
    cdl := { r.cdl with
      wear := (upTo 8).map fun b =>
        { nth r.cdl.wear b with base := (nth s.cdl.wear b).base, rtBase := (nth s.cdl.wear b).rtBase }
      oscRef := s.cdl.oscRef, lastEnd := s.tick, winAt := s.tick, savedAt := s.tick } }
  if supply then r else r.wr .SYS_CLK_STAT (s.rd .SYS_CLK_STAT &&& 0x000F0000)

/-! ## Boot record, switches, image (R55 to R59, R73 to R75) -/

/-- A kept register holds a planned margin of Candle. -/
def isMargin (k : Nat) : Bool :=
  let r := k / 65536
  r == RegId.CDL_MARGIN_DT.ctorIdx || r == RegId.CDL_MARGIN_GUARD.ctorIdx || r == RegId.CDL_MARGIN_DERATE.ctorIdx ||
    r == RegId.CDL_MARGIN_BUDGET.ctorIdx

/-- The registers that a test names take the values kept for them. (log 109 DEDUCED) -/
def restoreKept (s : State) (which : Nat → Bool) : State :=
  { s with regs := s.nv.kept.foldl (fun m x => if which x.1 then Store.set regDefault m x.1 x.2 else m) s.regs }

/-- The boot record is read (R74, R120, R122): active bank, split configuration, own role; the device's own registers come back. (log 110 DEDUCED) -/
def bootRecord (s : State) : State :=
  let s := s.restoreKept fun k => !isMargin k
  let s := (s.setF F.SYS_CLK_STAT_SYSPLL_LOCK 1).setF F.SYS_STATE_ACTIVE_BANK (b2n s.nv.bootB)
  match s.nv.role with
  | some r => (s.wr .SYS_UNIT (wd r.1)).setF F.MEM_STAT_EPOCH r.2
  | none => s

/-- BOOT starts (R77): the boot record is read first (R74). (log 110 DEDUCED) -/
def beginBoot (s : State) : State :=
  let s := s.bootRecord.setF F.SYS_STATE_STATE dBOOT
  { s with sys := { s.sys with phase := .booting } }

/-- A reset without loss of the supply (R71, R72): the off sequence first; with `held` RESET# still keeps BOOT from starting. The 20 µs
of R71 run from the end of the off sequence. (log 109 DEDUCED) -/
def resetRun (s : State) (held : Bool) : State :=
  let s := s.offNow.resetAll false
  if held then { s with sys := { s.sys with phase := .held } } else s.beginBoot

/-- The words of a flash bank. -/
def bank (s : State) (b : Bool) : Store := if b then s.nv.bankB else s.nv.bankA

/-- The image of a bank passes its verification. -/
def bankOk (s : State) (b : Bool) : Bool := Config.imageValid (s.bank b)

/-- The firmware version of a bank's image. -/
def bankVersion (s : State) (b : Bool) : Word := Config.imageVersion (s.bank b)

/-- A bank has passed a verification. (log 106 DEDUCED) -/
def markBank (s : State) (b ok : Bool) : State := { s with nv := { s.nv with verified := s.nv.verified.set (b2n b) ok } }

/-- The active bank is verified, with the other one to fall back on (R75); none where both fail. -/
def bootBank (s : State) : Option State :=
  let b := s.nv.bootB
  if s.bankOk b then some (s.markBank b true)
  else if s.bankOk (!b) then
    let s := ({ s with nv := { s.nv with bootB := !b } }.markBank (!b) true).setF F.SYS_STATE_ACTIVE_BANK (b2n (!b))
    some ((s.audit byDevice 0x000B (wd (b2n (!b))) (s.bankVersion b) (s.bankVersion (!b))).raise 0x7040 7 [wd (b2n (!b))])
  else none

/-- The pairs run split where the switches permit it (R58). (log 37 DEDUCED) -/
def bootSplit (s : State) : State :=
  let permit := s.sw.testBit 9
  let s := s.setF F.SYS_STATE_SPLIT_A (b2n (permit && s.profile == 15 && s.on F.SYS_SPLIT_SPLIT_A))
  s.setF F.SYS_STATE_SPLIT_B (b2n (permit && s.on F.SYS_SPLIT_SPLIT_B))

/-! ## Safety records (R408, R412, R413) -/

/-- SAFE_FUNCTIONS, NONSAFE and LAN_ID follow the records (R412, R435). -/
def showSafety (s : State) : State :=
  let s := s.setF F.SYS_STATE_SAFE_FUNCTIONS (b2n (s.on F.LAN_STAT_PARAM_VALID && !s.nonsafe))
  (s.setF F.LAN_STAT_NONSAFE (b2n s.nonsafe)).showId

/-- The record of a KIND that is stored fits the module and its switch word. -/
def recFits (s : State) (kind : Nat) : Bool :=
  s.recWord kind 0 == wd (kind + 256) && s.recWord kind 1 == s.rd .SYS_SERIAL_LO && s.recWord kind 2 == s.rd .SYS_SERIAL_HI &&
    bitsOf (s.recWord kind 4) 5 0 == s.sw % 64

/-- A stored record is checked and applied. -/
def bootRecordOf (s : State) (kind : Nat) (crcOk : Bool) : State :=
  if !s.recStored kind then s
  else if !crcOk then s.raise 0x7048 7 [wd (0xFF + kind), 0xFFFFFFFF, 0]
  else if !s.recFits kind then s.raise 0x5003 7 [wd kind]
  else if kind == 1 then s.applyParam (s.recBody 1) else s.applyEnvelope (s.recBody 2)

/-- Lantern's part of the configuration step: the profile, the brake switch, the records. (log 110 DEDUCED) -/
def bootLantern (s : State) (paramOk envOk : Bool) : State :=
  let s := s.wr .LAN_PROFILE (wd (s.sw % 64 + profileFuncs s.profile * 256))
  let s := if sbcFits s.sw then s else ({ s with lan := { s.lan with configBad := true } }).raise 0x5003 7 [wd s.sw]
  ((s.bootRecordOf 2 envOk).bootRecordOf 1 paramOk).showSafety

/-! ## Configuration records (R448) -/

/-- The word of the NV store at which slot k begins. -/
abbrev slotAt (k : Nat) : Nat := 0x1400 + 0x400 * k

/-- Word j of slot k. -/
def slotWord (s : State) (k j : Nat) : Word := Store.get zeroMem s.nv.mem (slotAt k + j)

/-- The KIND, VERSION, NPAIRS and CRC of the record in slot k are right. -/
def slotForm (s : State) (k : Nat) : Bool :=
  let w0 := s.slotWord k 0
  let n := bitsOf w0 31 16
  bitsOf w0 7 0 == 3 && bitsOf w0 15 8 == 1 && 1 ≤ n && n ≤ 510 &&
    s.slotWord k (2 + 2 * n) == crcWords (Store.read zeroMem s.nv.mem (slotAt k) (2 + 2 * n))

/-- A pair of a configuration record is applied; the boolean says that it was not refused. -/
def slotPair (s : State) (addr value : Word) : State × Bool :=
  match locate addr with
  | .at_ (.reg r i) kind =>
    if r == .SYS_UNIT || r == .SYS_SPLIT then (s, false)
    else
      let (s, vs) := s.cycle r i [(⟨.host .installer, true, kind, value⟩, 0)] 0 ⟨none, true, 1⟩
      (s, match vs with | [.applied _] => true | _ => false)
  | _ => (s, false)

/-- n pairs from pair j on of the record in slot k: the state they leave, or the first bad pair. -/
def slotPairs (s : State) (k : Nat) : Nat → Nat → State × Option Nat
  | _, 0 => (s, none)
  | j, n + 1 =>
    let (t, ok) := s.slotPair (s.slotWord k (2 + 2 * j)) (s.slotWord k (3 + 2 * j))
    if ok then slotPairs t k (j + 1) n else (s, some j)

/-- The record in slot k holds and each of its pairs is accepted as the registers stand. -/
def slotGood (s : State) (k : Nat) : Bool :=
  s.slotForm k && (s.slotPairs k 0 (bitsOf (s.slotWord k 0) 31 16)).2.isNone

/-- Slot k is applied whole or not at all. -/
def bootSlot (s : State) (k : Nat) : State :=
  let bad := fun (s : State) (j tag : Word) =>
    ({ s with nv := { s.nv with badSlots := s.nv.badSlots ++ [k] } }).raise 0x7048 7 [wd k, j, tag]
  if s.slotWord k 0 == 0 then s
  else if !s.slotForm k then bad s 0xFFFFFFFF 0
  else match s.slotPairs k 0 (bitsOf (s.slotWord k 0) 31 16) with
    | (t, none) => t
    | (_, some j) => bad s (wd j) (s.slotWord k 1)

/-! ## BOOT (R74, R75) -/

/-- The code of a failed self-test. -/
def testCode : SelfTest → Nat
  | .lockstep => 0x7042 | .sram => 0x7043 | .lantern => 0x7044 | .fabric => 0x7045

/-- The Candle step of BOOT (R459, R464): the power-up re-plan, or the margins of the last good one, which the registers of the guards
and the budgets in force show. (log 110 DEDUCED) -/
def bootCandle (s : State) (x : BootSeen) : State :=
  if x.inRange then s.replanEnd x.roDrift x.oscDrift x.nvMargin true
  else (((s.restoreKept isMargin).forN 4 fun a s => s.showGuard a).forN 40 fun k s => s.showBudget k).raise 0x7049

/-- The Meridian step: Meridian in FREE, the PWM PLL locked, the copy loaded. -/
def bootMeridian (s : State) : State :=
  (s.loadCopy.setF F.SYS_CLK_STAT_PWMPLL_LOCK 1).setF F.SYS_CLK_STAT_CANPLL_LOCK 1

/-- The records of the configuration step: those of Lantern, then the slots. (log 37 DEDUCED; log 110 DEDUCED) -/
def bootConfig (s : State) (x : BootSeen) : State :=
  let s := { s with nv := { s.nv with badSlots := [] } }
  ((s.bootLantern x.paramCrc x.envCrc).forN 59 fun k s => s.bootSlot k).baseDone

/-- The membership reports of IGMPv2 for the configured groups (R106). -/
def reportGroups (s : State) : State := { s with outs := ((upTo 4).filterMap Config.ipGroup).map Out.igmp ++ s.outs }

/-- The barrier link, the Ethernet PHYs and CAN are started (R74); the host interface reports the groups it is in (R106). -/
def bootLinks (s : State) (x : BootSeen) : State :=
  let s := { s with sys := { s.sys with linksUp := true }, fio := { s.fio with logicAt := s.tick } }
  let s := (s.setF F.SYS_CLK_STAT_ETH0_CLK (b2n x.eth0)).setF F.SYS_CLK_STAT_ETH1_CLK (b2n x.eth1)
  (({ s with str := { s.str with clk := x.stclk } }).setF F.SYS_CLK_STAT_STCLK_OK (b2n x.stclk)).reportGroups

/-- The memories of engine e are loaded from the active image (R74, R473). (log 78 DESIGN CHOICE) -/
def loadEngine (s : State) (e : Nat) : State :=
  let image := s.bank s.nv.bootB
  let mem := fun (prog : Bool) (n : Nat) => Store.write zeroMem [] 0 ((Config.imageEngine image e prog).take n)
  s.updEng e fun g => { g with prog := mem true (progSize e), data := mem false (dataSize e), staged := [] }

/-- BOOT ends: SYS_FW_VER, and SAFE or QUARANTINE (R77, R79); a member that rejoins by itself does so (R353). (log 110 DEDUCED) -/
def bootExit (s : State) : State :=
  let s := s.wr .SYS_FW_VER (s.bankVersion s.nv.bootB)
  let s := { s with sys := { s.sys with phase := .up } }
  let s := if s.nv.quarantine then (s.setF F.MEM_STAT_STATE 4).setDev dQUARANTINE else s.setDev dSAFE
  match s.nv.role with
  | some r =>
    if !s.nv.quarantine && s.on F.MEM_CFG_EN && s.on F.MEM_CFG_AUTO then s.joinStart r.1 false else s
  | none => s

/-- The steps of BOOT from the self-tests on: the links start after the engine programs are loaded and checked (R74). (log 110 DEDUCED) -/
def bootRest (s : State) (x : BootSeen) : State :=
  match x.failed with
  | some t => s.raise (testCode t)
  | none =>
    let s := s.bootCandle x
    if !x.pllLocked then s.raise 0x7046
    else
      let s := (s.bootMeridian.bootConfig x).forN 10 fun e s => s.loadEngine e
      if !x.enginesOk then s.raise 0x7047 else (s.bootLinks x).bootExit

/-- The steps of BOOT from the switches on. (log 110 DEDUCED) -/
def bootSwitches (s : State) (x : BootSeen) : State :=
  match acceptWord x.switches with
  | none => s.raise 0x5001
  | some w =>
    let s := (s.setF F.SYS_SW1_ACCEPTED w).setF F.SYS_SW1_LIVE w
    let s := { s with sys := { s.sys with swPrev := w, swSeen := true } }
    match s.bootBank with
    | none => s.raise 0x7041
    | some s => s.bootSplit.bootRest x

/-- When RESET# is released at the start of BOOT (R70, R71, R74), if the module does not keep it low for want of PGOOD. -/
def bootRelease (s : State) : Nat := max s.sys.bootAt (s.sys.rstAt.getD 0)

/-- The most that BOOT takes from the release of RESET# (R74): 400 ms, more for a repeated switch read and for the other bank. -/
def bootMost (s : State) (x : BootSeen) : Nat :=
  (400 + (if 1 < x.switches.length then 100 else 0) + (if s.bankOk s.nv.bootB then 0 else 60)) * ticksPerMs

/-- The time that BOOT takes of the time offered: it ends after the release of RESET# and within its bound. (log 110 DEDUCED) -/
def bootTime (s : State) (x : BootSeen) (dt : Nat) : Nat :=
  max s.bootRelease (min (s.tick + dt) (s.bootRelease + s.bootMost x)) - s.tick

/-- BOOT runs with what it finds; Wick and the state of VDRV stand at its end, however it ends (R66, R307). (log 110 DEDUCED) -/
def boot (s : State) (x : BootSeen) : State :=
  let lost := s.sys.powerLost
  let s := { s with sys := { s.sys with powerLost := false } }
  let s := (s.bootRecord.setF F.SYS_STATE_BOOTSEL (b2n x.bootsel)).setF F.GATE_AUX_STAT_VDRV_OK (b2n x.vdrv)
  let s := if lost then s.raise 0x7031 else s
  (if x.bootsel then
    ({ s with sys := { s.sys with phase := .up, updBootsel := true } }).setDev dUPDATE
  else s.bootSwitches x).showWick

end State

/-! ## Meanings -/


/-- LOGIC_SUPPLY_BACK (R66, R74, R499): after an internal reset BOOT starts, the Meridian counter 20 ms from 0, since it started
when the supply rose; otherwise the cause of LOGIC_SUPPLY_LOW is gone. (log 111 DEDUCED) -/
def execLogicSupplyBack (dt : Nat) (s : State) : Host.Outcome State Fault Refusal :=
  let s := s.elapse dt
  if s.sys.phase == .unpowered then
    let s := s.resetAll true
    let s := { s with merTime := 20000000, pwmTime := 20000000 }
    let good := if s.gate.railLow then none else some (s.tick + 10 * ticksPerMs)
    endWith { s with sys := { s.sys with supplyAt := s.tick, supplyLow := false, rstAt := good } }.beginBoot
  else endWith { s with sys := { s.sys with supplyLow := false } }

/-- RESET_PIN (R71): an external low of `nanos` on RESET#; one between 1 µs and 10 µs may be taken or not. -/
def execResetPin (dt nanos : Nat) (taken : Bool) (s : State) : Host.Outcome State Fault Refusal :=
  let s := s.elapse dt
  if s.sys.phase == .unpowered || s.sys.phase == .held || nanos < 1000 || (nanos < 10000 && !taken) then endWith s
  else endWith (s.resetRun true)

/-- RESET_RELEASE (R71): BOOT starts, at the earliest 20 µs after the reset began. -/
def execResetRelease (dt : Nat) (s : State) : Host.Outcome State Fault Refusal :=
  let s := s.elapse dt
  if s.sys.phase != .held then endWith s
  else
    let s := s.elapseTo (s.sys.bootAt + 20 * ticksPerUs)
    endWith { s with sys := { s.sys with bootAt := s.tick } }.beginBoot

/-- DEVICE_RESET_APPLY (R72): the reset follows within 1 ms of the reply; BOOT starts 20 µs after it began. (log 24 DESIGN CHOICE) -/
def execDeviceResetApply (dt : Nat) (s : State) : Host.Outcome State Fault Refusal :=
  match s.sys.resetPend with
  | none => endWith (s.elapse dt)
  | some t =>
    if s.resetUnsaid then endWith (s.elapse dt)
    else
      let s := (s.elapse (min dt (t + ticksPerMs - s.tick))).resetRun false
      let s := s.elapse (20 * ticksPerUs)
      endWith { s with sys := { s.sys with bootAt := s.tick } }

/-- BOOT_END (R73 to R77): BOOT has run, with what it found; it does not begin while RESET# is low (R70, R71). (log 110 DEDUCED) -/
def execBootEnd (dt : Nat) (seen : BootSeen) (s : State) : Host.Outcome State Fault Refusal :=
  if s.sys.phase != .booting || s.sys.rstAt.isNone then endWith (s.elapse dt) else endWith ((s.elapse (s.bootTime seen dt)).boot seen)

end Sys2Proof.Machine
end

