-- ==== Sys2Proof/Machine/Packets.lean ====
section
/-!
DEFINITION. Machine/Packets.lean: the acceptance of a command packet, the tag rules, the rights, what each device state allows, and the
lengths (R75, R76, R81, R83 to R92, R96, R102, R105, R107, R440, R494).
-/

namespace Sys2Proof.Machine

/-- The kinds of the opcode table (R97). -/
inductive Kind where
  | read | immediate | deferred
  deriving DecidableEq, Repr, Inhabited

/-- A command of the opcode table: its kind, the LENGTH that BAD_LENGTH reports when the packet's is wrong (step 12 of R89), and steps 13
and 14 with the role of the session and the packet: the state and the final answer, or none where the command has been deferred. -/
structure Cmd where
  opcode : Nat
  kind : Kind
  badLen : Pkt → Option Nat
  body : Role → Pkt → State → State × Option Answer

/-- Whether bit k of FLAGS is set (R84, counted from 0). -/
abbrev flag (p : Pkt) (k : Nat) : Bool := p.flags.getLsbD k

/-- The three header words under HCRC (R83). -/
def headWords (opcode : BitVec 16) (p : Pkt) : List Word :=
  [wd (opcode.toNat + p.tag.toNat * 2 ^ 16 + p.flags.toNat * 2 ^ 24), wd (p.length.toNat + p.unit.toNat * 2 ^ 16), p.session]

/-- The maximum LENGTH of a transport (R102). -/
def maxLength (t : Transport) : Nat := match t with | .spi => 1024 | .udp => 363 | _ => 255


/-- Step 4 of R89: LENGTH within the maximum of the transport and consistent with its framing. -/
def framed (p : Pkt) : Bool :=
  let n := p.length.toNat
  n ≤ maxLength p.via && p.payload.length == n && (p.via == .spi || p.frame == packetSize n)

/-- A packet passes steps 4 and 5 of R89: its command arrives (R35). -/
def arrived (p : Pkt) : Bool := framed p && (p.length == 0 || p.pcrc == crcWords p.payload)

/-- Two packets are identical (R91): header words 0, 1 and 2 in every bit but RETRY, and PCRC, which a packet of LENGTH 0 has not. -/
def identical (o q : BitVec 16) (x y : Pkt) : Bool :=
  let bare := fun (f : BitVec 8) => f &&& 0xFD
  o == q && x.tag == y.tag && bare x.flags == bare y.flags && x.length == y.length && x.unit == y.unit &&
    x.session == y.session && (x.length == 0 || x.pcrc == y.pcrc)

/-! ## Lengths (R494) -/

/-- A fixed LENGTH. -/
def lenIs (n : Nat) (p : Pkt) : Option Nat := if p.length.toNat = n then none else some n

/-- LENGTH at least n. -/
def lenMin (n : Nat) (p : Pkt) : Option Nat := if n ≤ p.length.toNat then none else some n

/-- LENGTH at most n. -/
def lenMax (n : Nat) (p : Pkt) : Option Nat := if p.length.toNat ≤ n then none else some n

/-- LENGTH among lo, lo + step, …, hi: the nearest, the smaller of two that are equally near. -/
def lenSteps (lo hi step : Nat) (p : Pkt) : Option Nat :=
  let n := p.length.toNat
  if n < lo then some lo
  else if hi < n then some hi
  else
    let r := (n - lo) % step
    if r = 0 then none else if 2 * r ≤ step then some (n - r) else some (n - r + step)

/-! ## Rights and device states -/

/-- The opcodes allowed without a session (R96). -/
def freeOps : List Nat := [0x0100, 0x0101, 0x0102, 0x0103]

/-- The opcodes that the operator role may not use (R440). -/
def installerOps : List Nat := [0x0300, 0x0503, 0x0601, 0x0602, 0x0A02, 0x0A03, 0x0C01]

/-- A role holds the right to an opcode (R440). -/
def rightOf (op : Nat) (r : Role) : Bool := r != .operator || !installerOps.contains op

/-- The opcodes of sessions and GET_INFO, which every state after BOOT allows. -/
def alwaysOps : List Nat := [0x0101, 0x0102, 0x0103, 0x0104]

/-- The bits of payload word 0 that the opcode table names (R97); all where the word is one parameter. (log 19 DEDUCED) -/
def wordZero (op : Nat) : Word :=
  match op with
  | 0x0111 => 0x00FFFFFF
  | 0x0112 => 0xF
  | 0x0300 | 0x0301 | 0x0302 | 0x0304 | 0x0305 | 0x0306 => 3
  | 0x0303 => 0xF03
  | 0x0400 | 0x0401 | 0x0402 | 0x0403 => 1
  | 0x0701 | 0x0702 => 0xFFFF
  | 0x0802 => 0xF1
  | 0x0A02 => 0x101
  | 0x0A03 => 1
  | _ => 0xFFFFFFFF

/-- A parameter word with a bit set outside its named fields is no valid parameter (R89 step 13). DEDUCED. (log 19 DEDUCED) -/
def stray (named w : Word) : Bool := w &&& ~~~named != 0

namespace State

/-- The present device state allows an opcode (R73, R75, R81). STATE_REQUEST is allowed in UPDATE towards SAFE only, and not after
BOOTSEL. -/
def stateAllows (s : State) (op : Nat) (p : Pkt) : Bool :=
  let d := s.dev
  if d == dUPDATE then
    alwaysOps.contains op || op == 0x0A02 || op == 0x0A03 || op == 0x0110 ||
      (op == 0x0112 && bitsOf (nth p.payload 0) 3 0 == dSAFE && !s.sys.updBootsel)
  else if s.halted then alwaysOps.contains op || op == 0x0800 || op == 0x0801 || op == 0x0A02 || op == 0x0110
  else if d == dQUARANTINE then alwaysOps.contains op || op == 0x0800 || op == 0x0801 || op == 0x0504 || op == 0x0503
  else true

/-! ## Sessions -/

/-- The session of an identifier; 0 is none (R96). -/
def session (s : State) (id : Word) : Option Sess := if id == 0 then none else s.hst.sessions.find? fun x => x.id == id

/-- The role of an authenticated session. -/
def roleOf (s : State) (id : Word) : Option Role := (s.session id).bind fun x => if x.authed then some x.role else none

/-- The sessions that a test names end; their cache entries go (R92, R443). Their Deferred commands in flight run on. (log 18 DEDUCED) -/
def closeSessions (s : State) (which : Sess → Bool) : State :=
  let gone := (s.hst.sessions.filter which).map fun x => x.id
  { s with hst := { s.hst with
    sessions := s.hst.sessions.filter fun x => !which x
    cache := s.hst.cache.filter fun c => !gone.contains c.pkt.session } }

/-! ## Transports -/

/-- A datagram is for the command service (R106): whole, to its port, and to the unit's own address, the subnet broadcast address or a
configured group. -/
def datagramOk (p : Pkt) : Bool :=
  !p.fragment && p.dstPort == Config.udpPort &&
    (p.dstIp == Config.ipOwn || p.dstIp == Config.ipBroadcast || (upTo 4).any fun k => Config.ipGroup k == some p.dstIp)

/-- A transport receives packets at all (R73 to R76, R104, R106, R108, R473): BOOT has ended, with SPI_RDY high; beside SPI the links
have been started, the datagram is for the command service, the command transport of a CAN controller is on, and the port or service
is not under reinitialisation. -/
def hears (s : State) (p : Pkt) : Bool :=
  match p.via with
  | .spi => s.spiReady && !s.hst.spiIgnore
  | .udp => s.linked && datagramOk p && !s.reiniting 0x12 0 && !(s.reiniting 0x11 0 && s.reiniting 0x11 1)
  | .can0 => s.linked && s.on F.CAN_CMD_REQ_EN 0 && !s.reiniting 0x10 0
  | .can1 => s.linked && s.on F.CAN_CMD_REQ_EN 1 && !s.reiniting 0x10 1

/-- The initiator that carries the packets of a transport through the fabric (R24, R123): the interpreter itself over SPI. -/
def carrier : Transport → Nat
  | .spi => 2 | .udp => 3 | _ => 4

/-- A packet is discarded (R76, R89, R105): over SPI it sets RX_DISCARD, and the rest of the transaction is ignored. -/
def discard (s : State) (p : Pkt) : State :=
  if p.via != .spi then s
  else { s with hst := { s.hst with spiDiscard := true, spiIgnore := s.hst.spiBusy } }

/-- A reply to a packet that is refused before it executes; the refusal of a broadcast or group command is counted (R87, R92).
(log 17 DEDUCED) -/
def refuse (s : State) (opcode : BitVec 16) (p : Pkt) (a : Answer) : State :=
  if grouped p then { s with hst := { s.hst with cmdErrors := s.hst.cmdErrors + 1 } }
  else s.sendReply p (mkReply s opcode p a)

/-- The kept replies to this very packet go. -/
def dropSame (s : State) (opcode : BitVec 16) (p : Pkt) : State :=
  { s with hst := { s.hst with cache := s.hst.cache.filter fun c => !(sameTag c.pkt p && identical c.opcode opcode c.pkt p) } }

/-- The refusal of an Immediate or Deferred command at steps 7 to 12 is its final reply, which is kept beside an older one under its tag
until the tag's next command executes (R92); a session that is not open has no tags. (log 17 DEDUCED) -/
def keepRefusal (s : State) (c : Option Cmd) (opcode : BitVec 16) (p : Pkt) (a : Answer) : State :=
  match c with
  | some c =>
    if c.kind == .read || grouped p || (p.session != 0 && (s.session p.session).isNone) then s
    else (s.dropSame opcode p).cacheReply opcode p (mkReply s opcode p a)
  | none => s

/-- A kept reply is sent again with CACHED and RETRY set, on the transport of the retry (R91, R96). -/
def resend (s : State) (p : Pkt) (r : Reply) : State :=
  if grouped p then s
  else s.sendReply p { r with
    via := p.via, ip := p.srcIp, port := p.srcPort, flags := r.flags ||| 0x0A, unit := BitVec.ofNat 16 (s.fld F.SYS_UNIT_UNIT) }

/-! ## Steps 6 to 14 of R89 -/

/-- The final replies that wait for room, with their commands: those commands are still in flight (R90). A packet that was refused at step
4 or 5 never arrived. -/
def finalWaits (s : State) : List (Reply × Pkt) := s.hst.spiWaiting.filter fun x => x.1.flags.getLsbD 2 && arrived x.2

/-- The command in flight under a tag: its opcode, packet and latest interim reply (R90). -/
def tagFlight (s : State) (p : Pkt) : Option (BitVec 16 × Pkt × Option Reply) :=
  match s.hst.flight.find? fun f => sameTag f.pkt p with
  | some f => some (f.opcode, f.pkt, f.interim)
  | none => (s.finalWaits.find? fun x => sameTag x.2 p).map fun x =>
    (x.1.opcode, x.2, (s.hst.interims.find? fun y => y.1 == x.2).map fun y => y.2)

/-- Step 6: what a tag in use or a cached reply leads to (R91); none where the command goes on. -/
def tagRule (s : State) (opcode : BitVec 16) (p : Pkt) : Option State :=
  match s.tagFlight p with
  | some (o, q, interim) =>
    if flag p 1 && identical o opcode q p then
      some (match interim with | some r => s.resend p r | none => s)
    else some (s.refuse opcode p (ans cBUSY 1))
  | none =>
    if flag p 1 then
      (s.hst.cache.find? fun c => sameTag c.pkt p && identical c.opcode opcode c.pkt p).map fun c => s.resend p c.reply
    else none

/-- Commands in flight, over all sessions and transports. -/
def flights (s : State) : Nat := s.hst.flight.length + s.finalWaits.length

/-- Steps 7 to 12: the refusal of a command (none as opcode: not in the table), or the role under which it executes. A broadcast or group
command needs an authenticated session of its own (R87); a STATE_REQUEST that a transition of this cycle defeats is PREEMPTED (R80).
(log 17 DEDUCED; log 19 DEDUCED) -/
def judge (s : State) (c : Option Cmd) (p : Pkt) : Answer ⊕ Role :=
  if 256 ≤ s.flights then .inl (ans cBUSY 2)
  else if p.flags &&& 0xFC != 0 then .inl (ans cBAD_PARAM 0xFFFF)
  else match c with
    | none => .inl (ans cBAD_OPCODE)
    | some c =>
      let role := s.roleOf p.session
      let named := match role with | some r => rightOf c.opcode r | none => !grouped p && freeOps.contains c.opcode
      if !named then .inl (ans cDENIED_ROLE)
      else if !s.stateAllows c.opcode p then
        .inl (if c.opcode == 0x0112 && s.sys.lastTrans == some s.tick then ans cPREEMPTED else ans cBUSY 3)
      else match c.badLen p with
        | some n => .inl (ans cBAD_LENGTH n)
        | none => .inr (role.getD .operator)

/-- BOOT starts within 1 ms of the reply of FW_ACTIVATE (R450), which the SPI port goes on sending. (log 24 DESIGN CHOICE) -/
def bootAfter (s : State) : State :=
  let (n, s) := s.freeBelow ticksPerMs
  let last := s.hst.spiQueue.filter fun r => r.opcode == 0x0A03
  let t := (s.elapse n).resetRun false
  { t with sys := { t.sys with bootAt := t.tick }, hst := { t.hst with spiQueue := last } }

/-- What follows the reply of a command: the sessions of a role whose key changed close (R444), or BOOT starts (R450). -/
def afterReply (s : State) : State :=
  let s := match s.hst.keyClose with
    | some r => ({ s with hst := { s.hst with keyClose := none } }).closeSessions fun x => x.role == r
    | none => s
  if s.hst.bootNext then { s with hst := { s.hst with bootNext := false } }.bootAfter else s

/-- An NV write is made between two states: an audit record, a word of the store, a key. -/
def wroteNv (s t : State) : Bool :=
  t.flt.nextAudit != s.flt.nextAudit || t.nv.mem != s.nv.mem || t.nv.keys != s.nv.keys

/-- The body of a command; where the NV write that it makes fails, the change is not applied (R451). The NV fault code is not stated. (log 107 DESIGN CHOICE) -/
def runBody (s : State) (c : Cmd) (p : Pkt) (r : Role) : State × Option Answer :=
  let (t, a) := c.body r p s
  if p.nvFails && wroteNv s t then
    let (code, s) := s.freeBelow 65536
    (s, some (ans cINTERNAL code))
  else (t, a)

/-- The opcodes whose fabric transfers their own rules place: the register accesses, AXIS_CONFIG, AXIS_SETPOINT, AXIS_MODE, IO_WRITE and
STREAM_CONFIG. -/
def accessOps : List Nat := [0x0200, 0x0201, 0x0202, 0x0203, 0x0300, 0x0303, 0x0304, 0x0701, 0x0900]

/-- The fabric transfers of any other command, by which the interpreter reaches what the command reads and writes (R24): whether each came
through. Their addresses are not stated. (log 31 DEDUCED) -/
def ownTransfers (s : State) (c : Cmd) (p : Pkt) : State × Bool :=
  if accessOps.contains c.opcode then (s, true)
  else (p.fails.filter (· != 0)).foldl (fun (x : State × Bool) n =>
    if !x.2 then x else let (a, s) := x.1.freeWord; s.transfer (some 2) a.toNat n) (s, true)

/-- Step 13 for the bits of the first word, and step 14: what the command does and answers. (log 19 DEDUCED; log 31 DEDUCED) -/
def carryOut (s : State) (c : Cmd) (p : Pkt) (r : Role) : State × Option Answer :=
  if stray (wordZero c.opcode) (nth p.payload 0) then (s, some (ans cBAD_PARAM))
  else
    let (s, came) := s.ownTransfers c p
    if came then s.runBody c p r else (s, some (ans cINTERNAL 0x7020))

/-- The replies kept under a tag go. -/
def forget (s : State) (p : Pkt) : State :=
  { s with hst := { s.hst with
    cache := s.hst.cache.filter fun x => !sameTag x.pkt p, interims := s.hst.interims.filter fun x => !sameTag x.1 p } }

/-- A command refused at step 13 has not executed (R89): the replies kept under its tag before it stay, beside its own (R92). (log 17 DEDUCED) -/
def keepOld (s old : State) (opcode : BitVec 16) (p : Pkt) (a : Answer) : State :=
  if a.status == cBAD_PARAM then
    { s with hst := { s.hst with
      cache := s.hst.cache ++ old.hst.cache.filter fun x => sameTag x.pkt p && !identical x.opcode opcode x.pkt p } }
  else s

/-- Steps 13 and 14: the command executes; its tag's old cache entries go (R92). (log 17 DEDUCED) -/
def execute (s : State) (c : Cmd) (opcode : BitVec 16) (p : Pkt) (r : Role) : State :=
  match (s.forget p).carryOut c p r with
  | (t, some a) => ((t.conclude opcode p (c.kind == .read) a).keepOld s opcode p a).afterReply
  | (t, none) => t

/-- A packet that came through is checked (R89): the command c is what its opcode names in the table. (log 17 DEDUCED) -/
def accept (s : State) (opcode : BitVec 16) (c : Option Cmd) (p : Pkt) : State :=
  if p.hcrc != crcWords (headWords opcode p) then
    ({ s with hst := { s.hst with hdrErrors := s.hst.hdrErrors + 1 } }).discard p
  else if !s.addressed p.unit.toNat || flag p 0 then s.discard p
  else
    if !framed p then (s.discard p).refuse opcode p (ans cBAD_LENGTH 0xFFFF)
    else if !arrived p then s.refuse opcode p (ans cBAD_CRC)
    else match s.tagRule opcode p with
      | some s => s
      | none =>
        match s.judge c p with
        | .inl a => (s.keepRefusal c opcode p a).refuse opcode p a
        | .inr r => match c with
          | some c => s.execute c opcode p r
          | none => s

/-- A reply to this packet, as it leaves over UDP. -/
def answers (p : Pkt) : Out → Bool
  | .reply r => r.via == p.via && r.session == p.session && r.tag == p.tag
  | _ => false

/-- The reply that a packet has brought between two states leaves by a mover, and may be lost on its way (R24, R27): a datagram, or the
segments of a CAN reply from its FIRST one on. (log 31 DEDUCED) -/
def replyOut (s t : State) (p : Pkt) : State :=
  let new := (t.outs.take (t.outs.length - s.outs.length)).any (answers p)
  let drop := fun (l : List (List Byte)) => ((l.reverse.dropWhile fun f => !(nth f 0).getLsbD 7).drop 1).reverse
  let byCan := fun (c : Nat) =>
    if (nth t.can c).txq.length ≤ (nth s.can c).txq.length then t
    else
      let m := t.moveIn 4 p.out
      if m.2 then m.1 else { m.1 with can := upd m.1.can c fun x => { x with txq := drop x.txq } }
  match p.via with
  | .spi => t
  | .udp => if !new then t else let m := t.moveIn 3 p.out; if m.2 then m.1 else { m.1 with outs := m.1.outs.eraseP (answers p) }
  | .can0 => byCan 0
  | .can1 => byCan 1

/-- A packet is received: one that its transport does not hear is discarded, and one that does not come through the fabric is lost
(R24, R27, R105). (log 31 DEDUCED) -/
def receive (s : State) (opcode : BitVec 16) (c : Option Cmd) (p : Pkt) : State :=
  if !s.hears p then (if s.hst.spiIgnore then s else s.discard p)
  else
    let m := s.moveIn (carrier p.via) p.moved
    if !m.2 then m.1.discard p
    else
      let t := m.1.accept opcode c p
      if p.out == ⟨0, 0⟩ then t else m.1.replyOut t p

/-- The row of an opcode: its packet comes dt ticks after the command before it. -/
def command (s : State) (c : Cmd) (p : Pkt) : State := (s.elapse p.dt).receive (BitVec.ofNat 16 c.opcode) (some c) p

end State

end Sys2Proof.Machine
end

