-- ==== Sys2Proof/Machine/RegCmds.lean ====
section
/-!
DEFINITION. Machine/RegCmds.lean: the register commands of class 0x02xx (R27, R99, R100, R111 to R115, R475).
-/

namespace Sys2Proof.Machine

namespace State

/-- A read of a compare word meets flipped bits (R27): one is corrected; two, in an entry of an armed range, stop the owner of its
channel. The result is the fault code under which a read is refused, for two flipped bits are never returned as data. (log 118 DEDUCED) -/
def cmpErrs (s : State) (errs : List MemErr) (i : Nat) : State × Option Nat :=
  let met := errs.filter fun x => x.cmp && x.word == i
  let s := s.forL (met.filter fun x => !x.double) fun x s => (s.sramFlips 1 (wd (0x300000 + 4 * x.word))).1
  if met.any fun x => x.double then ((s.bump F.FAB_SECDED_UNCORR).cmpLost (i / 4), some 0x7004) else (s, none)

/-- The read of one address meets flipped bits of the Timed Action Table or of the compare list (R27). (log 25 DEDUCED) -/
def meetErrs (s : State) (errs : List MemErr) (a : Word) : State × Option Nat :=
  match locate a with
  | .at_ (.tat w) _ => (s.tatErrs errs w (w + 1), none)
  | .at_ (.reg .CMP_LIST i) _ => s.cmpErrs errs i
  | _ => (s, none)

/-- One read of the interpreter: its transfer, the flipped bits it meets, its value (R24, R27, R113). -/
def hostRead (s : State) (p : Pkt) (fails : Nat) (a : Word) : State × (Answer ⊕ Word) :=
  let (s, came) := s.fetch ⟨.interp, fails⟩ a.toNat
  if !came then (s, .inl (ans cINTERNAL 0x7020))
  else
    let (s, lost) := s.meetErrs p.errs a
    match lost, s.readAddr .interp a with
    | some code, _ => (s, .inl (ans cINTERNAL code))
    | none, (some v, s) => (s, .inr v)
    | none, (none, s) => (s, .inl (ans cBAD_PARAM))

/-- A host write needs a function that is under reinitialisation (R475). (log 26 DEDUCED) -/
def writeNeeds (s : State) (a : Word) : Bool :=
  match locate (wd (baseOf a)) with
  | .at_ (.reg r i) _ =>
    let at_ := r.addr i
    if at_ / 65536 == 0xB then s.reiniting 0x10 (at_ / 32768 % 2)
    else if r == .LE_CTRL || r == .LE_MDATA then (if i < 8 then s.reiniting 1 i else s.reiniting 2 (i - 8))
    else if r == .STR_CTRL then s.reiniting 0x14 0
    else r == .ME_POS && s.reiniting 3 i
  | _ => false

/-- A host write at an address, whose transfer failed so many times, meets the writes of others of the same cycle: what became of it.
No other host command is among them (R35). One whose function is under reinitialisation is refused with BUSY where no check of its value
refuses it first (R89, R475). (log 26 DEDUCED) -/
def hostWrite (s : State) (role : Role) (p : Pkt) (fails : Nat) (a v : Word) (word : Nat) : State × Verdict :=
  let own : Req := ⟨.host role, role.mayRl, aliasOf a, v⟩
  let others := (p.rivals.filter fun w => !w.who.isHost).map fun w => (reqOf w, failsOf w)
  let opt : WOpt := ⟨some (byPkt role p), false, word⟩
  let (t, l) := s.writeAddr a ((own, fails) :: others) 0 opt
  match s.writeNeeds a, nth l 0 with
  | true, .applied _ | true, .lost => ((s.writeAddr a others 0 opt).1, .refused (ans cBUSY 5))
  | _, v => (t, v)

/-- REG_READ. (log 25 DEDUCED) -/
def regRead (s : State) (p : Pkt) : State × Option Answer :=
  match s.hostRead p (nth p.fails 0) (nth p.payload 0) with
  | (s, .inr v) => (s, some (ok [v]))
  | (s, .inl a) => (s, some a)

/-- REG_WRITE (R115). -/
def regWrite (s : State) (role : Role) (p : Pkt) : State × Option Answer :=
  match s.hostWrite role p (nth p.fails 0) (nth p.payload 0) (nth p.payload 1) 1 with
  | (s, .applied _) => (s, some (ok))
  | (s, .lost) => (s, some (ans cPREEMPTED))
  | (s, .refused r) => (s, some r)

/-- REG_MODIFY (R99): the read and the write are one locked pair; a refused command has no effect of its read. (log 25 DEDUCED) -/
def regModify (s : State) (role : Role) (p : Pkt) : State × Option Answer :=
  let a := nth p.payload 0
  let mask := nth p.payload 1
  let (s, came) := s.fetch ⟨.interp, nth p.fails 0⟩ a.toNat
  if !came then (s, some (ans cINTERNAL 0x7020))
  else
    let (s, lost) := s.meetErrs p.errs a
    match lost, s.readAddr .interp a with
      | some code, _ => (s, some (ans cINTERNAL code))
      | none, (none, s) => (s, some (ans cBAD_PARAM))
      | none, (some old, t) =>
        let v := (old &&& ~~~mask) ||| (nth p.payload 2 &&& mask)
        let fails := nth p.fails 1
        match t.hostWrite role p fails a v 2 with
        | (t, .applied _) => (t, some (ok [old, t.peek a]))
        | (t, .lost) => (t, some (ans cPREEMPTED))
        | (_, .refused r) => ((s.hostWrite role p fails a v 2).1, some r)

/-- The words of a range are read in rising order until one cannot be (R114). -/
def readWords (p : Pkt) : List Word → Nat → State → List Word → State × Answer
  | [], _, s, vs => (s, ok vs)
  | a :: l, k, s, vs =>
    match s.hostRead p (nth p.fails k) a with
    | (s, .inr v) => readWords p l (k + 1) s (vs ++ [v])
    | (s, .inl r) => (s, r)

/-- BLOCK_READ (R100, R114): the whole range is checked before any word is read; the address is judged before the count (R89). A count of 0, on
which the spec is silent, is answered OK with no words. (log 25 DEDUCED) -/
def blockRead (s : State) (p : Pkt) : State × Option Answer :=
  let start := nth p.payload 0
  let n := (nth p.payload 1).toNat
  let mapped := fun (a : Word) => match locate a with | .at_ _ _ => true | .bad _ => false
  if !mapped start then (s, some (ans cBAD_PARAM))
  else if maxLength p.via < n + 1 then (s, some (ans cBAD_PARAM 1))
  else
    let addrs := (upTo n).map fun k => wd (start.toNat + 4 * k)
    if !addrs.all mapped then (s, some (ans cBAD_PARAM))
    else let (s, a) := readWords p addrs 0 s []; (s, some a)

end State

/-! ## The commands -/

/-- REG_READ (R97, R113). -/
def cmdRegRead : Cmd := ⟨0x0200, .read, lenIs 1, fun _ p s => s.regRead p⟩
/-- REG_WRITE (R97, R115). -/
def cmdRegWrite : Cmd := ⟨0x0201, .immediate, lenIs 2, fun r p s => s.regWrite r p⟩
/-- REG_MODIFY (R97, R99). -/
def cmdRegModify : Cmd := ⟨0x0202, .immediate, lenIs 3, fun r p s => s.regModify r p⟩
/-- BLOCK_READ (R97, R114). -/
def cmdBlockRead : Cmd := ⟨0x0203, .read, lenIs 2, fun _ p s => s.blockRead p⟩

/-! ## Meanings -/

/-- REG_READ. -/
def execRegRead (p : Pkt) (s : State) : Host.Outcome State Fault Refusal := endWith (s.command cmdRegRead p)
/-- REG_WRITE. -/
def execRegWrite (p : Pkt) (s : State) : Host.Outcome State Fault Refusal := endWith (s.command cmdRegWrite p)
/-- REG_MODIFY. -/
def execRegModify (p : Pkt) (s : State) : Host.Outcome State Fault Refusal := endWith (s.command cmdRegModify p)
/-- BLOCK_READ. -/
def execBlockRead (p : Pkt) (s : State) : Host.Outcome State Fault Refusal := endWith (s.command cmdBlockRead p)

end Sys2Proof.Machine
end

