-- ==== Sys2Proof/Machine/ActionCmds.lean ====
section
/-!
DEFINITION. Machine/ActionCmds.lean: the commands of class 0x05xx (R27, R339 to R344, R352 to R354, R357, R475).
-/

namespace Sys2Proof.Machine

namespace State

/-! ## Timed actions -/

/-- ACTION_POST (R341). -/
def actionPost (s : State) (role : Role) (p : Pkt) : State × Option Answer :=
  let (a, s) := s.post p.payload role
  (s, some a)

/-- The launch tick of a pending entry is reached (R344): that of its LAUNCH, or of its place among the late entries (R345). -/
def launchReached (s : State) (i : Nat) : Bool :=
  if s.lamp.late.contains i then s.lamp.lateAt + s.lamp.late.idxOf i / 32 ≤ s.tick else s.ticksTo (s.tatLaunch i) ≤ 0

/-- ACTION_CANCEL (R344): a pending entry whose launch tick is reached is not cancelled any more. -/
def actionCancel (s : State) (p : Pkt) : State × Option Answer :=
  let i := (nth p.payload 0).toNat
  if 2048 ≤ i then (s, some (ans cBAD_PARAM))
  else match s.tatStatus i with
    | 0 => (s, some (ans cBAD_PARAM))
    | 1 =>
      if s.launchReached i then (s, some (ans cLAUNCH_IN_PAST))
      else (s.tatFinal i tCANCELLED, some (ok))
    | 2 | 4 => (s, some (ans cLAUNCH_IN_PAST))
    | _ => (s, some (ok))

/-- ACTION_LIST (R27, R100, R342). -/
def actionList (s : State) (p : Pkt) : State × Option Answer :=
  let first := (nth p.payload 0).toNat
  let n := (nth p.payload 1).toNat
  if 2048 ≤ first then (s, some (ans cBAD_PARAM))
  else if 2048 < first + n || maxLength p.via < 8 * n + 1 then (s, some (ans cBAD_PARAM 1))
  else
    let s := s.tatErrs p.errs (8 * first) (8 * (first + n))
    (s, some (ok ((upTo (8 * n)).map fun k => Store.get zeroMem s.lamp.tat (8 * first + k))))

/-! ## Membership -/

/-- The unit leaves its domain (R353). (log 89 DEDUCED) -/
def leave (s : State) (role : Role) (p : Pkt) : State :=
  let s := if s.holdsRole then s.beacon true else s
  let epoch := wd (s.fld F.MEM_STAT_EPOCH)
  let s := s.audit (byPkt role p) 0x000D (s.rd .SYS_UNIT) epoch 0
  { s with mem := { s.mem with spare := false } }.setF F.MEM_STAT_STATE 0

/-- MEMBER_JOIN (R353, R354). (log 26 DEDUCED; log 89 DEDUCED) -/
def memberJoin (s : State) (role : Role) (p : Pkt) : State × Option Answer :=
  let id := (nth p.payload 0).toNat
  let spare := bitOf (nth p.payload 1) 0
  let calm := s.dev == dSAFE || s.dev == dREADY
  let own := match s.nv.role with | some r => r.1 == id | none => false
  let live := match s.peer id with | some q => q.live | none => false
  if 0x3FFF < id && (id != 0xFFFF || spare) then (s, some (ans cBAD_PARAM))
  else if !s.on F.MEM_CFG_EN then (s, some (ans cBAD_PARAM))
  else if stray 1 (nth p.payload 1) then (s, some (ans cBAD_PARAM 1))
  else if !(calm || (spare && s.dev == dQUARANTINE)) then (s, some (ans cBUSY 3))
  else if id != 0xFFFF && !spare && !own && s.member != 3 then (s, some (ans cBUSY 3))
  else if s.reiniting 0x21 0 || s.mem.join.isSome then (s, some (ans cBUSY 5))
  else if id == 0xFFFF then
    (((s.defer 0x0503 p 0 (ans cACCEPTED)).leave role p).finish 0x0503 0 (ok [0]), none)
  else if live && (spare || !own) then (s, some (ans cBUSY 5))
  else ((s.defer 0x0503 p 0 (ans cACCEPTED)).joinStart id spare, none)

/-- Milliseconds since a tick. -/
def msSince (s : State) (t : Nat) : Word := wd ((s.tick - t) / ticksPerMs)

/-- The own membership record (R357): AGE counts from the unit's own last beacon. (log 91 DEDUCED) -/
def ownRecord (s : State) : List Word :=
  [wd (s.fld F.SYS_UNIT_UNIT + s.member * 2 ^ 16 + b2n s.mem.spare * 2 ^ 19), wd (s.fld F.MEM_STAT_EPOCH),
    if s.holdsRole then s.msSince s.mem.beaconAt else 0xFFFFFFFF, s.rd .SYS_SERIAL_LO, s.rd .SYS_SERIAL_HI, s.beaconState]

/-- The record of a role in the table (R357). (log 91 DEDUCED) -/
def peerRecord (s : State) (q : Peer) : List Word :=
  let st := if q.conflict then 3 else if q.live then 1 else if q.heard.isSome then 2 else 0
  [wd (q.role + st * 2 ^ 16 + b2n q.spare * 2 ^ 19), wd q.epoch.toNat,
    match q.last with | some t => s.msSince t | none => 0xFFFFFFFF, wd q.serial.toNat, 0, q.word2]

/-- MEMBER_STATUS (R357). -/
def memberStatus (s : State) (p : Pkt) : Answer :=
  let id := (nth p.payload 0).toNat
  if s.member == 0 then ans cNOT_MEMBER
  else if p.length == 0 || s.ownRole id then ok s.ownRecord
  else match s.peer id with
    | some q => ok (s.peerRecord q)
    | none => ans cNOT_MEMBER

end State

/-! ## The commands -/

/-- ACTION_POST (R341). -/
def cmdActionPost : Cmd := ⟨0x0500, .immediate, lenIs 8, fun r p s => s.actionPost r p⟩
/-- ACTION_CANCEL (R344). -/
def cmdActionCancel : Cmd := ⟨0x0501, .immediate, lenIs 1, fun _ p s => s.actionCancel p⟩
/-- ACTION_LIST (R342). -/
def cmdActionList : Cmd := ⟨0x0502, .read, lenIs 2, fun _ p s => s.actionList p⟩
/-- MEMBER_JOIN (R353). -/
def cmdMemberJoin : Cmd := ⟨0x0503, .deferred, lenIs 2, fun r p s => s.memberJoin r p⟩
/-- MEMBER_STATUS (R357). -/
def cmdMemberStatus : Cmd := ⟨0x0504, .read, lenMax 1, fun _ p s => (s, some (s.memberStatus p))⟩

/-! ## Meanings -/

/-- ACTION_POST. -/
def execActionPost (p : Pkt) (s : State) : Host.Outcome State Fault Refusal := endWith (s.command cmdActionPost p)
/-- ACTION_CANCEL. -/
def execActionCancel (p : Pkt) (s : State) : Host.Outcome State Fault Refusal := endWith (s.command cmdActionCancel p)
/-- ACTION_LIST. -/
def execActionList (p : Pkt) (s : State) : Host.Outcome State Fault Refusal := endWith (s.command cmdActionList p)
/-- MEMBER_JOIN. -/
def execMemberJoin (p : Pkt) (s : State) : Host.Outcome State Fault Refusal := endWith (s.command cmdMemberJoin p)
/-- MEMBER_STATUS. -/
def execMemberStatus (p : Pkt) (s : State) : Host.Outcome State Fault Refusal := endWith (s.command cmdMemberStatus p)

end Sys2Proof.Machine
end

