-- ==== Sys2Proof/Machine/Observer.lean ====
section
/-!
DEFINITION. Machine/Observer.lean: the rotor-angle observer of an axis at a sample (R235 to R240, R244, R249, R250).
-/

namespace Sys2Proof.Machine.State

/-- The bridges whose currents the axis uses, winding 0 first (R216, R219): in EM-LIMP the one that stays (R276). -/
def activeBridges (s : State) (a : Nat) : List Nat :=
  let own := s.bridgesOf a
  if s.on F.AX_EM_STAT_LIMP a then own.filter fun b => s.fld F.BR_CFG_WINDING b == s.fld F.AX_EM_STAT_WINDING a
  else (own.filter fun b => !s.on F.BR_CFG_WINDING b) ++ own.filter fun b => s.on F.BR_CFG_WINDING b

/-- The sample of an ALIGN sequence, counted from the first of its first pulse; none before it. -/
def alignStep (s : State) (a : Nat) : Option Nat := (s.ob a).alignK

/-- A sample of ALIGN is counted, predicted ones too: the pulses begin with the first one after OBS_ALIGN.T (R242). (log 50 DESIGN CHOICE) -/
def alignCount (s : State) (a : Nat) : State :=
  let t := (s.ob a).alignT + s.fld F.OBS_ALIGN_T a * ticksPerMs
  if s.axSt a != aALIGN then s
  else s.updOb a fun o => { o with alignK := match o.alignK with
    | some m => some (m + 1)
    | none => if s.tick < t then none else some 0 }

/-- A speed search runs (R249). -/
def searching (s : State) (a : Nat) : Bool := s.axSt a == aCATCH && (s.ob a).search

/-- The angle that the currents of a sample are formed at before BR_WOFS (R208, R216): in ALIGN and in a speed search their own, else
AX_THETA, on an induction machine with the slip angle unless the observer's angle is the flux's already. -/
def frameAngle (s : State) (a : Nat) : Word :=
  if s.axSt a == aALIGN || s.searching a then (s.ob a).thInj
  else s.rd .AX_THETA a + (if s.onObserver a then 0 else (s.axis a).slipA)

/-- The electrical speed in pu24 of ω_b of an angle step per sample; open without a rated frequency or a grid. -/
def puOfTurns (s : State) (a : Nat) (w : Int) : Int × State :=
  let (v, s) := s.quot (w * 10 ^ 12) (1280 * s.fld F.AX_BASE_F_VALUE a * s.samplePeriod a)
  (satI v, s)

/-- The range of R235 by the observer speed of the previous sample. -/
def obsRange (s : State) (a : Nat) : Nat :=
  let w := (s.sg .OBS_SPEED a).natAbs
  if 20 * w < 2 ^ 24 then 0 else if 10 * w ≤ 2 ^ 24 then 1 else 2

/-- The weight of R239 in pu24. -/
def obsWeight (s : State) (a : Nat) : Int × State :=
  let w : Int := (s.sg .OBS_SPEED a).natAbs
  let (v, s) := s.quot (20 * w - one24) 1
  (clampI 0 one24 v, s)

/-- The observer, or ALIGN up to its first pulse, injects (R236, R239, R240, R242). -/
def injecting (s : State) (a : Nat) : Bool :=
  s.pmsm a && (s.bridgesOf a).any s.running &&
    ((s.axSt a == aALIGN && (s.alignStep a).isNone) ||
      (s.axSt a != aALIGN && s.onObserver a && s.on F.OBS_CFG_INJ_EN a && s.sg .OBS_WEIGHT a < one24))

/-- I-f control runs (R240). -/
def ifControl (s : State) (a : Nat) : Bool :=
  s.onObserver a && !s.on F.OBS_CFG_INJ_EN a && s.on F.OBS_CFG_IF_EN a && s.obsRange a == 0

/-- The voltage vector of the terminals in a catch (R244), scaled by 2^16. -/
def terminalV (s : State) (a : Nat) : Int × Int :=
  let uv := s.sg .SD_VALUE (s.fld F.OBS_CFG_VT_CH0 a)
  let vw := s.sg .SD_VALUE (s.fld F.OBS_CFG_VT_CH1 a)
  ((2 * uv + vw) * 2 ^ 16 / 3, vw * 2 ^ 16 * invSqrt3 / 2 ^ 64)

/-- The gates are off and the voltage channels measure (R244). -/
def onTerminals (s : State) (a : Nat) : Bool := s.on F.OBS_CFG_VT_EN a && !((s.bridgesOf a).any s.running)

/-- The injection tracker at a measured sample (R236): the response in the estimated frame between two samples to the injection applied
between them. -/
def injTrack (s : State) (a : Nat) (iq : Int) (measured : Bool) : State :=
  let o := s.ob a
  let turn := fun (s : State) => s.updOb a fun o => { o with thInj := o.thInj + wi o.wInj }
  if !s.injecting a then (if s.axSt a == aALIGN then turn s else s)
  else if !measured then turn s
  else
    let eps := o.injWas * (iq - o.lastIq)
    let (p, s) := s.gmul (s.rd .OBS_KP_INJ a) eps
    let (i, s) := s.gmul (s.rd .OBS_KI_INJ a) eps
    s.updOb a fun o => { o with thInj := o.thInj + wi (o.wInj + p), wInj := satI (o.wInj + i), eps := eps }

/-- A component of the model flux, in its range (R4). -/
def satFlux (x : Int) : Int := clampI (satMin * 2 ^ 16) (satMax * 2 ^ 16) x

/-- The back-EMF tracker (R238): `ab` are the currents and `dab` their change since the last sample, scaled by 2^16. -/
def emfTrack (s : State) (a : Nat) (vab ab dab : Int × Int) : State :=
  let o := s.ob a
  let n := s.samplePeriod a
  let dt := perUnitTime (s.fld F.AX_BASE_F_VALUE a) n
  let r := s.sg .AX_MOT_RS a
  let lq := s.sg .AX_MOT_LQ a
  let drop (v i d : Int) : Int := v - pm r i - (if dt = 0 then 0 else pm lq d * 2 ^ 48 / dt)
  let e := if s.onTerminals a then s.terminalV a else (drop vab.1 ab.1 dab.1, drop vab.2 ab.2 dab.2)
  let flux := (satFlux (o.flux.1 + e.1 * dt / 2 ^ 48), satFlux (o.flux.2 + e.2 * dt / 2 ^ 48))
  let turn : Word := if o.wEmf < 0 then wi (-0x40000000) else if o.wEmf = 0 then 0 else 0x40000000
  let th := if s.induction a && !s.onTerminals a then atan2Pu (satW (flux.2 / 2 ^ 16)) (satW (flux.1 / 2 ^ 16))
    else atan2Pu (satW (e.2 / 2 ^ 16)) (satW (e.1 / 2 ^ 16)) - turn
  let err := (th - o.thEmf).toInt
  let (p, s) := s.gmul (s.rd .OBS_KP_EMF a) err
  let (i, s) := s.gmul (s.rd .OBS_KI_EMF a) err
  s.updOb a fun o => { o with
    flux := flux, thEmf := o.thEmf + wi (o.wEmf + p), wEmf := satI (o.wEmf + i), catch_ := { o.catch_ with err := err, step := o.wEmf + p } }

/-- Angle and speed of the observer (R235, R239); under I-f control the angle advances by the ramped set-point (R240). -/
def obsBlend (s : State) (a : Nat) : State :=
  let s := s.setF F.OBS_STAT_RANGE (s.obsRange a) a
  let (w, s) := s.obsWeight a
  let s := s.wr .OBS_WEIGHT (wi w) a
  let s := if s.ifControl a then
      let step := s.turnsPerSample a (s.elecW a (s.sg .AX_SP_ACTIVE a))
      s.updOb a fun o => { o with thInj := o.thInj + wi step, wInj := step }
    else s
  let o := s.ob a
  let (d, s) := s.pmul w (o.thEmf - o.thInj).toInt
  let (wi', s) := s.pmul (one24 - w) o.wInj
  let (we, s) := s.pmul w o.wEmf
  let th := o.thInj + wi d
  let (e, s) := s.puOfTurns a (wi' + we)
  let (sp, s) := s.speedOf a e
  let s := (s.wr .OBS_THETA th a).wr .OBS_SPEED (wi sp) a
  let s := s.setF F.OBS_STAT_INJ_ON (b2n (s.injecting a)) a
  if s.injecting a || s.ifControl a || s.axSt a == aALIGN || s.searching a then s else s.updOb a fun o => { o with thInj := th, wInj := wi' + we }

/-- One sample of the observer; `iab` are the currents of winding 0, and the voltage is the one applied since the sample before (R173). -/
def observe (s : State) (a : Nat) (iab : Int × Int) (measured : Bool) : State :=
  let o := s.ob a
  let dq := park iab (if s.axSt a == aALIGN then o.thInj else s.rd .OBS_THETA a)
  let vab := match s.activeBridges a, (s.axis a).snaps with
    | b :: _, (t2, _) :: (t1, _) :: _ => let v := s.appliedV b t1 t2; clarke (nth v 0) (nth v 1) (nth v 2)
    | _, _ => (0, 0)
  let s := s.injTrack a (dq.2 / 2 ^ 16) measured
  let s := s.emfTrack a vab iab (iab.1 - o.lastAb.1, iab.2 - o.lastAb.2)
  let s := s.obsBlend a
  s.updOb a fun o => { o with lastIq := dq.2 / 2 ^ 16, lastAb := iab }

/-! ## What a catch measures (R244 to R254) -/

/-- The currents of a relock have decayed below 0.02 pu (R251): its measurement begins, or the speed search of an induction machine without
voltage channels (R244). (log 49 DEDUCED) -/
def decay (s : State) (a : Nat) : State :=
  let low := (s.bridgesOf a).all fun b => (s.phaseI b).all fun i => 50 * i.natAbs < 2 ^ 24
  if (s.ob a).relock.isNone || (s.ob a).catch_.decayAt.isSome || !low then s
  else
    let s := s.updOb a fun o => { o with catch_ :=
      { Catch.init with began := s.tick, decayAt := some s.tick, err := o.catch_.err, step := o.catch_.step } }
    if s.induction a && !s.on F.OBS_CFG_VT_EN a then s.goSearch a else s

/-- The voltage channels' window of a catch, a relock or a gates-off measurement (R244, R245, R248, R254): the vector's magnitude, the turn
of the tracked angle, the means, and the line voltages against 0.95 of the DC link, which sets KE_CLIPPED on a PMSM. Without voltage
channels none is measured. (log 48 DEDUCED) -/
def catchSample (s : State) (a : Nat) : State :=
  let s := s.decay a
  let waits := (s.ob a).relock.isSome && (s.ob a).catch_.decayAt.isNone
  if !(s.axSt a == aCATCH || (s.axis a).keMeas) || (s.ob a).search || waits || !s.onTerminals a then s
  else
    let uv := s.sg .SD_VALUE (s.fld F.OBS_CFG_VT_CH0 a)
    let vw := s.sg .SD_VALUE (s.fld F.OBS_CFG_VT_CH1 a)
    let link : Int := match s.mainBridge a with | some b => s.vdc b | none => 0
    let past95 := [uv, vw, uv + vw].any fun v => 95 * link < 100 * v.natAbs
    let (v, s) := s.rough (magnitude (s.terminalV a) / 2 ^ 16)
    let (w, s) := s.puOfTurns a (s.ob a).wEmf
    let s := if past95 && s.pmsm a then s.raiseF F.OBS_STAT_KE_CLIPPED a else s
    s.updOb a fun o => { o with catch_ := { o.catch_ with
      v := max v 0, turned := o.catch_.turned + o.catch_.step, sumV := o.catch_.sumV + max v 0, sumW := o.catch_.sumW + w.natAbs
      n := o.catch_.n + 1, clipped := o.catch_.clipped || (past95 && s.pmsm a) } }

/-- One sample of a speed search (R249): the power of the voltage applied and the currents of the search's frame is judged, and the stator
frequency falls at OBS_SS_RATE. (log 48 DEDUCED) -/
def searchSample (s : State) (a : Nat) (idq : Int × Int) : State :=
  match s.activeBridges a with
  | [] => s
  | b :: _ =>
    let c := (s.ob a).catch_
    if !s.searching a || !s.running b || c.found.isSome then s
    else
      let set := (s.bridge b).active
      let p := set.vd.toInt * idq.1 + set.vq.toInt * idq.2
      let v := unpark (set.vd.toInt * 2 ^ 16, set.vq.toInt * 2 ^ 16) (s.axis a).seen.frame
      let at_ : SearchEnd := .found c.freq (magnitude v / 2 ^ 16)
        (behind (atan2Pu (satW (v.2 / 2 ^ 16)) (satW (v.1 / 2 ^ 16))) c.freq)
      let (d, s) := s.quot ((s.sg .OBS_SS_RATE a).natAbs * s.samplePeriod a) ticksPerS
      let next := c.freq - d
      let found : Option SearchEnd := if p < 0 then some (if c.ran = 0 then .negative else at_)
        else if next < -20132659 then some .none_ else none
      let step := s.turnsPerSample a next
      s.updOb a fun o => { o with
        thInj := o.thInj + wi step, wInj := step
        catch_ := { c with freq := if found.isSome then c.freq else next, ran := if 0 < p then c.ran + 1 else c.ran, found := found } }

end Sys2Proof.Machine.State
end

