-- ==== Sys2Proof/Machine/Currents.lean ====
section
/-!
DEFINITION. Machine/Currents.lean: what follows in a sample once the currents of the axis stand in SD_VALUE: latched
currents and torque, residuals and supervision, the observer, the current program, and the sums Candle keeps (R209, R214,
R216 to R219, R225, R236 to R239, R242, R250, R271, R281, R283, R424, R458, R462, R467).
-/

namespace Sys2Proof.Machine.State

/-! ## Latched quantities -/

/-- The currents of a bridge in alpha-beta, scaled by 2^16. -/
def alphaBeta (s : State) (b : Nat) : Int × Int :=
  let i := s.phaseI b
  clarke (nth i 0) (nth i 1) (nth i 2)

/-- The angle of the current frame of a bridge at the sample (R216). -/
def frameOf (s : State) (a b : Nat) : Word := (s.axis a).seen.frame + s.rd .BR_WOFS b

/-- The currents of a bridge in its frame, in pu24. -/
def dqOf (s : State) (a b : Nat) : Int × Int :=
  let q := park (s.alphaBeta b) (s.frameOf a b)
  (q.1 / 2 ^ 16, q.2 / 2 ^ 16)

/-- Sum and difference currents (R219); the currents of the one bridge, and no difference, otherwise. -/
def sumDiff (s : State) (a : Nat) : (Int × Int) × (Int × Int) :=
  match s.activeBridges a with
  | [b] => (s.dqOf a b, (0, 0))
  | b :: c :: _ =>
    let p := s.dqOf a b
    let q := s.dqOf a c
    (((p.1 + q.1) / 2, (p.2 + q.2) / 2), ((p.1 - q.1) / 2, (p.2 - q.2) / 2))
  | [] => ((0, 0), (0, 0))

/-- The torque of the measured currents (R207, R208). -/
def torqueEst (s : State) (a : Nat) : Int :=
  let kt := s.sg .AX_MOT_KT a
  if s.induction a then pm (pm kt (s.fluxOf a)) (s.sumDiff a).1.2
  else
    let sal := s.sg .AX_MOT_LD a - s.sg .AX_MOT_LQ a
    pm kt (((s.activeBridges a).map fun b =>
      let q := s.dqOf a b
      pm (s.sg .AX_MOT_PSI a) q.2 + pm (pm sal q.1) q.2).sum)

/-- AX_ID, AX_IQ, AX_IMAG, AX_VMAG and AX_T_EST of the sample, open within their unstated roundings (R210). (log 11 DESIGN CHOICE) -/
def latchCurrents (s : State) (a : Nat) : State :=
  let q := (s.sumDiff a).1
  let (d, s) := s.rough q.1
  let (qq, s) := s.rough q.2
  let (m, s) := s.rough (magnitude q)
  let (t, s) := s.rough (s.torqueEst a)
  let v := match s.activeBridges a with
    | b :: _ => magnitude ((s.bridge b).active.vd.toInt, (s.bridge b).active.vq.toInt)
    | [] => 0
  let (v, s) := s.rough v
  let s := (s.wrSat .AX_ID d a).wrSat .AX_IQ qq a
  ((s.wrSat .AX_IMAG (max m 0) a).wrSat .AX_VMAG (max v 0) a).wrSat .AX_T_EST t a

/-! ## Residuals and loss (R225, R250) -/

/-- The largest distance between measured and predicted current over the bridges. -/
def residual (s : State) (a : Nat) : Int :=
  ((s.activeBridges a).map fun b =>
    let i := s.phaseI b
    let p := [1, 2, 3].map fun r => match s.sdOf b r with
      | some c => (((s.axis a).model.find? fun m => m.1 == c).map Prod.snd).getD (s.sg .SD_VALUE c)
      | none => 0
    let d := clarke (nth i 0 - nth p 0) (nth i 1 - nth p 1) (nth i 2 - nth p 2)
    magnitude d / 2 ^ 16).foldl max 0

/-- The loss test of R250 on a measured sample: the residual, or in the injection range the amplitude of eps of R236, which eps itself does
not exceed and for which the spec gives no other formula. (log 50 DESIGN CHOICE) -/
def lossTest (s : State) (a : Nat) (res : Int) : Bool × State :=
  if !s.onObserver a then (false, s)
  else if s.obsRange a == 0 then
    if s.on F.OBS_CFG_INJ_EN a && ((s.ob a).eps.natAbs : Int) < s.sg .OBS_INJ_MIN a then s.freeBit else (false, s)
  else (decide (s.sg .OBS_LOSS_RESID a < res), s)

/-- The counts of the two tests on a measured sample; the current model is not compared on a degraded one (R225, R250). A sample that trips
both counts for the rotor loss only. (log 11 DESIGN CHOICE) -/
def residuals (s : State) (a : Nat) (degraded : Bool) : State :=
  let (res, s) := s.rough (s.residual a)
  let (loss, s) := s.lossTest a res
  let trip := s.sg .AX_RESID_I a < res && !loss
  let s := s.updOb a fun o => { o with lossN := if loss then o.lossN + 1 else 0 }
  if degraded then s else s.updAxis a fun x => { x with residN := if trip then x.residN + 1 else 0 }

/-- Observer and encoder disagree at the sample (R225). -/
def plausTest (s : State) (a : Nat) : Bool :=
  let x := (s.axis a).seen
  s.on F.AX_PLAUS_CFG_EN a && s.encValid a && s.on F.OBS_STAT_LOCKED a &&
    (s.plausAng a < (x.obsAng - x.ang).toInt.natAbs || s.sg .AX_PLAUS_SPD a < (x.obsSpd - x.spd).natAbs)

/-- EM-SENSORLESS has been entered in this sample: its angle and speed are the observer's at the instant (R277). -/
def entryAngle (s : State) (a : Nat) : State :=
  if !s.on F.AX_EM_STAT_SENSORLESS a || !s.on F.OBS_STAT_LOCKED a then s
  else
    let x := (s.axis a).seen
    let s := (s.wr .AX_THETA x.obsAng a).wrSat .AX_SPEED x.obsSpd a
    s.updAxis a fun y => { y with seen := { y.seen with frame := s.frameAngle a } }

/-- Supervision of an axis in RUN and EMERGENCY, its triggers taken in the order of R283. -/
def supervise (s : State) (a : Nat) : State :=
  let live (s : State) : Bool := s.axSt a == aRUN || s.axSt a == aEMERGENCY
  if !live s then s
  else
    let d := s.plausTest a
    let s := s.updAxis a fun x => { x with plausN := if d then x.plausN + 1 else 0 }
    let s := if s.sg .AX_VLIM a < (s.sg .AX_SPEED a).natAbs then s.raise 0x3012 a [s.rd .AX_SPEED a] else s
    let s := if live s && 3 ≤ (s.ob a).lossN then s.rotorLost a else s
    let apart (s : State) : Bool := live s && s.fld F.AX_PLAUS_CFG_N a ≤ (s.axis a).plausN && 0 < (s.axis a).plausN
    let s := if apart s && s.on F.AX_CFG_FALLBACK_SL a && s.emAdmitted a 2 then
        if s.on F.AX_EM_STAT_SENSORLESS a then s.mismatch a else (s.mismatch a).entryAngle a
      else s
    let x := (s.axis a).seen
    let past := s.axSt a == aRUN && s.on F.AX_EM_CFG_RENDER_EN a && s.sg .AX_EM_REND_T a < x.ten
    let s := s.updEm a fun e => { e with overCnt := if past then e.overCnt + 1 else 0 }
    let s := if s.axSt a == aRUN && 3 ≤ (s.emr a).overCnt then (s.emTrigger a 6 fun s => s.emEnter a 6).1 else s
    let s := if apart s then s.mismatch a else s
    let s := if live s && 3 ≤ (s.axis a).residN then
        ((s.raiseF F.AX_STAT_RESID a).updAxis a fun x => { x with residN := 0 }).raise 0x3011 a []
      else s
    let far := s.modeOf a == 2 && s.sg .AX_FOLLOW a < (s.sg .AX_SP_ACTIVE a - x.pos.toInt).natAbs
    let s := if live s && far then s.raise 0x3013 a [] else s
    let lost := s.setMode a == 3 && x.tenLost
    let was := (s.axis a).lostNow
    let s := s.updAxis a fun x => { x with lostNow := lost }
    if live s && lost && !was then s.raise 0x3017 a [] else s

/-! ## The current program (R214, R216 to R219, R237, R242) -/

/-- The pulse current of ALIGN: raised by half at each repeat (R242). (log 50 DESIGN CHOICE) -/
def alignCurrent (s : State) (a : Nat) : Int × State :=
  let i := s.sg .OBS_POL_I a
  match (s.ob a).alignTry with
  | 0 => (i, s)
  | 1 => s.quot (3 * i) 2
  | _ => s.quot (9 * i) 4

/-! ### Maximum torque per ampere (R217) -/

/-- The d current of least current magnitude for its torque at a magnitude i, for ψ and l_d − l_q. -/
def mtpaId (psi sal i : Int) : Int :=
  if sal = 0 then 0
  else
    let x := pm sal i
    (isqrt (psi * psi + 8 * x * x).toNat - psi) * one24 / (4 * sal)

/-- The table of 64 points of a salient machine: the torque of a winding without AX_MOT_KT, and its currents, the points evenly spaced in
the current's magnitude. (log 55 DESIGN CHOICE) -/
def mtpaTable (s : State) (a : Nat) : List (Int × Int × Int) :=
  let psi := s.sg .AX_MOT_PSI a
  let sal := s.sg .AX_MOT_LD a - s.sg .AX_MOT_LQ a
  (upTo 64).map fun (k : Nat) =>
    let i : Int := Config.mtpaTop * k / 63
    let d := clampI (-i.natAbs) i.natAbs (mtpaId psi sal i)
    let q : Int := isqrt (i * i - d * d).toNat
    (pm psi q + pm (pm sal d) q, d, q)

/-- The currents between two points of the table at a torque u ≥ 0; beyond its end the spec states none. (log 55 DESIGN CHOICE) -/
def lookUp (s : State) (u : Int) : List (Int × Int × Int) → (Int × Int) × State
  | (t0, d0, q0) :: (t1, d1, q1) :: l =>
    if u ≤ t1 then
      let (d, s) := s.quot ((d1 - d0) * (u - t0)) (t1 - t0)
      let (q, s) := s.quot ((q1 - q0) * (u - t0)) (t1 - t0)
      ((d0 + d, q0 + q), s)
    else s.lookUp u ((t1, d1, q1) :: l)
  | _ =>
    let (d, s) := s.freeWord
    let (q, s) := s.freeWord
    ((d.toInt, q.toInt), s)

/-- The current references before weakening and limits (R217, R240, R242, R249, R276). (log 53 DESIGN CHOICE; log 55 DESIGN CHOICE) -/
def references2 (s : State) (a : Nat) : (Int × Int) × State :=
  let t := s.sg .AX_T_REF a
  let k : Int := if s.on F.AX_EM_STAT_LIMP a then 2 else 1
  let n := (s.bridgesOf a).length
  let kt := s.sg .AX_MOT_KT a
  if s.axSt a == aALIGN then
    let (i, s) := s.alignCurrent a
    let p := s.fld F.OBS_ALIGN_POL_N a
    match s.alignStep a with
    | some m => ((if m < p then i else if m < p + 4 then 0 else if m < 2 * p + 4 then -i else 0, 0), s)
    | none => ((0, 0), s)
  else if s.searching a then ((s.sg .OBS_SS_I a, 0), s)
  else if s.ifControl a then ((s.sg .OBS_IF_I a, 0), s)
  else if s.induction a then
    let v : Int := (s.sg .AX_SPEED a).natAbs
    let psi := s.sg .AX_MOT_PSI a
    let (f, s) := if v ≤ one24 then (psi, s) else s.quot (psi * one24) v
    let fw := (s.axis a).fw
    let (f, s) := if fw = 0 then (f, s) else
      (clampI 0 f (Config.freeInt s.free), { s with free := s.free + 1 })
    let (d, s) := s.quot (f * one24) (s.sg .AX_MOT_LM a)
    let (q, s) := s.quot (t * one24 ^ 2) (kt * s.fluxOf a)
    ((k * d, k * q), s)
  else if s.sg .AX_MOT_LD a == s.sg .AX_MOT_LQ a then
    let (q, s) := s.quot (t * one24 ^ 2) (kt * s.sg .AX_MOT_PSI a * n)
    (((s.axis a).fw, k * q), s)
  else
    let (u, s) := s.quot (t.natAbs * one24) (kt * n)
    let ((d, q), s) := s.lookUp u (s.axis a).table
    ((k * d + (s.axis a).fw, k * (t.sign * q)), s)

/-- The current limit in force (R218, R462). -/
def currentLimit (s : State) (a : Nat) : Int × State :=
  let (m, s) := s.pmul (s.sg .AX_ILIM a) (s.sg .CDL_MARGIN_DERATE a)
  (m.natAbs, s)

/-- References limited in magnitude, d before q (R218). (log 55 DESIGN CHOICE) -/
def limitRefs (s : State) (a : Nat) (d q : Int) : (Int × Int) × State :=
  let (m, s) := s.currentLimit a
  let d' := limitTo m d
  let r : Int := isqrt ((m * m - d' * d').toNat)
  let q' := limitTo r q
  ((d', q'), s.setF F.AX_STAT_I_LIM (b2n (d' != d || q' != q)) a)

/-- Field weakening (R218). (log 53 DESIGN CHOICE) -/
def weaken (s : State) (a : Nat) (vmax v : Int) : State :=
  let (lim, s) := s.pmul (s.sg .AX_FW_MARGIN a) vmax
  let (d, s) := s.gain a gKiFw (satI (satI lim - satI v))
  let fw := clampI (-(s.sg .AX_ID_MAX a)) 0 ((s.axis a).fw + d)
  (s.updAxis a fun x => { x with fw := fw }).setF F.AX_STAT_FW (b2n (fw != 0)) a

/-- One PI of the current loop with its feed-forward and its limit: the output, the new integral, whether the limit acts. (log 54 DEDUCED) -/
def currentPi (s : State) (a kp ki : Nat) (i err ff lim : Int) : (Int × Int × Bool) × State :=
  let (p, s) := s.gain a kp err
  let u := p + i + ff
  let v := limitTo lim u
  let (i', s) := s.integrate a ki i err (v - u)
  ((v, i', v != u), s)

/-- The current program's run: voltages of each winding, and the commit (R158, R208, R216 to R219, R236, R237). While injection is on, the
PIs take the mean of this sample's currents and the last one's. (log 55 DESIGN CHOICE) -/
def currentProgram (s : State) (a : Nat) : State :=
  match s.activeBridges a with
  | [] => s
  | b0 :: _ =>
    let x := s.axis a
    let o := s.ob a
    let inj := s.injecting a
    let (sum, diff) := s.sumDiff a
    let mean (now was : Int × Int) : Int × Int := if inj then ((now.1 + was.1) / 2, (now.2 + was.2) / 2) else now
    let meas := mean sum o.lastSum
    let circ := mean diff o.lastDiff
    let (vmax, s) := (s.vdc b0 * invSqrt3 / 2 ^ 64, s)
    let s := s.weaken a vmax (magnitude ((s.bridge b0).active.vd.toInt, (s.bridge b0).active.vq.toInt))
    let (ref, s) := s.references2 a
    let (ref, s) := s.limitRefs a ref.1 ref.2
    let e := s.backEmf a (s.modelW a meas.2) meas 1
    let (d, s) := s.currentPi a gKpId gKiId (x.idI.getD 0 0) (ref.1 - meas.1) e.1 vmax
    let (q, s) := s.currentPi a gKpIq gKiIq (x.iqI.getD 0 0) (ref.2 - meas.2) e.2 (isqrt ((vmax * vmax - d.1 * d.1).toNat))
    let two := (s.activeBridges a).length == 2
    let (cd, s) := if two then s.currentPi a gKpCirc gKiCirc (x.idI.getD 1 0) (-circ.1) 0 vmax else ((0, 0, false), s)
    let (cq, s) := if two then s.currentPi a gKpCirc gKiCirc (x.iqI.getD 1 0) (-circ.2) 0 vmax else ((0, 0, false), s)
    let s := s.setF F.AX_STAT_V_LIM (b2n (d.2.2 || q.2.2)) a
    let s := s.updAxis a fun x => { x with idI := [d.2.1, cd.2.1], iqI := [q.2.1, cq.2.1] }
    let own := s.axSt a == aALIGN || s.searching a
    let om := if own then o.wInj else s.turnsPerSample a (s.modelW a meas.2)
    let slip := s.turnsPerSample a (s.slipOf a meas.2)
    let n := s.samplePeriod a
    let tr := 200 * (s.rd .AX_MOT_TR a).toNat
    let s := if s.induction a then
        let psi := (s.axis a).psi
        let dpsi := if tr = 0 then 0 else (pm (s.sg .AX_MOT_LM a) meas.1 - psi) * n / tr
        let slipA := if s.onObserver a then x.seen.frame - x.seen.ang else x.slipA + wi slip
        s.updAxis a fun x => { x with slipA := slipA, psi := satI (psi + dpsi) }
      else s
    let sign : Int := if !inj then 0 else if 0 < o.injNext then -1 else 1
    let s := s.updOb a fun o => { o with injNext := sign }
    let s := s.forL (s.activeBridges a) fun b s =>
      let k : Int := if s.on F.BR_CFG_WINDING b && two then -1 else 1
      let s := (s.wrSat .BR_VD (d.1 + k * cd.1 + sign * s.sg .OBS_INJ_V a) b).wrSat .BR_VQ (q.1 + k * cq.1) b
      (s.wr .BR_THETA x.seen.frame b).wr .BR_OMEGA (wi om) b
    s.commit b0

/-- The peak |i_d| of a pulse of ALIGN, at the sample at which its last voltage has acted (R158, R242): a set formed at a sample acts from
the next one to the one after it. (log 50 DESIGN CHOICE) -/
def alignPeak (s : State) (a : Nat) : State :=
  let p := s.fld F.OBS_ALIGN_POL_N a
  let i : Int := (s.sumDiff a).1.1.natAbs
  if s.axSt a != aALIGN then s
  else match s.alignStep a with
    | some m =>
      if m = p + 1 then s.updOb a fun o => { o with peakP := some i }
      else if m = 2 * p + 5 then s.updOb a fun o => { o with peakN := some i }
      else s
    | none => s

/-- Since when the difference current is beyond AX_CIRC_LIM (R219). -/
def circulating (s : State) (a : Nat) : State :=
  let d := magnitude (s.sumDiff a).2
  s.updAxis a fun x => { x with circSince := if s.sg .AX_CIRC_LIM a < d then some (x.circSince.getD s.tick) else none }

/-! ## Sums that others keep (R424, R458, R467) -/

/-- The electrical energy of the sample (R467): 0.001 pu·h are 720,000,000 ticks at 1.0 pu. -/
def energy (s : State) (a : Nat) : State :=
  let v := match s.activeBridges a with
    | b :: _ => ((s.bridge b).active.vd.toInt, (s.bridge b).active.vq.toInt)
    | [] => (0, 0)
  let p := (pm v.1 (s.sg .AX_ID a) + pm v.2 (s.sg .AX_IQ a)) * s.samplePeriod a
  let s := { s with cdl := { s.cdl with energy := upd s.cdl.energy a fun e =>
    if 0 ≤ p then (e.1 + p, e.2) else (e.1, e.2 - p) } }
  let e := nth s.cdl.energy a
  let show_ (x : Int) : Word := wd (min (x / (2 ^ 24 * 720000000)).toNat (2 ^ 32 - 1))
  (s.wr .CDL_ENERGY_MOT (show_ e.1) a).wr .CDL_ENERGY_GEN (show_ e.2) a

/-- The currents of a bridge at the last sample, in its frame. -/
def lastDq (s : State) (a b : Nat) : Int × Int :=
  let o := s.ob a
  let k : Int := if (s.activeBridges a).head? == some b then 1 else -1
  (o.lastSum.1 + k * o.lastDiff.1, o.lastSum.2 + k * o.lastDiff.2)

/-- The voltage loss of a bridge (R458): its voltage demand along the current vector less the model voltage of R207 or R208, in pu24. (log 114
DEDUCED) -/
def lossV (s : State) (a b : Nat) : Int :=
  let i := s.dqOf a b
  let was := s.lastDq a b
  let v := (s.bridge b).active
  let e := s.backEmf a (s.modelW a i.2) i 1
  let r := s.sg .AX_MOT_RS a
  let dt := perUnitTime (s.fld F.AX_BASE_F_VALUE a) (s.samplePeriod a)
  let model (i was e l : Int) : Int := pm r i + (if dt = 0 then 0 else l * (i - was) * 2 ^ 48 / (one24 * dt)) + e
  let d := v.vd.toInt - model i.1 was.1 e.1 (s.sg .AX_MOT_LD a)
  let q := v.vq.toInt - model i.2 was.2 e.2 (s.sg .AX_MOT_LQ a)
  let m := magnitude i
  if m = 0 then 0 else (d * i.1 + q * i.2) / m

/-- The window under way of each bridge of the axis (R458): its sums, predicted samples, what disqualifies it. -/
def wearSample (s : State) (a : Nat) (measured : Bool) : State :=
  s.forL (s.bridgesOf a) fun b s =>
    let i := magnitude (s.dqOf a b)
    let v := s.lossV a b
    let bad := s.axSt a != aRUN || !s.running b || s.on F.BR_STAT_CLIPPED b || s.on F.BR_STAT_HELD b ||
      5 * (s.sg .AX_SPEED a).natAbs < 2 ^ 24
    { s with cdl := { s.cdl with wear := upd s.cdl.wear b fun w =>
      { w with sumI := w.sumI + i.toNat, sumV := w.sumV + v, sumII := w.sumII + i * i, sumIV := w.sumIV + i * v
               n := w.n + 1, pred := w.pred + b2n (!measured), spoilt := w.spoilt || bad
               swTicks := w.swTicks + (if s.running b then s.samplePeriod a else 0) } } }

/-- Since when the current of the brake's axis has been at SBC_IMIN (R424). -/
def brakeCurrent (s : State) (a : Nat) : State :=
  if s.sbcAxis != a then s
  else { s with lan := { s.lan with
    imagOk := if (s.par 8).toInt ≤ s.sg .AX_IMAG a then some (s.lan.imagOk.getD s.tick) else none } }

/-! ## The stage -/

/-- The current program drives the bridges in these states. -/
def driven (s : State) (a : Nat) : Bool :=
  s.on F.AX_CFG_PROG a && (s.activeBridges a).any s.running &&
    (s.axSt a == aALIGN || s.axSt a == aRUN || s.axSt a == aEMERGENCY || s.stopping a || s.searching a)

/-- What a sample does with the currents of its axis before it shares and regulates. -/
def latchStage (s : State) (a : Nat) : State :=
  let shot := (s.axis a).shot
  let kind := match shot with | some h => h.kind | none => 0
  let live := s.axSt a == aRUN || s.axSt a == aEMERGENCY
  let s := s.latchCurrents a
  let s := match shot with | some h => if h.kind == 0 && live then s.residuals a h.degraded else s | none => s
  let s := s.alignCount a
  let iab := match s.activeBridges a with | b :: _ => s.alphaBeta b | [] => (0, 0)
  let sum := (s.sumDiff a).1
  let s := (((s.observe a iab (kind == 0)).catchSample a).searchSample a sum).alignPeak a
  let s := ((s.circulating a).energy a).wearSample a (kind == 0)
  let s := (s.brakeCurrent a).supervise a
  s.updAxis a fun x => { x with staged := x.lastSample, waits := true }

/-- The current program reads the sample's AX_T_REF and drives the bridges (R216, R261). -/
def actStage (s : State) (a : Nat) : State :=
  let s := s.updAxis a fun x => { x with waits := false }
  let (sum, diff) := s.sumDiff a
  let s := if s.driven a then s.currentProgram a else s
  s.updOb a fun o => { o with lastSum := sum, lastDiff := diff }

/-- Everything a sample does once its currents are there. Counted members of a share group go on together once all of them have latched
the currents of the instant, the leader first, so that each correction stands before the current program reads it (R260, R261).
(log 56 DESIGN CHOICE) -/
def currentsStage (s : State) (a : Nat) : State :=
  let s := s.latchStage a
  if !s.on F.AX_SH_CFG_MODE a || !s.counted a a then (s.shareSample a).actStage a
  else
    let own := (s.groupOf a).filter (s.counted a)
    if own.any fun k => s.owes k (s.axis a).lastSample then s
    else
      let due := own.filter fun k => (s.axis k).waits
      let due := (due.filter fun k => s.on F.AX_SH_CFG_LEADER k) ++ due.filter fun k => !s.on F.AX_SH_CFG_LEADER k
      (s.forL due fun k s => s.shareSample k).forL due fun k s => s.actStage k

/-- A sample whose sharing still waits for another member's currents goes on without them before the next one. (log 56 DESIGN CHOICE) -/
def lateStage (s : State) (a : Nat) : State := if (s.axis a).waits then (s.shareSample a).actStage a else s

end Sys2Proof.Machine.State
end

