-- ==== Sys2Proof/Machine/Records.lean ====
section
/-!
DEFINITION. Machine/Records.lean: the records of a waveform capture, one at a sample instant, and its trigger (R388, R389).
-/

namespace Sys2Proof.Machine.State

/-- The faults logged so far, as one number that rises with each (for TRIG 3). -/
def faultMark (s : State) : Int :=
  s.flt.nextSeq.toNat * 2 ^ 32 + (match s.flt.log with | r :: _ => r.again.toNat | [] => 0)

/-- A fault of class cls or higher was raised since a mark. -/
def faultSince (s : State) (mark : Int) (cls : Nat) : Bool :=
  s.faultMark != mark &&
    ((match s.flt.log with | r :: _ => decide (cls ≤ r.cls) | [] => false) ||
      s.flt.log.any fun r => mark < (r.seq.toNat + 1) * 2 ^ 32 && cls ≤ r.cls)

/-- The trigger fires with this record (R388). (log 117 DEDUCED) -/
def capFires (s : State) (c : Cap) (entry : List Word) (prev : Int) (first : Bool) : Bool :=
  let v := (nth entry (1 + bitsOf (capWord c 0) 23 20)).toInt
  let lv := (capWord c 3).toInt
  match capTrig c with
  | 0 => true
  | 1 => !first && prev < lv && lv ≤ v
  | 2 => !first && lv < prev && v ≤ lv
  | 3 => s.faultSince prev (bitsOf (capWord c 0) 26 24)
  | _ => decide ((mk64 (capWord c 4) (capWord c 3)).toNat ≤ s.pwmTime.toNat)

/-- The registers of a record read one after the other, each with the effects of a read (R3, R203, R389): RC fields are cleared. (log 117 DEDUCED) -/
def capRead (s : State) : List Word → List Word × State
  | [] => ([], s)
  | a :: l =>
    let (v, s) : Word × State := match placeAt (baseOf a) with
      | some (.reg .LE_MDATA e) => s.memRead e
      | some (.reg r i) => (s.view r i, s.clearRc r i)
      | _ => (0, s)
    let (vs, s) := s.capRead l
    (v :: vs, s)

/-- The capture at a sample instant of its axis: every 2^DIV samples a record (R389). (log 117 DEDUCED) -/
def capSample (s : State) (a : Nat) : State :=
  match s.str.cap with
  | none => s
  | some c =>
    if capAxis c != a || c.ended then s
    else
      let c' := { c with count := c.count + 1 }
      if c.count % 2 ^ capDiv c != 0 then s.setCap (some c')
      else
        let (vals, s) := s.capRead ((upTo (capNch c)).map fun i => capWord c (5 + i))
        let entry := lo32 s.pwmTime :: vals
        let pre := bitsOf (capWord c 1) 23 0
        let tch := (nth entry (1 + bitsOf (capWord c 0) 23 20)).toInt
        let mark := if capTrig c == 3 then s.faultMark else tch
        let fires := c.trig.isNone && s.capFires c entry (c.prev.getD mark) c.prev.isNone
        let s := if fires then
            let s := (s.setF F.STR_STAT_CAPTURE 2).capPush [lo32 s.pwmTime, hi32 s.pwmTime, wd c.ring.length, capWord c 0] false
            s.capPush c.ring.flatten false
          else s
        let c' := { c' with prev := some mark, trig := if fires then some (s.pwmTime, c.ring.length) else c.trig }
        if c'.trig.isSome then
          let s := (s.capPush entry false).setCap (some { c' with post := c.post + 1, ring := [] })
          if bitsOf (capWord c 2) 23 0 ≤ c.post + 1 then s.capClose false else s.showFill
        else
          let ring := c.ring ++ [entry]
          (s.setCap (some { c' with ring := ring.drop (ring.length - pre) })).showFill

end Sys2Proof.Machine.State
end

