-- ==== Sys2Proof/Machine/Sample.lean ====
section
/-!
DEFINITION. Machine/Sample.lean: the sample instant of an axis and the arrival of its currents (R156 to R160, R168 to R175,
R193, R194, R210 to R215, R226, R243, R277 to R281, R389).
-/

namespace Sys2Proof.Machine

namespace State

/-! ## Skip, predict, force (R171, R172, R174) -/

/-- An edge of the axis's bridges, or of their choppers under CHOP_IN_GUARD, lies in the guard interval of a centre (R171);
times in 1.25 ns units. (log 65 DEDUCED) -/
def disturbed (s : State) (a : Nat) (c : Int) : Bool :=
  let own := s.bridgesOf a
  let lo := 4 * (c - s.preEff a)
  let hi := 4 * (c + s.postEff a)
  let inside (t : Int) : Bool := lo ≤ t && t ≤ hi
  (s.pwm.edges.any fun e => own.contains e.br && inside e.at_) || (s.pwm.past.any fun e => own.contains e.br && inside e.at_) ||
    (s.on F.SNS_SHIFT_CHOP_IN_GUARD a && (own.any fun b => (s.choppersOf b).any fun k =>
      let h := nth s.gate.chops k
      inside (4 * h.since) || h.spans.any fun p => inside (4 * p.1) || inside (4 * p.2)))

/-- The candidate centre of a forced measurement, as an offset in ticks (R174): the nearest, the earlier of two. (log 65 DEDUCED) -/
def candidate (s : State) (a : Nat) : Option Int :=
  let n := s.fld F.SNS_SHIFT_SHIFT_MAX a / 10
  let l : List Int := (upTo n).flatMap fun k => [-(10 * (k + 1 : Nat) : Int), (10 * (k + 1 : Nat) : Int)]
  l.find? fun d => !s.disturbed a (s.tick + d)

/-- How the sample is taken (R172): kind 0 measured, 1 predicted, 2 forced with its offset, and whether it is degraded. (log 65 DEDUCED) -/
def decide_ (s : State) (a : Nat) : Nat × Int × Bool :=
  if !((s.bridgesOf a).any s.running) || !s.disturbed a s.tick then (0, 0, false)
  else if s.fld F.SNS_STAT_N_PRED a < 2 then (1, 0, false)
  else match s.candidate a with
    | some d => (2, d, false)
    | none => (0, 0, true)

/-- The flags and counts of the decision (R172, R174). (log 65 DEDUCED) -/
def showDecision (s : State) (a : Nat) (q : Nat × Int × Bool) : State :=
  let n := if q.1 == 1 then s.fld F.SNS_STAT_N_PRED a + 1 else 0
  let s := (s.setF F.SNS_STAT_N_PRED n a).setF F.SNS_STAT_SKIPPED (b2n (q.1 == 1)) a
  let s := (s.setF F.SNS_STAT_SHIFTED (b2n (q.1 == 2)) a).setF F.SNS_STAT_DEGRADED (b2n q.2.2) a
  let s := if q.1 == 1 then s.bump F.SNS_SKIP_CNT_COUNT a else s
  let s := if q.1 == 2 then (s.bump F.SNS_SHIFT_CNT_COUNT a).wr .SNS_SHIFT_LAST (wi q.2.1) a else s
  if q.2.2 then (s.bump F.SNS_DEGR_CNT_COUNT a).raise 0x3010 a [] else s

/-- The channels that a sample measures (R169, R244): the enabled ones of the axis's bridges whose clock runs, those of the phases where it
is not predicted, and the voltage channels. (log 124 DESIGN CHOICE) -/
def sampleChans (s : State) (a : Nat) (phases : Bool) : List Nat :=
  let own := s.bridgesOf a
  (upTo 16).filter fun c =>
    let role := s.fld F.SD_CFG_ROLE c
    s.on F.SD_CFG_EN c && s.sdClocked c &&
      ((own.contains (s.fld F.SD_CFG_BRIDGE c) && role ≤ 6 && (phases || role == 0 || 4 ≤ role)) ||
       (s.on F.OBS_CFG_VT_EN a && (c == s.fld F.OBS_CFG_VT_CH0 a || c == s.fld F.OBS_CFG_VT_CH1 a)))

/-- Some channel of a list is one whose value the sample's computations wait for: one with a role, or a voltage channel. -/
def awaits (s : State) (a : Nat) (l : List Nat) : Bool :=
  l.any fun c => s.fld F.SD_CFG_ROLE c != 0 ||
    (s.on F.OBS_CFG_VT_EN a && (c == s.fld F.OBS_CFG_VT_CH0 a || c == s.fld F.OBS_CFG_VT_CH1 a))

/-- The predicted phase currents at this sample by channel (R173), from the state before the update instant. -/
def predictAll (s : State) (a : Nat) : List (Nat × Int) × State :=
  let t0 := (s.axis a).lastSample.getD s.tick
  (s.bridgesOf a).foldl (fun (p : List (Nat × Int) × State) b =>
    let s := p.2
    if !s.running b then p
    else
      let th := s.anchored b
      let (i, s) := s.predict a (s.phaseI b) (s.appliedV b t0 s.tick) th (th + (s.bridge b).active.omega) (s.tick - t0 : Nat)
      (p.1 ++ [1, 2, 3].filterMap fun r => (s.sdOf b r).map fun c => (c, nth i (r - 1)), s)) ([], s)

/-- The phase currents of a forced measurement are projected to the sample instant (R174): from a centre before it with the set applied
until then, from one after it backwards with the set applied since. (log 65 DEDUCED) -/
def project (s : State) (a : Nat) (h : Shot) : State :=
  let p := s.samplePeriod a
  let c := ((h.inst : Int) + h.shift).toNat
  s.forL (s.bridgesOf a) fun b s =>
    let r := s.bridge b
    let (at_, w) := if h.shift < 0 then (r.axisAng, r.wasOmega) else (s.anchored b, r.active.omega)
    let turn : Word := if p = 0 then 0 else wi (w.toInt * h.shift / p)
    let v := s.appliedV b (min c h.inst) (max c h.inst)
    let (i, s) := s.predict a (s.phaseI b) v (at_ + turn) at_ (-h.shift)
    s.forL [1, 2, 3] fun r s => match s.sdOf b r with
      | some c => s.wr .SD_VALUE (wi (nth i (r - 1))) c
      | none => s

/-! ## Angle and speed (R210, R211, R243) -/

/-- AX_THETA and AX_SPEED of the sample (R210, R211); after an ALIGN without a reference, the aligned angle with the motion since (R243). -/
def latchAngle (s : State) (a : Nat) : State :=
  let c := s.encOf a
  let (es, s) := s.encSpeed a
  let s := s.wr .AX_SPEED (if s.onObserver a then s.rd .OBS_SPEED a else wi es) a
  if s.onObserver a then s.wr .AX_THETA (s.rd .OBS_THETA a) a
  else match (s.ob a).aligned with
    | some (th, n) => s.wr .AX_THETA (th + s.motion a (s.counter c - n)) a
    | none =>
      if s.fld F.AX_CFG_ANGLE_SRC a == 2 && !s.on F.EN_STAT_REFERENCED c then s.wr .AX_THETA (s.rd .H_SECT_ANGLE) a
      else s.wr .AX_THETA (s.encAngle a) a

/-- What the sample latches beside AX_THETA and AX_SPEED (R210). -/
def latchSeen (s : State) (a : Nat) : State :=
  let (es, s) := s.encSpeed a
  let (f, s) := s.tensionNow a
  let x : Seen := { frame := s.frameAngle a, pos := s.rd .EN_POS (s.encOf a), ang := s.encAngle a, spd := es, ten := satI f,
                    tenLost := !s.on F.AX_TEN_CFG_EST a && (nth s.ai (s.fld F.AX_TEN_CFG_AI a)).overRange,
                    obsAng := s.rd .OBS_THETA a, obsSpd := s.sg .OBS_SPEED a }
  s.updAxis a fun y => { y with seen := x }

/-! ## Emergency sequences at a sample (R274, R279 to R282) -/

/-- Since when the speed is below 0.01 pu. -/
def restSince (s : State) (a : Nat) : State :=
  s.updAxis a fun x => { x with lowSince := if s.atRest a then some (x.lowSince.getD s.tick) else none }

/-- The speed has been below 0.01 pu for 100 ms. -/
def rested (s : State) (a : Nat) : Bool :=
  match (s.axis a).lowSince with | some t => t + 100 * ticksPerMs ≤ s.tick | none => false

/-- The exit of EM-LOWER, the brake of EM-HOLD and its proving, the length of EM-RENDER. (log 57 DEDUCED) -/
def emSample (s : State) (a : Nat) : State :=
  let e := s.emr a
  let m := s.opMode a
  if m == 4 && e.leaving && s.rested a then
    let s := s.setF F.LAN_SBC_REQ 0
    match e.fr2 with
    | some c => s.toFaulted a c false
    | none =>
      let t := s.sg .AX_T_REF a
      let s := (s.setF F.AX_EM_STAT_OPMODE 5 a).raise 0x3043 a [5]
      (s.updEm a fun e => { e with leaving := false, braked := true, heldT := t }).finish 0x0306 a (ok)
  else if m == 5 && !e.braked && s.rested a then
    let t := s.sg .AX_T_REF a
    let s := s.setF F.AX_EM_STAT_PROVING (b2n e.proveFor.isSome) a
    (s.setF F.LAN_SBC_REQ 0).updEm a fun e => { e with braked := true, heldT := t }
  else if m == 5 && !s.brakeHolds a then
    let t := s.sg .AX_T_REF a
    s.updEm a fun e => { e with heldT := t, proveAt := none }
  else if e.proveFor.isSome then
    let p := s.sg .AX_EM_PROVE a
    let want := if e.heldT < 0 then -p else p
    let t := if e.heldT < 0 then -(s.sg .AX_T_EST a) else s.sg .AX_T_EST a
    let ok := 9 * p ≤ 10 * t && s.atRest a
    match e.proveAt with
    | none => if s.sg .AX_T_REF a == want then s.updEm a fun e => { e with proveAt := some s.tick, proveOk := true } else s
    | some _ => if ok then s else s.updEm a fun e => { e with proveOk := false }
  else if m == 6 then
    let d := (s.axis a).seen.pos - e.rendFrom
    let out := if s.on F.AX_EM_CFG_LOWER_DIR a then d else 0 - d
    let was := s.sg .AX_EM_REND_POS a
    let lim : Int := (s.rd .AX_EM_REND_LEN a).toNat
    let s := s.wr .AX_EM_REND_POS out a
    let f := (s.axis a).seen.ten
    let s := s.updEm a fun e => { e with recSince := if f < s.sg .AX_EM_REND_REC a then some (e.recSince.getD s.tick) else none }
    if lim != 0 && was ≤ lim && lim < out.toInt then (s.raiseF F.AX_EM_STAT_LEN_WARN a).raise 0x3046 a [out] else s
  else s

/-! ## Releases (R193) -/

/-- The releases of this sample instant on every engine; `avail` is the tick at which its currents are available. -/
def releaseTasks (s : State) (a : Nat) (index : Nat) (avail : Nat) : State :=
  s.forN 10 fun e s => s.forN 4 fun k s =>
    let i := 4 * e + k
    if s.on F.LE_TASK_CFG_EN i && s.fld F.LE_TASK_CFG_AXIS i == a &&
        index % 2 ^ s.fld F.LE_TASK_CFG_RATE i == s.fld F.LE_TASK_CFG_PHASE i then
      let base := if s.on F.LE_TASK_CFG_TRIG i then avail else s.tick
      let r : Rel := ⟨k, a, s.tick, base + s.fld F.LE_TASK_START_START i, wd index, s.nowStamp⟩
      s.updEng e fun g => { g with due := g.due ++ [r] }
    else s

/-! ## The instant -/

/-- The sample's gains (R226). (log 54 DEDUCED) -/
def tuneIn (s : State) (a : Nat) : State :=
  if !(s.axis a).tunePend then s
  else
    (s.updAxis a fun x => { x with gains := gainRegs.map fun r => s.rd r a, tunePend := false }).setF F.AX_STAT_TUNE_PEND 0 a

/-- A change of mode or source comes into force at an outer-loop sample (R214, R222, R232). -/
def actIn (s : State) (a : Nat) : State :=
  if (s.axis a).act == (s.fld F.AX_CTRL_MODE a, s.fld F.AX_CTRL_SRC a) then s else s.presetLoops a

/-- The set-point, the torque reference and the outer loop of a sample (R212 to R215, R220 to R223). -/
def controlSample (s : State) (a : Nat) (index : Nat) : State :=
  if !s.regulates a then s
  else
    let outer := index % 2 ^ s.fld F.AX_CFG_SUB a == 0
    let s := if outer then
        let s := s.actIn a
        let (raw, s) := s.rawSetpoint a
        s.ramp a raw
      else s
    let (clip, s) := s.torqueRef a
    if outer && s.on F.AX_CFG_PROG a then s.outerLoop a clip else s

/-- The load observer of the standard programs writes AX_T_LOAD each sample; the spec gives no formula for it. (log 52 DESIGN CHOICE) -/
def loadObserver (s : State) (a : Nat) : State :=
  if s.on F.AX_CFG_PROG a then
    let (w, s) := s.freeWord
    s.wr .AX_T_LOAD w a
  else s

/-- The instant after the scheduled one, and whether it is a peak (R194): a period later while a bridge of the axis switches, whose carrier
counts on, else the next one of the grid as the registers place it. (log 60 DEDUCED) -/
def nextGrid (s : State) (a t : Nat) : Option (Nat × Bool) :=
  match s.mainBridge a with
  | none => none
  | some b =>
    if (s.bridgesOf a).any s.running then
      if s.samplePeriod a = 0 then none else some (t + s.samplePeriod a, s.on F.BR_CFG_UPDATES b && !(s.axis a).peak)
    else s.gridFrom b (max (t + 1) s.tick)

/-- The sign of the injection over the interval that ends here and over the one that begins (R158, R236): a set committed in time brings
its own. -/
def injShift (s : State) (a : Nat) : State :=
  let now (o : Obs) : Int := match s.activeBridges a with
    | b :: _ => if !s.running b then 0 else if s.on F.BR_STAT_HELD b then o.injNow else o.injNext
    | [] => 0
  s.updOb a fun o => { o with injWas := o.injNow, injNow := now o }

/-- The sample instant of axis a in this tick; it was scheduled for `t`. -/
def sampleAt (s : State) (a t : Nat) : State :=
  let s := s.lateStage a
  let x := s.axis a
  let index := x.samples
  let prev := x.lastSample.map fun t => lo32 (s.pwmTime - BitVec.ofNat 64 (5 * (s.tick - t)))
  let (pred, s) := s.predictAll a
  let next := s.nextGrid a t
  let s := s.updAxis a fun x => { x with
    samples := (index + 1) % 2 ^ 32, lastSample := some s.tick, model := pred, snaps := ((s.tick, s.gate.gc) :: x.snaps).take 2
    grid := next.map Prod.fst, peak := (next.map Prod.snd).getD false }
  let s := s.forL (s.bridgesOf a) fun b s => if s.running b then s.updateBridge b x.peak else s
  let s := (s.injShift a).tuneIn a
  let q := s.decide_ a
  let s := s.showDecision a q
  let s := s.showGuard a
  let s := s.forN 4 fun c s => if s.owner c == a then s.speedSample c else s
  let s := ((s.latchAngle a).latchSeen a).restSince a
  let s := (((s.shareAge a prev).shareLink a).emSample a).controlSample a index
  let s := if (s.ob a).keRun && s.axSt a == aRUN && s.rd .AX_T_REF a == 0 then
      (s.updOb a fun o => { o with keRun := false }).goCatch a
    else s
  let s := if q.1 == 1 then s.forL pred fun p s => s.wr .SD_VALUE (wi p.2) p.1 else s
  let left := s.sampleChans a (q.1 != 1)
  let s := s.updAxis a fun y => { y with shot := some ⟨s.tick, q.1, q.2.1, q.2.2, left⟩ }
  let late := (max 0 q.2.1).toNat + 15 * s.maxOsr a + 2
  let s := s.releaseTasks a index (if q.1 == 1 then s.tick else s.tick + late)
  let s := if q.1 == 1 || !s.awaits a left then s.currentsStage a else s
  (s.loadObserver a).capSample a

/-- The value of a channel for the sample under way of an axis (R169, R174): in a forced one every channel, not only the currents that R174
projects, is taken at the centre chosen. (log 65 DEDUCED) Once the sample has all it waits for, its computations follow,
for a forced one on the currents at the sample instant. -/
def sampleValue (s : State) (ch a : Nat) : State :=
  match (s.axis a).shot with
  | none => s
  | some h =>
    if !h.left.contains ch then s
    else
      let (v, s) := s.sdValueAt ch ((h.inst : Int) + h.shift).toNat
      let h' := { h with left := h.left.erase ch }
      let s := (s.wrSat .SD_VALUE v ch).updAxis a fun x => { x with shot := some h' }
      if !s.awaits a h.left || s.awaits a h'.left || h.kind == 1 then s
      else (if h.kind == 2 then s.project a h else s).currentsStage a

end State

/-! ## Meanings -/

/-- SAMPLE_INSTANT (R194, R210): time passes to the next sample instant of the axis; without a grid there is none. (log 2 DESIGN CHOICE) -/
def execSampleInstant (a : Fin 4) (s : State) : Host.Outcome State Fault Refusal :=
  match (s.axis a).grid with
  | none => endWith s
  | some t => endWith ((s.elapseTo t).sampleAt a t)

/-- SD_VALUE_AVAILABLE (R168, R169, R174): a channel's bits since the last ones arrive, and the value for the samples under way that wait
for it, when it is available. A channel that no sample waits for takes its bits and gives no value. -/
def execSdValueAvailable (ch : Fin 16) (bits : List Bool) (s : State) : Host.Outcome State Fault Refusal :=
  let axes := (upTo 4).filter fun a => match (s.axis a).shot with | some h => h.left.contains ch.val | none => false
  let due := axes.filterMap fun a => (s.axis a).shot.map fun h =>
    h.inst + (max 0 h.shift).toNat + 15 * s.fld F.SD_CFG_OSR ch + 2
  let s := match due.min? with | some t => s.elapseTo t | none => s
  endWith (((s.sdFeed ch bits).forL axes fun a s => s.sampleValue ch a))

end Sys2Proof.Machine
end

