-- ==== Sys2Proof/Machine/AxisEvents.lean ====
section
/-!
DEFINITION. Machine/AxisEvents.lean: the ends of a catch, a relock, ALIGN, a stop and the emergency sequences, and the motor's
identity (R219, R221, R227, R242 to R256, R263, R268, R278 to R281).
-/

namespace Sys2Proof.Machine

namespace State

/-! ## Enable (R209, R227) -/

/-- A standard program of the image is put into an engine and checked (R192, R197, R209). (log 58 DESIGN CHOICE) -/
def loadProgram (s : State) (a k e : Nat) : Bool × State :=
  let ws := Config.axisProgram k (s.rd .AX_CFG a)
  let s := s.updEng e fun g => { g with prog := ws.foldl (fun m p => Store.set zeroMem m p.1 p.2) g.prog }
  let s := (s.setF F.LE_STAT_PROG_OK 0 e).staticCheck e
  (s.on F.LE_STAT_PROG_OK e && s.deadlinesOk e && s.scheduleFits e fun j => s.budgetEff (4 * e + j), s)

/-- The standard programs are loaded at the first enable after a change of AX_CFG, the current program with its table of R217; whether all
passed their checks (R209). (log 58 DESIGN CHOICE) -/
def loadPrograms (s : State) (a : Nat) : Bool × State :=
  if !s.on F.AX_CFG_PROG a || (s.axis a).progLoaded then (true, s)
  else
    let (cur, s) := s.loadProgram a 0 (s.fld F.AX_CFG_LE_CUR a)
    let (out, s) := s.loadProgram a 1 (s.fld F.AX_CFG_LE_OUT a)
    let (obs, s) := s.loadProgram a 2 (8 + s.fld F.AX_CFG_OE a)
    let good := cur && out && obs
    (good, if good then s.updAxis a fun x => { x with progLoaded := true, table := s.mtpaTable a } else s)

/-- An accepted enable of a DISABLED axis. (log 58 DESIGN CHOICE) -/
def enable (s : State) (a : Nat) : State :=
  let (ok, s) := s.loadPrograms a
  if !ok then (s.raise 0x3030 a []).finish 0x0301 a (ans cINTERNAL 0x3030)
  else if !s.on F.AX_CFG_CATCH_DIS a then s.goCatch a
  else s.standstill a

/-! ## Motor identity (R254 to R256) -/

/-- The speed is at OBS_KE_CFG.VMIN or above. -/
def atVmin (s : State) (a : Nat) (w : Int) : Bool := s.fld F.OBS_KE_CFG_VMIN a * 2 ^ 24 ≤ 1000 * w.natAbs

/-- The back-EMF constant of a window, corrected to 20 °C with TEMP_EN (R254). (log 51 DEDUCED) -/
def keValue (s : State) (a : Nat) (v w : Int) : Int × State :=
  let (k, s) := s.quot (v.natAbs * one24) w.natAbs
  if !s.on F.OBS_KE_CFG_TEMP_EN a then (k, s)
  else
    let t := 100 * s.sg .AI_VALUE (s.fld F.OBS_KE_CFG_TEMP_AI a) - 20 * one24
    s.quot (k * 1000000 * one24) (1000000 * one24 + s.sg .OBS_KE_TC a * t)

/-- DEMAG thresholds, each once per crossing (R256): level 1 below -3 %, 2 below -10 %. -/
def demagCheck (s : State) (a : Nat) : State :=
  let base := s.sg .OBS_KE_BASE a
  let d := s.sg .OBS_KE_AVG a - base
  let lv := if 100 * d < -(10 * base) then 2 else if 100 * d < -(3 * base) then 1 else 0
  let was := (s.ob a).demag
  let s := s.updOb a fun o => { o with demag := lv }
  let s := if 1 ≤ lv && was < 1 then (s.raiseF F.OBS_STAT_DEMAG_WARN a).raise 0x2015 a [] else s
  if 2 ≤ lv && was < 2 then s.raise 0x2016 a [] else s

/-- A measurement of the back-EMF constant is taken (R254 to R256). (log 51 DEDUCED) -/
def recordKe (s : State) (a : Nat) (v w : Int) : State :=
  let (k, s) := s.keValue a v w
  let s := s.wrSat .OBS_KE_LAST k a
  let ref := s.sg .OBS_KE_REF a
  if s.fld F.OBS_STAT_KE_STATE a != 1 then
    let (d, s) := s.quot (1000 * (k - ref)) ref
    let s := s.wrSat .OBS_KE_DEV d a
    let pass := 100 * (k - ref).natAbs ≤ 8 * ref.natAbs
    if pass && (s.fld F.OBS_STAT_KE_STATE a == 0 || s.dev == dREADY) then
      let s := ((s.wrSat .OBS_KE_BASE k a).wrSat .OBS_KE_AVG k a).setF F.OBS_STAT_KE_STATE 1 a
      let s := ((s.keep .OBS_KE_BASE a).keep .OBS_KE_AVG a).setF F.OBS_KE_CFG_COMMISSION 0 a
      let s := s.updOb a fun o => { o with identWrong := false, demag := 0 }
      s.audit byDevice 0x000E (wd a) 0 (s.rd .OBS_KE_BASE a)
    else if pass then s
    else
      let s := (s.setF F.OBS_STAT_KE_STATE 2 a).updOb a fun o => { o with identWrong := true }
      s.raise 0x2017 a [wi d]
  else
    let (e, s) := s.quot (k - s.sg .OBS_KE_AVG a) 8
    let s := s.wrSat .OBS_KE_AVG (s.sg .OBS_KE_AVG a + e) a
    let base := s.sg .OBS_KE_BASE a
    let (d, s) := s.quot (1000 * (s.sg .OBS_KE_AVG a - base)) base
    (s.wrSat .OBS_KE_DEV d a).demagCheck a

/-! ## Catch (R244 to R249) -/

/-- A catch outcome is reported. (log 48 DEDUCED) -/
def catchOut (s : State) (a code : Nat) (w : Int) : State :=
  (s.setF F.OBS_STAT_CATCH_OUT code a).wrSat .OBS_CATCH_SPEED w a

/-- A speed in 0.1 % as a DETAIL. -/
def permille (s : State) (w : Int) : Nat × State :=
  let (v, s) := s.quot (1000 * w) one24
  (((v % 65536 : Int)).toNat, s)

/-- A start that is refused as too fast (R246, R249); in a relock it fails the relock (R252). (log 48 DEDUCED) -/
def tooFast (s : State) (a : Nat) (w : Int) (detail : Nat) : State :=
  let s := s.catchOut a 4 w
  let s := s.updOb a fun o => { o with search := false }
  if (s.ob a).relock.isSome then (s.runBitsOff a).relockFailed a
  else (s.finish 0x0301 a (ans cCATCH_TOO_FAST detail)).toDisabled a

/-- A locked catch at speed w with the rotor's angle and the voltage's magnitude (R246, R247, R251); on an induction machine with an encoder
the slip angle joins the flux to it (R208). -/
def lockedRun (s : State) (a code : Nat) (w v : Int) (th : Word) : State :=
  let s := s.catchOut a code w
  let run := fun (s : State) =>
    ((s.locked a w v th).updAxis a fun x => { x with
      slipA := if s.induction a && !s.onObserver a then th - s.encAngle a else x.slipA }).goRun a
  match (s.ob a).relock with
  | some r => if (w - r.before).natAbs ≤ (s.sg .OBS_RELOCK_DSPD a).natAbs then run s else (s.runBitsOff a).relockFailed a
  | none => run s

/-- Eight electrical periods have been tracked (R245). -/
def eightPeriods (s : State) (a : Nat) : Bool := 8 * 2 ^ 32 ≤ (s.ob a).catch_.turned.natAbs

/-- A catch takes its speed from the encoder (R245, R248): in a start catch whose encoder is valid and whose line voltage was not
clipped. -/
def byEncoder (s : State) (a : Nat) : Bool := s.encValid a && (s.ob a).relock.isNone && !(s.ob a).catch_.clipped

/-- The speed that a catch has measured (R206, R245, R248): the encoder's, else the tracked one. -/
def catchSpeed (s : State) (a : Nat) : Int × State :=
  if s.byEncoder a then s.encSpeed a
  else
    let (w, s) := s.puOfTurns a (s.ob a).wEmf
    s.speedOf a w

/-- No line voltage was clipped, in this window or since the host cleared KE_CLIPPED (R248, R254). -/
def unclipped (s : State) (a : Nat) : Bool := !(s.ob a).catch_.clipped && !s.on F.OBS_STAT_KE_CLIPPED a

/-- |ω| is below 0.03 pu. -/
def slow (w : Int) : Bool := 100 * w.natAbs < 3 * 2 ^ 24

/-- The rows of R246 at TMIN: the speed search or standstill; none of them where the catch goes on. Where the encoder is valid its speed
decides alone (R245): the voltage's magnitude does not count. (log 48 DEDUCED) -/
def catchFirst (s : State) (a : Nat) : Option State :=
  let (w, s) := s.catchSpeed a
  let quiet := !s.byEncoder a && (s.ob a).catch_.v < s.sg .OBS_CATCH_VMIN a
  if quiet && s.induction a && s.on F.OBS_CFG_SS_EN a then some (s.goSearch a)
  else if quiet || slow w then some ((s.catchOut a 1 w).standstill a)
  else none

/-- The rows of R246 at the end of the window. Where the encoder is valid the tracker's error does not count (R245), and in a relock not the
eight periods (R251). (log 48 DEDUCED) -/
def catchLast (s : State) (a : Nat) : State :=
  let c := (s.ob a).catch_
  let relock := (s.ob a).relock.isSome
  let enc := s.byEncoder a
  let (w, s) := s.catchSpeed a
  let th := (s.ob a).thEmf
  if 12 * 2 ^ 24 < 10 * w.natAbs then
    let (d, s) := s.permille w
    s.tooFast a w d
  else if slow w then (s.catchOut a 1 w).standstill a
  else if (!enc && 178956970 < c.err.natAbs) || (!s.eightPeriods a && !relock) then
    let s := s.catchOut a 5 w
    if relock then s.relockFailed a
    else ((s.raise 0x2013 a []).finish 0x0301 a (ans cINTERNAL 0x2013)).toDisabled a
  else
    let apart := (th - s.encAngle a).toInt.natAbs
    let ke := s.pmsm a && !relock && s.unclipped a && s.atVmin a w
    let judge := s.encValid a && !relock && s.on F.AX_PLAUS_CFG_EN a
    let ((sp, _), s) := s.sourceValue a (s.fld F.AX_CTRL_SRC a)
    let s := s.lockedRun a (if 0 ≤ sp * w then 2 else 3) w c.v th
    let s := if judge && s.plausAng a < apart then s.mismatch a else s
    if ke then s.recordKe a c.sumV c.sumW else s

/-- The end of a speed search (R206, R249). (log 48 DEDUCED) -/
def searchEnd (s : State) (a : Nat) (e : SearchEnd) : State :=
  match e with
  | .found f v th =>
    let (w, s) := s.speedOf a f
    (s.updOb a fun o => { o with search := false }).lockedRun a 6 w v th
  | .negative => s.tooFast a 0 0x04B0
  | .none_ => s.tooFast a 0 0xFB50

end State

/-! ## Meanings -/

/-- CATCH_END (R245, R246, R249): the decision at TMIN and, where it leaves the catch going on, at the end of the window, once the eight
periods have been tracked or at TMAX; or the end of a speed search that has found one. (log 48 DEDUCED) -/
def execCatchEnd (a : Fin 4) (dt : Nat) (s : State) : Host.Outcome State Fault Refusal :=
  let s := s.elapse dt
  let t0 := (s.ob a).entered
  if s.axSt a != aCATCH then endWith s
  else if (s.ob a).search then
    match (s.ob a).catch_.found with
    | some e => endWith (s.searchEnd a e)
    | none => endWith s
  else if (s.ob a).relock.isSome then endWith s
  else if !(s.ob a).catch_.early then
    let s := s.elapseTo (t0 + s.fld F.OBS_CATCH_CFG_TMIN a * ticksPerMs)
    match s.catchFirst a with
    | some t => endWith t
    | none =>
      let s := s.updOb a fun o => { o with catch_ := { o.catch_ with early := true } }
      endWith (if s.eightPeriods a then s.catchLast a else s)
  else
    let s := if s.eightPeriods a then s else s.elapseTo (t0 + s.fld F.OBS_CATCH_CFG_TMAX a * ticksPerMs)
    endWith (s.catchLast a)

/-- RELOCK_DECISION (R251 to R253): currents that have not decayed within 5 ms fail the relock; else the decision follows at the end of its
window. (log 49 DEDUCED) -/
def execRelockDecision (a : Fin 4) (dt : Nat) (s : State) : Host.Outcome State Fault Refusal :=
  let s := s.elapse dt
  if s.axSt a != aCATCH || (s.ob a).relock.isNone || (s.ob a).search then endWith s
  else
    let last := (s.ob a).entered + 5 * ticksPerMs
    match (s.ob a).catch_.decayAt.filter fun t => decide (t ≤ last) with
    | none => endWith ((s.elapseTo last).relockFailed a)
    | some t =>
      let s := s.elapseTo (t + s.fld F.OBS_CATCH_CFG_RELOCK a * ticksPerMs)
      endWith ((s.catchFirst a).getD (s.catchLast a))

/-- RELOCK_RAMP_END (R251, R252): the 200 ms torque ramp is complete. -/
def execRelockRampEnd (a : Fin 4) (s : State) : Host.Outcome State Fault Refusal :=
  match (s.ob a).rampAt with
  | none => endWith s
  | some t =>
    let s := s.elapseTo (t + 200 * ticksPerMs)
    endWith ((s.updOb a fun o => { o with rampAt := none }).setF F.OBS_STAT_RELOCK_FAIL 0 a)

/-- ALIGN_COMPLETE (R242, R243): step 5 on the peak currents measured in the two pulses; before they are, ALIGN goes on. A channel that was
referenced during ALIGN has its first reference judged at its end. (log 50 DESIGN CHOICE) -/
def execAlignComplete (a : Fin 4) (dt : Nat) (s : State) : Host.Outcome State Fault Refusal :=
  let s := s.elapse dt
  match (s.ob a).peakP, (s.ob a).peakN with
  | some ip, some in_ =>
    if s.axSt a != aALIGN then endWith s
    else if s.sg .OBS_POL_MIN a ≤ (ip - in_).natAbs then
      let th := (s.ob a).thInj + (if ip < in_ then 0x80000000 else 0)
      let s := s.updOb a fun o => { o with thInj := th, thEmf := th }
      let c := s.encOf a
      if s.onObserver a then endWith (((s.wr .OBS_THETA th a).setF F.OBS_STAT_LOCKED 1 a).goRun a)
      else
        let n := s.counter c
        let s := (s.updOb a fun o => { o with aligned := some (th, n) }).goRun a
        endWith (if s.on F.EN_STAT_REFERENCED c then s.firstRef c n else s)
    else
      let s := s.raiseF F.OBS_STAT_ALIGN_RETRY a
      let n := (s.ob a).alignTry
      if 2 ≤ n then endWith (s.raise 0x2014 a [])
      else endWith (s.updOb a fun o => { o with
        alignTry := n + 1, alignK := none, peakP := none, peakN := none, alignT := s.tick - s.fld F.OBS_ALIGN_T a * ticksPerMs })
  | _, _ => endWith s

/-- STOP_COMPLETE (R227): the speed has been below 0.01 pu for 100 ms and, with SBC_PRESENT, the brake is applied. (log 2 DESIGN CHOICE) -/
def execStopComplete (a : Fin 4) (dt : Nat) (s : State) : Host.Outcome State Fault Refusal :=
  let s := s.elapse dt
  match (s.axis a).lowSince with
  | none => endWith s
  | some t =>
    if s.axSt a != aSTOPPING then endWith s
    else
      let s := s.elapseTo (t + 100 * ticksPerMs)
      if s.sbcPresent && !s.braked then endWith s
      else match (s.axis a).stop with
        | .fr2 c => endWith (s.toFaulted a c false)
        | _ =>
          let again := (s.axis a).queued
          let s := (s.toDisabled a).updAxis a fun x => { x with queued := false }
          if !again then endWith s
          else if s.dev == dARMED || s.dev == dRUN then endWith (s.enable a)
          else endWith (s.finish 0x0301 a (ans cBUSY 3))

/-- SOURCE_HOLD_EXPIRY (R221): the held value of a lost source becomes zero. -/
def execSourceHoldExpiry (a : Fin 4) (s : State) : Host.Outcome State Fault Refusal :=
  match (s.axis a).lostAt with
  | none => endWith s
  | some t =>
    let s := s.elapseTo (t + s.fld F.AX_SRC_CFG_HOLD a * ticksPerMs)
    endWith (s.updAxis a fun x => { x with rawHeld := 0, raw := 0 })

/-- LEVER_HOST_TIMEOUT (R271, R278): no set-point for HOST_TMO ms in RUN with SRC 0 or 3 and LEVER_AUTO set. -/
def execLeverHostTimeout (a : Fin 4) (s : State) : Host.Outcome State Fault Refusal :=
  let src := (s.axis a).act.2
  if s.axSt a != aRUN || !s.on F.AX_EM_CFG_LEVER_AUTO a || (src != 0 && src != 3) then endWith s
  else
    let s := s.elapseTo ((s.emr a).lastSp + s.fld F.AX_EM_CFG_HOST_TMO a * ticksPerMs)
    let s := s.updEm a fun e => { e with lastSp := s.tick }
    endWith (s.emTrigger a 3 fun s => s.emEnter a 3).1

/-- TORQUE_PROVING_END (R280): the window of AX_EM_PROVE_T is over. -/
def execTorqueProvingEnd (a : Fin 4) (s : State) : Host.Outcome State Fault Refusal :=
  match (s.emr a).proveFor, (s.emr a).proveAt with
  | some lower, some t =>
    let s := s.elapseTo (t + s.fld F.AX_EM_PROVE_T_T a * ticksPerMs)
    let good := (s.emr a).proveOk
    let s := (s.updEm a fun e => { e with proveFor := none, proveAt := none }).setF F.AX_EM_STAT_PROVING 0 a
    if !good then endWith (s.raise 0x3045 a [])
    else
      let s := (s.setF F.LAN_SBC_REQ 1).updEm a fun e => { e with braked := false }
      if lower then
        let was := s.modeOf a
        let s := ((s.setF F.AX_EM_STAT_OPMODE 4 a).raise 0x3043 a [4]).reaim a was
        endWith (s.finish 0x0306 a (ok))
      else
        let s := (s.setF F.AX_CTRL_MODE 1 a).wr .AX_SP_ACTIVE 0 a
        endWith ((s.opEnd a).finish 0x0306 a (ok))
  | _, _ => endWith s

/-- RENDER_END (R281, R282): the tension has stayed below AX_EM_REND_REC for 1 s. (log 57 DEDUCED) -/
def execRenderEnd (a : Fin 4) (s : State) : Host.Outcome State Fault Refusal :=
  match (s.emr a).recSince with
  | none => endWith s
  | some t =>
    if s.opMode a != 6 then endWith s
    else
      let s := s.elapseTo (t + ticksPerS)
      let e := s.emr a
      let s := s.updEm a fun e => { e with recSince := none, overCnt := 0 }
      match e.fr2 with
      | some c => endWith (s.toStopping a (.fr2 c))
      | none =>
        let s := (s.setF F.AX_CTRL_MODE e.modeSrc.1 a).setF F.AX_CTRL_SRC e.modeSrc.2 a
        endWith ((s.updEm a fun e => { e with lastSp := s.tick }).opEnd a)

/-- SHARE_IMBALANCE (R263): the correction has stood at its clip for 1 s. -/
def execShareImbalance (a : Fin 4) (s : State) : Host.Outcome State Fault Refusal :=
  match (s.shr a).clipSince with
  | none => endWith s
  | some t =>
    let s := s.elapseTo (t + ticksPerS)
    if s.on F.AX_SH_STAT_IMB a then endWith s else endWith ((s.raiseF F.AX_SH_STAT_IMB a).raise 0x3041 a [])

/-- DROOP_RESTORE (R268): the cause has been absent for RESTORE samples. -/
def execDroopRestore (a : Fin 4) (s : State) : Host.Outcome State Fault Refusal :=
  if !s.on F.AX_SH_STAT_DROOP a || (s.shr a).absent < s.fld F.AX_SH_TMO_RESTORE a then endWith s
  else
    let was := (s.shr a).wasFollow
    let s := s.setF F.AX_SH_STAT_DROOP 0 a
    let s := s.updShr a fun x => { x with restoreAt := some s.tick, wasFollow := false }
    endWith (if was then (s.setF F.AX_CTRL_MODE 0 a).presetLoops a else s)

/-- CIRCULATING_CURRENT (R219): the difference current has been beyond AX_CIRC_LIM for 10 ms. -/
def execCirculatingCurrent (a : Fin 4) (s : State) : Host.Outcome State Fault Refusal :=
  match (s.axis a).circSince with
  | none => endWith s
  | some t =>
    let s := s.elapseTo (t + 10 * ticksPerMs)
    let s := s.updAxis a fun x => { x with circSince := none }
    endWith ((s.raiseF F.AX_STAT_CIRC a).raise 0x3014 a [])

/-- KE_MEASURE_WINDOW_END (R254): the gates-off window ends as one of R245, and the sample instants stop. (log 51 DEDUCED) -/
def execKeMeasureWindowEnd (a : Fin 4) (dt : Nat) (s : State) : Host.Outcome State Fault Refusal :=
  let s := s.elapse dt
  if !(s.axis a).keMeas then endWith s
  else
    let t0 := (s.ob a).entered
    let s := s.elapseTo (t0 + s.fld F.OBS_CATCH_CFG_TMIN a * ticksPerMs)
    let s := if s.eightPeriods a then s else s.elapseTo (t0 + s.fld F.OBS_CATCH_CFG_TMAX a * ticksPerMs)
    let c := (s.ob a).catch_
    let s := s.gridOff a
    let (w, s) := s.catchSpeed a
    endWith (if s.atVmin a w && s.eightPeriods a && s.unclipped a then s.recordKe a c.sumV c.sumW else s)

end Sys2Proof.Machine
end

