-- ==== Sys2Proof/Machine/AxisCmds.lean ====
section
/-!
DEFINITION. Machine/AxisCmds.lean: the commands of class 0x03xx (R94, R224, R227, R230 to R233, R254, R271 to R280, R475).
-/

namespace Sys2Proof.Machine

/-- AXIS[1:0] of payload word 0. -/
def axisOf (p : Pkt) : Nat := bitsOf (nth p.payload 0) 1 0

/-- A refusal of a value names the word of the payload that carries it (R117). -/
def atWord (k : Nat) (a : Answer) : Answer := if a.status == cBAD_PARAM then ans cBAD_PARAM k else a

namespace State

/-! ## AXIS_CONFIG (R230) -/

/-- A register of axis a in R234 that an installer may write, at an offset within the axis block. (log 44 DEDUCED) -/
def axisReg (a off : Nat) : Option RegId :=
  if 0x168 ≤ off then none
  else match placeAt (0x20000 + 0x1000 * a + off) with
    | some (.reg r _) => if writable r true then some r else none
    | _ => none

/-- The pairs of an axis record are written in order from payload word k on; the first refusal ends it. (log 44 DEDUCED) -/
def writePairs (s : State) (a : Nat) (role : Role) (fails : List Nat) : Nat → List Word → State × Option Answer
  | k, o :: v :: l =>
    match axisReg a o.toNat with
    | none => (s, some (ans cBAD_PARAM k))
    | some r =>
      let (t, vs) := s.cycle r a [(⟨.host role, role.mayRl, .plain, v⟩, nth fails (k / 2))] 0 ⟨none, false, k + 1⟩
      match nth vs 0 with
      | .applied _ => t.writePairs a role fails (k + 2) l
      | .lost => (s, some (ans cPREEMPTED))
      | .refused r => (s, some (atWord (k + 1) r))
  | _, _ => (s, none)

/-- AXIS_CONFIG: all pairs or none. Its pairs are judged as on a DISABLED axis before the axis state is (R89). (log 35 DEDUCED; log 44 DEDUCED) -/
def axisConfig (s : State) (role : Role) (p : Pkt) : State × Option Answer :=
  let a := axisOf p
  let pairs := fun (s : State) => s.writePairs a role p.fails 1 (p.payload.drop 1)
  if s.axSt a != aDISABLED then
    match (pairs (s.setF F.AX_STAT_STATE aDISABLED a)).2 with
    | some r => (s, some (if r.status == cBAD_PARAM || r.status == cOUT_OF_ENVELOPE then r else ans cBUSY 3))
    | none => (s, some (ans cBUSY 3))
  else match pairs s with
    | (_, some r) => (s, some r)
    | (t, none) => (t.audit (byPkt role p) 0x0002 (wd a) (wd ((p.length.toNat - 1) / 2)) 0, some (ok))

/-! ## Enable and disable (R94, R227) -/

/-- An engine that the axis's programs run on is under reinitialisation (R475). -/
def engineBusy (s : State) (a : Nat) : Bool :=
  s.reiniting 1 (s.fld F.AX_CFG_LE_CUR a) || s.reiniting 1 (s.fld F.AX_CFG_LE_OUT a) || s.reiniting 2 (s.fld F.AX_CFG_OE a)

/-- A member of a FOLLOW group may be enabled: the group has one leader, and a follower is in MODE 0 (R264). -/
def followOk (s : State) (a : Nat) : Bool :=
  s.fld F.AX_SH_CFG_MODE a != 1 || (s.leaders a == 1 && (!s.follower a || s.fld F.AX_CTRL_MODE a == 0))

/-- AXIS_ENABLE; a PMSM that would start through CATCH needs its voltage channels (R244), a member of a FOLLOW group its leader
(R264). (log 43 DEDUCED) -/
def axisEnable (s : State) (p : Pkt) : State × Option Answer :=
  let a := axisOf p
  let st := s.axSt a
  if s.pmsm a && !s.on F.AX_CFG_CATCH_DIS a && !s.on F.OBS_CFG_VT_EN a then (s, some (ans cBAD_PARAM))
  else if st != aRUN && !s.followOk a then (s, some (ans cBAD_PARAM))
  else if st == aRUN then (s, some (ok))
  else if st == aSTOPPING then
    if (s.axis a).queued then (s, some (ans cBUSY 4))
    else ((s.defer 0x0301 p a (ans cPENDING)).updAxis a fun x => { x with queued := true }, none)
  else if st != aDISABLED || !(s.dev == dARMED || s.dev == dRUN) then (s, some (ans cBUSY 3))
  else if (s.axis a).keMeas || s.engineBusy a then (s, some (ans cBUSY 5))
  else ((s.defer 0x0301 p a (ans cACCEPTED)).enable a, none)

/-- AXIS_DISABLE: a queued enable is PREEMPTED by it (R227, R229). (log 43 DEDUCED; log 47 DEDUCED) -/
def axisDisable (s : State) (p : Pkt) : State × Option Answer :=
  let a := axisOf p
  let later := fun (s : State) => s.defer 0x0302 p a (ans cACCEPTED)
  match s.axSt a with
  | 0 => (s, some (ok))
  | 1 | 2 =>
    let s := ((later s).finish 0x0301 a (ans cPREEMPTED)).toDisabled a
    (s.updAxis a fun x => { x with left := x.left.map fun p => (p.1, true) }, none)
  | 3 => ((later s).toStopping a .disable, none)
  | 4 =>
    let s := if (s.axis a).queued then
        (s.finish 0x0301 a (ans cPREEMPTED)).updAxis a fun x => { x with queued := false }
      else s
    (later s, none)
  | _ => (s, some (ans cBUSY 3))

/-! ## Set-points, modes and status (R231 to R233) -/

/-- The register of QUANTITY and whether it needs a MODE of the same code. -/
def quantityReg (q : Nat) : Option (RegId × Bool) :=
  match q with
  | 0 | 1 | 2 | 3 => some (.AX_SP_HOST, true)
  | 4 => some (.AX_PLIM, false) | 5 => some (.AX_PLIM_GEN, false)
  | 6 => some (.AX_TLIM_P, false) | 7 => some (.AX_TLIM_N, false)
  | _ => none

/-- What a write by an axis command's packet to a register of its axis is answered with. -/
def axisWrite (s : State) (role : Role) (p : Pkt) (r : RegId) (a : Nat) (v : Word) : State × Option Answer :=
  match s.hostWrite role p (nth p.fails 0) (wd (r.addr a)) v 1 with
  | (s, .applied _) => (s, some (ok))
  | (s, .lost) => (s, some (ans cPREEMPTED))
  | (s, .refused x) => (s, some (atWord 1 x))

/-- AXIS_SETPOINT. -/
def axisSetpoint (s : State) (role : Role) (p : Pkt) : State × Option Answer :=
  let a := axisOf p
  let q := bitsOf (nth p.payload 0) 11 8
  match quantityReg q with
  | none => (s, some (ans cBAD_PARAM))
  | some (r, byMode) =>
    if byMode && s.fld F.AX_CTRL_MODE a != q then (s, some (ans cBAD_PARAM))
    else s.axisWrite role p r a (nth p.payload 1)

/-- What AXIS_MODE asks for is allowed (R232). (log 45 DEDUCED) -/
def modeOk (s : State) (a : Nat) (w : Word) : Bool :=
  let m := bitsOf w 2 0
  let src := bitsOf w 6 4
  w &&& 0xFFFFFF88 == 0 && m ≤ 3 && src ≤ 3 && (m != 2 || s.on F.EN_STAT_REFERENCED (s.encOf a)) &&
    (src != 2 || s.encMode (s.fld F.AX_SRC_CFG_PULSE_ENC a) == 3) &&
    (m != 3 || s.on F.AX_TEN_CFG_EST a || s.on F.AI_CFG_EN (s.fld F.AX_TEN_CFG_AI a))

/-- AXIS_MODE: MODE and SRC of AX_CTRL; they come into force at the next outer-loop sample. (log 45 DEDUCED) -/
def axisMode (s : State) (role : Role) (p : Pkt) : State × Option Answer :=
  let a := axisOf p
  let w := nth p.payload 1
  if !s.modeOk a w then (s, some (ans cBAD_PARAM 1))
  else s.axisWrite role p .AX_CTRL a ((s.rd .AX_CTRL a &&& ~~~0x77) ||| w)

/-- The eight words of AXIS_STATUS. -/
def axisStatus (s : State) (a : Nat) : List Word :=
  ([.AX_STAT, .AX_SPEED, .AX_T_REF, .AX_T_EST, .AX_T_LOAD, .AX_SP_ACTIVE, .AX_IMAG, .AX_FAULT] : List RegId).map fun r => s.view r a

/-! ## AXIS_EMERGENCY (R271 to R280) -/

/-- The entry condition of a mode that the command asks for. EM-RENDER has no entry by command. (log 46 DEDUCED) -/
def emMay (s : State) (a m wind : Nat) : Bool :=
  let own := s.bridgesOf a
  match m with
  | 1 => own.length == 2 && !s.on F.AX_EM_STAT_LIMP a && own.any fun b => s.fld F.BR_CFG_WINDING b == wind
  | 2 => !s.on F.AX_EM_STAT_SENSORLESS a
  | 3 | 5 => s.fld F.AX_EM_STAT_OPMODE a != m
  | 4 => s.fld F.AX_EM_STAT_OPMODE a != 4 && s.sbcPresent && !own.isEmpty && own.all fun b => !(s.choppersOf b).isEmpty
  | _ => false

/-- A mode is active. (log 46 DEDUCED) -/
def emActive (s : State) (a m : Nat) : Bool :=
  match m with
  | 1 => s.on F.AX_EM_STAT_LIMP a
  | 2 => s.on F.AX_EM_STAT_SENSORLESS a
  | _ => s.fld F.AX_EM_STAT_OPMODE a == m

/-- The entry of a mode by command: EM-LOWER from EM-HOLD goes through the torque proving (R280). (log 46 DEDUCED) -/
def emEntry (s : State) (p : Pkt) (a m wind : Nat) : State × Option Answer :=
  let hold := m == 4 && s.opMode a == 5
  if hold then
    if (s.emr a).proveFor.isSome then (s, some (ans cBUSY 5))
    else
      let s := s.defer 0x0306 p a (ans cACCEPTED)
      let s := s.updEm a fun e => { e with proveFor := some true, proveAt := none }
      (s.setF F.AX_EM_STAT_PROVING (b2n (s.emr a).braked) a, none)
  else
    let s := s.defer 0x0306 p (4 + a) (ans cACCEPTED)
    (match m with
      | 1 => s.enterLimp a wind
      | 2 => s.enterSensorless a
      | _ => s.emEnter a m, none)

/-- The observer and the encoder agreed within the plausibility limits at the last sample instant (R277). (log 46 DEDUCED) -/
def agrees (s : State) (a : Nat) : Bool :=
  let x := (s.axis a).seen
  s.encValid a && (x.obsAng - x.ang).toInt.natAbs ≤ s.plausAng a && (x.obsSpd - x.spd).natAbs ≤ s.sg .AX_PLAUS_SPD a

/-- The lever and the set-point of AX_CTRL.SRC agree within AX_EM_MATCH (R278). (log 46 DEDUCED) -/
def leverMatch (s : State) (a : Nat) : Bool × State :=
  let ((raw, _), s) := s.sourceValue a (s.fld F.AX_CTRL_SRC a)
  let ((lever, _), s) := s.sourceValue a 1
  ((raw - lever).natAbs ≤ s.sg .AX_EM_MATCH a, s)

/-- The exit of a mode by command. (log 46 DEDUCED) -/
def emExit (s : State) (p : Pkt) (a m : Nat) : State × Option Answer :=
  let no := some (ans cBAD_PARAM 1)
  let now := fun (s : State) (f : State → State) =>
    ((f (s.defer 0x0306 p (4 + a) (ans cACCEPTED))).finish 0x0306 (4 + a) (ok), (none : Option Answer))
  match m with
  | 1 => ((s.toStopping a .disable).defer 0x0306 p a (ans cACCEPTED), none)
  | 2 =>
    if !s.agrees a then (s, no)
    else now s fun s =>
      let s := s.setF F.AX_EM_STAT_SENSORLESS 0 a
      if s.emAny a then s else (s.presetLoops a).axisTo a aRUN
  | 3 =>
    let (yes, s) := s.leverMatch a
    if !yes then (s, no) else now s fun s => (s.opEnd a).updEm a fun e => { e with lastSp := s.tick }
  | 4 =>
    if (s.emr a).leaving then (s, some (ans cBUSY 5))
    else
      let was := s.modeOf a
      (((s.defer 0x0306 p a (ans cACCEPTED)).updEm a fun e => { e with leaving := true }).reaim a was, none)
  | 5 =>
    if (s.emr a).proveFor.isSome then (s, some (ans cBUSY 5))
    else
      let s := s.defer 0x0306 p a (ans cACCEPTED)
      let s := s.updEm a fun e => { e with proveFor := some false, proveAt := none }
      (s.setF F.AX_EM_STAT_PROVING (b2n (s.emr a).braked) a, none)
  | _ => (s, no)

/-- AXIS_EMERGENCY, its refusals in the order of R273. (log 46 DEDUCED) -/
def axisEmergency (s : State) (p : Pkt) : State × Option Answer :=
  let a := axisOf p
  let w := nth p.payload 1
  let m := bitsOf w 2 0
  let exit_ := bitOf w 8
  let st := s.axSt a
  let op_ := s.fld F.AX_EM_STAT_OPMODE a
  if w &&& 0xFFFFFEE8 != 0 || m == 0 || m == 7 then (s, some (ans cBAD_PARAM 1))
  else if !s.emAdmitted a m then (s, some (ans cOUT_OF_ENVELOPE 1))
  else if st == aDISABLED || st == aFAULTED || (exit_ && st != aEMERGENCY) then (s, some (ans cBUSY 3))
  else if !exit_ && 3 ≤ m && op_ != 0 && op_ != m && !(m == 4 && op_ == 5) then (s, some (ans cBUSY 5))
  else if exit_ then (if s.emActive a m then s.emExit p a m else (s, some (ans cBAD_PARAM 1)))
  else if s.emMay a m (b2n (bitOf w 4)) then s.emEntry p a m (b2n (bitOf w 4))
  else (s, some (ans cBAD_PARAM 1))

end State

/-! ## The commands -/

/-- AXIS_CONFIG (R230). -/
def cmdAxisConfig : Cmd := ⟨0x0300, .immediate, lenSteps 3 255 2, fun r p s => s.axisConfig r p⟩
/-- AXIS_ENABLE (R227). -/
def cmdAxisEnable : Cmd := ⟨0x0301, .deferred, lenIs 1, fun _ p s => s.axisEnable p⟩
/-- AXIS_DISABLE (R227). -/
def cmdAxisDisable : Cmd := ⟨0x0302, .deferred, lenIs 1, fun _ p s => s.axisDisable p⟩
/-- AXIS_SETPOINT (R231). -/
def cmdAxisSetpoint : Cmd := ⟨0x0303, .immediate, lenIs 2, fun r p s => s.axisSetpoint r p⟩
/-- AXIS_MODE (R232). -/
def cmdAxisMode : Cmd := ⟨0x0304, .immediate, lenIs 2, fun r p s => s.axisMode r p⟩
/-- AXIS_STATUS (R233). -/
def cmdAxisStatus : Cmd := ⟨0x0305, .read, lenIs 1, fun _ p s => (s, some (ok (s.axisStatus (axisOf p))))⟩
/-- AXIS_EMERGENCY (R273). -/
def cmdAxisEmergency : Cmd := ⟨0x0306, .deferred, lenIs 2, fun _ p s => s.axisEmergency p⟩

/-! ## Meanings -/

/-- AXIS_CONFIG. -/
def execAxisConfig (p : Pkt) (s : State) : Host.Outcome State Fault Refusal := endWith (s.command cmdAxisConfig p)
/-- AXIS_ENABLE. -/
def execAxisEnable (p : Pkt) (s : State) : Host.Outcome State Fault Refusal := endWith (s.command cmdAxisEnable p)
/-- AXIS_DISABLE. -/
def execAxisDisable (p : Pkt) (s : State) : Host.Outcome State Fault Refusal := endWith (s.command cmdAxisDisable p)
/-- AXIS_SETPOINT. -/
def execAxisSetpoint (p : Pkt) (s : State) : Host.Outcome State Fault Refusal := endWith (s.command cmdAxisSetpoint p)
/-- AXIS_MODE. -/
def execAxisMode (p : Pkt) (s : State) : Host.Outcome State Fault Refusal := endWith (s.command cmdAxisMode p)
/-- AXIS_STATUS. -/
def execAxisStatus (p : Pkt) (s : State) : Host.Outcome State Fault Refusal := endWith (s.command cmdAxisStatus p)
/-- AXIS_EMERGENCY. -/
def execAxisEmergency (p : Pkt) (s : State) : Host.Outcome State Fault Refusal := endWith (s.command cmdAxisEmergency p)

end Sys2Proof.Machine
end

