-- ==== Sys2Proof/Machine/CanBus.lean ====
section
/-!
DEFINITION. Machine/CanBus.lean: frames on the bus, arbitration, errors, the time-triggered schedule (R361, R366, R369 to R377), and the
segments that the command transport sends (R108, R378).
-/

namespace Sys2Proof.Machine

namespace State

/-- The Meridian time of a start of frame `ago` ticks before now (R23). (log 15 DEDUCED) -/
def sofStamp (s : State) (ago : Nat) : Time × State :=
  let (e, s) := s.freeErr 5
  (s.meridian + BitVec.ofInt 64 (e - 5 * ago), s)

/-! ## Receive buffers (R366) -/

/-- A frame on the bus: identifier as in word 1 (a base identifier in bits 28:18), format bits, DLC, data bytes. -/
structure BusFrame where
  id : Nat
  ide : Bool
  rtr : Bool
  fdf : Bool
  brs : Bool
  esi : Bool
  dlc : Nat
  data : List Byte
  deriving DecidableEq, Repr, Inhabited

/-- A frame matches the filter of a receive buffer. -/
def mbMatch (s : State) (c k : Nat) (f : BusFrame) : Bool :=
  let filt := s.mb c k 20
  s.mbCode c k == 1 && (wd f.id ^^^ (filt &&& 0x1FFFFFFF)) &&& s.mb c k 21 == 0 && bitOf filt 29 == f.ide

/-- A frame is stored in a buffer: its words, FULL, LASTW, and the start of frame. (log 93 DEDUCED) -/
def mbStore (s : State) (c k : Nat) (f : BusFrame) (t : Time) : State :=
  let n := if f.rtr then 0 else dlcBytes f.fdf f.dlc
  let fmt := b2n f.ide + 2 * b2n f.rtr + 4 * b2n f.fdf + 8 * b2n f.brs + 16 * b2n f.esi
  let s := s.setMb0 c k 15 12 f.dlc
  let s := ((s.setMb0 c k 20 16 fmt).setMb0 c k 28 24 (lastW n)).setMb0 c k 2 2 1
  let s := ((s.setMb c k 1 (wd f.id)).setMb c k 2 (lo32 t)).setMb c k 3 (hi32 t)
  let ws := wordsOf 16 (f.data.take n)
  s.forN ws.length fun j s => s.setMb c k (4 + j) (nth ws j)

/-- A frame is compared with the receive buffers and stored or lost (R366). (log 93 DEDUCED) -/
def canStore (s : State) (c : Nat) (f : BusFrame) (t : Time) : State :=
  let l := (upTo 64).filter fun k => !(s.canCmd c && 62 ≤ k) && s.mbMatch c k f
  match l.find? fun k => !s.mbLocked c k && (s.mb0 c k 2 2 == 0 || s.mb0 c k 5 5 == 1) with
  | some k => s.mbStore c k f t
  | none =>
    match l with
    | [] => s
    | k :: _ =>
      let s := (s.bump F.CAN_RX_LOST_COUNT c).logFault 0x4023 7 [wd c, wd k]
      if s.mbLocked c k then s.updCan c fun r => { r with lostWait := if r.lostWait.contains k then r.lostWait else k :: r.lostWait }
      else s.setMb0 c k 4 4 1

/-! ## Error counters and states (R372) -/

/-- The transmit and receive error counters take new values, with the states that follow. The receive counter reads 127 when it is
above that. (log 92 PRESUMED) -/
def canCount (s : State) (c tec rec_ : Nat) : State :=
  let s := (s.setF F.CAN_ERRCNT_TEC (min tec 511) c).setF F.CAN_ERRCNT_REC (min rec_ 127) c
  let s := s.updCan c fun r => { r with recOver := decide (127 < rec_) }
  if 255 < tec then
    let s := ((s.setF F.CAN_STAT_STATE 2 c).raiseF F.CAN_STAT_BUS_OFF_EVT c).updCan c fun r => { r with attempt := none }
    s.raise 0x4021 7 [wd c]
  else
    let passive := 127 < tec || 127 < rec_
    let was := s.fld F.CAN_STAT_STATE c == 1
    let s := s.setF F.CAN_STAT_STATE (b2n passive) c
    if passive && !was then (s.raiseF F.CAN_STAT_PASSIVE_EVT c).raise 0x4020 7 [wd c] else s

/-- The receive error counter as ISO 11898-1 counts it. (log 92 PRESUMED) -/
def recNow (s : State) (c : Nat) : Nat := if (s.canR c).recOver then 128 else s.fld F.CAN_ERRCNT_REC c

/-- A frame was received without error: the receive counter counts down, or to a value between 119 and 127 from above. (log 92 PRESUMED) -/
def canGood (s : State) (c : Nat) : State :=
  if s.fld F.CAN_CTRL_MODE c == 1 then s
  else if (s.canR c).recOver then
    let (n, s) := s.freeBelow 9
    s.canCount c (s.fld F.CAN_ERRCNT_TEC c) (119 + n)
  else s.canCount c (s.fld F.CAN_ERRCNT_TEC c) (s.recNow c - 1)

/-- The frame on the bus has ended: a waiting INIT 1 takes effect (R362). (log 92 PRESUMED) -/
def canFrameEnd (s : State) (c : Nat) : State := if (s.canR c).initAsk then s.canStop c else s

/-! ## The schedule (R374 to R377) -/

/-- Bit period counts of the basic cycle in ns. -/
def ttNs (s : State) (c : Nat) : Nat := 1000 * s.ttLen c

/-- The matrix entry of basic cycle b and column k (R377): KIND and buffer. -/
def ttEntry (s : State) (c b k : Nat) : Nat × Nat :=
  let w := s.rd .CAN_TT_MTX (256 * c + (16 * b + k) / 4)
  let e := bitsOf w (8 * (k % 4) + 7) (8 * (k % 4))
  (e / 64, e % 64)

/-- The number of basic cycles. -/
def ttCycles (s : State) (c : Nat) : Nat := 2 ^ min (s.fld F.CAN_TT_CFG_NCYC c) 6

/-- A buffer is named in an exclusive entry. -/
def ttExclusive (s : State) (c mb : Nat) : Bool :=
  (upTo (16 * s.ttCycles c)).any fun j => s.ttEntry c (j / 16) (j % 16) == (1, mb)

/-- The open column's entry; KIND 3 counts as free. (log 94 DEDUCED) -/
def ttOpen (s : State) (c : Nat) : Option (Nat × Nat) :=
  (s.canR c).col.map fun k =>
    let e := s.ttEntry c (s.fld F.CAN_TT_STAT_CYCLE c) k
    (e.1 % 3, e.2)

/-! ## Offers (R369) -/

/-- The identifier of a request in the order of R369: a base identifier is followed by eighteen 1 bits. -/
def idKey (id : Nat) (ide : Bool) : Nat := if ide then id else id / 2 ^ 18 * 2 ^ 18 + (2 ^ 18 - 1)

/-- The identifier and format of what a buffer would send: 63 under the command transport is its next segment, 64 the reference
message. -/
def offerId (s : State) (c k : Nat) : Nat × Bool :=
  if k == 64 then (s.fld F.CAN_TT_REF_ID c, s.on F.CAN_TT_REF_IDE c)
  else if k == 63 && s.canCmd c then (s.fld F.CAN_CMD_RSP_ID c, s.on F.CAN_CMD_RSP_IDE c)
  else ((s.mb c k 1).toNat % 2 ^ 29, s.mb0 c k 16 16 == 1)

/-- The buffers that wait to be sent. -/
def waiting (s : State) (c : Nat) : List Nat :=
  (upTo 64).filter fun k => if s.canCmd c && 62 ≤ k then k == 63 && !(s.canR c).txq.isEmpty else s.mbPending c k

/-- The buffers that may start now (R369, R376, R377, R378). (log 94 DEDUCED) -/
def mayStart (s : State) (c : Nat) : List Nat :=
  let w := s.waiting c
  let r := s.canR c
  if !s.on F.CAN_CTRL_TT_EN c then w
  else
    let open_ := w.filter fun k => !s.ttExclusive c k
    if !s.on F.CAN_TT_STAT_SYNC c then open_
    else if r.refTx.isSome then [64]
    else match s.ttOpen c with
      | some (1, b) => w.filter fun k => k == b && !r.tried.contains k
      | some (2, _) => open_.filter fun k => !(s.canCmd c && k == 63)
      | some (_, _) => open_
      | none => []

/-- The buffer offered: the lowest identifier, then the lowest index. (log 93 DEDUCED) -/
def offer (s : State) (c : Nat) : Option Nat :=
  (sortBy (fun k => let i := s.offerId c k; idKey i.1 i.2) (s.mayStart c)).head?

/-- The attempt ends with its buffer still pending, or CANCELLED when a cancel has landed (R370, R371). (log 93 DEDUCED) -/
def attemptLost (s : State) (c : Nat) (t : Attempt) : State :=
  let s := s.updCan c fun r => { r with attempt := none, refTx := if t.mb == 64 then none else r.refTx }
  if t.cancel && t.mb < 64 then s.endReq c t.mb 2 else s

/-- The data length code that carries n bytes (R364). -/
def dlcOf (n : Nat) : Nat := ((upTo 16).find? fun d => n ≤ dlcBytes true d).getD 15

/-- The frame of a buffer. -/
def mbFrame (s : State) (c k : Nat) : BusFrame :=
  let fdf := s.mb0 c k 18 18 == 1
  let rtr := s.mb0 c k 17 17 == 1
  let n := if rtr then 0 else dlcBytes fdf (s.mb0 c k 15 12)
  ⟨(s.mb c k 1).toNat % 2 ^ 29, s.mb0 c k 16 16 == 1, rtr, fdf, s.mb0 c k 19 19 == 1, false, s.mb0 c k 15 12,
    (bytesOf ((upTo 16).map fun j => s.mb c k (4 + j))).take n⟩

/-- The frame that an attempt sends: a buffer's, the next segment of the command transport (R378), or the reference message with the cycle
count in its one data byte (R375). -/
def attemptFrame (s : State) (c k : Nat) : BusFrame :=
  let id := s.offerId c k
  if k == 64 then ⟨id.1, id.2, false, false, false, false, 1, [BitVec.ofNat 8 ((s.canR c).refTx.getD 0)]⟩
  else if k == 63 && s.canCmd c then
    let bytes := (s.canR c).txq.headD []
    let fd := s.on F.CAN_CMD_REQ_FD c
    ⟨id.1, id.2, false, fd, fd && s.on F.CAN_CMD_RSP_BRS c, false, dlcOf bytes.length, bytes⟩
  else s.mbFrame c k

/-- TDCV takes the delay measured in an FD frame with BRS while TDC_EN is set (R361). -/
def measured (s : State) (c : Nat) (f : BusFrame) (tdcv : BitVec 7) : State :=
  if f.fdf && f.brs && s.on F.CAN_DBT_TDC_EN c then s.setF F.CAN_TDC_TDCV tdcv.toNat c else s

/-! ## Reference messages (R375, R376) -/

/-- A basic cycle starts `ago` ticks before now. (log 94 DEDUCED) -/
def ttBegin (s : State) (c ago count : Nat) : State :=
  (s.setF F.CAN_TT_STAT_CYCLE (count % s.ttCycles c) c).updCan c fun r =>
    { r with cycleAt := s.tick - ago, col := none, next := 0, tried := [] }

/-- A reference message under REF 1: SYNC returns at the second one with consecutive counts, and is lost at a wrong one. -/
def refMessage (s : State) (c ago count : Nat) : State :=
  let n := s.ttCycles c
  let count := count % n
  let follows := match (s.canR c).refCount with | some p => count == (p + 1) % n | none => false
  let s := if follows then s else s.ttLost c
  let s := s.updCan c fun r => { r with refCount := some count, refRun := if follows then r.refRun + 1 else 0, refAt := s.tick - ago }
  let s := if follows then s.setF F.CAN_TT_STAT_SYNC 1 c else s
  s.ttBegin c ago count

end State

/-! ## Meanings -/

/-- CAN_START_OF_FRAME (R369): the bus is idle and the offered buffer begins its attempt. -/
def execCanStartOfFrame (can : Fin 2) (dt : Nat) (s : State) : Host.Outcome State Fault Refusal :=
  let s := s.elapse dt
  let c := can.val
  if !s.canOn c || (s.canR c).attempt.isSome || s.fld F.CAN_CTRL_MODE c == 1 then endWith s
  else match s.offer c with
    | none => endWith s
    | some k =>
      let (t, s) := s.sofStamp 0
      endWith (s.updCan c fun r => { r with attempt := some ⟨k, t, false⟩, tried := if r.col.isSome then k :: r.tried else r.tried })

/-- CAN_ARBITRATION_LOST (R370, R371). -/
def execCanArbitrationLost (can : Fin 2) (dt : Nat) (s : State) : Host.Outcome State Fault Refusal :=
  let s := s.elapse dt
  match (s.canR can).attempt with
  | some t => endWith (s.attemptLost can t)
  | none => endWith s

/-- CAN_ERROR_FRAME (R370 to R373): `lec` is the error seen. The error counters follow ISO 11898-1, which the spec names: 8 up for the
transmitter unless it names an exception (`exempt`), for a receiver 1, or 8 where the bit after its error flag is dominant (`dom`);
none in listen-only mode. `tdcv` is the delay measured before the error, if the frame got that far. (log 92 PRESUMED) -/
def execCanErrorFrame (can : Fin 2) (dt : Nat) (lec : Fin 7) (dom exempt : Bool) (tdcv : Option (BitVec 7)) (s : State) :
    Host.Outcome State Fault Refusal :=
  let s := s.elapse dt
  let c := can.val
  if !s.canOn c then endWith s
  else
    let s := s.setF F.CAN_STAT_LEC lec c
    let tec := s.fld F.CAN_ERRCNT_TEC c
    let s : State := match (s.canR c).attempt with
      | some t =>
        let s := match tdcv with
          | some d => s.measured c (s.attemptFrame c t.mb) d
          | none => s
        (s.attemptLost c t).canCount c (if exempt then tec else tec + 8) (s.recNow c)
      | none =>
        if s.fld F.CAN_CTRL_MODE c == 1 then s else s.canCount c tec (s.recNow c + if dom then 8 else 1)
    endWith (s.canFrameEnd c)

/-- CAN_TX_COMPLETE (R361, R366, R370, R371): the frame of the attempt ends without error; `tdcv` is the delay measured in an FD frame with
BRS. In internal loopback the frame stays inside the controller. (log 93 DEDUCED) -/
def execCanTxComplete (can : Fin 2) (dt : Nat) (tdcv : BitVec 7) (s : State) : Host.Outcome State Fault Refusal :=
  let s := s.elapse dt
  let c := can.val
  match (s.canR c).attempt with
  | none => endWith s
  | some t =>
    let f := s.attemptFrame c t.mb
    let inside := s.fld F.CAN_CTRL_MODE c == 2
    let s := s.updCan c fun r => { r with attempt := none }
    let s := (s.canCount c (s.fld F.CAN_ERRCNT_TEC c - 1) (s.recNow c)).measured c f tdcv
    let s : State :=
      if t.mb == 64 then s.updCan c fun r => { r with refTx := none }
      else if t.mb == 63 && s.canCmd c then s.updCan c fun r => { r with txq := r.txq.drop 1 }
      else
        let s := s.endReq c t.mb 1
        let s := if t.cancel then s.setMb0 c t.mb 10 10 1 else s
        (s.setMb c t.mb 2 (lo32 t.start)).setMb c t.mb 3 (hi32 t.start)
    let s := if inside then s else s.emit (.canFrame c f.id f.ide f.data)
    let s := if inside || s.on F.CAN_CTRL_SELF_RX c then s.canStore c f t.start else s
    endWith (s.canFrameEnd c)

/-- CAN_BUSOFF_RECOVERY (R373). -/
def execCanBusoffRecovery (can : Fin 2) (dt : Nat) (s : State) : Host.Outcome State Fault Refusal :=
  let s := s.elapse dt
  endWith (if s.fld F.CAN_STAT_STATE can == 2 && s.on F.CAN_CTRL_AUTO_REC can then s.canJoin can else s)

/-- CAN_TXD_DOMINANT (R372): the transmit line was dominant for more than 1 ms; the transceiver releases the bus, the controller is
bus-off. (log 92 PRESUMED) -/
def execCanTxdDominant (can : Fin 2) (dt : Nat) (s : State) : Host.Outcome State Fault Refusal :=
  let s := s.elapse dt
  let c := can.val
  let s := (s.raiseF F.CAN_STAT_TXD_DOM c).raise 0x4022 7 [wd c]
  if !s.canOn c then endWith s
  else
    let s := match (s.canR c).attempt with | some t => s.attemptLost c t | none => s
    let s := (s.setF F.CAN_STAT_STATE 2 c).raiseF F.CAN_STAT_BUS_OFF_EVT c
    endWith ((s.raise 0x4021 7 [wd c]).canFrameEnd c)

/-- CAN_TT_CYCLE_START (R375, R376): under REF 0 and 2 the next basic cycle starts on Meridian, and under REF 2 a reference message is to
be sent; under REF 1, where received messages start the cycles, two basic cycles without one lose the synchronisation. (log 94 DEDUCED) -/
def execCanTtCycleStart (can : Fin 2) (s : State) : Host.Outcome State Fault Refusal :=
  let c := can.val
  if !s.on F.CAN_CTRL_TT_EN c || s.canInit c || s.ttLen c == 0 then endWith s
  else if s.fld F.CAN_TT_CFG_REF c == 1 then
    endWith ((s.elapseTo ((s.canR c).refAt + 2 * s.ttLen c * ticksPerUs)).ttLost c)
  else
    let len := s.ttNs c
    let ph := 1000 * s.fld F.CAN_TT_PHASE_PHASE c
    let now := s.meridian.toNat
    let d := (len - (now + len - ph % len) % len) % len
    let d := if d < 5 && (s.canR c).cycleAt == s.tick then d + len else d
    let s := s.elapse ((d + 4) / 5)
    let count := (now + d - ph) / len % s.ttCycles c
    if s.mst == mFREE then endWith (s.ttLost c)
    else
      let s := (s.setF F.CAN_TT_STAT_SYNC 1 c).ttBegin c 0 count
      endWith (if s.fld F.CAN_TT_CFG_REF c == 2 then s.updCan c fun r => { r with refTx := some count } else s)

/-- CAN_TT_COLUMN_START (R374, R377): the window of the next column opens, within 50 ns of its offset on Meridian. (log 94 DEDUCED) -/
def execCanTtColumnStart (can : Fin 2) (s : State) : Host.Outcome State Fault Refusal :=
  let c := can.val
  let r := s.canR c
  if !s.on F.CAN_CTRL_TT_EN c || s.canInit c || !s.on F.CAN_TT_STAT_SYNC c then endWith s
  else match (upTo 16).find? fun k => r.next ≤ k && s.ttUsed c k with
    | none => endWith s
    | some k =>
      let (e, s) := s.freeErr 10
      let s := s.elapseTo (((r.cycleAt + s.ttOfs c k * ticksPerUs : Nat) : Int) + e).toNat
      let s := s.updCan c fun r => { r with col := some k, next := k + 1, tried := [] }
      endWith (if (s.ttEntry c (s.fld F.CAN_TT_STAT_CYCLE c) k).1 == 3 then s.raiseF F.CAN_STAT_TT_ERR c else s)

/-- CAN_TT_WINDOW_END (R377): the window of the column closes; in an exclusive one a buffer that has not started is MISSED. (log 94 DEDUCED) -/
def execCanTtWindowEnd (can : Fin 2) (s : State) : Host.Outcome State Fault Refusal :=
  let c := can.val
  let r := s.canR c
  match r.col with
  | none => endWith s
  | some k =>
    let s := s.elapseTo (r.cycleAt + (s.ttOfs c k + s.ttWin c k) * ticksPerUs)
    let missed := match s.ttOpen c with
      | some (1, b) => if s.mbPending c b && !r.tried.contains b then some b else none
      | _ => none
    let s := s.updCan c fun r => { r with col := none }
    endWith (match missed with | some b => (s.endReq c b 3).bump F.CAN_TX_MISSED_COUNT c | none => s)

end Sys2Proof.Machine
end

