-- ==== Sys2Proof/Machine/IoCmds.lean ====
section
/-!
DEFINITION. Machine/IoCmds.lean: the commands of classes 0x07xx, 0x09xx and 0x0Cxx: field inputs and outputs, the stream port, Candle
(R150, R388, R389, R392, R395, R399 to R401, R459, R465, R469, R475).
-/

namespace Sys2Proof.Machine

namespace State

/-! ## Field inputs and outputs -/

/-- The three words of IO_READ (R97, R395). (log 96 DEDUCED) -/
def ioRead (s : State) : List Word :=
  [wd (s.fld F.FIO_DI_STATE), wd (s.fld F.FIO_DI_INVALID_MASK), wd (s.fld F.FIO_DO_CMD + s.fld F.FIO_STAT_FIO_FAULT * 2 ^ 31)]

/-- IO_WRITE (R400, R401): one write through both aliases of FIO_DO; the outputs it names leave their safe states with the next frame. (log 26 DEDUCED; log 96 DEDUCED) -/
def ioWrite (s : State) (role : Role) (p : Pkt) : State × Option Answer :=
  let mask := nth p.payload 0
  let v := nth p.payload 1
  let own := fun (k : WKind) (w : Word) (n : Nat) => (({ who := .host role, rl := role.mayRl, kind := k, value := w } : Req), nth p.fails n)
  if mask &&& wd (s.fld F.CMP_OUT_SEL_DO_MASK) != 0 then (s, some (ans cBAD_PARAM))
  else if stray 0xFFFF v then (s, some (ans cBAD_PARAM 1))
  else if s.reiniting 0x15 0 then (s, some (ans cBUSY 5))
  else
    let (s, vs) := s.cycle .FIO_DO 0 (own .set (mask &&& v) 0 :: own .clr (mask &&& ~~~v) 1 ::
      (p.rivals.filter fun w => !w.who.isHost).map fun w => (reqOf w, failsOf w)) 0 ⟨some (byPkt role p), false, 1⟩
    match nth vs 0 with
    | .applied _ => ({ s with fio := { s.fio with wake := s.fio.wake ||| mask.truncate 16 } }, some (ok))
    | .lost => (s, some (ans cPREEMPTED))
    | .refused a => (s, some a)

/-- IO_RESTORE (R399, R401): the outputs named are released with the next frame, as far as their causes have gone. (log 96 DEDUCED) -/
def ioRestore (s : State) (p : Pkt) : State × Option Answer :=
  if s.fio.vfLow || s.reiniting 0x15 0 then (s, some (ans cBUSY 5))
  else ({ s with fio := { s.fio with restore := s.fio.restore ||| (nth p.payload 0).truncate 16 } }, some (ok))

/-! ## The stream port -/

/-- STREAM_CONFIG (R392). -/
def streamConfig (s : State) (role : Role) (p : Pkt) : State × Option Answer :=
  match s.hostWrite role p (nth p.fails 0) (wd (RegId.STR_CTRL.addr 0)) (nth p.payload 0) 0 with
  | (s, .applied _) => (s, some (ok))
  | (s, .lost) => (s, some (ans cPREEMPTED))
  | (s, .refused a) => (s, some a)

end State

/-- The LENGTH of CAPTURE_ARM (R388, R494): fixed by NCH within its range, else 6 to 21. -/
def captureLen (p : Pkt) : Option Nat :=
  let n := bitsOf (nth p.payload 0) 12 8
  if 1 ≤ n && n ≤ 16 then lenIs (5 + n) p else lenSteps 6 21 1 p

/-- A capture may read this address (R388). (log 117 DEDUCED) -/
def captureAddr (a : Word) : Bool :=
  match locate a with
  | .at_ (.reg r i) _ => [2, 3, 4, 5, 6, 7, 8, 9, 14].contains (r.addr i / 65536)
  | _ => false

/-- The first word of a capture record that R388 refuses. (log 117 DEDUCED) -/
def captureBad (r : List Word) : Option Nat :=
  let w := nth r 0
  let n := bitsOf w 12 8
  let trig := bitsOf w 18 16
  let pre := (nth r 1).toNat
  let post := (nth r 2).toNat
  if w &&& 0xF808E08C != 0 || 4 < bitsOf w 6 4 || n == 0 || 16 < n || 4 < trig || 5 < bitsOf w 26 24 ||
      ((trig == 1 || trig == 2) && n ≤ bitsOf w 23 20) then some 0
  else if 2 ^ 24 ≤ pre then some 1
  else if post == 0 || 2 ^ 24 ≤ post then some 2
  else if captureSize < (pre + post) * (n + 1) + 5 then some 1
  else if trig != 4 && nth r 4 != 0 then some 4
  else ((upTo n).map (5 + ·)).find? fun k => !captureAddr (nth r k)

namespace State

/-- CAPTURE_ARM (R388, R389). (log 26 DEDUCED) -/
def captureArm (s : State) (p : Pkt) : State × Option Answer :=
  match captureBad p.payload with
  | some k => (s, some (ans cBAD_PARAM k))
  | none =>
    if s.on F.STR_STAT_CAPTURE || s.reiniting 0x14 0 then (s, some (ans cBUSY 5))
    else
      let s := s.defer 0x0901 p 0 (ans cACCEPTED)
      let c : Cap := ⟨p.payload, 0, [], none, 0, none, false⟩
      (((s.setCap (some c)).setF F.STR_STAT_CAPTURE 1).showFill, none)

/-! ## Candle -/

/-- CANDLE_REPORT (R469). -/
def candleReport (s : State) (p : Pkt) : Answer :=
  match s.report (nth p.payload 0).toNat with
  | some ws => ok ws
  | none => ans cBAD_PARAM

/-- MARGIN_REPLAN (R459, R465): it joins a re-plan that runs; while pair B does not run it starts with pair B. (log 26 DEDUCED; log 115 DEDUCED) -/
def marginReplan (s : State) (p : Pkt) : State × Option Answer :=
  if s.reiniting 0x30 0 then (s, some (ans cBUSY 5))
  else
    let s := s.defer 0x0C01 p 0 (ans cACCEPTED)
    (if s.cdl.run.isSome then s
      else if s.replanWaits then { s with cdl := { s.cdl with again := true } }
      else s.replanStart, none)

end State

/-! ## The commands -/

/-- IO_READ (R395). -/
def cmdIoRead : Cmd := ⟨0x0700, .read, lenIs 0, fun _ _ s => (s, some (ok s.ioRead))⟩
/-- IO_WRITE (R400). -/
def cmdIoWrite : Cmd := ⟨0x0701, .immediate, lenIs 2, fun r p s => s.ioWrite r p⟩
/-- IO_RESTORE (R401). -/
def cmdIoRestore : Cmd := ⟨0x0702, .immediate, lenIs 1, fun _ p s => s.ioRestore p⟩
/-- STREAM_CONFIG (R392). -/
def cmdStreamConfig : Cmd := ⟨0x0900, .immediate, lenIs 1, fun r p s => s.streamConfig r p⟩
/-- CAPTURE_ARM (R388). -/
def cmdCaptureArm : Cmd := ⟨0x0901, .deferred, captureLen, fun _ p s => s.captureArm p⟩
/-- CANDLE_REPORT (R469). -/
def cmdCandleReport : Cmd := ⟨0x0C00, .read, lenIs 1, fun _ p s => (s, some (s.candleReport p))⟩
/-- MARGIN_REPLAN (R459). -/
def cmdMarginReplan : Cmd := ⟨0x0C01, .deferred, lenIs 0, fun _ p s => s.marginReplan p⟩

/-! ## Meanings -/

/-- IO_READ. -/
def execIoRead (p : Pkt) (s : State) : Host.Outcome State Fault Refusal := endWith (s.command cmdIoRead p)
/-- IO_WRITE. -/
def execIoWrite (p : Pkt) (s : State) : Host.Outcome State Fault Refusal := endWith (s.command cmdIoWrite p)
/-- IO_RESTORE. -/
def execIoRestore (p : Pkt) (s : State) : Host.Outcome State Fault Refusal := endWith (s.command cmdIoRestore p)
/-- STREAM_CONFIG. -/
def execStreamConfig (p : Pkt) (s : State) : Host.Outcome State Fault Refusal := endWith (s.command cmdStreamConfig p)
/-- CAPTURE_ARM. -/
def execCaptureArm (p : Pkt) (s : State) : Host.Outcome State Fault Refusal := endWith (s.command cmdCaptureArm p)
/-- CANDLE_REPORT. -/
def execCandleReport (p : Pkt) (s : State) : Host.Outcome State Fault Refusal := endWith (s.command cmdCandleReport p)
/-- MARGIN_REPLAN. -/
def execMarginReplan (p : Pkt) (s : State) : Host.Outcome State Fault Refusal := endWith (s.command cmdMarginReplan p)

end Sys2Proof.Machine
end

