-- ==== Sys2Proof/Machine/SysCmds.lean ====
section
/-!
DEFINITION. Machine/SysCmds.lean: the commands of class 0x01xx and the sessions, the state requests, the reinitialisation of functions,
and the transports' own events (R72, R77, R80, R86 to R98, R103 to R107, R420, R441 to R443, R473 to R476).
-/

namespace Sys2Proof.Machine

/-! ## Codes -/

/-- The role of ROLE[1:0] (R96). -/
def roleAt : Nat → Option Role
  | 0 => some .operator | 1 => some .installer | 2 => some .maker | _ => none

namespace State

/-! ## Role keys and responses (R441, R442, R444) -/

/-- The key of a role: the one written, or that of delivery. -/
def roleKey (s : State) (r : Role) : List Word :=
  match nth s.nv.keys (roleCode r) with
  | some k => k
  | none => (upTo 8).map (Config.deliveryKey (roleCode r))

/-- A role is disabled by a key of all zeros (R444). (log 20 DEDUCED) -/
def keyOff (s : State) (r : Role) : Bool := (s.roleKey r).all (· == 0)

/-- The response that SESSION_AUTH expects (R441). -/
def response (s : State) (x : Sess) : List Word :=
  wordsOf 8 (hmac (bytesOf (s.roleKey x.role))
    (bytesOf (x.challenge ++ [x.id, wd (roleCode x.role), s.rd .SYS_SERIAL_LO, s.rd .SYS_SERIAL_HI])))

/-- SESSION_AUTH of a role is refused without any check (R442). (log 20 DEDUCED) -/
def lockedOut (s : State) (r : Role) : Bool := s.hst.lockout.any fun x => x.1 == r && s.tick < x.2 + 60 * ticksPerS

/-- A wrong response: its fault and record, and the lockout after five within 60 s (R442, R451). (log 20 DEDUCED) -/
def wrongResponse (s : State) (x : Sess) (p : Pkt) : State :=
  let s := (s.audit (byPkt x.role p) 0x0008 x.id (wd (roleCode x.role)) 0).raise 0x7070 7 [x.id, wd (roleCode x.role)]
  let recent := (x.role, s.tick) :: s.hst.wrong.filter fun w => s.tick < w.2 + 60 * ticksPerS
  let full := 5 ≤ (recent.filter fun w => w.1 == x.role).length
  { s with hst := { s.hst with
    wrong := if full then recent.filter fun w => w.1 != x.role else recent
    lockout := if full then (x.role, s.tick) :: s.hst.lockout.filter fun l => l.1 != x.role else s.hst.lockout } }

/-! ## STATE_REQUEST (R77, R80, R420) -/

/-- The reaction of the faults latched is complete (R77): no SS1, no off sequence. (log 27 DEDUCED) -/
def reacted (s : State) : Bool := s.lan.ss1.isNone && s.offDone

/-- The conditions of SAFE to READY (R77, R408, R413, R448). (log 27 DEDUCED) -/
def mayReady (s : State) : Bool :=
  !s.halted && s.flt.latched.isEmpty && s.profile != 0 && s.nv.badSlots.isEmpty && s.on F.LAN_STAT_PARAM_VALID && s.envValid &&
    s.on F.SYS_CLK_STAT_PWMPLL_LOCK

/-- The conditions under which STO is released at an accepted STATE_REQUEST(ARMED) (R411, R420). (log 27 DEDUCED) -/
def mayRelease (s : State) : Bool :=
  s.stoRel == 3 && !s.on F.LAN_STAT_DISC && s.on F.LAN_STAT_PARAM_VALID && s.envValid && !s.on F.LAN_STAT_SBC_FAULT &&
    s.lan.loading.isNone && (s.consuming.all fun c => s.fld F.LAN_CONN_STAT_STATE c == 2) && s.permit 0 && s.permit 2

/-- The axis of an outstanding WRONG_MOTOR result (R255). -/
def wrongMotor (s : State) : Option Nat := (upTo 4).find? fun a => (nth s.obs a).identWrong

/-- A WRONG_MOTOR refusal: the deviation in 0.1 % (R101, R255). (log 51 DEDUCED) -/
def wrongAnswer (s : State) (a : Nat) : Answer :=
  ans cWRONG_MOTOR (clampI (-32768) 32767 (s.sg .OBS_KE_DEV a) % 65536).toNat

/-- The refusal of a STATE_REQUEST (R77): WRONG_MOTOR while such a result is outstanding, else BUSY. (log 27 DEDUCED) -/
def requestRefused (s : State) : Answer :=
  match s.wrongMotor with
  | some a => s.wrongAnswer a
  | none => ans cBUSY 3

/-- READY to ARMED (R77, R420): STO is released. (log 27 DEDUCED) -/
def arm (s : State) : Answer × State :=
  if s.wrongMotor.isNone && s.mayRelease && ((upTo 4).any fun a => s.on F.AX_CFG_MOTOR a) then
    let s := { s with lan := { s.lan with relAt := s.tick } }
    (ok [wd dARMED], (s.setF F.LAN_STAT_STO_ACTIVE 0).setDev dARMED 0 false)
  else (s.requestRefused, s)

/-- The transition that a STATE_REQUEST asks for (R77): one that the table does not hold, or whose condition is not met, is refused. (log 27 DEDUCED) -/
def request (s : State) (target : Nat) : Answer × State :=
  let d := s.dev
  let yes := fun (s : State) => (ok [wd target], s.setDev target 0 false)
  if target == dSAFE && (d == dREADY || d == dUPDATE || (d == dFAULT && s.reacted)) then yes s
  else if target == dREADY && d == dSAFE && s.mayReady then yes s
  else if target == dREADY && (d == dARMED || d == dRUN) && s.allDisabled then yes s.stoTake
  else if target == dARMED && d == dREADY then s.arm
  else (s.requestRefused, s)

/-- STATE_REQUEST: where a trigger of higher rank has changed the state in this cycle, a request it defeats is PREEMPTED (R80). (log 27 DEDUCED) -/
def stateRequest (s : State) (target : Nat) : Answer × State :=
  let (a, t) := s.request target
  if a.status != cOK && s.sys.lastTrans == some s.tick then (ans cPREEMPTED, t) else (a, t)

/-! ## FUNC_REINIT (R473 to R476) -/

/-- The instances of a function code; none where there is no such function. -/
def reinitInsts (f : Nat) : Option Nat :=
  match f with
  | 0x01 => some 8 | 0x02 => some 2 | 0x03 => some 2 | 0x10 => some 2 | 0x11 => some 2
  | 0x12 => some 1 | 0x13 => some 1 | 0x14 => some 1 | 0x15 => some 1 | 0x20 => some 1 | 0x21 => some 1 | 0x30 => some 1
  | _ => none

/-- The time within which a reinitialisation ends, in ticks; CAN counts its recessive bits beside it. -/
def reinitTime (f : Nat) : Nat :=
  ticksPerMs * (match f with
    | 0x01 => 50 | 0x02 => 50 | 0x03 => 10 | 0x10 => 20 | 0x11 => 3000 | 0x12 => 10 | 0x13 => 1 | 0x14 => 1 | 0x15 => 2 | 0x20 => 10
    | 0x21 => 20 | _ => 10)

/-- The engine of a function code. (log 28 DEDUCED; log 78 DESIGN CHOICE) -/
def reinitEngine (f i : Nat) : Nat := if f == 2 then 8 + i else i

/-- The condition of a reinitialisation. -/
def reinitMay (s : State) (f i : Nat) : Bool :=
  match f with
  | 0x01 | 0x02 =>
    let e := reinitEngine f i
    (s.slotsOn e).all fun k => let st := s.axSt (s.fld F.LE_TASK_CFG_AXIS (4 * e + k)); st == aDISABLED || st == aFAULTED
  | 0x03 => s.on F.ME_STAT_AT_REST i
  | 0x14 => s.fld F.STR_STAT_CAPTURE != 3
  | 0x21 => s.mem.join.isNone
  | _ => true

/-- The RC counters and W1C flags of a register read 0 (R476). (log 28 DEDUCED) -/
def clearFlags (s : State) (r : RegId) (i : Nat := 0) : State :=
  let m := r.fields.foldl (fun w f => if f.acc == .rc || f.acc == .w1c then w ||| maskOf f.hi f.lo else w) 0
  s.wr r (s.rd r i &&& ~~~m) i

/-- The RC counters and W1C flags of registers. (log 28 DEDUCED) -/
def clearAll (s : State) (l : List RegId) (i : Nat := 0) : State := s.forL l fun r s => s.clearFlags r i

/-- Replies queued on a transport are discarded (R474). -/
def dropSpi (s : State) : State :=
  { s with hst := { s.hst with spiQueue := [], spiSent := 0, spiWaiting := [], spiIgnore := false } }

/-- What a reinitialisation does when it starts. (log 28 DEDUCED) -/
def reinitStart (s : State) (f i : Nat) : State :=
  match f with
  | 0x01 | 0x02 => s.engineOff (reinitEngine f i)
  | 0x10 =>
    let s := { s with hst := { s.hst with asm := s.hst.asm.set i none } }
    (s.canStop i).updCan i fun c => { c with txq := [], attempt := none }
  | 0x13 => s.dropSpi
  | 0x14 =>
    let (n, s) := s.freeBelow 34
    let s := (s.progress n).cut n false
    let s := { s with str := { s.str with sent := [] } }
    (s.setF F.STR_CREDIT_WORDS 0).setF F.STR_STAT_LINK 0
  | 0x15 =>
    let filts := s.fio.filts.map fun (x : DiFilt) => { x with fresh := true }
    let s : State := { s with fio := { s.fio with
      sent := none, back := none, logicAt := s.tick, filts := filts
      wake := s.fio.wake ||| (s.fio.sent.map (·.wake)).getD 0, restore := s.fio.restore ||| (s.fio.sent.map (·.restore)).getD 0 } }
    ((s.setF F.SYS_CLK_STAT_FIELD_LINK 0).setF F.FIO_DI_STATE 0).setF F.FIO_DI_INVALID_MASK 0xFFFFFF
  | 0x20 =>
    let m := s.mst
    let q : Ptp := ⟨none, none, none, none, s.mer.ptp.seq, s.mer.ptp.interval⟩
    let s : State := { s with mer := { s.mer with good := 0, bad := 0, far := 0, ptp := q } }
    if m == mLOCKED then (s.merTo mHOLDOVER).raise 0x7061 else if m == mACQUIRING then s.merTo mHOLDOVER else s
  | 0x21 =>
    let peers := s.mem.peers.map fun (p : Peer) =>
      { p with heard := none, live := false, conflict := false, last := none, seq := none }
    ({ s with mem := { s.mem with ring := [], peers := peers } }).showLive
  | 0x30 => s.replanAbandon
  | _ => s

/-- The engine comes back with its program from the active image, its staging and its overrun history empty, and both checks run; RUN
is set again where they pass and it was set before (R202, R473). (log 28 DEDUCED) -/
def engineBack (s : State) (e : Nat) (wasRun : Bool) : State :=
  let s := (s.updEng e fun _ => .init).loadEngine e
  let s := (s.clearAll [.LE_STAT, .LE_PAR_REPLAY, .LE_RETRY_CNT, .LE_SAT_CNT] e).setF F.LE_MSTAT_PENDING 0 e
  let s := s.forN 4 fun k s => s.wr .LE_TASK_OVR 0 (4 * e + k)
  let (s, may) := (s.staticCheck e).scheduleCheck e
  if wasRun && may && s.on F.LE_STAT_PROG_OK e then s.engineOn e else s

/-- The CAN controller comes back: buffers empty and unlocked, requests ended, and on the bus again unless INIT is set (R362, R473, R476).
(log 28 DEDUCED) -/
def canBack (s : State) (c : Nat) : State :=
  let s := s.forN 64 fun k s => (if s.mbPending c k then s.endReq c k 2 else s).setMb0 c k 4 2 0
  let s := (s.wr .CAN_ERRCNT 0 c).clearAll [.CAN_STAT, .CAN_RX_LOST, .CAN_LOCK_TMO, .CAN_TX_MISSED] c
  let s := s.updCan c fun r => { r with locks := List.replicate 64 none, lostWait := [] }
  if s.on F.CAN_CTRL_INIT c then s else s.canJoin c

/-- What a reinitialisation does when it ends. (log 28 DEDUCED) -/
def reinitEnd (s : State) (f i : Nat) (wasRun : Bool) : State :=
  match f with
  | 0x01 | 0x02 => s.engineBack (reinitEngine f i) wasRun
  | 0x03 =>
    let m : Me := { Me.init with restSince := s.tick }
    let s : State := { s with mot := { s.mot with me := upd s.mot.me i fun _ => m } }
    let s := ((s.wr .ME_POS 0 i).wr .ME_SPEED 0 i).clearAll [.ME_STAT, .ME_GEAR_JUMP, .ME_UNC_CNT] i
    (((s.setF F.ME_STAT_GEARED 0 i).setF F.ME_STAT_AT_REST 1 i)).setF F.ME_STAT_UNCERTAIN 1 i
  | 0x10 => s.canBack i
  | 0x12 => s.reportGroups
  | 0x14 => s.clearAll [.STR_STAT, .STR_FRAMES, .STR_NAK, .STR_REPLAY, .STR_GONE, .STR_BK_ERR, .STR_DROP, .STR_SRC_ERR]
  | 0x15 =>
    { s with fio := { s.fio with logicAt := s.tick } }.clearAll [.FIO_STAT, .FIO_LINK_ERR]
  | 0x20 => s.clearAll [.MER_STAT, .MER_PPS_BAD]
  | 0x21 => s.clearAll [.MEM_STALE_CNT, .MEM_CRC_CNT, .MEM_LOSS_CNT, .MEM_ACT_REFUSED]
  | 0x30 => (s.clearAll [.CDL_STAT]).replanResume
  | _ => s

/-- A FUNC_REINIT is in flight for a function instance under this target. -/
abbrev reinitKey (f i : Nat) : Nat := f * 256 + i

/-- FUNC_REINIT. -/
def funcReinit (s : State) (p : Pkt) : State × Option Answer :=
  let w := nth p.payload 0
  let f := bitsOf w 15 0
  let i := bitsOf w 23 16
  match reinitInsts f with
  | none => (s, some (ans cBAD_PARAM))
  | some n =>
    if n ≤ i then (s, some (ans cBAD_PARAM))
    else if s.reiniting f i || !s.reinitMay f i then (s, some (ans cBUSY 5))
    else
      let wasRun := (f == 1 || f == 2) && (s.on F.LE_CTRL_RUN (reinitEngine f i) || (s.engine (reinitEngine f i)).dead)
      let s := s.defer 0x0111 p (reinitKey f i) (ans cACCEPTED)
      let s := s.reinitStart f i
      ({ s with sys := { s.sys with reinit := s.sys.reinit ++ [⟨f, i, s.tick, wasRun⟩] } }, none)

/-! ## GET_INFO -/

/-- The eight reply words of GET_INFO (R97). -/
def info (s : State) (p : Pkt) : List Word :=
  let bits := s.fld F.SYS_STATE_ACTIVE_BANK + s.fld F.SYS_STATE_SAFE_FUNCTIONS * 2 ^ 8 + s.fld F.SYS_STATE_SPLIT_A * 2 ^ 16 +
    s.fld F.SYS_STATE_SPLIT_B * 2 ^ 17
  [wd 0x4816, wd 0xB1, s.rd .SYS_FW_VER, wd bits, wd (s.fld F.SYS_UNIT_UNIT + s.dev * 2 ^ 16), s.rd .SYS_SERIAL_LO, s.rd .SYS_SERIAL_HI,
    wd (maxLength p.via)]

/-- SESSION_OPEN (R96, R441). -/
def sessionOpen (s : State) (p : Pkt) : State × Option Answer :=
  let id := nth p.payload 0
  if id == 0 || (s.session id).isSome then (s, some (ans cBAD_PARAM))
  else match roleAt (nth p.payload 1).toNat with
    | none => (s, some (ans cBAD_PARAM 1))
    | some r =>
      if 8 ≤ s.hst.sessions.length then (s, some (ans cTABLE_FULL))
      else
        let ch := (upTo 8).map (Config.random s.hst.challenges)
        let x : Sess := ⟨id, r, false, s.tick, ch⟩
        ({ s with hst := { s.hst with sessions := s.hst.sessions ++ [x], challenges := s.hst.challenges + 1 } }, some (ok ch))

/-- SESSION_AUTH (R441, R442). (log 20 DEDUCED) -/
def sessionAuth (s : State) (p : Pkt) : State × Option Answer :=
  let id := nth p.payload 0
  match s.session id with
  | none => (s, some (ans cBAD_PARAM))
  | some x =>
    if x.authed then (s, some (ans cBAD_PARAM))
    else if s.lockedOut x.role then (s, some (ans cDENIED_ROLE))
    else if s.keyOff x.role then ((s.closeSessions fun y => y.id == id), some (ans cDENIED_ROLE))
    else if (p.payload.drop 1) != s.response x then
      (((s.wrongResponse x p).closeSessions fun y => y.id == id), some (ans cDENIED_ROLE))
    else
      let l := s.hst.sessions.map fun (y : Sess) => if y.id == id then { y with authed := true } else y
      let s := { s with hst := { s.hst with sessions := l } }
      (s.audit (byPkt x.role p) 0x0007 id (wd (roleCode x.role)) 0, some (ok))

end State

/-! ## The commands -/

/-- ECHO (R97). -/
def cmdEcho : Cmd := ⟨0x0100, .read, lenMax 256, fun _ p s => (s, some (ok p.payload))⟩
/-- GET_INFO (R97). -/
def cmdGetInfo : Cmd := ⟨0x0101, .read, lenIs 0, fun _ p s => (s, some (ok (s.info p)))⟩
/-- SESSION_OPEN (R96). -/
def cmdSessionOpen : Cmd := ⟨0x0102, .immediate, lenIs 2, fun _ p s => s.sessionOpen p⟩
/-- SESSION_AUTH (R442). -/
def cmdSessionAuth : Cmd := ⟨0x0103, .immediate, lenIs 9, fun _ p s => s.sessionAuth p⟩
/-- SESSION_CLOSE (R443): the header's session. (log 18 DEDUCED) -/
def cmdSessionClose : Cmd :=
  ⟨0x0104, .immediate, lenIs 0, fun _ p s => ((s.closeSessions fun x => x.id == p.session), some (ok))⟩
/-- DEVICE_RESET (R72): the reset follows by DEVICE_RESET_APPLY. -/
def cmdDeviceReset : Cmd :=
  ⟨0x0110, .immediate, lenIs 0, fun _ p s =>
    ({ s with sys := { s.sys with resetPend := some s.tick, resetVia := p.via } }, some (ok))⟩
/-- FUNC_REINIT (R473). -/
def cmdFuncReinit : Cmd := ⟨0x0111, .deferred, lenIs 1, fun _ p s => s.funcReinit p⟩
/-- STATE_REQUEST (R77, R98). -/
def cmdStateRequest : Cmd :=
  ⟨0x0112, .immediate, lenIs 1, fun _ p s =>
    let t := bitsOf (nth p.payload 0) 3 0
    if 1 ≤ t && t ≤ 3 then let (a, s) := s.stateRequest t; (s, some a) else (s, some (ans cBAD_PARAM))⟩

/-! ## Meanings -/

/-- ECHO. -/
def execEcho (p : Pkt) (s : State) : Host.Outcome State Fault Refusal := endWith (s.command cmdEcho p)
/-- GET_INFO. -/
def execGetInfo (p : Pkt) (s : State) : Host.Outcome State Fault Refusal := endWith (s.command cmdGetInfo p)
/-- SESSION_OPEN. -/
def execSessionOpen (p : Pkt) (s : State) : Host.Outcome State Fault Refusal := endWith (s.command cmdSessionOpen p)
/-- SESSION_AUTH. -/
def execSessionAuth (p : Pkt) (s : State) : Host.Outcome State Fault Refusal := endWith (s.command cmdSessionAuth p)
/-- SESSION_CLOSE. -/
def execSessionClose (p : Pkt) (s : State) : Host.Outcome State Fault Refusal := endWith (s.command cmdSessionClose p)
/-- DEVICE_RESET. -/
def execDeviceReset (p : Pkt) (s : State) : Host.Outcome State Fault Refusal := endWith (s.command cmdDeviceReset p)
/-- FUNC_REINIT. -/
def execFuncReinit (p : Pkt) (s : State) : Host.Outcome State Fault Refusal := endWith (s.command cmdFuncReinit p)
/-- STATE_REQUEST. -/
def execStateRequest (p : Pkt) (s : State) : Host.Outcome State Fault Refusal := endWith (s.command cmdStateRequest p)

/-- FUNC_REINIT_DONE (R473): within the time given the reinitialisation ends, with OK or with a failure of its own. (log 28 DEDUCED) -/
def execFuncReinitDone (func inst dt : Nat) (ok_ : Bool) (s : State) : Host.Outcome State Fault Refusal :=
  match s.sys.reinit.find? fun r => r.func == func && r.inst == inst with
  | none => endWith (s.elapse dt)
  | some r =>
    let late := r.start + State.reinitTime func - s.tick
    let s := s.elapse (if func == 0x10 then dt else min dt late)
    let s := { s with sys := { s.sys with reinit := s.sys.reinit.filter fun x => !(x.func == func && x.inst == inst) } }
    let s := s.reinitEnd func inst r.wasRun
    if ok_ then endWith (s.finish 0x0111 (State.reinitKey func inst) (ok))
    else
      let (code, s) := s.freeBelow 65536
      endWith (s.finish 0x0111 (State.reinitKey func inst) (ans cINTERNAL code))

/-- SESSION_AUTH_TIMEOUT (R442): 10 s after its SESSION_OPEN a session that is not authenticated closes. (log 2 DESIGN CHOICE) -/
def execSessionAuthTimeout (session : Word) (s : State) : Host.Outcome State Fault Refusal :=
  match s.session session with
  | none => endWith s
  | some x =>
    if x.authed then endWith s
    else endWith ((s.elapseTo (x.opened + 10 * ticksPerS)).closeSessions fun y => y.id == session)

/-- AUTH_LOCKOUT_END (R442). -/
def execAuthLockoutEnd (role : Role) (s : State) : Host.Outcome State Fault Refusal :=
  match s.hst.lockout.find? fun x => x.1 == role with
  | none => endWith s
  | some x =>
    let s := s.elapseTo (x.2 + 60 * ticksPerS)
    endWith { s with hst := { s.hst with lockout := s.hst.lockout.filter fun y => y.1 != role } }

/-! ## The SPI port, ARP and ICMP (R103 to R106) -/

/-- The SPI status word (R103). -/
def spiStatusWord (s : State) : Word :=
  let pend := (s.hst.spiWaiting.any fun x => arrived x.2) || s.hst.flight.any fun f => f.pkt.via == .spi && !grouped f.pkt
  wd (min (spiFill s) 0xFFFF + b2n pend * 2 ^ 16 + b2n s.hst.spiDiscard * 2 ^ 17 + 0xA5 * 2 ^ 24)

/-- The queue after n words of it went, with the words of its head sent. (log 21 DESIGN CHOICE) -/
def dropWords : Nat → List Reply → List Reply × Nat
  | _, [] => ([], 0)
  | n, r :: l => if r.size ≤ n then dropWords (n - r.size) l else (r :: l, n)

/-- SPI_CS_FALL (R103): the status word is sampled, which clears RX_DISCARD. (log 21 DESIGN CHOICE) -/
def execSpiCsFall (dt : Nat) (s : State) : Host.Outcome State Fault Refusal :=
  let s := s.elapse dt
  endWith { s with hst := { s.hst with
    spiBusy := true, spiHad := s.hst.spiQueue.length, spiIgnore := false, spiDiscard := false, spiStatus := spiStatusWord s } }

/-- The MISO words of a transaction after its status word (R103): n words of the queued packets in order; before a packet begins stand
the idle words sent while the queue was empty. (log 21 DESIGN CHOICE) -/
def misoWords : List (List Word) → Nat → List Nat → List Word
  | [], _, ks => List.replicate (ks.headD 0) 0xFFFFFFFF
  | r :: l, n, ks =>
    List.replicate (ks.headD 0) 0xFFFFFFFF ++ if n < r.length then r.take n else r ++ misoWords l (n - r.length) ks.tail

/-- What a transaction sends on MISO: a reply cut off before continues at word 1, and before a packet that was queued when the
transaction began stands no idle word. -/
def spiMiso (s : State) (words : Nat) (idle : List Nat) : List Word :=
  let ks := if s.hst.spiSent == 0 then idle else 0 :: idle
  let ks := List.replicate s.hst.spiHad 0 ++ ks.drop s.hst.spiHad
  s.hst.spiStatus :: match s.hst.spiQueue.map Reply.toWords with
    | p :: l => misoWords (p.drop s.hst.spiSent :: l) words ks
    | [] => misoWords [] words ks

/-- SPI_CS_RISE (R72, R103, R105): `words` reply words went, with `idle` words before the packets; a packet cut off is discarded; the
receiver listens again. The reset of a DEVICE_RESET waits for its reply. (log 21 DESIGN CHOICE; log 24 DESIGN CHOICE) -/
def execSpiCsRise (dt words : Nat) (idle : List Nat) (cut : Bool) (s : State) : Host.Outcome State Fault Refusal :=
  let s := s.elapse dt
  let q := dropWords (s.hst.spiSent + words) s.hst.spiQueue
  let t := { s.emit (.miso (spiMiso s words idle)) with hst := { s.hst with
    spiBusy := false, spiIgnore := false, spiDiscard := s.hst.spiDiscard || (cut && !s.hst.spiIgnore)
    spiQueue := q.1, spiSent := q.2 } }
  endWith (if s.resetUnsaid && !t.resetUnsaid then
      { t with sys := { t.sys with resetPend := t.sys.resetPend.map fun _ => t.tick } }
    else t)

/-- Waiting replies enter the reply buffer in order while it has room; an interim reply is then the latest of its command. -/
def queueWaiting : Nat → State → State
  | 0, s => s
  | n + 1, s =>
    match s.hst.spiWaiting with
    | [] => s
    | (r, p) :: l =>
      if 4 * (spiFill s + r.size) ≤ 65536 then
        let flight := s.hst.flight.map fun f =>
          if State.sameTag f.pkt p && !r.flags.getLsbD 2 then { f with interim := some r } else f
        let interims := if r.flags.getLsbD 2 then s.hst.interims else (p, r) :: s.hst.interims
        queueWaiting n { s with hst := { s.hst with
          spiQueue := s.hst.spiQueue ++ [r], spiWaiting := l, flight := flight, interims := interims } }
      else s

/-- REPLY_BUFFER_SPACE (R104). -/
def execReplyBufferSpace (dt : Nat) (s : State) : Host.Outcome State Fault Refusal :=
  let s := s.elapse dt
  endWith (queueWaiting s.hst.spiWaiting.length s)

/-- The Ethernet service answers (R73, R106, R473): the application runs and the service is not under reinitialisation. -/
def State.netUp (s : State) : Bool := s.linked && !s.reiniting 0x12 0

/-- ARP_REQUEST (R106): one for the unit's address is answered on its port. -/
def execArpRequest (dt : Nat) (port : Fin 2) (target sender : Word) (moved out : Moved) (s : State) : Host.Outcome State Fault Refusal :=
  let s := s.elapse dt
  if !s.netUp || s.reiniting 0x11 port then endWith s
  else endWith <| s.through 3 moved fun s =>
    if target == Config.ipOwn then s.through 3 out fun s => s.emit (.arp port sender) else s

/-- ICMP_ECHO_REQUEST (R106): answered with its data; a fragment is discarded. -/
def execIcmpEchoRequest (dt : Nat) (src dst : Word) (data : List Byte) (fragment : Bool) (moved out : Moved) (s : State) :
    Host.Outcome State Fault Refusal :=
  let s := s.elapse dt
  if !s.netUp then endWith s
  else endWith <| s.through 3 moved fun s =>
    if !fragment && dst == Config.ipOwn then s.through 3 out fun s => s.emit (.icmp src data) else s

end Sys2Proof.Machine
end

