-- ==== Sys2Proof/Machine/LogCmds.lean ====
section
/-!
DEFINITION. Machine/LogCmds.lean: the commands of class 0x08xx: the logs and FAULT_ACK (R77, R82, R100, R143, R227, R297, R298, R419,
R426, R431, R452 to R455, R495, R496).
-/

namespace Sys2Proof.Machine

/-! ## Records (R452, R453) -/

/-- Fifteen words with their CRC. -/
def sealed15 (ws : List Word) : List Word := ws ++ [crcWords ws]

/-- The sixteen words of a fault record. -/
def FaultRec.toWords (r : FaultRec) : List Word :=
  let head := [r.seq, lo32 r.time, hi32 r.time,
    wd (r.code % 2 ^ 16 + r.cls % 8 * 2 ^ 16 + r.axis % 8 * 2 ^ 20 + r.dev % 16 * 2 ^ 24 + b2n r.cont * 2 ^ 28), r.again]
  sealed15 (head ++ (upTo 10).map fun k => nth r.detail k)

/-- The sixteen words of an audit record. -/
def AuditRec.toWords (r : AuditRec) : List Word :=
  sealed15 [r.seq, lo32 r.time, hi32 r.time,
    wd (r.event % 2 ^ 16 + r.role % 4 * 2 ^ 16 + r.transport % 8 * 2 ^ 18 + r.mstate % 8 * 2 ^ 21), r.session, r.ip, r.object, r.old,
    r.new, 0, 0, 0, 0, 0, 0]

/-- The answer with up to n whole records from a sequence number on (R100, R455); `recs` are the records held, oldest first. (log 108 DEDUCED) -/
def logAnswer {α : Type} (p : Pkt) (recs : List α) (seq : α → Word) (words : α → List Word) : Answer :=
  let first := (nth p.payload 0).toNat
  let n := (nth p.payload 1).toNat
  let l := (recs.filter fun r => first ≤ (seq r).toNat).take n
  if n == 0 || maxLength p.via < 16 * l.length + 1 then ans cBAD_PARAM 1 else ok (l.flatMap words)

namespace State

/-! ## FAULT_ACK (R495) -/

/-- A gate channel judges healthy with its command low (R298). -/
def gateQuiet (s : State) (g : Nat) : Bool := !s.gate.gs.getLsbD g && !s.gate.gc.getLsbD g

/-- The channels of an axis's bridges and of the choppers serving them. -/
def axisChans (s : State) (a : Nat) : List Nat :=
  (s.bridgesOf a).flatMap fun b => s.chansOf b ++ (s.choppersOf b).map fun k => s.fld F.CHOP_CFG_CH k

/-- A bridge of the axis has a latched gate fault. -/
def axisFlt (s : State) (a : Nat) : Bool := (s.bridgesOf a).any fun b => s.fbit F.GATE_STAT_FLT b

/-- The enabled channels of a fault's axis with a role in a range, among those of a set (R170). (log 64 DEDUCED) -/
def chansOut (s : State) (axis lo hi : Nat) (set : BitVec 16) : Bool :=
  (upTo 16).any fun c => set.getLsbD c && s.on F.SD_CFG_EN c && lo ≤ s.fld F.SD_CFG_ROLE c && s.fld F.SD_CFG_ROLE c ≤ hi &&
    s.ownerOf (s.fld F.SD_CFG_BRIDGE c) == axis

/-- The cause of a latched fault is gone (R66, R77, R166, R170, R303, R417, R286, R298, R490, R496, R200); faults of an instant have none that stays. (log 59 DEDUCED) -/
def causeGone (s : State) (code axis : Nat) : Bool :=
  match code with
  | 0x1001 => (upTo 48).all fun g => !s.assigned g || s.gateQuiet g
  | 0x1006 => !s.gate.railLow
  | 0x1010 => !s.chansOut axis 1 3 s.pwm.fastOut
  | 0x1011 => !s.chansOut axis 0 7 s.pwm.stuck
  | 0x1012 => !s.chansOut axis 4 6 s.pwm.fastOut
  | 0x1021 => (s.bridgesOf axis).all fun b => (s.bridge b).npSince.isNone
  | 0x1070 => (s.bridgesOf axis).all fun b => (s.choppersOf b).all fun k => !(nth s.gate.chops k).heldOff
  | 0x3012 => 4 ≤ axis || (s.sg .AX_SPEED axis).natAbs ≤ (s.sg .AX_VLIM axis).natAbs
  | 0x5008 => (nth s.lan.ax axis).differ.isNone
  | 0x7012 => !s.sys.pwmClk.lost && s.on F.SYS_CLK_STAT_PWMPLL_LOCK
  | 0x7013 => !s.on F.SYS_CLK_STAT_PWM_ON_REF
  | 0x7030 => !s.sys.supplyLow
  | 0x7032 => !s.sys.supplyHigh
  | 0x7051 => !s.eng.any fun e => e.dead
  | 0x7091 => !s.sys.dieLimit
  | _ => true

/-- The encoder channels of axis a that are lost. -/
def lostEncs (s : State) (a : Nat) : List Nat := (upTo 4).filter fun c => s.owner c == a && (s.enc c).lost

/-- The faults latched before this cycle (R296, R437, R495). (log 59 DEDUCED) -/
def oldFaults (s : State) : List Latched := s.flt.latched.filter fun f => f.at_ < s.tick

/-- The condition for the device: every fault latched before this cycle has a completed reaction and its cause is gone. (log 59 DEDUCED) -/
def devAckOk (s : State) : Bool :=
  (s.oldFaults.isEmpty || s.reacted) && s.oldFaults.all fun f => s.causeGone f.code f.axis

/-- The gate channels of an axis that owns a bridge with FLT set judge healthy (R298). -/
def axisGateOk (s : State) (a : Nat) : Bool := !s.axisFlt a || (s.axisChans a).all s.gateQuiet

/-- The cause of the fault that holds axis a in FAULTED is gone: of a gate fault by its own channels (R298). (log 59 DEDUCED) -/
def axisCauseGone (s : State) (a : Nat) : Bool :=
  if (s.axis a).cause == 0x1001 then (s.axisChans a).all s.gateQuiet else s.causeGone (s.axis a).cause a

/-- The condition for an axis (R227, R298, R495); nothing is required where it is not FAULTED, whatever R298 asks of its bridges' channels.
(log 59 DEDUCED) -/
def axisAckOk (s : State) (a : Nat) : Bool :=
  s.axSt a != aFAULTED || (s.axisGateOk a && s.reacted && s.axisCauseGone a && (s.lostEncs a).all s.encCauseGone)

/-- Both brake outputs read back de-energised while commanded off (R426): the cause of an SBC fault has gone. -/
def sbcAck (s : State) : Bool := !s.lan.sbcPin.any id

/-- What an accepted FAULT_ACK clears for the device (R82, R296 to R298, R419, R426, R431); a fault latched in this cycle keeps it in
FAULT. (log 59 DEDUCED) -/
def devAck (s : State) : State :=
  let s := { s with flt := { s.flt with latched := s.flt.latched.filter fun f => !(f.at_ < s.tick) } }
  let s := s.clearRecord
  let s := s.setF F.LAN_STAT_SBC_FAULT 0
  let s := if s.lan.bothSince then
      ({ s with lan := { s.lan with bothSince := false } }).setF F.LAN_STAT_DISC 0
    else s
  let s := s.forN 8 fun c s =>
    if s.fld F.LAN_CONN_STAT_STATE c == 1 then (s.updConn c fun x => { x with acked := true }).leaveFailSafe c else s
  if s.dev == dFAULT && s.flt.latched.isEmpty then s.setDev dREADY 0 false else s

/-- What it does for an axis (R143, R227). -/
def axisAck (s : State) (a : Nat) : State :=
  let s := if s.axSt a == aFAULTED then s.toDisabled a else s
  s.forL (s.lostEncs a) fun c s => s.encReturn c

/-- FAULT_ACK: all or nothing. (log 59 DEDUCED) -/
def faultAck (s : State) (p : Pkt) : State × Option Answer :=
  let w := nth p.payload 0
  let device := bitOf w 0
  let axes := (upTo 4).filter fun a => bitOf w (4 + a)
  if (device && !(s.devAckOk && s.sbcAck)) || !axes.all s.axisAckOk then (s, some (ans cBUSY 3))
  else
    let t := if device then s.devAck else s
    let t := t.forL axes fun a s => s.axisAck a
    ({ t with flt := { t.flt with unacked := t.flt.unacked && t.flt.alertAt == t.tick } }, some (ok))

end State

/-! ## The commands -/

/-- LOG_READ (R455). -/
def cmdLogRead : Cmd :=
  ⟨0x0800, .read, lenIs 2, fun _ p s => (s, some (logAnswer p s.flt.log.reverse (·.seq) FaultRec.toWords))⟩
/-- AUDIT_READ (R455). -/
def cmdAuditRead : Cmd :=
  ⟨0x0801, .read, lenIs 2, fun _ p s => (s, some (logAnswer p s.flt.audit.reverse (·.seq) AuditRec.toWords))⟩
/-- FAULT_ACK (R495). -/
def cmdFaultAck : Cmd := ⟨0x0802, .immediate, lenIs 1, fun _ p s => s.faultAck p⟩

/-! ## Meanings -/

/-- LOG_READ. -/
def execLogRead (p : Pkt) (s : State) : Host.Outcome State Fault Refusal := endWith (s.command cmdLogRead p)
/-- AUDIT_READ. -/
def execAuditRead (p : Pkt) (s : State) : Host.Outcome State Fault Refusal := endWith (s.command cmdAuditRead p)
/-- FAULT_ACK. -/
def execFaultAck (p : Pkt) (s : State) : Host.Outcome State Fault Refusal := endWith (s.command cmdFaultAck p)

end Sys2Proof.Machine
end

