-- ==== Sys2Proof/Machine/MotionCmds.lean ====
section
/-!
DEFINITION. Machine/MotionCmds.lean: the commands of class 0x04xx (R311 to R324, R475, R494).
-/

namespace Sys2Proof.Machine

/-- ENGINE[0] of payload word 0. -/
def engineOf (p : Pkt) : Nat := bitsOf (nth p.payload 0) 0 0

/-- The LENGTH of GEAR_CONFIG (R494): fixed by COUNT within its range, else the overall range, 5 to 98 in its steps of 3, which the spec does
not say to be part of the range. (log 80 DEDUCED) -/
def gearLen (p : Pkt) : Option Nat :=
  let n := bitsOf (nth p.payload 1) 13 8
  if 1 ≤ n && n ≤ 32 then lenIs (2 + 3 * n) p else lenSteps 5 98 3 p

/-- The first word of a ratio list of n entries from payload word 2 on that R320 refuses; BLEND stands in word 1, and is judged where
the positions rise, for only then is there a smallest gap. (log 80 DEDUCED) -/
def gearBad (p : Pkt) (n blend : Nat) : Option Nat :=
  let pos := fun (i : Nat) => (nth p.payload (2 + 3 * i)).toInt
  let rises := (upTo (n - 1)).all fun i => pos i < pos (i + 1)
  if rises && (upTo (n - 1)).any fun i => pos (i + 1) - pos i ≤ 2 * (blend : Int) then some 1
  else (upTo n).findSome? fun i =>
    if 1 ≤ i && pos i ≤ pos (i - 1) then some (2 + 3 * i)
    else if nth p.payload (4 + 3 * i) == 0 || stray 0xFFFF (nth p.payload (4 + 3 * i)) then some (4 + 3 * i) else none

namespace State

/-- The refusals that MOTION_MOVE, MOTION_HOME and an engaging GEAR_CONFIG share (R313, R314, R320, R475): the device state before the
parameters, of which `bad` is the first refused word, and the engine after them (R89). An engine stopped by its memory's parity waits
for its FUNC_REINIT (R26). (log 26 DEDUCED; log 77 DEDUCED) -/
def motionRefusal (s : State) (n : Nat) (bad : Option Nat) : Option Answer :=
  if !s.motionOk then some (ans cBUSY 3)
  else match bad with
    | some k => some (ans cBAD_PARAM k)
    | none => if s.reiniting 3 n || (s.me n).dead || !s.on F.ME_STAT_AT_REST n then some (ans cBUSY 5) else none

/-- UNCERTAIN forbids the motion (R314, R320). -/
def unsure (s : State) (n : Nat) : Bool := s.on F.ME_STAT_UNCERTAIN n && !s.on F.ME_CFG_ALLOW_UNC n

/-- MOTION_MOVE (R314, R315): a target equal to ME_POS completes at once, whatever fraction the position has. -/
def motionMove (s : State) (p : Pkt) : State × Option Answer :=
  let n := engineOf p
  let target := (nth p.payload 1).toInt
  let v := (nth p.payload 2).toNat
  let acc := (nth p.payload 3).toNat
  let pos := s.sg .ME_POS n
  let bad : Option Nat :=
    if s.unsure n then some 0
    else if target != pos && s.meLimit n (pos < target) then some 1
    else if v == 0 || (s.rd .ME_VMAX n).toNat < v then some 2
    else if acc == 0 then some 3
    else none
  match s.motionRefusal n bad with
  | some a => (s, some a)
  | none =>
    let s := (s.defer 0x0400 p n (ans cACCEPTED)).wr .ME_TARGET (wi target) n
    let s := s.meStart n F.ME_STAT_PROFILE fun m => { m with
      move := some .profile, target := target, vmax := v, acc := acc, speed := 0, accel := 0, dir := pos < target }
    (if target == pos then s.meComplete n else s, none)

/-- MOTION_STOP (R316, R317). -/
def motionStop (s : State) (p : Pkt) : State × Option Answer :=
  let n := engineOf p
  let s := if s.on F.ME_STAT_AT_REST n then s else s.meStop n (ans cPREEMPTED)
  (s, some (ok [s.rd .ME_POS n, s.rd .ME_STAT n]))

/-- MOTION_HOME (R323), with the refusal of R314 on its speed ME_HOME_V. (log 79 DEDUCED) -/
def motionHome (s : State) (p : Pkt) : State × Option Answer :=
  let n := engineOf p
  let w := nth p.payload 1
  let cur := bitsOf w 31 16
  let v := s.rd .ME_HOME_V n
  let bad := if stray 0xFFFF0001 w || cur == 0 || s.fld F.AUX_I_LEVELS_I_RUN < cur then some 1
    else if v == 0 || (s.rd .ME_VMAX n).toNat < v.toNat then some 2 else none
  match s.motionRefusal n bad with
  | some a => (s, some a)
  | none =>
    let s := s.defer 0x0402 p n (ans cACCEPTED)
    let from_ := s.mePos n
    (s.meStart n F.ME_STAT_HOMING fun m => { m with
      move := some .homeOut, dir := bitOf w 0, homeI := cur, homeFrom := from_, speed := 0, accel := 0 }, none)

/-- A ratio list with its MASTER, COUNT and BLEND is stored (R320, R330). -/
def gearStore (s : State) (n : Nat) (p : Pkt) (count : Nat) : State :=
  let s := s.wr .ME_GEAR_CFG (nth p.payload 1 &&& 0xFFFF3F07) n
  s.forN (3 * count) fun k s =>
    let w := nth p.payload (2 + k)
    s.wr .ME_GEAR_LIST (if k % 3 == 2 then w &&& 0xFFFF else w) (96 * n + k)

/-- GEAR_CONFIG (R320). (log 80 DEDUCED) -/
def gearConfig (s : State) (p : Pkt) : State × Option Answer :=
  let n := engineOf p
  let w := nth p.payload 1
  let master := bitsOf w 2 0
  let count := bitsOf w 13 8
  let on_ := bitOf w 7
  let bad :=
    if on_ && ((master < 4 && !s.on F.EN_STAT_VALID master) || s.unsure n) || stray 0xFFFF3F87 w || 5 ≤ master || count == 0 || 32 < count
    then some 1 else gearBad p count (bitsOf w 31 16)
  match if on_ then s.motionRefusal n bad else bad.map fun k => ans cBAD_PARAM k with
  | some a => (s, some a)
  | none =>
    let s := if !on_ && s.on F.ME_STAT_GEARED n then s.meStop n (ans cPREEMPTED) else s
    let s := s.gearStore n p count
    (if on_ then s.engage n else s, some (ok))

end State

/-! ## The commands -/

/-- MOTION_MOVE (R314). -/
def cmdMotionMove : Cmd := ⟨0x0400, .deferred, lenIs 4, fun _ p s => s.motionMove p⟩
/-- MOTION_STOP (R317). -/
def cmdMotionStop : Cmd := ⟨0x0401, .immediate, lenIs 1, fun _ p s => s.motionStop p⟩
/-- MOTION_HOME (R323). -/
def cmdMotionHome : Cmd := ⟨0x0402, .deferred, lenIs 2, fun _ p s => s.motionHome p⟩
/-- GEAR_CONFIG (R320). -/
def cmdGearConfig : Cmd := ⟨0x0403, .immediate, gearLen, fun _ p s => s.gearConfig p⟩

/-! ## Meanings -/

/-- MOTION_MOVE. -/
def execMotionMove (p : Pkt) (s : State) : Host.Outcome State Fault Refusal := endWith (s.command cmdMotionMove p)
/-- MOTION_STOP. -/
def execMotionStop (p : Pkt) (s : State) : Host.Outcome State Fault Refusal := endWith (s.command cmdMotionStop p)
/-- MOTION_HOME. -/
def execMotionHome (p : Pkt) (s : State) : Host.Outcome State Fault Refusal := endWith (s.command cmdMotionHome p)
/-- GEAR_CONFIG. -/
def execGearConfig (p : Pkt) (s : State) : Host.Outcome State Fault Refusal := endWith (s.command cmdGearConfig p)

end Sys2Proof.Machine
end

