-- ==== Sys2Proof/Machine/SafetyCmds.lean ====
section
/-!
DEFINITION. Machine/SafetyCmds.lean: the commands of class 0x06xx and the commit of a safety record (R57, R409 to R414, R427, R438,
R451).
-/

namespace Sys2Proof.Machine

/-! ## Values of a record (R409, R414, R427) -/

/-- The entry of RANGE in a row of R409. (log 103 DEDUCED) -/
def rangeRow (range a b c d : Nat) : Nat := match range with | 0 => a | 1 => b | 2 => c | _ => d

/-- A value in pu24 is not negative. -/
def notNeg (w : Word) : Bool := w.toNat < 2 ^ 31

/-- A value in pu24 is not negative and not above tenths of 1.0 pu. -/
def puMax (w : Word) (tenths : Nat) : Bool := notNeg w && 10 * w.toNat ≤ tenths * 2 ^ 24

/-- Word k of a safety parameter record has its values in range (R409, R427): those of no field of the table are not judged. (log 103 DEDUCED) -/
def paramWordOk (r : List Word) (sw : Nat) (fdEn : Nat → Bool) (k : Nat) : Bool :=
  let w := nth r k
  let range := sw / 16 % 4
  let profile := sw % 16
  let ss1 := (profileFuncs profile).testBit 1
  if k == 5 then (!bitOf w 0 || ss1) && 1 ≤ bitsOf w 31 16 && bitsOf w 31 16 ≤ rangeRow range 50 100 200 500
  else if k == 6 then bitsOf w 31 16 ≤ rangeRow range 200 1000 3000 12000
  else if k == 7 || k == 8 then notNeg w
  else if k == 9 then 1 ≤ bitsOf w 15 0 && bitsOf w 15 0 ≤ 60
  else if k < 13 then w == 0
  else if k < 45 then
    match (k - 13) % 8 with
    | 3 | 4 => notNeg w
    | 5 | 6 => puMax w (rangeRow range 10 12 12 15)
    | _ => true
  else
    let c := (k - 45) / 4
    let used := nth r (45 + 4 * c) != 0
    match (k - 45) % 4 with
    | 1 =>
      let dir := bitsOf w 3 2
      let via := bitsOf w 1 0
      !used || (dir != 0 && (dir == 2 || (8 ≤ profile && (via < 2 || fdEn (via - 2)))))
    | 3 => !used || bitsOf w 15 0 ≤ rangeRow range 100 250 500 1000
    | _ => true

/-- Word k of an envelope record has its values in range (R409, R414). (log 103 DEDUCED) -/
def envWordOk (r : List Word) (sw : Nat) (k : Nat) : Bool :=
  let w := nth r k
  let range := sw / 16 % 4
  if k < 37 then
    match (k - 5) % 8 with
    | 0 => puMax w (rangeRow range 15 20 25 30)
    | 1 => puMax w (rangeRow range 10 12 12 15)
    | 2 | 3 | 4 => notNeg w
    | 5 => w &&& 0xFFFFFF81 == 0
    | _ => w == 0
  else
    match (k - 37) % 4 with
    | 0 => w.toNat < 65536
    | 1 => 400 ≤ w.toNat && w.toNat ≤ 2000
    | _ => notNeg w

namespace State

/-- FD_EN of a CAN controller. -/
def canFd (s : State) (c : Nat) : Bool := s.on F.CAN_CTRL_FD_EN c

/-- A value of the record is out of range: its word. (log 103 DEDUCED) -/
def recBad (s : State) (kind : Nat) (r : List Word) : Option Nat :=
  ((upTo (recLen kind - 13)).map (5 + ·)).find? fun k =>
    !(if kind == 1 then paramWordOk r s.sw s.canFd k else envWordOk r s.sw k)

/-- The header of a record (R410): the first word that is wrong. -/
def recHead (s : State) (kind : Nat) (r : List Word) : Option Nat :=
  if nth r 0 != wd (kind + 256) then some 0
  else if nth r 1 != s.rd .SYS_SERIAL_LO then some 1
  else if nth r 2 != s.rd .SYS_SERIAL_HI then some 2
  else if bitsOf (nth r 4) 5 0 != s.sw % 64 then some 4 else none

/-- The TAG of a record (R410). -/
def recTag (s : State) (r : List Word) : List Word :=
  wordsOf 8 (hmac (bytesOf (s.roleKey .installer)) (bytesOf (r.take (r.length - 8))))

/-- The checks of a record in the order of R411. (log 103 DEDUCED) -/
def recRefused (s : State) (kind : Nat) (r : List Word) : Option Answer :=
  let k := bitsOf (nth r 0) 7 0
  if s.sw.testBit 8 then some (ans cSEALED)
  else if !((s.dev == dSAFE || s.dev == dREADY) && s.allDisabled) then some (ans cBUSY 3)
  else if s.lan.loading.isSome then some (ans cBUSY 5)
  else if (k == 1 || k == 2) && r.length != recLen k then some (ans cBAD_LENGTH (recLen k))
  else match s.recHead kind r with
    | some w => some (ans cBAD_PARAM w)
    | none =>
      if s.recStored kind && nth r 3 ≤ s.recWord kind 3 then some (ans cBAD_PARAM 3)
      else if r.drop (r.length - 8) != s.recTag r then some (ans cDENIED_ROLE)
      else (s.recBad kind r).map fun w => ans cBAD_PARAM w

/-- The opcode of a load. -/
abbrev loadOp (kind : Nat) : BitVec 16 := if kind == 1 then 0x0601 else 0x0602

/-- SAFETY_PARAM_LOAD and ENVELOPE_LOAD (R411). -/
def recLoad (s : State) (kind : Nat) (p : Pkt) : State × Option Answer :=
  match s.recRefused kind p.payload with
  | some a => (s, some a)
  | none =>
    let s := s.defer (loadOp kind) p 0 (ans cACCEPTED)
    ({ s with lan := { s.lan with loading := some (kind, p.payload), loadAt := s.tick } }, none)

/-- Who asked for a Deferred command in flight: its session, or the device once that has closed. (log 106 DEDUCED) -/
def flightBy (s : State) (op : BitVec 16) (target : Nat) : By :=
  match s.inFlight op target with
  | f :: _ => match s.roleOf f.pkt.session with | some r => byPkt r f.pkt | none => byDevice
  | [] => byDevice

/-- A record is committed to its place in the NV store and applied (R411 to R413). (log 103 DEDUCED) -/
def recCommit (s : State) (kind : Nat) (r : List Word) : State :=
  let by_ := s.flightBy (loadOp kind) 0
  let old := s.rd .LAN_ID
  let s := { s with nv := { s.nv with mem := Store.write zeroMem s.nv.mem (recAt kind) r } }
  let s := (if kind == 1 then s.applyParam (s.recBody 1) else s.applyEnvelope (s.recBody 2)).showSafety
  s.audit by_ (if kind == 1 then 0x0004 else 0x0005) (nth r 3) old (s.rd .LAN_ID)

/-- The commit of a record under way ends, with the final reply (R411). A failed NV write changes nothing; its fault code is not stated
(R451). (log 103 DEDUCED; log 107 DESIGN CHOICE) -/
def loadEnd (s : State) (nvOk : Bool) : State :=
  match s.lan.loading with
  | none => s
  | some (kind, r) =>
    let s := { s with lan := { s.lan with loading := none } }
    if nvOk then
      let s := s.recCommit kind r
      s.finish (loadOp kind) 0 (ok [s.rd .LAN_ID])
    else
      let (code, s) := s.freeBelow 65536
      s.finish (loadOp kind) 0 (ans cINTERNAL code)

/-! ## SAFETY_STATUS (R438) -/

/-- Bits as a number, the first in bit 0. -/
def bitsNum : List Bool → Nat
  | [] => 0
  | b :: l => b2n b + 2 * bitsNum l

/-- The six words. -/
def safetyStatus (s : State) : List Word :=
  let funcs := profileFuncs s.profile
  let inForce := if s.on F.LAN_STAT_PARAM_VALID && !s.nonsafe then funcs else 0
  let low := bitsNum [s.stoOn, s.stoRel.testBit 0, s.stoRel.testBit 1, s.on F.LAN_STAT_STO_FB, s.on F.LAN_STAT_DISC]
  let brake := bitsNum [s.on F.LAN_STAT_SBC_APPLIED, (s.fld F.LAN_SBC_ON).testBit 0, (s.fld F.LAN_SBC_ON).testBit 1,
    s.on F.LAN_STAT_SBC_FAULT]
  [wd s.sw, s.rd .LAN_ID, wd (low + brake * 2 ^ 8), wd (funcs + inForce * 2 ^ 8 + b2n s.networked * 2 ^ 16),
    wd (s.sw % 64 + b2n (s.on F.LAN_STAT_PARAM_VALID) * 2 ^ 8 + b2n s.envValid * 2 ^ 9),
    wd (bitsNum [s.nonsafe, s.on F.SYS_STATE_SPLIT_A, s.on F.SYS_STATE_SPLIT_B])]

end State

/-! ## The commands -/

/-- SAFETY_STATUS (R438). -/
def cmdSafetyStatus : Cmd := ⟨0x0600, .read, lenIs 0, fun _ _ s => (s, some (ok s.safetyStatus))⟩
/-- SAFETY_PARAM_LOAD (R411): its LENGTH is checked in its body. -/
def cmdSafetyParamLoad : Cmd := ⟨0x0601, .deferred, fun _ => none, fun _ p s => s.recLoad 1 p⟩
/-- ENVELOPE_LOAD (R411). -/
def cmdEnvelopeLoad : Cmd := ⟨0x0602, .deferred, fun _ => none, fun _ p s => s.recLoad 2 p⟩

/-! ## Meanings -/

/-- SAFETY_STATUS. -/
def execSafetyStatus (p : Pkt) (s : State) : Host.Outcome State Fault Refusal := endWith (s.command cmdSafetyStatus p)
/-- SAFETY_PARAM_LOAD. -/
def execSafetyParamLoad (p : Pkt) (s : State) : Host.Outcome State Fault Refusal := endWith (s.command cmdSafetyParamLoad p)
/-- ENVELOPE_LOAD. -/
def execEnvelopeLoad (p : Pkt) (s : State) : Host.Outcome State Fault Refusal := endWith (s.command cmdEnvelopeLoad p)

/-- SAFETY_RECORD_COMMITTED (R411): within 50 ms of its acceptance the record is committed and applied, and the final reply carries the
new identity. (log 103 DEDUCED; log 107 DESIGN CHOICE) -/
def execSafetyRecordCommitted (dt : Nat) (nvOk : Bool) (s : State) : Host.Outcome State Fault Refusal :=
  if s.lan.loading.isNone then endWith (s.elapse dt)
  else endWith ((s.elapse (min dt (s.lan.loadAt + 50 * ticksPerMs - s.tick))).loadEnd nvOk)

end Sys2Proof.Machine
end

