-- ==== Sys2Proof/Machine/NvCmds.lean ====
section
/-!
DEFINITION. Machine/NvCmds.lean: the commands of class 0x0Axx: the non-volatile store and the firmware banks (R77, R81, R100, R111,
R443 to R451, R497).
-/

namespace Sys2Proof.Machine

/-! ## Regions of the NV store (R446) -/

/-- A region of the NV store. -/
inductive Region where
  | boot | key | safety | sealed | config | candle | user | audit | fault | reserved
  deriving DecidableEq, Repr, Inhabited

/-- The region of a byte offset; beyond the store, and in 0x1C_0000 to 0x1F_FFFF, there is none to write. (log 104 DEDUCED) -/
def regionAt (a : Nat) : Region :=
  if a < 0x1000 then .boot else if a < 0x2000 then .key else if a < 0x4000 then .safety else if a < 0x5000 then .sealed
  else if a < 0x40000 then .config else if a < 0x80000 then .candle else if a < 0x100000 then .user
  else if a < 0x140000 then .audit else if a < 0x1C0000 then .fault else .reserved

/-- A role may write a region at all (R440, R446); the key region is judged with its slot (R444). (log 105 DEDUCED) -/
def regionWrite (r : Role) : Region → Bool
  | .user => true
  | .sealed | .config => r != .operator
  | .key => true
  | _ => false

/-- The role whose key slot begins at an offset (R446). -/
def keySlot (a : Nat) : Option Role :=
  if a == 0x1000 then some .operator else if a == 0x1020 then some .installer else if a == 0x1040 then some .maker else none

/-- The key slots that a role may set (R444). -/
def maySetKey (r slot : Role) : Bool :=
  match r with | .maker => true | .installer => slot != .maker | .operator => false

namespace State

/-! ## NV_READ (R497) -/

/-- A word of a log in storage order: slots of sixteen words. (log 104 DEDUCED) -/
def logStored (recs : List (Nat × List Word)) (k : Nat) : Word :=
  match recs.find? fun x => x.1 == k / 16 with
  | some x => nth x.2 (k % 16)
  | none => 0

/-- Word w of the NV store as it reads (R445, R446, R497). (log 104 DEDUCED) -/
def nvRead (s : State) (w : Nat) : Word × State :=
  match regionAt (4 * w) with
  | .audit => (logStored (s.flt.audit.map fun r => (r.seq.toNat % 4096, r.toWords)) (w - 0x40000), s)
  | .fault => (logStored (s.flt.log.map fun r => (r.seq.toNat % 8192, r.toWords)) (w - 0x50000), s)
  | .key | .reserved => (0, s)
  | _ => s.nvWord w

/-- NV_READ. (log 105 DEDUCED) -/
def nvReadCmd (s : State) (p : Pkt) : State × Option Answer :=
  let a := (nth p.payload 0).toNat
  let n := (nth p.payload 1).toNat
  if a % 4 != 0 || 0x200000 ≤ a then (s, some (ans cBAD_PARAM))
  else if maxLength p.via < n + 1 || 0x200000 < a + 4 * n then (s, some (ans cBAD_PARAM 1))
  else
    let (s, vs) := (upTo n).foldl (fun (q : State × List Word) k => let (v, s) := q.1.nvRead (a / 4 + k); (s, q.2 ++ [v])) (s, [])
    (s, some (ok vs))

/-! ## NV_WRITE (R447) -/

/-- Words are written into the key region: a key of eight words on a slot that the session's role may set (R444). (log 105 DEDUCED) -/
def keyWrite (s : State) (r : Role) (p : Pkt) (a : Nat) (ws : List Word) : State × Option Answer :=
  if p.via != .spi || r == .operator then (s, some (ans cDENIED_ROLE))
  else match keySlot a with
    | none => (s, some (ans cBAD_PARAM))
    | some k =>
      if ws.length != 8 then (s, some (ans cBAD_PARAM))
      else if !maySetKey r k then (s, some (ans cDENIED_ROLE))
      else
        let s := { s with nv := { s.nv with keys := s.nv.keys.set (roleCode k) (some ws) }, hst := { s.hst with keyClose := some k } }
        (s.audit (byPkt r p) 0x0006 (wd (roleCode k)) 0 0, some (ok))

/-- A slot that held no valid record at BOOT counts no longer once it is empty or holds a valid one (R448). (log 105 DEDUCED) -/
def mendSlots (s : State) : State :=
  { s with nv := { s.nv with badSlots := s.nv.badSlots.filter fun k => !(s.slotWord k 0 == 0 || s.slotGood k) } }

/-- NV_WRITE. (log 105 DEDUCED; log 107 DESIGN CHOICE) -/
def nvWriteCmd (s : State) (r : Role) (p : Pkt) : State × Option Answer :=
  let a := (nth p.payload 0).toNat
  let ws := p.payload.drop 1
  let last := a + 4 * ws.length - 4
  let g := regionAt a
  if a % 4 != 0 || g == .reserved || regionAt last != g then (s, some (ans cBAD_PARAM))
  else if !regionWrite r g then (s, some (ans cDENIED_ROLE))
  else if g == .key then s.keyWrite r p a ws
  else
    let s := { s with nv := { s.nv with mem := Store.write zeroMem s.nv.mem (a / 4) ws } }
    let s := if g == .user then s else s.audit (byPkt r p) 0x0003 (wd a) (wd ws.length) (crcWords ws)
    (if g == .config then s.mendSlots else s, some (ok))

/-! ## Firmware (R449, R450) -/

/-- No axis is enabled (R77): each is DISABLED or FAULTED, as those that an FR5 stopped are. (log 106 DEDUCED) -/
def noneEnabled (s : State) : Bool := (upTo 4).all fun a => s.axSt a == aDISABLED || s.axSt a == aFAULTED

/-- The device states in which FW_LOAD and FW_ACTIVATE are accepted (R77, R450). -/
def fwMay (s : State) : Bool := s.dev == dSAFE || s.dev == dREADY || s.dev == dUPDATE

/-- The words of the inactive bank are replaced. -/
def setIdle (s : State) (m : Store) : State :=
  { s with nv := if s.nv.bootB then { s.nv with bankA := m } else { s.nv with bankB := m } }

/-- The size of a flash bank in bytes. -/
abbrev bankSize : Nat := 8 * 2 ^ 20

/-- FW_LOAD. (log 106 DEDUCED) -/
def fwLoad (s : State) (p : Pkt) : State × Option Answer :=
  let w := nth p.payload 0
  let a := (nth p.payload 1).toNat
  let ws := p.payload.drop 2
  if bitOf w 0 == s.nv.bootB then (s, some (ans cBAD_PARAM))
  else if (a != 0 && s.nv.loadNext != some a) || bankSize < a + 4 * ws.length then
    ({ s with nv := { s.nv with loadNext := none } }, some (ans cBAD_PARAM 1))
  else if !s.fwMay || !s.noneEnabled then (s, some (ans cBUSY 3))
  else if s.nv.verifying.isSome then (s, some (ans cBUSY 5))
  else
    let s := if a == 0 then (s.setIdle []).markBank (!s.nv.bootB) false else s
    let s := s.setIdle (Store.write zeroMem (s.bank (!s.nv.bootB)) (a / 4) ws)
    let s := s.setDev dUPDATE 0 false
    if bitOf w 8 then
      let s := s.defer 0x0A02 p 0 (ans cACCEPTED)
      ({ s with nv := { s.nv with loadNext := none, verifying := some s.tick } }, none)
    else ({ s with nv := { s.nv with loadNext := some (a + 4 * ws.length) } }, some (ok))

/-- FW_ACTIVATE: BOOT follows its reply (R72, R450). (log 106 DEDUCED) -/
def fwActivate (s : State) (r : Role) (p : Pkt) : State × Option Answer :=
  let b := bitOf (nth p.payload 0) 0
  if b != s.nv.bootB && !nth s.nv.verified (b2n b) then (s, some (ans cBAD_PARAM))
  else if !s.fwMay || !s.allDisabled then (s, some (ans cBUSY 3))
  else
    let old := s.bankVersion s.nv.bootB
    let s := { s with nv := { s.nv with bootB := b }, hst := { s.hst with bootNext := true } }
    (s.audit (byPkt r p) 0x000A (wd (b2n b)) old (s.bankVersion b), some (ok))

/-- The verification of a loaded image ends (R449). (log 106 DEDUCED) -/
def verifyEnd (s : State) : State :=
  let b := !s.nv.bootB
  let by_ := s.flightBy 0x0A02 0
  let s := { s with nv := { s.nv with verifying := none } }
  if s.bankOk b then
    let s := s.audit by_ 0x0009 (wd (b2n b)) (s.bankVersion (!b)) (s.bankVersion b)
    (s.markBank b true).finish 0x0A02 0 (ok)
  else
    let s := (s.raise 0x7072).finish 0x0A02 0 (ans cINTERNAL 0x7072)
    if s.sys.updBootsel || s.dev != dUPDATE then s else s.setDev dSAFE

end State

/-! ## The commands -/

/-- NV_READ (R497). -/
def cmdNvRead : Cmd := ⟨0x0A00, .read, lenIs 2, fun _ p s => s.nvReadCmd p⟩
/-- NV_WRITE (R447). -/
def cmdNvWrite : Cmd := ⟨0x0A01, .immediate, lenMin 2, fun r p s => s.nvWriteCmd r p⟩
/-- FW_LOAD (R449). -/
def cmdFwLoad : Cmd := ⟨0x0A02, .immediate, lenMin 3, fun _ p s => s.fwLoad p⟩
/-- FW_ACTIVATE (R450). -/
def cmdFwActivate : Cmd := ⟨0x0A03, .immediate, lenIs 1, fun r p s => s.fwActivate r p⟩

/-! ## Meanings -/

/-- NV_READ. -/
def execNvRead (p : Pkt) (s : State) : Host.Outcome State Fault Refusal := endWith (s.command cmdNvRead p)
/-- NV_WRITE. -/
def execNvWrite (p : Pkt) (s : State) : Host.Outcome State Fault Refusal := endWith (s.command cmdNvWrite p)
/-- FW_LOAD. -/
def execFwLoad (p : Pkt) (s : State) : Host.Outcome State Fault Refusal := endWith (s.command cmdFwLoad p)
/-- FW_ACTIVATE. -/
def execFwActivate (p : Pkt) (s : State) : Host.Outcome State Fault Refusal := endWith (s.command cmdFwActivate p)

/-- FW_VERIFY_DONE (R449): within 60 ms of the segment with LAST. -/
def execFwVerifyDone (dt : Nat) (s : State) : Host.Outcome State Fault Refusal :=
  match s.nv.verifying with
  | none => endWith (s.elapse dt)
  | some t => endWith (s.elapse (min dt (t + 60 * ticksPerMs - s.tick))).verifyEnd

end Sys2Proof.Machine
end

