-- ==== Sys2Proof/Machine/Commands.lean ====
section
/-!
DEFINITION. Machine/Commands.lean: the opcode table as a whole, packets with other opcodes, and the command transport of the CAN
controllers: frames received, segments assembled (R97, R108, R109, R366, R369, R372, R375, R378).
-/

namespace Sys2Proof.Machine

/-- The commands of the opcode table (R97). -/
def commands : List Cmd :=
  [cmdEcho, cmdGetInfo, cmdSessionOpen, cmdSessionAuth, cmdSessionClose, cmdDeviceReset, cmdFuncReinit, cmdStateRequest] ++
  [cmdRegRead, cmdRegWrite, cmdRegModify, cmdBlockRead] ++
  [cmdAxisConfig, cmdAxisEnable, cmdAxisDisable, cmdAxisSetpoint, cmdAxisMode, cmdAxisStatus, cmdAxisEmergency] ++
  [cmdMotionMove, cmdMotionStop, cmdMotionHome, cmdGearConfig] ++
  [cmdActionPost, cmdActionCancel, cmdActionList, cmdMemberJoin, cmdMemberStatus] ++
  [cmdSafetyStatus, cmdSafetyParamLoad, cmdEnvelopeLoad, cmdIoRead, cmdIoWrite, cmdIoRestore] ++
  [cmdLogRead, cmdAuditRead, cmdFaultAck, cmdStreamConfig, cmdCaptureArm] ++
  [cmdNvRead, cmdNvWrite, cmdFwLoad, cmdFwActivate, cmdCandleReport, cmdMarginReplan]

/-- The command of an opcode; none for an opcode outside the table, class 0x0Bxx included. (log 22 DESIGN CHOICE) -/
def commandOf (opcode : BitVec 16) : Option Cmd := commands.find? fun c => c.opcode == opcode.toNat

/-- The segments of a packet of so many words bring so many bytes (R108): its own, and padding that the last frame has room for, which is
ignored. (log 23 DEDUCED) -/
def segmentsFit (fd : Bool) (words bytes : Nat) : Bool :=
  let room := if fd then 63 else 7
  let last := (4 * words - 1) % room + 1
  decide (4 * words ≤ bytes) && decide (bytes ≤ 4 * words - last + room)

namespace State

/-- A packet assembled from segments is received (R89, R109); fewer bytes than its header never pass HCRC. (log 22 DESIGN CHOICE; log 23 DEDUCED) -/
def canPacket (s : State) (c : Nat) (bytes : List Byte) (fate : Fate) : State :=
  if bytes.length < 16 then { s with hst := { s.hst with hdrErrors := s.hst.hdrErrors + 1 } }
  else
    let ws := wordsOf 1048 bytes
    let w0 := nth ws 0
    let w1 := nth ws 1
    let n := bitsOf w1 15 0
    let whole := segmentsFit (s.on F.CAN_CMD_REQ_FD c) (packetSize n) bytes.length
    let opcode := BitVec.ofNat 16 (bitsOf w0 15 0)
    let p : Pkt := {
      dt := 0, via := if c == 0 then .can0 else .can1, srcIp := 0, srcPort := 0, dstIp := 0, dstPort := 0, fragment := false
      tag := BitVec.ofNat 8 (bitsOf w0 23 16), flags := BitVec.ofNat 8 (bitsOf w0 31 24)
      length := BitVec.ofNat 16 n, unit := BitVec.ofNat 16 (bitsOf w1 31 16), session := nth ws 2, hcrc := nth ws 3
      payload := (ws.drop 4).take n, pcrc := nth ws (4 + n), frame := if whole then packetSize n else 0, rivals := fate.rivals
      moved := fate.moved, fails := fate.fails, errs := fate.errs, out := fate.out, nvFails := fate.nvFails }
    s.receive opcode (commandOf opcode) p

/-- The packet under assembly on a controller. -/
def assembly (s : State) (c : Nat) : Option Assembly := nth s.hst.asm c

/-- The packet under assembly on a controller is replaced. -/
def setAssembly (s : State) (c : Nat) (a : Option Assembly) : State := { s with hst := { s.hst with asm := s.hst.asm.set c a } }

/-- The packet under assembly, if any, is discarded and counted (R109). (log 23 DEDUCED) -/
def dropAssembly (s : State) (c : Nat) : State :=
  if (s.assembly c).isSome then
    let s := s.setAssembly c none
    { s with hst := { s.hst with asmDropped := s.hst.asmDropped + 1 } }
  else s

/-- A segment of a request arrives (R108, R109); `fate` is that of the packet it completes. A segment that is not FIRST without a packet under assembly, and a frame without a
segment byte, bring nothing. (log 23 DEDUCED) -/
def segmentIn (s : State) (c : Nat) (data : List Byte) (fate : Fate) : State :=
  match data with
  | [] => s
  | b :: bytes =>
    let seq := b.toNat % 64
    let s := match s.assembly c with
      | some a => if a.at_ + 50 * ticksPerMs < s.tick then s.dropAssembly c else s
      | none => s
    let go := fun (s : State) (bs : List Byte) =>
      if b.getLsbD 6 then (s.setAssembly c none).canPacket c bs fate else s.setAssembly c (some ⟨bs, (seq + 1) % 64, s.tick⟩)
    if b.getLsbD 7 then
      let s := s.dropAssembly c
      if seq == 0 then go s bytes else s
    else match s.assembly c with
      | some a => if seq == a.seq then go s (a.bytes ++ bytes) else s.dropAssembly c
      | none => s

/-- A frame is on the request identifier in the format of the command transport (R378). -/
def isRequest (s : State) (c : Nat) (f : BusFrame) : Bool :=
  s.canCmd c && !s.reiniting 0x10 c && f.id == s.fld F.CAN_CMD_REQ_ID c && f.ide == s.on F.CAN_CMD_REQ_IDE c && !f.rtr &&
    f.fdf == s.on F.CAN_CMD_REQ_FD c

/-- A frame is the reference message of the schedule (R375). -/
def isReference (s : State) (c : Nat) (f : BusFrame) : Bool :=
  s.on F.CAN_CTRL_TT_EN c && s.fld F.CAN_TT_CFG_REF c == 1 && f.id == s.fld F.CAN_TT_REF_ID c &&
    f.ide == s.on F.CAN_TT_REF_IDE c && !f.data.isEmpty

/-- A frame from the bus ends without error on a controller; its start was `sof` ticks ago. -/
def frameIn (s : State) (c : Nat) (f : BusFrame) (sof : Nat) (fate : Fate) : State :=
  let s := match (s.canR c).attempt with | some t => s.attemptLost c t | none => s
  let (t, s) := s.sofStamp sof
  let s := if s.isReference c f then s.refMessage c sof (f.data.headD 0).toNat else s
  let s := (s.canGood c).canStore c f t
  let s := if s.isRequest c f then s.segmentIn c (f.data.take (dlcBytes f.fdf f.dlc)) fate else s
  s.canFrameEnd c

end State

/-! ## Meanings -/

/-- BAD_OPCODE (R97): a packet whose opcode the table may not hold. (log 22 DESIGN CHOICE) -/
def execBadOpcode (opcode : BitVec 16) (p : Pkt) (s : State) : Host.Outcome State Fault Refusal :=
  endWith ((s.elapse p.dt).receive opcode (commandOf opcode) p)

/-- CAN_FRAME_RX (R366, R372, R375, R378): a frame of another node, received without error by a controller on the bus; in internal loopback
there is none. A frame that was on the bus when INIT 1 was written ends before INIT takes effect (R362). (log 93 DEDUCED) -/
def execCanFrameRx (can : Fin 2) (dt sof : Nat) (id : BitVec 29) (ide rtr fdf brs esi : Bool) (dlc : Fin 16) (data : List Byte)
    (fate : Fate) (s : State) : Host.Outcome State Fault Refusal :=
  let s := s.elapse dt
  let f : State.BusFrame := ⟨id.toNat, ide, rtr, fdf, brs, esi, dlc, data⟩
  let last := match (s.canR can).stopAt with | some t => decide (s.tick < t + sof) | none => false
  if s.fld F.CAN_CTRL_MODE can == 2 then endWith s
  else if s.canOn can then endWith (s.frameIn can f sof fate)
  else if last then
    endWith (((s.frameIn can f sof fate).setF F.CAN_STAT_STATE 3 can).updCan can fun r => { r with stopAt := none })
  else endWith s

/-- CAN_CMD_SEGMENT_TIMEOUT (R109): 50 ms after its last segment a packet under assembly is discarded. (log 23 DEDUCED) -/
def execCanCmdSegmentTimeout (can : Fin 2) (s : State) : Host.Outcome State Fault Refusal :=
  match s.assembly can with
  | none => endWith s
  | some a => endWith ((s.elapseTo (a.at_ + 50 * ticksPerMs + 1)).dropAssembly can)

end Sys2Proof.Machine
end

