-- ==== Sys2Proof/Machine/FieldIo.lean ====
section
/-!
DEFINITION. Machine/FieldIo.lean: field inputs and outputs, the barrier link, the field supply (R393 to R404).
-/

namespace Sys2Proof.Machine

namespace State

/-- The field side of the barrier changes. -/
def setFio (s : State) (f : Fio → Fio) : State := { s with fio := f s.fio }

/-- Both sides of the barrier are powered (R64). -/
def fieldUp (s : State) : Bool := s.sys.phase != .unpowered

/-! ## Inputs (R393, R394) -/

/-- The settings that the next logic-to-field frame carries. -/
def fieldSet (s : State) : FieldSet :=
  ⟨s.rd .FIO_SAFE, s.rd .FIO_CFG, (upTo 3).map fun m => s.rd .FIO_DI_FILT m, s.rd .FIO_DI_WB⟩

/-- The field side detects a wire break on input n. -/
def wireBreak (s : State) (n : Nat) : Bool := bitOf s.fio.set.wb n

/-- The class of an input voltage in mV: none where the previous state is kept, else the state, none for broken. A voltage on the
border of two bands counts to either. (log 95 DEDUCED) -/
def classify (s : State) (n : Nat) (mv : Int) : Option (Option Bool) × State :=
  let (b, s) := s.freeBit
  let v := 2 * mv + if b then 1 else -1
  let above := fun (volts : Int) => 2000 * volts < v
  let c : Option (Option Bool) :=
    if s.wireBreak n then
      if above 15 then some (some true) else if above 9 then none else if above 3 then some (some false)
      else if above 2 then none else some none
    else if above 11 then some (some true) else if above 5 then none else some (some false)
  (c, s)

/-- FILT of input n in samples of 25 µs. -/
def filtSamples (s : State) (n : Nat) : Nat := 40 * bitsOf (nth s.fio.set.filt (n / 8)) (4 * (n % 8) + 3) (4 * (n % 8))

/-- One sample of an input passes its filter. -/
def filtStep (lim : Nat) (c : Option (Option Bool)) (f : DiFilt) : DiFilt :=
  let v := c.getD f.cand
  let f := if v == f.cand then { f with held := f.held + 1 } else { f with cand := v, held := 0 }
  if lim ≤ f.held then { f with state := f.cand, fresh := false } else f

/-- An input is invalid on the field side: broken, VF low, or no state accepted afresh. -/
def diInvalid (s : State) (n : Nat) : Bool := let f := nth s.fio.filts n; f.state.isNone || s.fio.vfLow || f.fresh

/-- Every filter begins afresh. -/
def filtFresh (s : State) : State :=
  s.setFio fun f => { f with filts := f.filts.map fun x => { x with held := 0, fresh := true } }

/-! ## Frames -/

/-- A condition that holds FIO_FAULT on: VF low, a broken input, an off output that reads high. -/
def fieldCond (s : State) : Bool :=
  s.fio.vfLow || (s.fio.filts.any fun f => f.state.isNone) || ((upTo 16).any fun n => s.fio.high.getLsbD n && !s.doLevel n)

/-- The frame that the field side sends now. (log 95 DEDUCED) -/
def fieldIn (s : State) : FieldIn :=
  let bits := fun (p : Nat → Bool) => (upTo 24).foldl (fun (w : BitVec 24) n => if p n then w ||| (1#24 <<< n) else w) 0
  ⟨bits fun n => (nth s.fio.filts n).state == some true && !s.diInvalid n, bits s.diInvalid, s.fio.event || s.fieldCond⟩

/-- The levels that a logic-to-field frame commands: the compare list's on the outputs it owns, else FIO_DO. (log 95 DEDUCED) -/
def fieldCmd (s : State) : BitVec 16 :=
  let own := BitVec.ofNat 16 (s.fld F.CMP_OUT_SEL_DO_MASK)
  (s.fio.cmpLv &&& own) ||| (BitVec.ofNat 16 (s.fld F.FIO_DO_CMD) &&& ~~~own)

/-- A logic-to-field frame arrives at the field side (R401, R404): outputs that it wakes or restores leave their safe state; a restored
one is released from hold-off unless VF is low, and from latch-off unless it was latched since the last frame. (log 95 DEDUCED) -/
def fieldTake (s : State) (o : FieldOut) : State :=
  s.setFio fun f =>
    { f with
      cmd := o.cmd, safe := f.safe &&& ~~~(o.wake ||| o.restore)
      heldOff := if f.vfLow then f.heldOff else f.heldOff &&& ~~~o.restore
      latched := f.latched &&& (~~~o.restore ||| f.newLatch)
      newLatch := 0, fieldAt := s.tick, silent := false, set := o.set }

/-- FIO_FAULT rises for a cause of the field side (R403). (log 96 DEDUCED) -/
def fieldFault (s : State) : State :=
  if s.on F.FIO_STAT_FIO_FAULT then s
  else ((s.setF F.FIO_STAT_FIO_FAULT 1).bump F.FIO_FAULT_CNT_COUNT).raise 0x6001

end State

/-! ## Meanings -/

/-- The barrier link's cycle: one frame in each direction every 100 µs (R22). -/
abbrev linkCycle : Nat := 100 * ticksPerUs

/-- FIELD_FRAME_TX (R22, R73, R400, R401): the logic side, once BOOT has started the link, starts a frame, a link cycle after the one
before, which arrives at the field side now unless its CRC is wrong there; what it named is then named again. (log 95 DEDUCED) -/
def execFieldFrameTx (dt : Nat) (ok : Bool) (s : State) : Host.Outcome State Fault Refusal :=
  let s := s.elapseFrom dt (s.fio.outAt + linkCycle)
  if !s.linked then endWith s
  else
    let s := match s.fio.sent with
      | some o =>
        if ok then s.fieldTake o
        else s.setFio fun f => { f with wake := f.wake ||| o.wake, restore := f.restore ||| o.restore }
      | none => s
    let o : FieldOut := ⟨s.fieldCmd, s.fio.wake, s.fio.restore, s.fieldSet⟩
    endWith ((s.setFio fun f => { f with sent := some o, wake := 0, restore := 0, outAt := s.tick }).emit (.field o.cmd))

/-- FIELD_FRAME_RX (R22, R394, R395, R402, R403): the frame that the field side started a link cycle before arrives; one with a CRC error
is discarded and counted. The first one, and the first after a loss, only begins the inputs' filters afresh. (log 95 DEDUCED) -/
def execFieldFrameRx (dt : Nat) (ok : Bool) (s : State) : Host.Outcome State Fault Refusal :=
  let s := s.elapseFrom dt (s.fio.inAt + linkCycle)
  if !s.linked then endWith s
  else
    let now := s.fieldIn
    let was := s.fio.back
    let s := s.setFio fun f => { f with back := some now, event := false, inAt := s.tick }
    match was with
    | none => endWith s
    | some b =>
      if !ok then endWith ((s.setFio fun f => { f with event := f.event || b.fault }).bump F.FIO_LINK_ERR_COUNT)
      else
        let first := !s.on F.FIO_STAT_LINK
        let s := s.setFio fun f => { f with logicAt := s.tick, lost := false }
        let s := (s.setF F.FIO_STAT_LINK 1).setF F.SYS_CLK_STAT_FIELD_LINK 1
        let s : State :=
          if first then ((s.filtFresh.setFio fun f => { f with back := some { now with invalid := BitVec.allOnes 24 } }).wr
            .FIO_DI 0).wr .FIO_DI_INVALID 0xFFFFFF
          else (s.wr .FIO_DI (wd (b.state &&& ~~~b.invalid).toNat)).wr .FIO_DI_INVALID (wd b.invalid.toNat)
        endWith (if b.fault then s.fieldFault else s)

/-- FIELD_INPUT_SAMPLE (R393): the field side samples its inputs, in mV, every 25 µs. -/
def execFieldInputSample (dt : Nat) (mv : List Int) (s : State) : Host.Outcome State Fault Refusal :=
  let s := s.elapseFrom dt (s.fio.sampledAt + 25 * ticksPerUs)
  if !s.fieldUp then endWith s
  else
    let s := s.setFio fun f => { f with sampledAt := s.tick }
    endWith (s.forN 24 fun n s =>
      let (c, s) := s.classify n (nth mv n)
      s.setFio fun f => { f with filts := upd f.filts n (State.filtStep (s.filtSamples n) c) })

/-- The outputs, as bits, that meet a condition. -/
def outsThat (p : Nat → Bool) : BitVec 16 := (upTo 16).foldl (fun (w : BitVec 16) n => if p n then w ||| (1#16 <<< n) else w) 0

/-- The outputs that currents in mA overload (R396, R397): one that is on and in its current limit of 1.2 A, and every one that is on in a
group of four whose total is above 1.5 A. -/
def overloaded (s : State) (ma : List Nat) : BitVec 16 :=
  outsThat fun n => s.doLevel n && (1200 ≤ nth ma n || 1500 < ((ma.drop (4 * (n / 4))).take 4).sum)

/-- DO_CURRENT_LIMIT_LATCH (R397, R482): the outputs carry these currents, in mA, and have done so for `held` ticks; one overloaded for more
than 10 ms is latched off, and so at once is one that is on and among `hot`, those at their thermal limit. -/
def execDoCurrentLimitLatch (dt : Nat) (ma : List Nat) (held : Nat) (hot : BitVec 16) (s : State) : Host.Outcome State Fault Refusal :=
  let s := s.elapse dt
  let outs := outsThat (fun n => s.doLevel n && hot.getLsbD n) ||| if 10 * ticksPerMs < held then overloaded s ma else 0
  endWith (if !s.fieldUp || outs == 0 then s
    else s.setFio fun f => { f with latched := f.latched ||| outs, newLatch := f.newLatch ||| outs, event := true })

/-- DO_READBACK_FAULT (R398): the terminals read these voltages, in mV, and have done so for `held` ticks: an output that has read above 6 V
for more than 2 ms is reported while it is commanded off, until it reads lower. -/
def execDoReadbackFault (dt : Nat) (mv : List Int) (held : Nat) (s : State) : Host.Outcome State Fault Refusal :=
  let s := s.elapse dt
  let high := outsThat fun n => 6000 < nth mv n
  endWith (if !s.fieldUp then s
    else s.setFio fun f => { f with high := if 2 * ticksPerMs < held then high else f.high &&& high })

/-- VF_LOW (R399): VF is at this many mV and has been for `held` ticks; below 18 V for more than 1 ms it is low. -/
def execVfLow (dt mv held : Nat) (s : State) : Host.Outcome State Fault Refusal :=
  let s := s.elapse dt
  endWith (if s.fieldUp && mv < 18000 && ticksPerMs < held then
    s.setFio fun f => { f with vfLow := true, heldOff := 0xFFFF, event := true } else s)

/-- VF_RESTORED (R399): VF is at this many mV and has been for `held` ticks; above 19.5 V for 10 ms it is back. -/
def execVfRestored (dt mv held : Nat) (s : State) : Host.Outcome State Fault Refusal :=
  let s := s.elapse dt
  if !s.fio.vfLow || mv ≤ 19500 || held < 10 * ticksPerMs then endWith s
  else
    let auto : BitVec 16 := (bitsOf s.fio.set.cfg F.FIO_CFG_AUTO_RESTORE.hi F.FIO_CFG_AUTO_RESTORE.lo : Nat)
    endWith (s.filtFresh.setFio fun f => { f with vfLow := false, heldOff := f.heldOff &&& ~~~auto })

/-- BARRIER_TIMEOUT (R402): the field side has had no valid frame for TMO ms; a reset of the logic side is no silence. (log 2 DESIGN CHOICE) -/
def execBarrierTimeout (s : State) : Host.Outcome State Fault Refusal :=
  if s.sys.phase != .up || s.fio.silent then endWith s
  else
    let s := s.elapseTo (s.fio.fieldAt + bitsOf s.fio.set.cfg F.FIO_CFG_TMO.hi F.FIO_CFG_TMO.lo * ticksPerMs)
    endWith (s.doSafe.setFio fun f => { f with silent := true })

/-- FIELD_LINK_LOST (R73, R402): the logic side, whose link BOOT has started, has had no valid frame for 1 ms. (log 95 DEDUCED) -/
def execFieldLinkLost (s : State) : Host.Outcome State Fault Refusal :=
  if s.fio.lost || !s.linked then endWith s
  else
    let s := s.elapseTo (s.fio.logicAt + ticksPerMs)
    let s := (s.setFio fun f => { f with lost := true, back := none }).setF F.FIO_STAT_LINK 0
    let s := (s.setF F.SYS_CLK_STAT_FIELD_LINK 0).wr .FIO_DI_INVALID 0xFFFFFF
    endWith (((s.wr .FIO_DI 0).setF F.FIO_STAT_FIO_FAULT 1).raise 0x6002)

end Sys2Proof.Machine
end

