-- ==== Sys2Proof/Machine/PowerEvents.lean ====
section
/-!
DEFINITION. Machine/PowerEvents.lean: the logic supply leaves its range and falls away (R66 to R68).
-/

namespace Sys2Proof.Machine

namespace State

/-- The supply leaves its range (R66, R67): the off sequences, the auxiliary bridge high impedance, the reaction of the code, and the
commit of the NV records under way and of the lifetime counters (R468). (log 111 DEDUCED) -/
def supplyOff (s : State) (code : Nat) : State := ((s.offAll.auxStop code true).loadEnd true).saveCounters.raise code

/-- The supply falls below 17.0 V. -/
def supplyFalls (s : State) : State :=
  if s.sys.supplyLow then s else ({ s with sys := { s.sys with supplyLow := true, lowAt := s.tick } }).supplyOff 0x7030

end State

/-! ## Meanings -/

/-- LOGIC_SUPPLY_LOW (R66 to R68). -/
def execLogicSupplyLow (dt : Nat) (s : State) : Host.Outcome State Fault Refusal :=
  let s := s.elapse dt
  endWith (if s.sys.phase == .unpowered then s else s.supplyFalls)

/-- LOGIC_SUPPLY_HIGH (R66). -/
def execLogicSupplyHigh (dt : Nat) (s : State) : Host.Outcome State Fault Refusal :=
  let s := s.elapse dt
  endWith (if s.sys.phase == .unpowered || s.sys.supplyHigh then s
    else ({ s with sys := { s.sys with supplyHigh := true } }).supplyOff 0x7032)

/-- LOGIC_SUPPLY_LOST (R66, R67): on its way down the supply has passed 17.0 V, and for 2 ms from there the module works on; then the
internal reset, which the next BOOT logs. A record whose commit began on the way down is committed too. (log 111 DEDUCED) -/
def execLogicSupplyLost (dt : Nat) (s : State) : Host.Outcome State Fault Refusal :=
  let s := s.elapse dt
  if s.sys.phase == .unpowered then endWith s
  else
    let s := s.supplyFalls
    let s := ((s.elapseTo (s.sys.lowAt + 2 * ticksPerMs)).offNow.loadEnd true).resetAll true
    endWith { s with sys := { s.sys with phase := .unpowered, powerLost := true } }

end Sys2Proof.Machine
end

