-- ==== Sys2Proof/Machine/Dispatch.lean ====
section
/-!
DEFINITION. Machine/Dispatch.lean: one arm per command, each a call of that command's meaning.
-/

namespace Sys2Proof.Machine

def exec (i : Instr) (s : State) : Host.Outcome State Fault Refusal :=
  match i with
  | .echo p => Sys2Proof.Machine.execEcho p s
  | .getInfo p => Sys2Proof.Machine.execGetInfo p s
  | .sessionOpen p => Sys2Proof.Machine.execSessionOpen p s
  | .sessionAuth p => Sys2Proof.Machine.execSessionAuth p s
  | .sessionClose p => Sys2Proof.Machine.execSessionClose p s
  | .deviceReset p => Sys2Proof.Machine.execDeviceReset p s
  | .deviceResetApply dt => Sys2Proof.Machine.execDeviceResetApply dt s
  | .funcReinit p => Sys2Proof.Machine.execFuncReinit p s
  | .funcReinitDone func inst dt ok => Sys2Proof.Machine.execFuncReinitDone func inst dt ok s
  | .stateRequest p => Sys2Proof.Machine.execStateRequest p s
  | .regRead p => Sys2Proof.Machine.execRegRead p s
  | .regWrite p => Sys2Proof.Machine.execRegWrite p s
  | .regModify p => Sys2Proof.Machine.execRegModify p s
  | .blockRead p => Sys2Proof.Machine.execBlockRead p s
  | .axisConfig p => Sys2Proof.Machine.execAxisConfig p s
  | .axisEnable p => Sys2Proof.Machine.execAxisEnable p s
  | .axisDisable p => Sys2Proof.Machine.execAxisDisable p s
  | .axisSetpoint p => Sys2Proof.Machine.execAxisSetpoint p s
  | .axisMode p => Sys2Proof.Machine.execAxisMode p s
  | .axisStatus p => Sys2Proof.Machine.execAxisStatus p s
  | .axisEmergency p => Sys2Proof.Machine.execAxisEmergency p s
  | .motionMove p => Sys2Proof.Machine.execMotionMove p s
  | .moveComplete me => Sys2Proof.Machine.execMoveComplete me s
  | .motionStop p => Sys2Proof.Machine.execMotionStop p s
  | .motionHome p => Sys2Proof.Machine.execMotionHome p s
  | .homeComplete me => Sys2Proof.Machine.execHomeComplete me s
  | .gearConfig p => Sys2Proof.Machine.execGearConfig p s
  | .actionPost p => Sys2Proof.Machine.execActionPost p s
  | .actionCancel p => Sys2Proof.Machine.execActionCancel p s
  | .actionList p => Sys2Proof.Machine.execActionList p s
  | .memberJoin p => Sys2Proof.Machine.execMemberJoin p s
  | .memberJoinListenEnd => Sys2Proof.Machine.execMemberJoinListenEnd s
  | .memberStatus p => Sys2Proof.Machine.execMemberStatus p s
  | .safetyStatus p => Sys2Proof.Machine.execSafetyStatus p s
  | .safetyParamLoad p => Sys2Proof.Machine.execSafetyParamLoad p s
  | .envelopeLoad p => Sys2Proof.Machine.execEnvelopeLoad p s
  | .safetyRecordCommitted dt nvOk => Sys2Proof.Machine.execSafetyRecordCommitted dt nvOk s
  | .ioRead p => Sys2Proof.Machine.execIoRead p s
  | .ioWrite p => Sys2Proof.Machine.execIoWrite p s
  | .ioRestore p => Sys2Proof.Machine.execIoRestore p s
  | .logRead p => Sys2Proof.Machine.execLogRead p s
  | .auditRead p => Sys2Proof.Machine.execAuditRead p s
  | .faultAck p => Sys2Proof.Machine.execFaultAck p s
  | .streamConfig p => Sys2Proof.Machine.execStreamConfig p s
  | .captureArm p => Sys2Proof.Machine.execCaptureArm p s
  | .captureComplete dt => Sys2Proof.Machine.execCaptureComplete dt s
  | .nvRead p => Sys2Proof.Machine.execNvRead p s
  | .nvWrite p => Sys2Proof.Machine.execNvWrite p s
  | .fwLoad p => Sys2Proof.Machine.execFwLoad p s
  | .fwVerifyDone dt => Sys2Proof.Machine.execFwVerifyDone dt s
  | .fwActivate p => Sys2Proof.Machine.execFwActivate p s
  | .candleReport p => Sys2Proof.Machine.execCandleReport p s
  | .marginReplan p => Sys2Proof.Machine.execMarginReplan p s
  | .spiCsFall dt => Sys2Proof.Machine.execSpiCsFall dt s
  | .spiCsRise dt words idle cut => Sys2Proof.Machine.execSpiCsRise dt words idle cut s
  | .replyBufferSpace dt => Sys2Proof.Machine.execReplyBufferSpace dt s
  | .canCmdSegmentTimeout can => Sys2Proof.Machine.execCanCmdSegmentTimeout can s
  | .arpRequest dt port target sender moved out => Sys2Proof.Machine.execArpRequest dt port target sender moved out s
  | .icmpEchoRequest dt src dst data fragment moved out => Sys2Proof.Machine.execIcmpEchoRequest dt src dst data fragment moved out s
  | .sessionAuthTimeout session => Sys2Proof.Machine.execSessionAuthTimeout session s
  | .authLockoutEnd role => Sys2Proof.Machine.execAuthLockoutEnd role s
  | .registerWrite addr c => Sys2Proof.Machine.execRegisterWrite addr c s
  | .rcCounterRead dt addr by_ hwInc => Sys2Proof.Machine.execRcCounterRead dt addr by_ hwInc s
  | .pairLoRead dt addr by_ => Sys2Proof.Machine.execPairLoRead dt addr by_ s
  | .brCommit b c => Sys2Proof.Machine.execBrCommit b c s
  | .axTuneCommit a c => Sys2Proof.Machine.execAxTuneCommit a c s
  | .pwmCtrlRunWrite c => Sys2Proof.Machine.execPwmCtrlRunWrite c s
  | .bridgeStart b => Sys2Proof.Machine.execBridgeStart b s
  | .leCtrlCheck e c => Sys2Proof.Machine.execLeCtrlCheck e c s
  | .staticCheckDone e dt => Sys2Proof.Machine.execStaticCheckDone e dt s
  | .leCtrlRunWrite e c => Sys2Proof.Machine.execLeCtrlRunWrite e c s
  | .leMdataAccess e dt access => Sys2Proof.Machine.execLeMdataAccess e dt access s
  | .enPosWrite ch c => Sys2Proof.Machine.execEnPosWrite ch c s
  | .enCfgChange ch reg c => Sys2Proof.Machine.execEnCfgChange ch reg c s
  | .cmpRangeArm ch c => Sys2Proof.Machine.execCmpRangeArm ch c s
  | .sysUnitWrite c => Sys2Proof.Machine.execSysUnitWrite c s
  | .sysSplitWrite c => Sys2Proof.Machine.execSysSplitWrite c s
  | .axTLoadWrite a c => Sys2Proof.Machine.execAxTLoadWrite a c s
  | .axPlHoldRelease a c => Sys2Proof.Machine.execAxPlHoldRelease a c s
  | .obsKeMeasure a c => Sys2Proof.Machine.execObsKeMeasure a c s
  | .keMeasureWindowEnd a dt => Sys2Proof.Machine.execKeMeasureWindowEnd a dt s
  | .obsKeRefWrite a c commission => Sys2Proof.Machine.execObsKeRefWrite a c commission s
  | .mePosWrite me c => Sys2Proof.Machine.execMePosWrite me c s
  | .merSetHiWrite c => Sys2Proof.Machine.execMerSetHiWrite c s
  | .merSetDrop => Sys2Proof.Machine.execMerSetDrop s
  | .cdlRebaseWrite c => Sys2Proof.Machine.execCdlRebaseWrite c s
  | .lanSbcReqWrite c => Sys2Proof.Machine.execLanSbcReqWrite c s
  | .fioDoWrite c => Sys2Proof.Machine.execFioDoWrite c s
  | .canInitWrite can c => Sys2Proof.Machine.execCanInitWrite can c s
  | .canInitReleaseDone can dt => Sys2Proof.Machine.execCanInitReleaseDone can dt s
  | .canTxreqSet can hi c => Sys2Proof.Machine.execCanTxreqSet can hi c s
  | .canTxCancel can hi c => Sys2Proof.Machine.execCanTxCancel can hi c s
  | .canMbWord0Read can mb dt by_ => Sys2Proof.Machine.execCanMbWord0Read can mb dt by_ s
  | .canMbLastwRead can mb dt by_ => Sys2Proof.Machine.execCanMbLastwRead can mb dt by_ s
  | .canLockTimeout can mb => Sys2Proof.Machine.execCanLockTimeout can mb s
  | .nop u => Sys2Proof.Machine.execNop u s
  | .mov u d a => Sys2Proof.Machine.execMov u d a s
  | .lil u d imm => Sys2Proof.Machine.execLil u d imm s
  | .lih u d imm => Sys2Proof.Machine.execLih u d imm s
  | .add u d a b => Sys2Proof.Machine.execAdd u d a b s
  | .sub u d a b => Sys2Proof.Machine.execSub u d a b s
  | .neg u d a => Sys2Proof.Machine.execNeg u d a s
  | .abs u d a => Sys2Proof.Machine.execAbs u d a s
  | .minReg u d a b => Sys2Proof.Machine.execMinReg u d a b s
  | .maxReg u d a b => Sys2Proof.Machine.execMaxReg u d a b s
  | .clip u d a b => Sys2Proof.Machine.execClip u d a b s
  | .andReg u d a b => Sys2Proof.Machine.execAndReg u d a b s
  | .orReg u d a b => Sys2Proof.Machine.execOrReg u d a b s
  | .xorReg u d a b => Sys2Proof.Machine.execXorReg u d a b s
  | .shl u d a sh => Sys2Proof.Machine.execShl u d a sh s
  | .shr u d a sh => Sys2Proof.Machine.execShr u d a sh s
  | .addw u d a b => Sys2Proof.Machine.execAddw u d a b s
  | .subw u d a b => Sys2Proof.Machine.execSubw u d a b s
  | .mulc u d a k => Sys2Proof.Machine.execMulc u d a k s
  | .mul u d a b => Sys2Proof.Machine.execMul u d a b s
  | .mulw u d a b => Sys2Proof.Machine.execMulw u d a b s
  | .mac u a k n => Sys2Proof.Machine.execMac u a k n s
  | .accr u d n sh => Sys2Proof.Machine.execAccr u d n sh s
  | .accz u n => Sys2Proof.Machine.execAccz u n s
  | .sincos u d a => Sys2Proof.Machine.execSincos u d a s
  | .atan2 u d a b => Sys2Proof.Machine.execAtan2 u d a b s
  | .div u d a b => Sys2Proof.Machine.execDiv u d a b s
  | .sqrt u d a => Sys2Proof.Machine.execSqrt u d a s
  | .ld u d a off => Sys2Proof.Machine.execLd u d a off s
  | .st u d a off => Sys2Proof.Machine.execSt u d a off s
  | .inReg u d a off => Sys2Proof.Machine.execInReg u d a off s
  | .outReg u d a off rivals => Sys2Proof.Machine.execOutReg u d a off rivals s
  | .mbr u d => Sys2Proof.Machine.execMbr u d s
  | .mbw u d => Sys2Proof.Machine.execMbw u d s
  | .tst u a => Sys2Proof.Machine.execTst u a s
  | .cmp u a b => Sys2Proof.Machine.execCmp u a b s
  | .branch u cond target => Sys2Proof.Machine.execBranch u cond target s
  | .loop u passes len => Sys2Proof.Machine.execLoop u passes len s
  | .endTask u => Sys2Proof.Machine.execEndTask u s
  | .taskRelease e slot => Sys2Proof.Machine.execTaskRelease e slot s
  | .taskStart e => Sys2Proof.Machine.execTaskStart e s
  | .taskDeadline e slot => Sys2Proof.Machine.execTaskDeadline e slot s
  | .sampleInstant a => Sys2Proof.Machine.execSampleInstant a s
  | .sdValueAvailable ch bits => Sys2Proof.Machine.execSdValueAvailable ch bits s
  | .enSpeedUpdate dt ch => Sys2Proof.Machine.execEnSpeedUpdate dt ch s
  | .encoderEdge dt ch a b held errs => Sys2Proof.Machine.execEncoderEdge dt ch a b held errs s
  | .comparePulseEnd => Sys2Proof.Machine.execComparePulseEnd s
  | .pulseEdge dt ch rising b held since errs => Sys2Proof.Machine.execPulseEdge dt ch rising b held since errs s
  | .indexEvent dt ch rising held => Sys2Proof.Machine.execIndexEvent dt ch rising held s
  | .ssiFrame dt ch raw par err errs => Sys2Proof.Machine.execSsiFrame dt ch raw par err errs s
  | .encoderLineFault dt ch line => Sys2Proof.Machine.execEncoderLineFault dt ch line s
  | .encSupplyOverload dt ch => Sys2Proof.Machine.execEncSupplyOverload dt ch s
  | .encSupplyRetry ch => Sys2Proof.Machine.execEncSupplyRetry ch s
  | .hallEdge dt h level held => Sys2Proof.Machine.execHallEdge dt h level held s
  | .aiConversion dt n code => Sys2Proof.Machine.execAiConversion dt n code s
  | .overcurrentFast dt ch bits => Sys2Proof.Machine.execOvercurrentFast dt ch bits s
  | .sdStreamFault dt ch bits => Sys2Proof.Machine.execSdStreamFault dt ch bits s
  | .gsEdge dt levels held => Sys2Proof.Machine.execGsEdge dt levels held s
  | .blankWindowEnd g => Sys2Proof.Machine.execBlankWindowEnd g s
  | .offSeqInner => Sys2Proof.Machine.execOffSeqInner s
  | .gateRailLow dt => Sys2Proof.Machine.execGateRailLow dt s
  | .chopperEval dt bits => Sys2Proof.Machine.execChopperEval dt bits s
  | .auxPeriodUpdate hb par => Sys2Proof.Machine.execAuxPeriodUpdate hb par s
  | .auxCurrentSample hb xcs => Sys2Proof.Machine.execAuxCurrentSample hb xcs s
  | .auxOvercurrent dt mv held => Sys2Proof.Machine.execAuxOvercurrent dt mv held s
  | .auxUvlo dt x => Sys2Proof.Machine.execAuxUvlo dt x s
  | .logicSupplyLow dt => Sys2Proof.Machine.execLogicSupplyLow dt s
  | .logicSupplyLost dt => Sys2Proof.Machine.execLogicSupplyLost dt s
  | .logicSupplyBack dt => Sys2Proof.Machine.execLogicSupplyBack dt s
  | .logicSupplyHigh dt => Sys2Proof.Machine.execLogicSupplyHigh dt s
  | .vdrvUndervoltage dt => Sys2Proof.Machine.execVdrvUndervoltage dt s
  | .vdrvRestored dt => Sys2Proof.Machine.execVdrvRestored dt s
  | .resetPin dt nanos taken => Sys2Proof.Machine.execResetPin dt nanos taken s
  | .bootEnd dt seen => Sys2Proof.Machine.execBootEnd dt seen s
  | .sw1Poll dt word => Sys2Proof.Machine.execSw1Poll dt word s
  | .clockSupervisionWindow dt off => Sys2Proof.Machine.execClockSupervisionWindow dt off s
  | .pwmRefReturn dt => Sys2Proof.Machine.execPwmRefReturn dt s
  | .pwmTimeCompare dt slip => Sys2Proof.Machine.execPwmTimeCompare dt slip s
  | .scrubRead dt flips => Sys2Proof.Machine.execScrubRead dt flips s
  | .ptpSync dt h twoStep interval origin => Sys2Proof.Machine.execPtpSync dt h twoStep interval origin s
  | .ptpFollowUp dt h origin => Sys2Proof.Machine.execPtpFollowUp dt h origin s
  | .ptpDelayResp dt h rxAt => Sys2Proof.Machine.execPtpDelayResp dt h rxAt s
  | .ptpPdelayReq dt h out => Sys2Proof.Machine.execPtpPdelayReq dt h out s
  | .ptpPdelayResp dt h twoStep rxAt => Sys2Proof.Machine.execPtpPdelayResp dt h twoStep rxAt s
  | .ptpPdelayRespFollowUp dt h txAt => Sys2Proof.Machine.execPtpPdelayRespFollowUp dt h txAt s
  | .ptpAnnounce dt h rank interval tai utc utcValid => Sys2Proof.Machine.execPtpAnnounce dt h rank interval tai utc utcValid s
  | .ppsInEdge dt => Sys2Proof.Machine.execPpsInEdge dt s
  | .meridianUnlocked => Sys2Proof.Machine.execMeridianUnlocked s
  | .meridianHoldoverExpired => Sys2Proof.Machine.execMeridianHoldoverExpired s
  | .ppsOutPulse => Sys2Proof.Machine.execPpsOutPulse s
  | .actionLaunch rivals errs => Sys2Proof.Machine.execActionLaunch rivals errs s
  | .actionLateLaunch rivals errs => Sys2Proof.Machine.execActionLateLaunch rivals errs s
  | .actionRetainExpiry => Sys2Proof.Machine.execActionRetainExpiry s
  | .powerHoldExpiry a => Sys2Proof.Machine.execPowerHoldExpiry a s
  | .beaconTx out => Sys2Proof.Machine.execBeaconTx out s
  | .beaconRx dt f => Sys2Proof.Machine.execBeaconRx dt f s
  | .roleDead role => Sys2Proof.Machine.execRoleDead role s
  | .cyclicFrameRx dt f => Sys2Proof.Machine.execCyclicFrameRx dt f s
  | .actionFrameRx dt f => Sys2Proof.Machine.execActionFrameRx dt f s
  | .canFrameRx can dt sof id ide rtr fdf brs esi dlc data fate => Sys2Proof.Machine.execCanFrameRx can dt sof id ide rtr fdf brs esi dlc data fate s
  | .canTxComplete can dt tdcv => Sys2Proof.Machine.execCanTxComplete can dt tdcv s
  | .canBusoffRecovery can dt => Sys2Proof.Machine.execCanBusoffRecovery can dt s
  | .canTxdDominant can dt => Sys2Proof.Machine.execCanTxdDominant can dt s
  | .canTtCycleStart can => Sys2Proof.Machine.execCanTtCycleStart can s
  | .canTtColumnStart can => Sys2Proof.Machine.execCanTtColumnStart can s
  | .canTtWindowEnd can => Sys2Proof.Machine.execCanTtWindowEnd can s
  | .linkReset dt value sent => Sys2Proof.Machine.execLinkReset dt value sent s
  | .credit dt value => Sys2Proof.Machine.execCredit dt value s
  | .nak dt value sent => Sys2Proof.Machine.execNak dt value sent s
  | .streamFrameStart dt bad => Sys2Proof.Machine.execStreamFrameStart dt bad s
  | .stclkLost dt sent => Sys2Proof.Machine.execStclkLost dt sent s
  | .fieldFrameTx dt ok => Sys2Proof.Machine.execFieldFrameTx dt ok s
  | .fieldFrameRx dt ok => Sys2Proof.Machine.execFieldFrameRx dt ok s
  | .fieldInputSample dt mv => Sys2Proof.Machine.execFieldInputSample dt mv s
  | .doCurrentLimitLatch dt ma held hot => Sys2Proof.Machine.execDoCurrentLimitLatch dt ma held hot s
  | .doReadbackFault dt mv held => Sys2Proof.Machine.execDoReadbackFault dt mv held s
  | .vfLow dt mv held => Sys2Proof.Machine.execVfLow dt mv held s
  | .vfRestored dt mv held => Sys2Proof.Machine.execVfRestored dt mv held s
  | .barrierTimeout => Sys2Proof.Machine.execBarrierTimeout s
  | .fieldLinkLost => Sys2Proof.Machine.execFieldLinkLost s
  | .stoLowAccepted dt chB held => Sys2Proof.Machine.execStoLowAccepted dt chB held s
  | .stoReleaseAccepted dt chB held => Sys2Proof.Machine.execStoReleaseAccepted dt chB held s
  | .stoDiscrepancy dt => Sys2Proof.Machine.execStoDiscrepancy dt s
  | .safeSpeedUpdate dt => Sys2Proof.Machine.execSafeSpeedUpdate dt s
  | .ss1End dt => Sys2Proof.Machine.execSs1End dt s
  | .vdcLoCompare dt bits => Sys2Proof.Machine.execVdcLoCompare dt bits s
  | .sbcTestPulse dt okA okB => Sys2Proof.Machine.execSbcTestPulse dt okA okB s
  | .safetyPduTx dt conn out => Sys2Proof.Machine.execSafetyPduTx dt conn out s
  | .safetyPduRx dt src pdu moved => Sys2Proof.Machine.execSafetyPduRx dt src pdu moved s
  | .safetyWdExpiry conn => Sys2Proof.Machine.execSafetyWdExpiry conn s
  | .lockstepDigest dt pairB equal => Sys2Proof.Machine.execLockstepDigest dt pairB equal s
  | .lockstepResyncDone dt pairB => Sys2Proof.Machine.execLockstepResyncDone dt pairB s
  | .lockstepMismatch dt pairB => Sys2Proof.Machine.execLockstepMismatch dt pairB s
  | .catchEnd a dt => Sys2Proof.Machine.execCatchEnd a dt s
  | .alignComplete a dt => Sys2Proof.Machine.execAlignComplete a dt s
  | .relockDecision a dt => Sys2Proof.Machine.execRelockDecision a dt s
  | .relockRampEnd a => Sys2Proof.Machine.execRelockRampEnd a s
  | .stopComplete a dt => Sys2Proof.Machine.execStopComplete a dt s
  | .sourceHoldExpiry a => Sys2Proof.Machine.execSourceHoldExpiry a s
  | .leverHostTimeout a => Sys2Proof.Machine.execLeverHostTimeout a s
  | .torqueProvingEnd a => Sys2Proof.Machine.execTorqueProvingEnd a s
  | .renderEnd a => Sys2Proof.Machine.execRenderEnd a s
  | .shareImbalance a => Sys2Proof.Machine.execShareImbalance a s
  | .droopRestore a => Sys2Proof.Machine.execDroopRestore a s
  | .circulatingCurrent a => Sys2Proof.Machine.execCirculatingCurrent a s
  | .npImbalance b dt => Sys2Proof.Machine.execNpImbalance b dt s
  | .dieTempSample dt deci => Sys2Proof.Machine.execDieTempSample dt deci s
  | .replanPeriodic => Sys2Proof.Machine.execReplanPeriodic s
  | .replanComplete dt ro osc nv => Sys2Proof.Machine.execReplanComplete dt ro osc nv s
  | .candleWindow => Sys2Proof.Machine.execCandleWindow s
  | .candleCounterSave => Sys2Proof.Machine.execCandleCounterSave s
  | .resetRelease dt => Sys2Proof.Machine.execResetRelease dt s
  | .logicSupplyHighGone dt => Sys2Proof.Machine.execLogicSupplyHighGone dt s
  | .gateRailRestored dt => Sys2Proof.Machine.execGateRailRestored dt s
  | .encoderLineRestored dt ch => Sys2Proof.Machine.execEncoderLineRestored dt ch s
  | .commandEdge => Sys2Proof.Machine.execCommandEdge s
  | .canStartOfFrame can dt => Sys2Proof.Machine.execCanStartOfFrame can dt s
  | .canArbitrationLost can dt => Sys2Proof.Machine.execCanArbitrationLost can dt s
  | .canErrorFrame can dt lec dom exempt tdcv => Sys2Proof.Machine.execCanErrorFrame can dt lec dom exempt tdcv s
  | .stclkPresent dt => Sys2Proof.Machine.execStclkPresent dt s
  | .backChannelParityError dt => Sys2Proof.Machine.execBackChannelParityError dt s
  | .sbcOutputFault dt outB energised => Sys2Proof.Machine.execSbcOutputFault dt outB energised s
  | .jtagAccess dt ins => Sys2Proof.Machine.execJtagAccess dt ins s
  | .badOpcode opcode p => Sys2Proof.Machine.execBadOpcode opcode p s
  | .cutThroughForward dt port sync corr residence => Sys2Proof.Machine.execCutThroughForward dt port sync corr residence s
  | .ptpDelayReq dt port out => Sys2Proof.Machine.execPtpDelayReq dt port out s

end Sys2Proof.Machine
end

