-- ==== Sys2Proof/Safety.lean ====
section
/-!
DEFINITION. Safety.lean: the words that statements are made of: how a command ends, what it leaves alone, when a packet is carried out,
when an engine instruction issues, what the pins show.
-/

namespace Sys2Proof.Machine

/-- A command ends in a next state of which P holds. -/
def Ends (c : Instr) (s : State) (P : State → Prop) : Prop := ∃ t, exec c s = .next t ∧ P t

/-- No completed STO or SS1 demand waits to take the device to READY (R77): nothing but the pins is left to follow a command. -/
def Calm (s : State) : Prop := s.lan.doneWait = false

/-! ## What a command leaves alone -/

/-- The bits of a register that follow other state at the end of every command: FAULT# and ALERT# in SYS_FAULT (R82), STO_FB,
SLS_ACTIVE and SBC_APPLIED in LAN_STAT (R421, R423, R424), the brake outputs and their read-back in LAN_SBC (R424). -/
def pinBits (r : RegId) : Word :=
  match r with
  | .SYS_FAULT => 0x03000000
  | .LAN_STAT => 0x0000001A
  | .LAN_SBC => 0x00000F00
  | _ => 0

/-- The registers but those listed are the same in two states, the pin bits apart. -/
def SameRegs (but : List (RegId × Nat)) (s t : State) : Prop :=
  ∀ r i, i < 65536 → (r, i) ∉ but → t.rd r i &&& ~~~pinBits r = s.rd r i &&& ~~~pinBits r

/-- The parts of the state beside the registers and the clocks. -/
inductive Part where
  | queue | free | sram | outs | sessions | flight | cache | spi | host | errors | latched | logs | sys | trans | gate | pwm | ax | lan | nv | em | share
  | mot | fio | eng | obs | ai | mer | lamp | mem | feed | str | cdl | can
  deriving DecidableEq, Repr

/-- The supplies, clocks and switches without the levels of the pins, the phase, the time of the last transition and test access. -/
def Sys.others (y : Sys) : Sys :=
  { y with
    faultLow := false, alertLow := false, spiRdy := false, spiIrqLow := false, phase := .up, lastTrans := none, arbAt := none, debugOpen := false,
    jtagIr := .bypass }

/-- A part is the same in two states. In `sys` and `lan` the levels of the pins and the times of the brake and of SLS, which follow other
state, do not count, and debug access may have ended (R54); the phase and the time of the last transition are a part of their own. -/
def Part.same (p : Part) (s t : State) : Prop :=
  match p with
  | .queue => t.pending = s.pending
  | .free => t.free = s.free
  | .sram => t.sram = s.sram
  | .outs => t.outs = s.outs
  | .sessions => t.hst.sessions = s.hst.sessions ∧ t.hst.challenges = s.hst.challenges ∧ t.hst.wrong = s.hst.wrong ∧
      t.hst.lockout = s.hst.lockout
  | .flight => t.hst.flight = s.hst.flight
  | .cache => t.hst.cache = s.hst.cache ∧ t.hst.interims = s.hst.interims
  | .spi => t.hst.spiQueue = s.hst.spiQueue ∧ t.hst.spiSent = s.hst.spiSent ∧ t.hst.spiWaiting = s.hst.spiWaiting ∧
      t.hst.spiBusy = s.hst.spiBusy ∧ t.hst.spiHad = s.hst.spiHad ∧ t.hst.spiIgnore = s.hst.spiIgnore ∧ t.hst.spiDiscard = s.hst.spiDiscard ∧
      t.hst.spiStatus = s.hst.spiStatus
  | .host => t.hst.latches = s.hst.latches ∧ t.hst.asm = s.hst.asm ∧ t.hst.asmDropped = s.hst.asmDropped
  | .errors => t.hst.hdrErrors = s.hst.hdrErrors ∧ t.hst.cmdErrors = s.hst.cmdErrors
  | .latched => t.flt.latched = s.flt.latched ∧ t.flt.unacked = s.flt.unacked ∧ t.flt.alertAt = s.flt.alertAt
  | .logs => t.flt.log = s.flt.log ∧ t.flt.nextSeq = s.flt.nextSeq ∧ t.flt.audit = s.flt.audit ∧ t.flt.nextAudit = s.flt.nextAudit
  | .sys => t.sys.others = s.sys.others ∧ (t.sys.debugOpen = true → s.sys.debugOpen = true) ∧
      (t.sys.jtagIr = s.sys.jtagIr ∨ t.sys.jtagIr = .bypass)
  | .trans => t.sys.phase = s.sys.phase ∧ t.sys.lastTrans = s.sys.lastTrans
  | .gate => t.gate = s.gate
  | .pwm => t.pwm = s.pwm
  | .ax => t.ax = s.ax
  | .lan => { t.lan with slsSince := none, sbcTestAt := 0 } = { s.lan with slsSince := none, sbcTestAt := 0 }
  | .nv => t.nv = s.nv
  | .em => t.em = s.em
  | .share => t.share = s.share
  | .mot => t.mot = s.mot
  | .fio => t.fio = s.fio
  | .eng => t.eng = s.eng
  | .obs => t.obs = s.obs
  | .ai => t.ai = s.ai
  | .mer => t.mer = s.mer
  | .lamp => t.lamp = s.lamp
  | .mem => t.mem = s.mem
  | .feed => t.feed = s.feed
  | .str => t.str = s.str
  | .cdl => t.cdl = s.cdl
  | .can => t.can = s.can

/-- Everything but the parts and registers listed, the clocks and the pins is the same in two states. -/
def Kept (parts : List Part) (regs : List (RegId × Nat)) (s t : State) : Prop :=
  (∀ p, p ∉ parts → p.same s t) ∧ SameRegs regs s t

/-- The clocks of two states are the same. -/
def SameClocks (s t : State) : Prop := t.tick = s.tick ∧ t.merTime = s.merTime ∧ t.pwmTime = s.pwmTime

/-! ## Command packets (R83 to R102) -/

/-- The state in which a packet's command executes: time has passed, an earlier reply under its tag is gone (R92). -/
def at_ (s : State) (p : Pkt) : State :=
  let s := s.elapse p.dt
  { s with hst := { s.hst with
    cache := s.hst.cache.filter fun x => !State.sameTag x.pkt p, interims := s.hst.interims.filter fun x => !State.sameTag x.1 p } }

/-- A packet with the command c passes steps 1 to 12 of R89 under a role, names no bit its opcode does not have, and is addressed to
this unit alone, so that it is carried out and answered (R83 to R92, R96, R102). -/
structure Carried (s : State) (c : Cmd) (p : Pkt) (r : Role) : Prop where
  /-- No earlier command has left an order for its end (R444, R450). -/
  idle : s.hst.keyClose = none ∧ s.hst.bootNext = false
  /-- The transport receives packets (R73, R108). -/
  heard : (s.elapse p.dt).hears p = true
  /-- It came through the shared SRAM and so does its reply, its own fabric transfers and its NV write succeed, and it meets no memory
  error (R24, R27, R451). -/
  came : p.moved = ⟨0, 0⟩ ∧ (∀ n ∈ p.fails, n = 0) ∧ p.nvFails = false ∧ p.out = ⟨0, 0⟩ ∧ p.errs = []
  /-- Steps 1 to 3: HCRC, the unit, REPLY clear. -/
  header : p.hcrc = crcWords (headWords (BitVec.ofNat 16 c.opcode) p)
  here : (s.elapse p.dt).addressed p.unit.toNat = true
  request : p.flags.getLsbD 0 = false
  single : grouped p = false
  /-- Steps 4 and 5: the framing, the length, PCRC. -/
  whole : p.length.toNat ≤ maxLength p.via ∧ p.payload.length = p.length.toNat ∧
    (p.via = .spi ∨ p.frame = packetSize p.length.toNat)
  crc : p.length.toNat = 0 ∨ p.pcrc = crcWords p.payload
  /-- Step 6: the tag is free, or its reply is kept and the packet is no retry of it. -/
  fresh : (s.elapse p.dt).tagRule (BitVec.ofNat 16 c.opcode) p = none
  /-- Steps 7 to 12: room, FLAGS, the session's right, the device state, LENGTH. -/
  may : (s.elapse p.dt).judge (some c) p = .inr r
  /-- Step 13, first part: no bit outside the named fields of the first payload word. -/
  named : stray (wordZero c.opcode) (nth p.payload 0) = false

/-- A reply packet goes to its transport between two states (R93, R104, R106, R109): over UDP it leaves, over SPI it is queued or waits for room, over
CAN its segments are queued while the command transport is on. (log 9 DESIGN CHOICE) -/
def Sent (s t : State) (p : Pkt) (r : Reply) : Prop :=
  match r.via with
  | .udp => t.outs = .reply r :: s.outs ∧ t.hst.spiQueue = s.hst.spiQueue ∧ t.hst.spiWaiting = s.hst.spiWaiting ∧ t.can = s.can
  | .spi => t.outs = s.outs ∧ t.can = s.can ∧
      (if s.fitsNow r then t.hst.spiQueue = s.hst.spiQueue ++ [r] ∧ t.hst.spiWaiting = s.hst.spiWaiting
       else t.hst.spiQueue = s.hst.spiQueue ∧ t.hst.spiWaiting = s.hst.spiWaiting ++ [(r, p)])
  | .can0 => t.outs = s.outs ∧ t.hst.spiQueue = s.hst.spiQueue ∧ t.hst.spiWaiting = s.hst.spiWaiting ∧ t.can = (s.queueCan 0 r).can
  | .can1 => t.outs = s.outs ∧ t.hst.spiQueue = s.hst.spiQueue ∧ t.hst.spiWaiting = s.hst.spiWaiting ∧ t.can = (s.queueCan 1 r).can

/-- The parts that a reply goes into. -/
abbrev replyParts : List Part := [.cache, .spi, .outs, .can]

/-- The replies kept under a packet's tag that stay when it is refused at step 13 of R89, as those of earlier commands (R91, R92). -/
def outlives (s : State) (op : BitVec 16) (p : Pkt) (a : Answer) : List Cached :=
  if a.status = cBAD_PARAM then s.hst.cache.filter fun x => State.sameTag x.pkt p && !identical x.opcode op x.pkt p else []

/-- A final answer: its reply is sent, and kept in the cache unless the command is a Read, in place of the older replies of its tag unless
it is a refusal at step 13 (R88, R89, R92). -/
def Answered (s t : State) (c : Cmd) (p : Pkt) (a : Answer) : Prop :=
  let r := mkReply s (BitVec.ofNat 16 c.opcode) p a
  Sent s t p r ∧ t.hst.flight = s.hst.flight ∧
    t.hst.cache = (if c.kind = .read then [] else [⟨BitVec.ofNat 16 c.opcode, p, r⟩]) ++
      (s.hst.cache.filter fun x => !State.sameTag x.pkt p) ++ outlives s (BitVec.ofNat 16 c.opcode) p a

/-- A Deferred command has started: its interim reply is sent, and it is in flight for its target (R90, R94). -/
def Started (s t : State) (c : Cmd) (p : Pkt) (target : Nat) (a : Answer) : Prop :=
  let r := mkReply s (BitVec.ofNat 16 c.opcode) p a
  Sent s t p r ∧
    t.hst.flight = s.hst.flight ++ [⟨BitVec.ofNat 16 c.opcode, p, if s.fitsNow r then some r else none, target⟩]

/-! ## Register accesses (R30, R113 to R118) -/

/-- What a writer leaves beside the register: a host's audit records (R451), the retry flag of an engine (R188) or of a motion engine. -/
def writerParts (w : Writer) : List Part :=
  match w with
  | .host _ => [.logs]
  | .le _ | .oe _ => [.eng]
  | .me _ => [.mot]
  | _ => []

/-- One plain write reaches a register alone in its cycle, arrives at once and is refused by no rule: the right, the legal values, the
block's rule, the envelope, a power hold; `new` is the word that the access codes of R3 leave. -/
structure Lands (s : State) (r : RegId) (i : Nat) (c : WCycle) (w : Write) (new : Word) : Prop where
  alone : c.ws = [w] ∧ c.hwSet = 0
  plain : w.kind = .plain ∧ State.failsOf w = 0
  right : ((s.elapse c.dt).early r i (reqOf w)).2 = none
  word : new = (s.elapse c.dt).compose r i w.who w.who.mayRl w.value
  value : (s.elapse c.dt).badValue r i (reqOf w) new = false
  rule : (s.elapse c.dt).changeRule r i (reqOf w) new = none
  within : (s.elapse c.dt).beyondEnv r i new = false
  allowed : w.who.inside = false ∨ (w.value ^^^ s.rd r i) &&& State.rlMask r = 0
  unheld : (s.elapse c.dt).heldAt r i = none

/-- The registers whose write has an effect of a rule of its block beside the new word. -/
def actingRegs : List RegId :=
  [.BR_COMMIT, .AX_TUNE_COMMIT, .PWM_CTRL, .LE_CTRL, .LE_MDATA, .LE_MBX_OPTR, .LE_MBX_IPTR, .LE_TASK_BUDGET, .EN_POS, .EN_CFG, .EN_CPR,
    .EN_IDX_CFG, .EN_SSI_CFG, .EN_SSI_TIM, .CMP_RANGE, .H_CFG, .AX_PLIM, .AX_PLIM_GEN, .AX_PL_HOLD, .AX_SP_HOST, .AX_CFG, .BR_CFG,
    .CHOP_CFG, .GC_CFG, .BR_MAP0, .BR_MAP1, .BR_MAP2, .AX_KP_ID, .AX_KI_ID, .AX_KP_IQ, .AX_KI_IQ, .AX_KP_SPD, .AX_KI_SPD, .AX_KP_POS,
    .AX_KP_TEN, .AX_KI_TEN, .AX_KP_CIRC, .AX_KI_CIRC, .AX_KI_FW, .AX_SH_KS, .AX_SH_CFG, .SNS_GUARD, .GATE_AUX_CFG, .ME_POS, .OBS_KE_REF,
    .OBS_KE_CFG, .MER_SET_HI, .MER_CFG, .CAN_CTRL, .CDL_CTRL, .STR_CTRL, .SYS_SPLIT, .CAN_TXREQ_LO, .CAN_TXREQ_HI, .EN_IDX_REF,
    .H_SECT_OFS, .SNS_CTRL, .SD_CFG]

/-- Registers that take any word: one field, RW, of 32 bits, with no legal range, no rule of its block, no bound of the envelope and no
effect of its write. -/
def plainRegs : List RegId :=
  [.SYS_SCRATCH, .AX_RAMP_ACC, .AX_RAMP_DEC, .AX_RAMP_JERK, .AX_TEN_K, .AX_PULSE_SCALE, .BR_VD, .BR_VQ, .BR_V0, .BR_THETA, .BR_OMEGA,
    .AI_GAIN, .AI_OFFSET]

/-- A read of a register by an initiator has no effect and gives the present word: no RC field, no half of a pair, no latch, no
CAN buffer, no engine memory (R3, R118, R203, R365). -/
structure Quiet (s : State) (by_ : Initiator) (r : RegId) (i : Nat) : Prop where
  still : highOf r i = none ∧ r ≠ .CAN_MB ∧ r ≠ .LE_MDATA ∧ ∀ f ∈ r.fields, f.acc ≠ .rc
  unlatched : ∀ l ∈ s.hst.latches, l.by_ = by_ → l.addr ≠ r.addr i

/-! ## Faults (R10, R82, R453) -/

/-- A fault shows as raised: one of class FR3 or higher is latched; any other is in the fault log, one of class FR1 with ALERT# driven. -/
def Raised (t : State) (code axis : Nat) : Prop :=
  if 3 ≤ faultClass code then ∃ l ∈ t.flt.latched, l.code = code ∧ l.cls = faultClass code ∧ l.axis = axis
  else (∃ r ∈ t.flt.log, r.code = code ∧ r.axis = axis) ∧ (faultClass code = 1 → t.flt.unacked = true)

/-- The parts that the reaction to a fault, a demand or a transition may change. -/
abbrev reactParts : List Part :=
  [.free, .outs, .flight, .cache, .spi, .errors, .trans, .gate, .pwm, .ax, .em, .obs, .share, .mot, .fio, .can, .str]

/-- The registers that it may change, beside SYS_STATE, AX_STAT, LAN_STAT and LAN_SBC. -/
abbrev reactRegs : List RegId :=
  [.SYS_FAULT, .AX_FAULT, .AX_EM_STAT, .AX_SP_ACTIVE, .AX_T_OUT, .AX_SH_STAT, .BR_STAT, .PWM_STAT, .PWM_CTRL, .CHOP_STAT,
    .GATE_STAT, .GATE_AUX_STAT, .ME_STAT, .ME_SPEED, .ME_UNC_CNT, .STR_STAT, .STR_DROP, .STR_CAP_FILL]

/-- The registers in which the states of the device, the axes and Lantern stand. -/
abbrev movedRegs : List RegId := [.SYS_STATE, .AX_STAT, .LAN_STAT, .LAN_SBC]

/-- Everything but what faults and their reactions change, and the parts and registers listed, is the same in two states: the memories,
every register the reactions do not name, every other part; the clocks apart. -/
def Spared (parts : List Part) (regs : List RegId) (s t : State) : Prop :=
  (∀ p, p ∉ parts → p ∉ [Part.lan, .logs, .latched] → p ∉ reactParts → p.same s t) ∧
    ∀ r i, i < 65536 → r ∉ regs → r ∉ movedRegs → r ∉ reactRegs → t.rd r i = s.rd r i

/-! ## Engine instructions (R182 to R186) -/

/-- The nearest number that fits a signed width (R182). -/
def fit (bits : Nat) (y : Int) : Int := max (-2 ^ (bits - 1)) (min (2 ^ (bits - 1) - 1) y)

/-- Register d of an engine takes a word (x0 ignores it), Z and N show a number, V is as given (R179, R184). -/
def puts (d : Nat) (w : Word) (r : Int) (v : Bool) (g : Eng) : Eng :=
  { g with x := if d = 0 then g.x else g.x.set d w, z := r == 0, n := decide (r < 0), v := v }

/-- Register d takes a number saturated to 32 bits; V says that it was saturated, or what else sets it. -/
def gives (d : Nat) (y : Int) (also : Bool := false) (g : Eng) : Eng :=
  puts d (BitVec.ofInt 32 (fit 32 y)) (fit 32 y) (fit 32 y != y || also) g

/-- Register d takes a word that never saturates. -/
def givesW (d : Nat) (w : Word) (g : Eng) : Eng := puts d w w.toInt false g

/-- The engine after an instruction issued: the address it stood at, the tick from which the next one may issue, and where it goes on, the
loop's first address while passes are left (R186). -/
def nextEng (g : Eng) (ready : Nat) : Eng := State.flow { g with at_ := g.pc, ready := ready } (g.pc + 1)

/-- An instruction that read no parity error has issued on its engine once that was ready, the next following so many cycles later; f is
its effect on the engine, `sats` the number of saturations counted; nothing else has changed. -/
structure Ran (s t : State) (u : Issue) (cycles : Nat) (f : Eng → Eng) (sats : Nat) : Prop where
  eng : t.eng = upd s.eng u.e fun g => f (nextEng g (t.tick + cycles))
  tick : t.tick = max s.tick (s.engine u.e).ready
  count : t.fld F.LE_SAT_CNT_COUNT u.e = min (s.fld F.LE_SAT_CNT_COUNT u.e + sats) 0xFFFFFFFF
  kept : Kept [.eng] [(.LE_SAT_CNT, u.e.val)] s t

/-- The saturations of a sum or a shift to 32 bits. -/
def sat32 (y : Int) : Nat := b2n (fit 32 y != y)

/-! ## The pins (R82, R104, R421, R424) -/

/-- The pins and the bits that follow other state stand as the rules say. -/
structure Pinned (s : State) : Prop where
  /-- FAULT# is low in BOOT, FAULT and QUARANTINE, while HALTED is set and while a fault of class FR3 or higher is latched (R82). -/
  fault : s.sys.faultLow = true ↔
    s.dev = dBOOT ∨ s.dev = dFAULT ∨ s.dev = dQUARANTINE ∨ s.fld F.SYS_STATE_HALTED ≠ 0 ∨ s.flt.latched ≠ []
  /-- ALERT# is low while an FR1 event is not acknowledged (R82). -/
  alert : s.sys.alertLow = s.flt.unacked
  /-- SPI_RDY is high once BOOT has ended, while the command buffer has room for the longest packet and the port is not under
  reinitialisation (R104, R473). -/
  ready : s.sys.spiRdy = true ↔ s.sys.phase = .up ∧ s.cmdFill + 4116 ≤ 65536 ∧ ∀ r ∈ s.sys.reinit, r.func ≠ 0x13
  /-- SPI_IRQ# is low while reply words wait (R104). -/
  waiting : s.sys.spiIrqLow = true ↔ spiFill s ≠ 0
  /-- The debug instruction stands only while SW1.11 is ON and a maker session is open (R54). -/
  debug : s.sys.jtagIr = .debug → s.debugAllowed = true
  /-- Both brake outputs are on or both off; on only with STO released, no SBC fault, REQ set, no consuming connection with BRAKE_PERMIT
  0, and the bridges of the brake's axis switching (R424). -/
  outputs : s.fld F.LAN_SBC_ON = 0 ∨ s.fld F.LAN_SBC_ON = 3
  released : s.fld F.LAN_SBC_ON = 3 →
    s.fld F.LAN_STAT_STO_ACTIVE = 0 ∧ s.fld F.LAN_STAT_SBC_FAULT = 0 ∧ s.fld F.LAN_SBC_REQ ≠ 0 ∧ s.permit 3 = true ∧
      s.switching s.sbcAxis = true
  applied : s.fld F.LAN_STAT_SBC_APPLIED = 1 ↔ s.fld F.LAN_SBC_ON = 0
  /-- STO_FB conducts only in STO, with every command line low and every auxiliary half-bridge high impedance, never in BOOT (R421). -/
  feedback : s.fld F.LAN_STAT_STO_FB = 1 →
    s.fld F.LAN_STAT_STO_ACTIVE ≠ 0 ∧ s.gate.gc = 0 ∧ s.fld F.GATE_AUX_STAT_HIZ = 15 ∧ s.dev ≠ dBOOT
  /-- No command has left an order for its end. -/
  idle : s.hst.keyClose = none ∧ s.hst.bootNext = false

end Sys2Proof.Machine
end

