-- ==== Sys2Proof/Certificates/Slice0/Obligations.lean ====
section
/-!
DEFINITION. Certificates/Slice0/Obligations.lean: the statements for the provers.
-/

open Sys2Proof Sys2Proof.Machine

/-! ## The machine -/

/-- A step with a command at the front of the queue is that command's meaning on the state whose queue is the rest. -/
def Obligations.StepRunsFrontCommand : Prop :=
  ∀ (c : Instr) (rest : List Instr) (s : State), s.pending = c :: rest → step s = exec c { s with pending := rest }

/-- With no command waiting one 5 ns tick passes (R7): Meridian time counts 5 ns while its clock is present, and nothing else changes.
The model's choices in it: log entries 3, 16. -/
def Obligations.EmptyQueueTicks : Prop :=
  ∀ s : State, s.pending = [] → ∃ t, step s = .next t ∧ t.tick = s.tick + 1 ∧
    t.merTime = (if s.sys.merClk.lost then s.merTime else s.merTime + 5) ∧
    t.pwmTime = (if s.sys.pwmClk.lost then s.pwmTime else s.pwmTime + 5) ∧
    t.regs = s.regs ∧ t.sys = s.sys ∧ t.lan = s.lan ∧ t.hst = s.hst ∧ Kept [] [] s t

/-- Every command in every state ends in a next state: no command stops the machine. After every command SYS_FAULT shows FAULT# and
ALERT# (R82). The model's choices in it: log entry 14. -/
def Obligations.EveryCommandCompletes : Prop :=
  (∀ (c : Instr) (s : State), ∃ t, exec c s = .next t) ∧
  (∀ (c : Instr) (s t : State), exec c s = .next t →
    t.fld F.SYS_FAULT_LATCHED = b2n t.sys.faultLow ∧ t.fld F.SYS_FAULT_ALERT = b2n t.sys.alertLow)

/-- The pins follow their rules after every step from a state in which they do: FAULT#, ALERT#, SPI_RDY, SPI_IRQ#, the brake outputs,
STO_FB; debug access stands only where it is allowed. The model's choices in it: log entry 14. -/
def Obligations.PinsFollowEveryStep : Prop := ∀ s t : State, Pinned s → step s = .next t → Pinned t

/-- The pins follow their rules after reset. The model's choices in it: log entry 5. -/
def Obligations.PinsFollowAtReset : Prop := Pinned State.reset

/-! ## Sessions and system commands (class 0x01xx) -/

/-- SESSION_OPEN of a free identifier with fewer than eight sessions takes a slot, not yet authenticated, and replies an eight-word
challenge; SESSION_AUTH with the expected response authenticates the session and writes one audit record; SESSION_CLOSE ends the header's
session and drops its cached replies (R92, R96, R441 to R443). The 10 s of an open session end in its close unless it is authenticated,
and the 60 s of a lockout end in its removal; time passes to the moment each is due (R442). The model's choices in it: log entries 1, 2,
13, 18, 20, 35. -/
def Obligations.SessionsOpenAndEnd : Prop :=
  (∀ (s : State) (p : Pkt) (r : Role), Calm s →
    (∀ role, Carried s cmdSessionOpen p r → nth p.payload 0 ≠ 0 → s.session (nth p.payload 0) = none →
      roleAt (nth p.payload 1).toNat = some role → s.hst.sessions.length < 8 → Ends (.sessionOpen p) s fun t =>
        ∃ ch : List Word, ch.length = 8 ∧ Answered s t cmdSessionOpen p (ok ch) ∧
          t.hst.sessions = s.hst.sessions ++ [⟨nth p.payload 0, role, false, s.tick + p.dt, ch⟩] ∧
          Kept (.sessions :: replyParts) [] s t) ∧
    (∀ x, Carried s cmdSessionAuth p r → s.session (nth p.payload 0) = some x → x.authed = false →
      (s.elapse p.dt).lockedOut x.role = false → s.keyOff x.role = false → p.payload.drop 1 = s.response x →
      Ends (.sessionAuth p) s fun t =>
        Answered s t cmdSessionAuth p (ok) ∧
          t.hst.sessions = (s.hst.sessions.map fun y => if y.id = nth p.payload 0 then { y with authed := true } else y) ∧
          t.flt.log = s.flt.log ∧ t.flt.nextAudit = s.flt.nextAudit + 1 ∧
          Kept (.sessions :: .logs :: replyParts) [] s t) ∧
    (Carried s cmdSessionClose p r → Ends (.sessionClose p) s fun t =>
      Sent s t p (mkReply s 0x0104 p (ok)) ∧ t.hst.sessions = (s.hst.sessions.filter fun x => x.id != p.session) ∧
        t.hst.flight = s.hst.flight ∧ (∀ x ∈ t.hst.cache, x.pkt.session = p.session → x.pkt = p) ∧
        Kept (.sessions :: replyParts) [] s t)) ∧
  (∀ (s : State), Calm s →
    (∀ id x, s.session id = some x → x.authed = false → Ends (.sessionAuthTimeout id) s fun t =>
      t.tick = max s.tick (x.opened + 10 * ticksPerS) ∧ t.hst.sessions = (s.hst.sessions.filter fun y => y.id != id) ∧
        Kept [.sessions, .cache] [] s t) ∧
    (∀ role x, (s.hst.lockout.find? fun y => y.1 == role) = some x → Ends (.authLockoutEnd role) s fun t =>
      t.tick = max s.tick (x.2 + 60 * ticksPerS) ∧ t.hst.lockout = (s.hst.lockout.filter fun y => y.1 != role) ∧
        t.hst.sessions = s.hst.sessions ∧ Kept [.sessions] [] s t))

/-- ECHO returns its payload, GET_INFO its eight words (R97), and neither changes anything but the reply's parts. DEVICE_RESET replies OK
and leaves the reset to follow (R72); FUNC_REINIT of an instance whose condition holds is in flight and marks the function instance as
under reinitialisation, its interim reply ACCEPTED being sent unless the transport or the stream port is what is reinitialised (R473);
STATE_REQUEST(READY) of a SAFE device that may be READY, and STATE_REQUEST(SAFE) of a READY one, change the device state and reply the
new one (R77, R97). The model's choices in it: log entries 1, 13, 27, 28. -/
def Obligations.SystemCommandsAct : Prop :=
  (∀ (s : State) (p : Pkt) (r : Role), Calm s →
    (Carried s cmdEcho p r → Ends (.echo p) s fun t =>
      Answered s t cmdEcho p (ok p.payload) ∧ Kept replyParts [] s t ∧ t.tick = s.tick + p.dt) ∧
    (Carried s cmdGetInfo p r → Ends (.getInfo p) s fun t =>
      (∃ bits unit, Answered s t cmdGetInfo p (ok [0x00004816, 0x000000B1, s.rd .SYS_FW_VER, bits, unit, s.rd .SYS_SERIAL_LO,
          s.rd .SYS_SERIAL_HI, wd (maxLength p.via)]) ∧
        bitsOf bits 0 0 = s.fld F.SYS_STATE_ACTIVE_BANK ∧ bitsOf bits 8 8 = s.fld F.SYS_STATE_SAFE_FUNCTIONS ∧
        bitsOf bits 16 16 = s.fld F.SYS_STATE_SPLIT_A ∧ bitsOf bits 17 17 = s.fld F.SYS_STATE_SPLIT_B ∧
        bitsOf unit 15 0 = s.fld F.SYS_UNIT_UNIT ∧ bitsOf unit 19 16 = s.dev) ∧
      Kept replyParts [] s t ∧ t.tick = s.tick + p.dt)) ∧
  (∀ (s : State) (p : Pkt) (r : Role), Calm s →
    (Carried s cmdDeviceReset p r → Ends (.deviceReset p) s fun t =>
      Answered s t cmdDeviceReset p (ok) ∧ t.sys.resetPend = some (s.tick + p.dt) ∧ t.sys.phase = s.sys.phase ∧
        Kept (.sys :: replyParts) [] s t) ∧
    (∀ n, Carried s cmdFuncReinit p r → State.reinitInsts (bitsOf (nth p.payload 0) 15 0) = some n →
      bitsOf (nth p.payload 0) 23 16 < n →
      s.reiniting (bitsOf (nth p.payload 0) 15 0) (bitsOf (nth p.payload 0) 23 16) = false →
      s.reinitMay (bitsOf (nth p.payload 0) 15 0) (bitsOf (nth p.payload 0) 23 16) = true →
      Ends (.funcReinit p) s fun t =>
        (∃ was, t.sys.reinit = s.sys.reinit ++
          [⟨bitsOf (nth p.payload 0) 15 0, bitsOf (nth p.payload 0) 23 16, s.tick + p.dt, was⟩]) ∧
        (∃ f ∈ t.hst.flight, f.opcode = 0x0111 ∧ f.pkt = p) ∧
        (bitsOf (nth p.payload 0) 15 0 ∉ [0x10, 0x13, 0x14] → Sent s t p (mkReply s 0x0111 p (ans cACCEPTED))) ∧
        (bitsOf (nth p.payload 0) 15 0 ∈ [0x03, 0x11, 0x12] → Kept (.sys :: .flight :: replyParts) [] s t) ∧ t.tick = s.tick + p.dt ∧
        Spared [.sys, .eng, .host, .free, .mer, .mem, .cdl] [.LE_CTRL, .LE_STAT, .LE_TASK_OVR, .CAN_STAT, .STR_CREDIT, .STR_FRAMES,
          .SYS_CLK_STAT, .FIO_DI, .FIO_DI_INVALID, .MER_STAT, .MEM_LIVE, .CDL_STAT] s t) ∧
    (Carried s cmdStateRequest p r → bitsOf (nth p.payload 0) 3 0 = dREADY → s.dev = dSAFE → s.mayReady = true →
      Ends (.stateRequest p) s fun t =>
        Answered s t cmdStateRequest p (ok [wd dREADY]) ∧ t.dev = dREADY ∧ t.fld F.SYS_STATE_PREV_STATE = dSAFE ∧
          t.tick = s.tick + p.dt ∧ Spared [] [] s t) ∧
    (Carried s cmdStateRequest p r → bitsOf (nth p.payload 0) 3 0 = dSAFE → s.dev = dREADY →
      Ends (.stateRequest p) s fun t =>
        Answered s t cmdStateRequest p (ok [wd dSAFE]) ∧ t.dev = dSAFE ∧ t.fld F.SYS_STATE_PREV_STATE = dREADY ∧
          t.tick = s.tick + p.dt ∧ Spared [] [] s t))

/-! ## Supplies, reset, start-up, clocks -/

/-- The 24 V logic supply leaving its range puts STO in force and latches the fault of its side, FR4; a safety record under way is
committed and the lifetime counters are saved; the gates, the device and the axes go as for FR4 (R10, R66, R68, R468). The end of an
overvoltage ends its cause alone. The loss of the logic supply, no sooner than 2 ms after it was low (R67), is the internal reset: every
register stands at its reset value, no session, command or fault latch outlives it, Meridian time starts from 0, and, where no record was
on its way into it, the NV store and the logs stay. Its return starts BOOT, with RESET# low for 10 ms and while the GC rail is low; where
there was no reset it ends the cause of LOGIC_SUPPLY_LOW alone (R66, R70, R71, R74, R499). The model's choices in it: log entries 1, 5,
109, 111. -/
def Obligations.SuppliesAct : Prop :=
  (∀ (s : State) (dt : Nat), Calm s →
    (s.sys.phase ≠ .unpowered → s.sys.supplyLow = false → Ends (.logicSupplyLow dt) s fun t =>
      t.sys.supplyLow = true ∧ t.sys.lowAt = t.tick ∧ Raised t 0x7030 7 ∧ t.fld F.LAN_STAT_STO_ACTIVE ≠ 0 ∧ t.lan.loading = none ∧
        t.tick = s.tick + dt ∧ (s.lan.loading = none → Spared [.nv, .sys] [] s t)) ∧
    (s.sys.phase ≠ .unpowered → s.sys.supplyHigh = false → Ends (.logicSupplyHigh dt) s fun t =>
      t.sys.supplyHigh = true ∧ Raised t 0x7032 7 ∧ t.fld F.LAN_STAT_STO_ACTIVE ≠ 0 ∧ t.lan.loading = none ∧ t.tick = s.tick + dt ∧
        (s.lan.loading = none → Spared [.nv, .sys] [] s t)) ∧
    Ends (.logicSupplyHighGone dt) s fun t => t.sys.supplyHigh = false ∧ t.tick = s.tick + dt ∧ Kept [.sys] [] s t) ∧
  (∀ (s : State) (dt : Nat), Calm s →
    (s.sys.phase ≠ .unpowered → Ends (.logicSupplyLost dt) s fun t =>
      t.sys.phase = .unpowered ∧ t.sys.powerLost = true ∧ SameRegs [] State.reset t ∧ t.hst.sessions = [] ∧ t.hst.flight = [] ∧
        t.hst.cache = [] ∧ t.flt.latched = [] ∧ t.merTime = 0 ∧ t.gate.gc = 0 ∧ t.nv.role = s.nv.role ∧ t.pending = s.pending ∧
        s.tick + dt ≤ t.tick ∧ (if s.sys.supplyLow = true then s.sys.lowAt else s.tick + dt) + 2 * ticksPerMs ≤ t.tick ∧
        (if s.sys.supplyLow = true then s.lan.loading = none →
          t.nv.mem = s.nv.mem ∧ t.nv.kept = s.nv.kept ∧ t.flt.log = s.flt.log ∧ t.flt.audit = s.flt.audit
         else ∃ r ∈ t.flt.log, r.code = 0x7030)) ∧
    (s.sys.phase = .unpowered → Ends (.logicSupplyBack dt) s fun t =>
      t.sys.phase = .booting ∧ t.sys.supplyAt = s.tick + dt ∧ t.sys.supplyLow = false ∧
        t.sys.rstAt = (if s.gate.railLow = true then none else some (t.tick + 10 * ticksPerMs)) ∧ t.dev = dBOOT ∧ t.merTime = 20000000 ∧
        t.fld F.SYS_STATE_ACTIVE_BANK = b2n s.nv.bootB ∧ t.hst.sessions = [] ∧ t.flt.log = s.flt.log ∧ t.nv.mem = s.nv.mem ∧
        t.tick = s.tick + dt) ∧
    (s.sys.phase ≠ .unpowered → Ends (.logicSupplyBack dt) s fun t =>
      t.sys.supplyLow = false ∧ t.tick = s.tick + dt ∧ Kept [.sys] [] s t))

/-- The two resets that keep the supply: RESET# low for at least 10 µs is always taken, from 1 µs on it may be; the module is then held
until RESET# rises, and BOOT starts no earlier than 20 µs after the reset began. A DEVICE_RESET starts BOOT by itself. The command lines
are low, the sessions, the commands in flight, the reply cache and the latched faults gone, the logs and the NV store kept (R71, R72).
BOOT does not begin while RESET# is low for want of PGOOD, and ends after its release. The end of BOOT: with BOOTSEL high the device is in
UPDATE and its configuration is not run; else, with every self-test passed, the PLLs locked, the engines' programs accepted and a switch word accepted,
the firmware version shows and the device is in SAFE, or in QUARANTINE where the quarantine record stands; with neither bank valid it is
in SAFE, halted (R70, R73 to R75, R77, R79). The model's choices in it: log entries 1, 109, 110. -/
def Obligations.ResetsRunAndBootEnds : Prop :=
  (∀ (s : State) (dt : Nat), Calm s →
    (∀ nanos taken, s.sys.phase = .up ∨ s.sys.phase = .booting → (10000 ≤ nanos ∨ 1000 ≤ nanos ∧ taken = true) →
      Ends (.resetPin dt nanos taken) s fun t =>
        t.sys.phase = .held ∧ t.dev = dBOOT ∧ t.gate.gc = 0 ∧ t.hst.sessions = [] ∧ t.hst.flight = [] ∧ t.hst.cache = [] ∧
          t.flt.latched = [] ∧ t.flt.log = s.flt.log ∧ t.nv.mem = s.nv.mem ∧ t.nv.kept = s.nv.kept ∧ s.tick + dt ≤ t.tick) ∧
    (s.sys.phase = .held → Ends (.resetRelease dt) s fun t =>
      t.sys.phase = .booting ∧ t.dev = dBOOT ∧ t.tick = max (s.tick + dt) (s.sys.bootAt + 20 * ticksPerUs) ∧ t.sys.bootAt = t.tick ∧
        t.fld F.SYS_STATE_ACTIVE_BANK = b2n s.nv.bootB ∧ t.nv = s.nv ∧ t.flt = s.flt) ∧
    (∀ t0, s.sys.resetPend = some t0 → s.resetUnsaid = false → Ends (.deviceResetApply dt) s fun t =>
      t.sys.phase = .booting ∧ t.sys.resetPend = none ∧ t.dev = dBOOT ∧ t.gate.gc = 0 ∧ t.hst.sessions = [] ∧ t.hst.flight = [] ∧
        t.hst.cache = [] ∧ t.flt.latched = [] ∧ t.flt.log = s.flt.log ∧ t.nv.mem = s.nv.mem ∧ t.nv.kept = s.nv.kept ∧
        t.sys.bootAt = t.tick ∧ s.tick + 20 * ticksPerUs ≤ t.tick)) ∧
  (∀ (s : State) (dt : Nat) (x : BootSeen), Calm s → s.sys.phase = .booting → s.sys.rstAt = none →
    Ends (.bootEnd dt x) s fun t => t.tick = s.tick + dt ∧ Kept [] [] s t) ∧
  (∀ (s : State) (dt : Nat) (x : BootSeen) (t0 : Nat), Calm s → s.sys.phase = .booting → s.sys.rstAt = some t0 →
    (x.bootsel = true → Ends (.bootEnd dt x) s fun t =>
      t.dev = dUPDATE ∧ t.sys.phase = .up ∧ t.sys.updBootsel = true ∧ t.fld F.SYS_STATE_BOOTSEL = 1 ∧ t.nv.mem = s.nv.mem ∧
        t0 ≤ t.tick ∧ s.sys.bootAt ≤ t.tick) ∧
    (∀ w, x.bootsel = false → x.failed = none → x.pllLocked = true → x.enginesOk = true → acceptWord x.switches = some w →
      Ends (.bootEnd dt x) s fun t =>
        t.sys.phase = .up ∧ t0 ≤ t.tick ∧ s.sys.bootAt ≤ t.tick ∧
          (if s.bankOk s.nv.bootB = true ∨ s.bankOk (!s.nv.bootB) = true then
            t.dev = (if t.nv.quarantine = true then dQUARANTINE else dSAFE) ∧ t.rd .SYS_FW_VER = t.bankVersion t.nv.bootB
           else t.dev = dSAFE ∧ t.fld F.SYS_STATE_HALTED = 1)))

/-- The supervision of the internal clocks every 1.6 µs (R19): two windows in a row off nominal lose a clock, 16 within bring it back, a
lost system clock or reference stays lost; a window within changes nothing while none is lost. A lost PWM clock puts STO in force, FR4.
The PWM copy of Meridian time (R18, R496): with both clocks present and no bridge switching, PWM returns from the reference and the copy
is loaded, at a whole multiple of 5 ns; every 10.24 µs a copy that differs while locked is reloaded, the slip counted and alerted, FR1.
The model's choices in it: log entries 1, 8, 111. -/
def Obligations.ClocksSupervised : Prop :=
  (∀ (s : State) (dt : Nat) (off : ClockWin), Calm s → s.sys.phase ≠ .unpowered →
    (Ends (.clockSupervisionWindow dt off) s fun t =>
      t.sys.pwmClk = State.clockStep s.sys.pwmClk off.pwm ∧ t.sys.merClk = State.clockStep s.sys.merClk off.meridian ∧
        t.sys.sysClk = (if s.sys.sysClk.lost = true then s.sys.sysClk else State.clockStep s.sys.sysClk off.system) ∧
        t.sys.refClk = (if s.sys.refClk.lost = true then s.sys.refClk else State.clockStep s.sys.refClk off.reference) ∧
        t.tick = max (s.tick + dt) (s.sys.clkAt + 320) ∧ t.sys.clkAt = t.tick) ∧
    (off.pwm = true → s.sys.pwmClk.lost = false → s.sys.pwmClk.bad = 1 → Ends (.clockSupervisionWindow dt off) s fun t =>
      Raised t 0x7012 7 ∧ t.fld F.LAN_STAT_STO_ACTIVE ≠ 0 ∧ t.fld F.SYS_CLK_STAT_PWM_LOSS ≠ 0) ∧
    (off = ⟨false, false, false, false⟩ → s.sys.pwmClk.lost = false → s.sys.merClk.lost = false → Ends (.clockSupervisionWindow dt off) s fun t =>
      Kept [.sys] [] s t)) ∧
  (∀ (s : State) (dt : Nat), Calm s → s.sys.merClk.lost = false →
    (s.fld F.SYS_CLK_STAT_PWM_ON_REF ≠ 0 → (∀ b, b < 8 → s.running b = false) → Ends (.pwmRefReturn dt) s fun t =>
      t.merTime = State.wholeTick (s.elapse dt).merTime ∧ t.pwmTime = t.merTime ∧ t.fld F.SYS_CLK_STAT_PWM_ON_REF = 0 ∧ t.fld F.LAMP_STAT_REFUSING = 0 ∧
        Kept [] [(.SYS_CLK_STAT, 0), (.LAMP_STAT, 0)] s t) ∧
    (∀ slip, s.fld F.SYS_CLK_STAT_PWM_ON_REF = 0 → s.sys.pwmClk.lost = false → s.pwmTime + BitVec.ofInt 64 (5 * slip) ≠ s.merTime →
      Ends (.pwmTimeCompare dt slip) s fun t =>
        t.pwmTime = t.merTime ∧ t.fld F.SYS_TIME_SLIP_COUNT = min (s.fld F.SYS_TIME_SLIP_COUNT + 1) 0xFFFFFFFF ∧ Raised t 0x7011 7 ∧
          t.tick = max (s.tick + dt) (s.sys.timeAt + 2048) + 1 ∧ Kept [.sys, .logs, .latched] [(.SYS_TIME_SLIP, 0), (.SYS_FAULT, 0)] s t) ∧
    (∀ slip, s.sys.pwmClk.lost = false → s.pwmTime + BitVec.ofInt 64 (5 * slip) = s.merTime → Ends (.pwmTimeCompare dt slip) s fun t =>
      t.pwmTime = t.merTime ∧ t.sys.timeAt = t.tick ∧ t.tick = max (s.tick + dt) (s.sys.timeAt + 2048) ∧ Kept [.sys] [] s t))

/-- What the part watches on its own: VDRV with the auxiliary bridge unused and in use, and its return (R66, R307); a switch word read twice
that differs from the accepted one, in the audit log and as an FR1 (R60); the die temperature above 110 °C, FR1, and above 125 °C, FR4
(R490); the scrubber's next word: as it should be, one flipped bit, corrected, and two, not (R27, R28); access by JTAG (R54). The model's
choices in it: log entries 1, 2, 8, 112, 122. -/
def Obligations.WatchersReport : Prop :=
  ∀ (s : State) (dt : Nat), Calm s →
    (s.auxMode = 0 → Ends (.vdrvUndervoltage dt) s fun t =>
      t.fld F.GATE_AUX_STAT_VDRV_OK = 0 ∧ t.tick = s.tick + dt ∧ Kept [] [(.GATE_AUX_STAT, 0)] s t) ∧
    (s.auxMode ≠ 0 → s.on F.GATE_AUX_STAT_VDRV_OK = true → Ends (.vdrvUndervoltage dt) s fun t =>
      t.fld F.GATE_AUX_STAT_VDRV_OK = 0 ∧ t.fld F.GATE_AUX_STAT_HIZ = 15 ∧ (∃ r ∈ t.flt.log, r.code = 0x1060) ∧
        (∀ n, n < 2 → s.on F.ME_CFG_OUT n = true → s.meArrived n = false → (s.elapse dt).meMid n = true →
          t.fld F.ME_STAT_UNCERTAIN n ≠ 0) ∧ t.tick = s.tick + dt ∧ Spared [] [] s t) ∧
    (Ends (.vdrvRestored dt) s fun t =>
      t.fld F.GATE_AUX_STAT_VDRV_OK = 1 ∧ t.tick = s.tick + dt ∧ Kept [] [(.GATE_AUX_STAT, 0)] s t) ∧
    (∀ word, s.sys.phase = .up → s.sys.updBootsel = false → s.sys.swSeen = true → s.sys.swPrev = word.toNat → s.sw ≠ 0 → word.toNat ≠ s.sw →
      s.sys.swRaised ≠ some word.toNat → Ends (.sw1Poll dt word) s fun t =>
        t.fld F.SYS_SW1_LIVE = word.toNat ∧ t.fld F.SYS_SW1_CHANGED = 1 ∧ t.sw = s.sw ∧ Raised t 0x5002 7 ∧
          t.flt.nextAudit = s.flt.nextAudit + 1 ∧ t.sys.swRaised = some word.toNat ∧
          t.tick = max (s.tick + dt) (s.sys.swAt + 10 * ticksPerMs) ∧
          Kept [.sys, .logs, .latched] [(.SYS_SW1, 0), (.SYS_FAULT, 0)] s t) ∧
    (∀ word, s.sys.phase = .up → s.sys.updBootsel = false → word.toNat = s.sw → Ends (.sw1Poll dt word) s fun t =>
        t.fld F.SYS_SW1_LIVE = word.toNat ∧ t.fld F.SYS_SW1_CHANGED = 0 ∧ t.sys.swPrev = word.toNat ∧
          t.tick = max (s.tick + dt) (s.sys.swAt + 10 * ticksPerMs) ∧ Kept [.sys] [(.SYS_SW1, 0)] s t) ∧
    (∀ deci, s.sys.phase ≠ .unpowered → s.sys.dieHot = false → 1100 < deci → deci ≤ 1250 → Ends (.dieTempSample dt deci) s fun t =>
      t.sys.dieHot = true ∧ Raised t 0x7090 7 ∧ t.tick = max (s.tick + dt) (s.sys.dieAt + 10 * ticksPerMs) ∧ Kept [.sys, .logs, .latched] [(.SYS_FAULT, 0)] s t) ∧
    (∀ deci, s.sys.phase ≠ .unpowered → s.sys.dieLimit = false → 1250 < deci → Ends (.dieTempSample dt deci) s fun t =>
      t.sys.dieLimit = true ∧ Raised t 0x7091 7 ∧ t.fld F.LAN_STAT_STO_ACTIVE ≠ 0 ∧
        t.tick = max (s.tick + dt) (s.sys.dieAt + 10 * ticksPerMs) ∧ Spared [.sys] [] s t) ∧
    (s.sys.scrubWord ≠ 262143 → Ends (.scrubRead dt 1) s fun t =>
      t.fld F.FAB_SECDED_CORR = min (s.fld F.FAB_SECDED_CORR + 1) 0xFFFF ∧ Raised t 0x7001 7 ∧ t.sram = s.sram ∧
        t.tick = max (s.tick + dt) (s.sys.scrubAt + 8) ∧ Kept [.sys, .logs, .latched] [(.FAB_SECDED, 0), (.SYS_FAULT, 0)] s t) ∧
    (s.sys.scrubWord ≠ 262143 → Ends (.scrubRead dt 2) s fun t =>
      t.fld F.FAB_SECDED_UNCORR = min (s.fld F.FAB_SECDED_UNCORR + 1) 0xFFFF ∧ Raised t 0x7002 7 ∧ t.sram = s.sram ∧
        t.tick = max (s.tick + dt) (s.sys.scrubAt + 8) ∧ Spared [.sys] [.FAB_SECDED] s t) ∧
    (Ends (.scrubRead dt 0) s fun t =>
      t.fld F.FAB_SCRUB_PASSES = (if s.sys.scrubWord = 262143 then min (s.fld F.FAB_SCRUB_PASSES + 1) 0xFFFFFFFF
          else s.fld F.FAB_SCRUB_PASSES) ∧
        t.sys.scrubWord = (s.sys.scrubWord + 1) % 262144 ∧ t.tick = max (s.tick + dt) (s.sys.scrubAt + 8) ∧
        Kept [.sys] [(.FAB_SCRUB, 0)] s t) ∧
    (∀ ins, Ends (.jtagAccess dt ins) s fun t =>
      t.sys.jtagIr = (if ins = .debug ∧ s.debugAllowed = false then .bypass else ins) ∧
        t.sys.debugOpen = (ins == .debug && s.debugAllowed) ∧ t.gate = s.gate ∧
        t.outs = (if ins = .boundaryScan then .scan (s.observedCells s.lanes.1) :: s.outs else s.outs) ∧
        Kept [.sys, .outs, .free] [] s t)

/-! ## Registers (class 0x02xx and the register rows) -/

/-- A write of any word to a register that takes any word leaves it there; a write that lands leaves its word in a register whose block
gives it no other effect, and nothing else but the writer's own traces: by REGISTER_WRITE, by REG_WRITE and by REG_MODIFY, which replies
the old and the new word (R3, R30, R97, R99, R115). The bits that follow other state are set again at the end of the command. The
model's choices in it: log entries 1, 29, 33, 35. -/
def Obligations.RegisterWritesLand : Prop :=
  (∀ (s : State) (r : RegId) (i : Nat), Calm s → r ∈ plainRegs →
    (∀ addr c w, c.ws = [w] → w.kind = .plain → State.failsOf w = 0 → locate (wd (baseOf addr)) = .at_ (.reg r i) .plain →
      Ends (.registerWrite addr c) s fun t =>
        t.rd r i = w.value ∧ t.tick = s.tick + c.dt ∧ Kept (writerParts w.who) [(r, i)] s t) ∧
    (∀ p role, Carried s cmdRegWrite p role → p.rivals = [] → locate (nth p.payload 0) = .at_ (.reg r i) .plain →
      Ends (.regWrite p) s fun t =>
        Answered s t cmdRegWrite p (ok) ∧ t.rd r i = nth p.payload 1 ∧ t.tick = s.tick + p.dt ∧ Kept replyParts [(r, i)] s t) ∧
    (∀ p role new, Carried s cmdRegModify p role → p.rivals = [] → locate (nth p.payload 0) = .at_ (.reg r i) .plain →
      (∀ l ∈ s.hst.latches, l.by_ = .interp → l.addr ≠ r.addr i) →
      new = (s.rd r i &&& ~~~(nth p.payload 1)) ||| (nth p.payload 2 &&& nth p.payload 1) → Ends (.regModify p) s fun t =>
        Answered s t cmdRegModify p (ok [s.rd r i, new]) ∧ t.rd r i = new ∧ t.tick = s.tick + p.dt ∧ Kept replyParts [(r, i)] s t)) ∧
  ∀ (s : State) (r : RegId) (i : Nat) (w : Write) (new : Word), Calm s → i < 65536 → r ∉ actingRegs →
    (∀ addr c, locate (wd (baseOf addr)) = .at_ (.reg r i) .plain → Lands s r i c w new → Ends (.registerWrite addr c) s fun t =>
      t.rd r i &&& ~~~pinBits r = new &&& ~~~pinBits r ∧ t.tick = s.tick + c.dt ∧ Kept (writerParts w.who) [(r, i)] s t) ∧
    (∀ p role, Carried s cmdRegWrite p role → p.rivals = [] → (at_ s p).writeNeeds (nth p.payload 0) = false →
      locate (wd (baseOf (nth p.payload 0))) = .at_ (.reg r i) .plain → aliasOf (nth p.payload 0) = .plain → r ≠ .CAN_CMD_REQ →
      r ≠ .SYS_UNIT → w = ⟨.host role, .plain, nth p.payload 1, 0⟩ → Lands (at_ s p) r i ⟨0, [w], 0⟩ w new →
      Ends (.regWrite p) s fun t =>
        Answered s t cmdRegWrite p (ok) ∧ t.rd r i &&& ~~~pinBits r = new &&& ~~~pinBits r ∧ Kept (.logs :: replyParts) [(r, i)] s t) ∧
    (∀ p role, Carried s cmdRegModify p role → p.rivals = [] → (at_ s p).writeNeeds (nth p.payload 0) = false →
      locate (nth p.payload 0) = .at_ (.reg r i) .plain → Quiet s .interp r i → r ≠ .CAN_CMD_REQ → r ≠ .SYS_UNIT →
      w = ⟨.host role, .plain, ((at_ s p).view r i &&& ~~~(nth p.payload 1)) ||| (nth p.payload 2 &&& nth p.payload 1), 0⟩ →
      Lands (at_ s p) r i ⟨0, [w], 0⟩ w new → Ends (.regModify p) s fun t =>
        (∃ after, Answered s t cmdRegModify p (ok [(at_ s p).view r i, after])) ∧
          t.rd r i &&& ~~~pinBits r = new &&& ~~~pinBits r ∧ Kept (.logs :: replyParts) [(r, i)] s t)

/-- REG_READ of a register whose reading has no effect, or of a word of the action table, replies its word; of a register with RC fields it
replies its word and clears these; BLOCK_READ of such registers replies their words in order;
neither changes anything but the reply's parts (R97, R100, R114). A read of a register with RC fields clears each once, and it then holds
what the hardware counts in that cycle (R3, R119); a read of the lower half of a pair latches the upper half for its reader (R118);
one whose third replay fails too clears nothing: its replays are counted, and FABRIC_FAULT is raised, FR3 (R24). The model's choices in it: log
entries 1, 25, 30, 31, 42. -/
def Obligations.RegisterReadsReply : Prop :=
  (∀ (s : State) (p : Pkt) (role : Role), Calm s →
    (∀ r i k, Carried s cmdRegRead p role → locate (nth p.payload 0) = .at_ (.reg r i) k → Quiet s .interp r i →
      Ends (.regRead p) s fun t =>
        Answered s t cmdRegRead p (ok [(at_ s p).view r i]) ∧ t.tick = s.tick + p.dt ∧ Kept replyParts [] s t) ∧
    (∀ w k, Carried s cmdRegRead p role → locate (nth p.payload 0) = .at_ (.tat w) k → Ends (.regRead p) s fun t =>
        Answered s t cmdRegRead p (ok [Store.get zeroMem s.lamp.tat w]) ∧ t.tick = s.tick + p.dt ∧ Kept replyParts [] s t) ∧
    (∀ r i k, Carried s cmdRegRead p role → locate (nth p.payload 0) = .at_ (.reg r i) k → i < 65536 → highOf r i = none →
      r ≠ .CAN_MB → r ≠ .LE_MDATA → (∀ l ∈ s.hst.latches, l.by_ = .interp → l.addr ≠ r.addr i) → Ends (.regRead p) s fun t =>
        Answered s t cmdRegRead p (ok [(at_ s p).view r i]) ∧ (∀ f ∈ r.fields, f.acc = .rc → t.fld f i = 0) ∧
          (∀ f ∈ r.fields, f.acc ≠ .rc → maskOf f.hi f.lo &&& pinBits r = 0 → t.fld f i = s.fld f i) ∧ t.tick = s.tick + p.dt ∧
          Kept replyParts [(r, i)] s t) ∧
    (Carried s cmdBlockRead p role → (nth p.payload 1).toNat + 1 ≤ maxLength p.via →
      (∃ r i k, locate (nth p.payload 0) = .at_ (.reg r i) k) →
      (∀ n, n < (nth p.payload 1).toNat → ∃ r i k, locate (wd ((nth p.payload 0).toNat + 4 * n)) = .at_ (.reg r i) k ∧
        Quiet s .interp r i) → Ends (.blockRead p) s fun t =>
      Answered s t cmdBlockRead p
          (ok ((upTo (nth p.payload 1).toNat).map fun n => (at_ s p).peek (wd ((nth p.payload 0).toNat + 4 * n)))) ∧
        t.tick = s.tick + p.dt ∧ Kept replyParts [] s t)) ∧
  (∀ (s : State) (dt : Nat) (addr : Word) (r : RegId) (i : Nat), Calm s → i < 65536 →
    locate addr = .at_ (.reg r i) .plain → r ≠ .CAN_MB → r ≠ .LE_MDATA →
    (∀ (by_ : List Rd) (inc : List Nat), by_ ≠ [] → (∀ q ∈ by_, q.fails = 0) → highOf r i = none →
      (∀ q l, q ∈ by_ → l ∈ s.hst.latches → l.by_ = q.by_ → l.addr ≠ r.addr i) →
      Ends (.rcCounterRead dt addr by_ inc) s fun t =>
        (∀ k f, (r.fields.filter fun f => f.acc == .rc)[k]? = some f → t.fld f i = min (nth inc k) (2 ^ (f.hi + 1 - f.lo) - 1)) ∧
          t.tick = s.tick + dt ∧
          Kept [] [(r, i)] s t) ∧
    (∀ q : Rd, 4 ≤ q.fails → r ≠ .FAB_PAR_REPLAY → Ends (.rcCounterRead dt addr [q] []) s fun t =>
        Raised t 0x7020 7 ∧ t.fld F.FAB_PAR_FAULT_COUNT = min (s.fld F.FAB_PAR_FAULT_COUNT + 1) 0xFFFFFFFF ∧
          t.fld F.FAB_PAR_REPLAY_COUNT = min (s.fld F.FAB_PAR_REPLAY_COUNT + 3) 0xFFFFFFFF ∧ t.tick = s.tick + dt + 12 ∧
          Spared [] [.FAB_ERR_STAT, .FAB_ERR_ADDR, .FAB_PAR_REPLAY, .FAB_PAR_FAULT] s t) ∧
    (∀ by_ h j, highOf r i = some (h, j) → (∀ l ∈ s.hst.latches, l.by_ = by_ → l.addr ≠ r.addr i) →
      Ends (.pairLoRead dt addr ⟨by_, 0⟩) s fun t =>
        t.hst.latches = ⟨by_, h.addr j, (s.elapse dt).view h j⟩ ::
            s.hst.latches.filter (fun x => !(x.by_ == by_ && x.addr == h.addr j)) ∧
          t.hst.asm = s.hst.asm ∧ t.tick = s.tick + dt ∧ Kept [.host] [] s t))

/-! ## Registers of bridges and axes -/

/-- COMMIT takes the shadow set, TUNE_COMMIT marks the tuning words for the next sample, a start bit asks for the start of a bridge whose
configuration is complete, its clearing stops it (R153, R158, R177, R226). BRIDGE_START: at its valley a bridge that has been asked to
start, and that Lantern releases, begins to switch; one whose configuration no longer passes its checks does not (R153, R156, R163). The
model's choices in it: log entries 1, 2, 29, 60. -/
def Obligations.BridgeRegistersAct : Prop :=
  (∀ (s : State) (c : WCycle) (w : Write) (new : Word), Calm s →
    (∀ b : Fin 8, Lands s .BR_COMMIT b c w new → bitOf new 0 = true → (s.bridgesOf (s.fld F.BR_CFG_AXIS b)).length ≠ 2 →
      Ends (.brCommit b c) s fun t =>
        t.pwm = { s.pwm with bridges := upd s.pwm.bridges b fun r => { r with commits := (t.tick, s.shadowSet b) :: r.commits } } ∧
          t.rd .BR_COMMIT b = 0 ∧ t.tick = s.tick + c.dt ∧
          Kept (.pwm :: writerParts w.who) [(.BR_COMMIT, b), (.BR_COMMIT_OVER, b)] s t) ∧
    (∀ a : Fin 4, Lands s .AX_TUNE_COMMIT a c w new → bitOf new 0 = true → Ends (.axTuneCommit a c) s fun t =>
      t.ax = upd s.ax a (fun x => { x with tunePend := true }) ∧ t.rd .AX_TUNE_COMMIT a = 0 ∧ t.tick = s.tick + c.dt ∧
        Kept (.ax :: writerParts w.who) [(.AX_TUNE_COMMIT, a)] s t) ∧
    (∀ b : Fin 8, Lands s .PWM_CTRL 0 c w new → new = (s.rd .PWM_CTRL ||| 1#32 <<< b.val) → bitOf (s.rd .PWM_CTRL) b = false →
      s.running b = false → ((s.elapse c.dt).wr .PWM_CTRL new).cfgOk b = true → Ends (.pwmCtrlRunWrite c) s fun t =>
        t.pwm = { s.pwm with bridges := upd s.pwm.bridges b fun r => { r with asked := some t.tick } } ∧ t.rd .PWM_CTRL = new ∧
          t.tick = s.tick + c.dt ∧ Kept (.pwm :: writerParts w.who) [(.PWM_CTRL, 0)] s t) ∧
    (∀ b : Fin 8, Lands s .PWM_CTRL 0 c w new → new = (s.rd .PWM_CTRL &&& ~~~(1#32 <<< b.val)) → bitOf (s.rd .PWM_CTRL) b = true →
      s.fbit F.GATE_STAT_OFFSEQ b = false → Ends (.pwmCtrlRunWrite c) s fun t =>
        t.running b = false ∧ t.rd .PWM_CTRL = new ∧ (∀ e ∈ t.pwm.edges, e.br ≠ b) ∧ t.tick = s.tick + c.dt ∧
          Kept (.pwm :: .gate :: .free :: writerParts w.who)
            [(.PWM_CTRL, 0), (.BR_STAT, b), (.PWM_STAT, 0), (.CHOP_STAT, 0), (.GATE_STAT, 0)] s t)) ∧
  (∀ (s : State) (b : Fin 8) (t0 v : Nat), Calm s → (s.bridge b).asked = some t0 → s.released b = true → s.running b = false →
    s.fbit F.GATE_STAT_OFFSEQ b = false →
    s.valleyFrom b (max s.tick (max t0 s.lan.relAt + 2)) = some v →
    (s.cfgOk b = true → Ends (.bridgeStart b) s fun t =>
      t.running b = true ∧ t.fbit F.PWM_STAT_RUNNING b = true ∧ t.tick = max s.tick v ∧
        (s.fld F.BR_CFG_TYPE b ≠ 2 → t.pwm = { s.pwm with bridges := upd s.pwm.bridges b fun r =>
          { r with asked := none, used := 0, phases := List.replicate 3 .init } }) ∧
        Kept [.pwm, .ax] [(.BR_STAT, b), (.PWM_STAT, 0), (.BR_DT, b)] s t) ∧
    (s.cfgOk b = false → Ends (.bridgeStart b) s fun t =>
      t.running b = false ∧ t.fld F.BR_STAT_CFG_ERR b ≠ 0 ∧ t.fbit F.PWM_STAT_CFG_ERR b = true ∧ t.fbit F.PWM_CTRL_RUN b = false ∧
        (∀ r ∈ t.pwm.bridges[b.val]?, r.asked = none) ∧
        (∀ f ∈ t.hst.flight, ¬(f.opcode = 0x0301 ∧ f.target = s.fld F.BR_CFG_AXIS b)) ∧ t.tick = max s.tick v))

/-! ## Registers of the engines, of feedback and of the rest -/

/-- AX_T_LOAD takes the word of its axis's observer engine and of no other writer (R493); RELEASE ends both power holds (R270); a written
reference or COMMISSION leaves the motor identity unconfirmed (R255); MEASURE starts a measurement, in RUN by a catch, in DISABLED over a
window with the gates off (R254), whose end stops the sample instants and gives no value where the voltage was clipped. A write of EN_POS shifts the user
offset (R132); a change of a channel's mode or setup restarts it, no longer referenced (R126); a range whose positions rise and whose
outputs are the list's own is armed with every entry fresh (R147). The model's choices in it: log entries 1, 41, 51, 72, 80. -/
def Obligations.AxisAndFeedbackRegistersAct : Prop :=
  (∀ (s : State) (a : Fin 4) (c : WCycle) (w : Write) (new : Word), Calm s →
    (Lands s .AX_T_LOAD a c w new → Ends (.axTLoadWrite a c) s fun t =>
      t.rd .AX_T_LOAD a = (if w.who.engine? = some (8 + s.fld F.AX_CFG_OE a) then w.value else s.rd .AX_T_LOAD a) ∧
        t.tick = s.tick + c.dt ∧ Kept (writerParts w.who) [(.AX_T_LOAD, a)] s t) ∧
    (Lands s .AX_PL_HOLD a c w new → w.who.isHost = true → bitOf new 17 = true → Ends (.axPlHoldRelease a c) s fun t =>
      t.lamp = { s.lamp with holds := upd s.lamp.holds a fun _ => (none, none) } ∧ t.fld F.AX_PL_HOLD_ACTIVE a = 0 ∧
        t.fld F.AX_PL_HOLD_RELEASE a = 0 ∧ Kept [.lamp, .logs] [(.AX_PL_HOLD, a)] s t) ∧
    (Lands s .OBS_KE_CFG a c w new → bitOf new 1 = true → bitOf new 0 = false → s.axSt a = aRUN → Ends (.obsKeMeasure a c) s fun t =>
      t.obs = upd s.obs a (fun o => { o with keRun := true }) ∧ t.fld F.OBS_KE_CFG_MEASURE a = 0 ∧ t.tick = s.tick + c.dt ∧
        Kept (.obs :: writerParts w.who) [(.OBS_KE_CFG, a)] s t) ∧
    (Lands s .OBS_KE_CFG a c w new → bitOf new 1 = true → bitOf new 0 = false → s.axSt a = aDISABLED →
      Ends (.obsKeMeasure a c) s fun t =>
        t.obs = upd s.obs a (fun o => { o with entered := t.tick, catch_ := { Catch.init with began := t.tick } }) ∧ (∀ x ∈ t.ax[a.val]?, x.keMeas = true ∧ x.samples = 0) ∧
          t.fld F.OBS_KE_CFG_MEASURE a = 0 ∧ t.tick = s.tick + c.dt ∧ Kept (.obs :: .ax :: writerParts w.who) [(.OBS_KE_CFG, a)] s t) ∧
    (Lands s .OBS_KE_REF a c w new → Ends (.obsKeRefWrite a c false) s fun t =>
      t.rd .OBS_KE_REF a = new ∧ t.fld F.OBS_STAT_KE_STATE a = 0 ∧ t.obs = upd s.obs a (fun o => { o with identWrong := false }) ∧
        t.tick = s.tick + c.dt ∧ Kept (.obs :: writerParts w.who) [(.OBS_KE_REF, a), (.OBS_STAT, a)] s t) ∧
    (Lands s .OBS_KE_CFG a c w new → bitOf new 0 = true → w.who.mayRl = true → bitOf new 1 = false →
      Ends (.obsKeRefWrite a c true) s fun t =>
        t.rd .OBS_KE_CFG a = new ∧ t.fld F.OBS_STAT_KE_STATE a = 0 ∧ t.obs = upd s.obs a (fun o => { o with identWrong := false }) ∧
          t.tick = s.tick + c.dt ∧ Kept (.obs :: writerParts w.who) [(.OBS_KE_CFG, a), (.OBS_STAT, a)] s t) ∧
    (∀ dt, (s.axis a).keMeas = true → s.unclipped a = false → Ends (.keMeasureWindowEnd a dt) s fun t =>
      t.rd .OBS_KE_LAST a = s.rd .OBS_KE_LAST a ∧ t.ax = upd s.ax a (fun x => { x with grid := none, samples := 0, keMeas := false }) ∧
        s.tick + dt ≤ t.tick ∧ (s.ob a).entered + s.fld F.OBS_CATCH_CFG_TMIN a * ticksPerMs ≤ t.tick ∧ Kept [.ax, .free] [] s t) ∧
    (∀ dt, (s.axis a).keMeas = true → s.eightPeriods a = false →
      Ends (.keMeasureWindowEnd a dt) s fun t =>
        t.ax = upd s.ax a (fun x => { x with grid := none, samples := 0, keMeas := false }) ∧ s.tick + dt ≤ t.tick ∧
          (s.ob a).entered + s.fld F.OBS_CATCH_CFG_TMAX a * ticksPerMs ≤ t.tick ∧ Kept [.ax, .free] [] s t) ∧
    (∀ dt, (s.axis a).keMeas = true → s.unclipped a = true → s.eightPeriods a = true →
      s.atVmin a (s.catchSpeed a).1 = true → Ends (.keMeasureWindowEnd a dt) s fun t =>
        t.rd .OBS_KE_LAST a = satW ((s.catchSpeed a).2.keValue a (s.ob a).catch_.sumV (s.ob a).catch_.sumW).1 ∧
          t.tick = max (s.tick + dt) ((s.ob a).entered + s.fld F.OBS_CATCH_CFG_TMIN a * ticksPerMs) ∧
          (∀ x ∈ t.ax[a.val]?, x.grid = none ∧ x.keMeas = false) ∧
          Spared [.free, .ax, .nv, .obs, .logs] [.OBS_STAT, .OBS_KE_LAST, .OBS_KE_DEV, .OBS_KE_BASE, .OBS_KE_AVG, .OBS_KE_CFG] s t)) ∧
  (∀ (s : State) (ch : Fin 4) (c : WCycle) (w : Write) (new : Word), Calm s →
    (Lands s .EN_POS ch c w new → Ends (.enPosWrite ch c) s fun t =>
      t.rd .EN_POS ch = new ∧
        t.feed.enc = upd s.feed.enc ch (fun x => { x with ofs := x.ofs + (new - s.rd .EN_POS ch), presetAt := some t.tick }) ∧
        t.tick = s.tick + c.dt ∧ Kept (.feed :: .mot :: writerParts w.who)
          [(.EN_POS, ch), (.ME_GEAR_JUMP, 0), (.ME_GEAR_JUMP, 1)] s t) ∧
    (Lands s .EN_CFG ch c w new → bitsOf (s.rd .EN_CFG ch) 4 0 ≠ bitsOf new 4 0 → Ends (.enCfgChange ch .cfg c) s fun t =>
      t.rd .EN_CFG ch = new ∧ t.fld F.EN_STAT_REFERENCED ch = 0 ∧ t.fld F.EN_STAT_RUN ch = 0 ∧ t.tick = s.tick + c.dt ∧
        Kept (.feed :: writerParts w.who) [(.EN_CFG, ch), (.EN_STAT, ch)] s t) ∧
    (Lands s .EN_CPR ch c w new → s.rd .EN_CPR ch ≠ new → Ends (.enCfgChange ch .cpr c) s fun t =>
      t.rd .EN_CPR ch = new ∧ t.fld F.EN_STAT_REFERENCED ch = 0 ∧ t.fld F.EN_STAT_RUN ch = 0 ∧ t.tick = s.tick + c.dt ∧
        Kept (.feed :: writerParts w.who) [(.EN_CPR, ch), (.EN_STAT, ch)] s t) ∧
    (Lands s .CMP_RANGE ch c w new → bitOf new 31 = true → s.rd .CMP_RANGE ch ≠ new →
      (((s.elapse c.dt).wr .CMP_RANGE new ch).setF F.CMP_RANGE_ARM 0 ch).rangeOk ch (bitsOf new 9 0) (bitsOf new 25 16) = true →
      Ends (.cmpRangeArm ch c) s fun t =>
        t.rd .CMP_RANGE ch = new ∧ t.feed = { s.feed with cmp := upd s.feed.cmp ch fun x => ⟨[],
          if bitOf (s.rd .CMP_RANGE ch) 31 = true ∧ (x.left.any fun l => l.1 == t.tick) = false then
            some (t.tick, s.fld F.CMP_RANGE_FIRST ch, s.fld F.CMP_RANGE_LAST ch) else x.left⟩ } ∧ t.tick = s.tick + c.dt ∧
          Kept (.feed :: writerParts w.who) [(.CMP_RANGE, ch)] s t))

/-- CHECK starts the static check, whose end shows PROG_OK or the first offending address (R192); RUN set with a checked program and a
schedule that fits starts the engine (R197), RUN cleared ends its task and drops its releases (R199); LE_MDATA reads and writes the word
at LE_MADDR, which counts up (R203). The identity and split configuration of the unit, kept over resets (R121, R122), a new position of a
motion engine at rest, certain again where its writer may set RL fields (R319), a new baseline of Candle (R457), the brake request (R425), the field outputs (R400). The
model's choices in it: log entries 1, 36, 37, 41, 75. -/
def Obligations.EngineAndUnitRegistersAct : Prop :=
  (∀ (s : State) (e : Fin 10) (c : WCycle) (w : Write) (new : Word), Calm s →
    (Lands s .LE_CTRL e c w new → w.who.engine? = none → bitOf new 1 = true → bitOf new 0 = bitOf (s.rd .LE_CTRL e) 0 →
      Ends (.leCtrlCheck e c) s fun t =>
        t.eng = upd s.eng e (fun g => { g with checking := some t.tick }) ∧ t.fld F.LE_CTRL_CHECK e = 0 ∧
          t.fld F.LE_CTRL_RUN e = s.fld F.LE_CTRL_RUN e ∧ t.tick = s.tick + c.dt ∧
          Kept (.eng :: writerParts w.who) [(.LE_CTRL, e)] s t) ∧
    (∀ dt t0, (s.engine e).checking = some t0 → Ends (.staticCheckDone e dt) s fun t =>
      t.eng = upd s.eng e (fun g => { g with checking := none }) ∧
        (match ((s.slotsOn e).filterMap fun k => (s.checkSlot e k).2).min? with
          | none => t.fld F.LE_STAT_PROG_OK e = 1 ∧ ∀ k ∈ s.slotsOn e, t.fld F.LE_TASK_WCET_WCET (4 * e + k) = (s.checkSlot e k).1
          | some x => t.fld F.LE_STAT_PROG_OK e = 0 ∧ t.fld F.LE_STAT_PROG_ERR e ≠ 0 ∧
              (x < 8192 → t.fld F.LE_EXC_INFO_PC e = x) ∧ t.fld F.LE_EXC_INFO_CAUSE e = 0) ∧
        t.tick = s.tick + min dt (t0 + 2 * ticksPerMs - s.tick) ∧
        Kept [.eng] [(.LE_STAT, e), (.LE_EXC_INFO, e), (.LE_TASK_WCET, 4 * e), (.LE_TASK_WCET, 4 * e + 1), (.LE_TASK_WCET, 4 * e + 2),
          (.LE_TASK_WCET, 4 * e + 3)] s t) ∧
    (Lands s .LE_CTRL e c w new → w.who.engine? = none → bitOf new 1 = false → bitOf new 0 = true → s.fld F.LE_CTRL_RUN e = 0 →
      (s.engine e).dead = false → s.on F.LE_STAT_PROG_OK e = true → s.deadlinesOk e = true →
      s.scheduleFits e (fun j => s.budgetEff (4 * e + j)) = true → Ends (.leCtrlRunWrite e c) s fun t =>
        t.fld F.LE_CTRL_RUN e = 1 ∧ t.fld F.LE_STAT_RUNNING e = 1 ∧ t.eng = upd s.eng e (fun g => { g with ready := max g.ready t.tick }) ∧
          t.tick = s.tick + c.dt ∧ Kept (.eng :: writerParts w.who) [(.LE_CTRL, e), (.LE_STAT, e)] s t) ∧
    (Lands s .LE_CTRL e c w new → w.who.engine? = none → bitOf new 1 = false → bitOf new 0 = false → s.fld F.LE_CTRL_RUN e = 1 →
      Ends (.leCtrlRunWrite e c) s fun t =>
        t.fld F.LE_CTRL_RUN e = 0 ∧ t.fld F.LE_STAT_RUNNING e = 0 ∧
          t.eng = upd s.eng e (fun g => { g with run := none, window := [], loop := none, waiting := [], due := [] }) ∧
          t.tick = s.tick + c.dt ∧ Kept (.eng :: writerParts w.who) [(.LE_CTRL, e), (.LE_STAT, e)] s t) ∧
    (∀ dt by_, s.fld F.LE_MADDR_ADDR e < (if s.on F.LE_MADDR_SPACE e = true then State.progSize e else State.dataSize e) →
      Ends (.leMdataAccess e dt (.read ⟨by_, 0⟩)) s fun t =>
        t.fld F.LE_MADDR_ADDR e = (s.fld F.LE_MADDR_ADDR e + 1) % 8192 ∧ t.eng = s.eng ∧ t.tick = s.tick + dt ∧
          Kept [] [(.LE_MADDR, e)] s t) ∧
    (∀ dt, Lands (s.elapse dt) .LE_MDATA e ⟨0, [w], 0⟩ w new → w.who.engine? = none → s.fld F.LE_MADDR_ADDR e < State.dataSize e →
      s.on F.LE_MADDR_SPACE e = false → s.on F.LE_CTRL_RUN e = false → Ends (.leMdataAccess e dt (.write [w])) s fun t =>
        t.eng = upd s.eng e (fun g => { g with data := Store.set zeroMem g.data (s.fld F.LE_MADDR_ADDR e) w.value }) ∧
          t.fld F.LE_MADDR_ADDR e = (s.fld F.LE_MADDR_ADDR e + 1) % 8192 ∧ t.tick = s.tick + dt ∧
          Kept (.eng :: writerParts w.who) [(.LE_MDATA, e), (.LE_MADDR, e)] s t)) ∧
  (∀ (s : State) (c : WCycle) (w : Write) (new : Word), Calm s →
    (Lands s .SYS_UNIT 0 c w new → Ends (.sysUnitWrite c) s fun t =>
      t.rd .SYS_UNIT = new ∧ t.tick = s.tick + c.dt ∧ Kept (writerParts w.who) [(.SYS_UNIT, 0)] s t) ∧
    (Lands s .SYS_SPLIT 0 c w new → Ends (.sysSplitWrite c) s fun t =>
      t.rd .SYS_SPLIT = new ∧ t.nv = { s.nv with kept := Store.set regDefault s.nv.kept (regCode .SYS_SPLIT 0) new } ∧
        t.tick = s.tick + c.dt ∧ Kept (.nv :: writerParts w.who) [(.SYS_SPLIT, 0)] s t) ∧
    (∀ me : Fin 2, Lands s .ME_POS me c w new → w.who.mayRl = false → Ends (.mePosWrite me c) s fun t =>
      t.rd .ME_POS me = new ∧ t.mot.me = s.mot.me ∧ t.fld F.ME_STAT_UNCERTAIN me = s.fld F.ME_STAT_UNCERTAIN me ∧ t.tick = s.tick + c.dt ∧
        Kept (writerParts w.who) [(.ME_POS, me)] s t) ∧
    (∀ me : Fin 2, Lands s .ME_POS me c w new → w.who.mayRl = true → Ends (.mePosWrite me c) s fun t =>
      t.rd .ME_POS me = new ∧ t.mot = { s.mot with me := upd s.mot.me me fun m => { m with frac := 0 } } ∧
        t.fld F.ME_STAT_UNCERTAIN me = 0 ∧ t.tick = s.tick + c.dt ∧
        Kept (.mot :: writerParts w.who) [(.ME_POS, me), (.ME_STAT, me)] s t) ∧
    (Lands s .CDL_CTRL 0 c w new → bitOf new 0 = true → Ends (.cdlRebaseWrite c) s fun t =>
      t.cdl = { s.cdl with rebase := true } ∧ t.fld F.CDL_CTRL_REBASE = 0 ∧ t.tick = s.tick + c.dt ∧
        Kept (.cdl :: writerParts w.who) [(.CDL_CTRL, 0)] s t) ∧
    (Lands s .LAN_SBC 0 c w new → Ends (.lanSbcReqWrite c) s fun t =>
      t.fld F.LAN_SBC_REQ = bitsOf new F.LAN_SBC_REQ.hi F.LAN_SBC_REQ.lo ∧ t.tick = s.tick + c.dt ∧
        Kept (writerParts w.who) [(.LAN_SBC, 0)] s t) ∧
    (Lands s .FIO_DO 0 c w new → Ends (.fioDoWrite c) s fun t =>
      t.rd .FIO_DO = new ∧ t.tick = s.tick + c.dt ∧ Kept (writerParts w.who) [(.FIO_DO, 0)] s t))

/-! ## CAN controllers: registers and buffers -/

/-- The Meridian time that the tick of a step or a set ends at: the stepped time, and while the PWM PLL follows MERIDIAN the next whole
multiple of 5 ns, where its ticks fall (R18; log 84). -/
def steppedTo (s : State) (x : Time) : Time := if s.pwmOnMer = true then BitVec.ofNat 64 ((x.toNat + 4) / 5 * 5) else x

/-- Meridian time is set at once with SRC 0, while the PWM PLL is locked to MERIDIAN up to the next multiple of 5 ns (R18), a step that is
flagged and alerted; under PPS the value waits for the next edge, and is
dropped 1.5 s later without one (R336). INIT 1 takes a controller without an attempt off the bus, INIT 0 waits for 11 recessive bits,
after which it joins error-active with its counters at zero (R362); a request is set on a transmit buffer (R368), a cancel ends it at
once without an attempt and marks the attempt otherwise (R368, R371); the first word of a full receive buffer read locks it, its last
word read releases and empties it, and after 1 ms a lock ends by itself (R365). The model's choices in it: log entries 1, 2, 42, 84, 93. -/
def Obligations.MeridianAndCanRegistersAct : Prop :=
  (∀ (s : State) (c : WCycle) (w : Write) (new : Word), Calm s →
    (Lands s .MER_SET_HI 0 c w new → s.fld F.MER_CFG_SRC = 0 → Ends (.merSetHiWrite c) s fun t =>
      t.meridian = steppedTo s (mk64 new (s.rd .MER_SET_LO)) ∧ t.fld F.MER_STAT_STEP ≠ 0 ∧ Raised t 0x7060 7 ∧ t.tick = s.tick + c.dt ∧
        Kept (.latched :: .logs :: .lamp :: .mer :: writerParts w.who)
          [(.MER_SET_HI, 0), (.MER_STAT, 0), (.SYS_FAULT, 0), (.LAMP_HEAD, 0), (.LAMP_STAT, 0), (.LAMP_NEXT_LO, 0), (.LAMP_NEXT_HI, 0),
            (.LAMP_STALE_CNT, 0), (.LAMP_PREEMPT_CNT, 0), (.LAMP_LATE_CNT, 0), (.LAMP_LAUNCH_CNT, 0), (.LAMP_WITHHELD_CNT, 0)] s t) ∧
    (Lands s .MER_SET_HI 0 c w new → s.fld F.MER_CFG_SRC ≠ 0 → Ends (.merSetHiWrite c) s fun t =>
      t.mer = { s.mer with set := some (mk64 new (s.rd .MER_SET_LO), t.tick) } ∧ t.fld F.MER_STAT_SET_PEND = 1 ∧
        t.tick = s.tick + c.dt ∧ Kept (.mer :: writerParts w.who) [(.MER_SET_HI, 0), (.MER_STAT, 0)] s t) ∧
    (∀ x t0, s.mer.set = some (x, t0) → Ends .merSetDrop s fun t =>
      t.mer = { s.mer with set := none } ∧ t.fld F.MER_STAT_SET_PEND = 0 ∧ t.fld F.MER_STAT_SET_DROP ≠ 0 ∧ Raised t 0x7063 7 ∧
        t.tick = max s.tick (t0 + 3 * ticksPerS / 2) ∧ Kept [.mer, .logs, .latched] [(.MER_STAT, 0), (.SYS_FAULT, 0)] s t)) ∧
  (∀ (s : State) (n : Fin 2) (c : WCycle) (w : Write) (new : Word), Calm s →
    (Lands s .CAN_CTRL n c w new → bitOf new 0 = true → bitOf (s.rd .CAN_CTRL n) 0 = false → (s.canR n).attempt = none →
      Ends (.canInitWrite n c) s fun t =>
        t.fld F.CAN_STAT_STATE n = 3 ∧ t.rd .CAN_CTRL n = new ∧
          t.can = upd s.can n (fun r => { r with
            initAsk := false, joinAsk := false, stopAt := if s.canOn n = true then some t.tick else none }) ∧ t.tick = s.tick + c.dt ∧
          Kept (.can :: writerParts w.who) [(.CAN_CTRL, n), (.CAN_STAT, n)] s t) ∧
    (∀ x, Lands s .CAN_CTRL n c w new → bitOf new 0 = true → bitOf (s.rd .CAN_CTRL n) 0 = false → (s.canR n).attempt = some x →
      Ends (.canInitWrite n c) s fun t =>
        t.fld F.CAN_STAT_STATE n = s.fld F.CAN_STAT_STATE n ∧ t.rd .CAN_CTRL n = new ∧
          t.can = upd s.can n (fun r => { r with initAsk := true, joinAsk := false }) ∧ t.tick = s.tick + c.dt ∧
          Kept (.can :: writerParts w.who) [(.CAN_CTRL, n)] s t) ∧
    (Lands s .CAN_CTRL n c w new → bitOf new 0 = false → bitOf (s.rd .CAN_CTRL n) 0 = true → Ends (.canInitWrite n c) s fun t =>
      t.rd .CAN_CTRL n = new ∧ t.can = upd s.can n (fun r => { r with initAsk := false, joinAsk := true }) ∧ t.tick = s.tick + c.dt ∧
        Kept (.can :: writerParts w.who) [(.CAN_CTRL, n)] s t) ∧
    (∀ dt, (s.canR n).joinAsk = true → Ends (.canInitReleaseDone n dt) s fun t =>
      t.fld F.CAN_STAT_STATE n = 0 ∧ t.rd .CAN_ERRCNT n = 0 ∧ t.rd .CAN_TT_STAT n = 0 ∧ (∀ r ∈ t.can[n.val]?, r.joinAsk = false) ∧
        t.tick = s.tick + dt ∧ Kept [.can] [(.CAN_STAT, n), (.CAN_ERRCNT, n), (.CAN_TT_STAT, n)] s t) ∧
    (∀ k : Fin 64, c.ws = [w] → c.hwSet = 0 → w.kind = .set → State.failsOf w = 0 → w.value = 1#32 <<< (k.val % 32) →
      s.mbPending n k = false → s.mbCode n k = 2 → s.mb0 n k 18 18 = 0 → Ends (.canTxreqSet n (decide (32 ≤ k.val)) c) s fun t =>
        t.mbPending n k = true ∧ t.mb0 n k 9 8 = 0 ∧ t.tick = s.tick + c.dt ∧
          Kept (writerParts w.who) [(.CAN_MB, State.mbIx n k 0), (if k.val < 32 then .CAN_TXREQ_LO else .CAN_TXREQ_HI, n.val)] s t) ∧
    (∀ k : Fin 64, c.ws = [w] → c.hwSet = 0 → w.kind = .clr → State.failsOf w = 0 → w.value = 1#32 <<< (k.val % 32) →
      s.mbPending n k = true → (s.canR n).attempt = none → Ends (.canTxCancel n (decide (32 ≤ k.val)) c) s fun t =>
        t.mbPending n k = false ∧ t.mb0 n k 9 8 = 2 ∧ t.tick = s.tick + c.dt ∧
          Kept (writerParts w.who) [(.CAN_MB, State.mbIx n k 0), (if k.val < 32 then .CAN_TXREQ_LO else .CAN_TXREQ_HI, n.val)] s t) ∧
    (∀ (k : Fin 64) x, c.ws = [w] → c.hwSet = 0 → w.kind = .clr → State.failsOf w = 0 → w.value = 1#32 <<< (k.val % 32) →
      s.mbPending n k = true → (s.canR n).attempt = some x → x.mb = k.val → Ends (.canTxCancel n (decide (32 ≤ k.val)) c) s fun t =>
        t.mbPending n k = true ∧ t.can = upd s.can n (fun r => { r with attempt := some { x with cancel := true } }) ∧
          t.tick = s.tick + c.dt ∧ Kept (.can :: writerParts w.who) [] s t) ∧
    (∀ (k : Fin 64) dt by_, (∀ l ∈ s.hst.latches, l.by_ = by_ → l.addr ≠ RegId.CAN_MB.addr (State.mbIx n k 0)) →
      s.mbCode n k = 1 → s.mb0 n k 2 2 = 1 → s.mbLocked n k = false → Ends (.canMbWord0Read n k dt ⟨by_, 0⟩) s fun t =>
        t.mbLocked n k = true ∧ t.mb0 n k 2 2 = 1 ∧ t.can = upd s.can n (fun r => { r with locks := r.locks.set k (some t.tick) }) ∧
          t.tick = s.tick + dt ∧ Kept [.can] [(.CAN_MB, State.mbIx n k 0)] s t) ∧
    (∀ (k : Fin 64) dt by_, (∀ l ∈ s.hst.latches, l.by_ = by_ → l.addr ≠ RegId.CAN_MB.addr (State.mbIx n k (s.mb0 n k 28 24))) →
      s.mbCode n k = 1 → s.mbLocked n k = true → 0 < s.mb0 n k 28 24 → s.mb0 n k 28 24 < 24 → Ends (.canMbLastwRead n k dt ⟨by_, 0⟩) s fun t =>
        t.mbLocked n k = false ∧ t.mb0 n k 2 2 = 0 ∧ ((s.canR n).lostWait.contains k.val = true → t.mb0 n k 4 4 = 1) ∧
          t.tick = s.tick + dt ∧ Kept [.can, .host] [(.CAN_MB, State.mbIx n k 0)] s t) ∧
    (∀ (k : Fin 64) t0, nth (s.canR n).locks k = some t0 → Ends (.canLockTimeout n k) s fun t =>
      t.mbLocked n k = false ∧ t.mb0 n k 2 2 = s.mb0 n k 2 2 ∧ t.tick = max s.tick (t0 + ticksPerMs) ∧
        Kept [.can] [(.CAN_MB, State.mbIx n k 0), (.CAN_LOCK_TMO, n)] s t))

/-! ## Axis commands (class 0x03xx) -/

/-- AXIS_CONFIG of a DISABLED axis writes its pairs in order, all or none, with one audit record (R230): a pair that names a register of
its own block, in words of any value where the register takes any. AXIS_SETPOINT writes the register of its QUANTITY within the envelope
(R231): the host set-point where the axis is in that mode, the power limits without a hold, the torque limits; AXIS_MODE writes MODE and
SRC (R232). The model's choices in it: log entries 1, 44, 45. -/
def Obligations.AxisValuesWrite : Prop :=
  (∀ (s : State) (p : Pkt) (role : Role), Calm s → Carried s cmdAxisConfig p role → s.axSt (axisOf p) = aDISABLED →
    (∀ r ∈ plainRegs, ∀ off v, p.payload.drop 1 = [off, v] → State.axisReg (axisOf p) off.toNat = some r → Ends (.axisConfig p) s fun t =>
      Answered s t cmdAxisConfig p (ok) ∧ t.rd r (axisOf p) = v ∧ t.flt.nextAudit = s.flt.nextAudit + 1 ∧ t.flt.log = s.flt.log ∧
        t.tick = s.tick + p.dt ∧ Kept (.logs :: replyParts) [(r, axisOf p)] s t) ∧
    (∀ r r' : RegId, r ∈ plainRegs → r' ∈ plainRegs → r ≠ r' → ∀ off v off' v', p.payload.drop 1 = [off, v, off', v'] →
      State.axisReg (axisOf p) off.toNat = some r → State.axisReg (axisOf p) off'.toNat = some r' → Ends (.axisConfig p) s fun t =>
        Answered s t cmdAxisConfig p (ok) ∧ t.rd r (axisOf p) = v ∧ t.rd r' (axisOf p) = v' ∧ t.tick = s.tick + p.dt ∧
          Kept (.logs :: replyParts) [(r, axisOf p), (r', axisOf p)] s t) ∧
    (∀ r off w new, p.payload.drop 1 = [off, nth p.payload 2] → State.axisReg (axisOf p) off.toNat = some r → r ∉ actingRegs →
      w = ⟨.host role, .plain, nth p.payload 2, 0⟩ → Lands (at_ s p) r (axisOf p) ⟨0, [w], 0⟩ w new → Ends (.axisConfig p) s fun t =>
        Answered s t cmdAxisConfig p (ok) ∧ t.rd r (axisOf p) = new ∧ t.flt.nextAudit = s.flt.nextAudit + 1 ∧ t.flt.log = s.flt.log ∧
          t.tick = s.tick + p.dt ∧ Kept (.logs :: replyParts) [(r, axisOf p)] s t)) ∧
  (∀ (s : State) (p : Pkt) (role : Role), Calm s → Carried s cmdAxisSetpoint p role → p.rivals = [] →
    (s.fld F.AX_CTRL_MODE (axisOf p) = bitsOf (nth p.payload 0) 11 8 → bitsOf (nth p.payload 0) 11 8 ≤ 3 →
      (at_ s p).beyondEnv .AX_SP_HOST (axisOf p) (nth p.payload 1) = false → Ends (.axisSetpoint p) s fun t =>
        Answered s t cmdAxisSetpoint p (ok) ∧ t.rd .AX_SP_HOST (axisOf p) = nth p.payload 1 ∧
          t.em = (if s.fld F.AX_CTRL_SRC (axisOf p) = 0 then upd s.em (axisOf p) (fun e => { e with lastSp := t.tick }) else s.em) ∧
          t.tick = s.tick + p.dt ∧
          Kept (.em :: replyParts) [(.AX_SP_HOST, axisOf p)] s t) ∧
    (∀ r, State.quantityReg (bitsOf (nth p.payload 0) 11 8) = some (r, false) → s.heldAt r (axisOf p) = none →
      (at_ s p).beyondEnv r (axisOf p) (nth p.payload 1) = false → Ends (.axisSetpoint p) s fun t =>
        Answered s t cmdAxisSetpoint p (ok) ∧ t.rd r (axisOf p) = nth p.payload 1 ∧ t.tick = s.tick + p.dt ∧
          Kept (.ax :: replyParts) [(r, axisOf p)] s t)) ∧
  (∀ (s : State) (p : Pkt) (role : Role), Calm s → Carried s cmdAxisMode p role → p.rivals = [] →
    (at_ s p).modeOk (axisOf p) (nth p.payload 1) = true → Ends (.axisMode p) s fun t =>
      Answered s t cmdAxisMode p (ok) ∧ t.fld F.AX_CTRL_MODE (axisOf p) = bitsOf (nth p.payload 1) 2 0 ∧
        t.fld F.AX_CTRL_SRC (axisOf p) = bitsOf (nth p.payload 1) 6 4 ∧ t.tick = s.tick + p.dt ∧
        Kept replyParts [(.AX_CTRL, axisOf p)] s t)

/-- R233: AXIS_STATUS replies AX_STAT, AX_SPEED, AX_T_REF, AX_T_EST, AX_T_LOAD, AX_SP_ACTIVE, AX_IMAG and AX_FAULT, in this order, and
changes nothing but the reply's parts. -/
def Obligations.AxisStatusRepliesBlock : Prop :=
  ∀ (s : State) (p : Pkt) (role : Role), Calm s → Carried s cmdAxisStatus p role → Ends (.axisStatus p) s fun t =>
    Answered s t cmdAxisStatus p (ok [s.rd .AX_STAT (axisOf p), s.rd .AX_SPEED (axisOf p), s.rd .AX_T_REF (axisOf p),
      s.rd .AX_T_EST (axisOf p), s.rd .AX_T_LOAD (axisOf p), s.rd .AX_SP_ACTIVE (axisOf p), s.rd .AX_IMAG (axisOf p),
      s.rd .AX_FAULT (axisOf p)]) ∧ Kept replyParts [] s t

/-- AXIS_ENABLE (R94, R227, R244, R264) of an axis that has the voltage channels that a start through CATCH needs: OK at once in RUN; else
BAD_PARAM where a FOLLOW group has not one leader or a follower is not in MODE 0; PENDING and queued behind a stop, else ACCEPTED: a DISABLED axis goes to CATCH with a zero torque reference, an induction machine without voltage
channels straight to its speed search, or, with CATCH_DIS, a known angle and complete bridges, to RUN, the device to RUN with it, or with
the angle unknown to ALIGN. AXIS_DISABLE (R227): OK
at once when DISABLED; from CATCH and ALIGN straight to DISABLED; in RUN the axis stops, the command in flight; in STOPPING it waits for
the stop. AXIS_EMERGENCY enters an operating mode that the envelope admits, from any state but DISABLED and FAULTED, logged and answered,
and its exit from EM-LIMP is a stop (R271 to R276). The model's choices in it: log entries 1, 43, 46, 58. -/
def Obligations.AxesEnableDisableAndModes : Prop :=
  (∀ (s : State) (p : Pkt) (role : Role), Calm s → Carried s cmdAxisEnable p role →
    s.pmsm (axisOf p) = false ∨ s.on F.AX_CFG_CATCH_DIS (axisOf p) = true ∨ s.on F.OBS_CFG_VT_EN (axisOf p) = true →
    (s.axSt (axisOf p) = aRUN → Ends (.axisEnable p) s fun t =>
      Answered s t cmdAxisEnable p (ok) ∧ t.tick = s.tick + p.dt ∧ Kept replyParts [] s t) ∧
    (s.axSt (axisOf p) ≠ aRUN → (at_ s p).followOk (axisOf p) = false → Ends (.axisEnable p) s fun t =>
      Answered s t cmdAxisEnable p (ans cBAD_PARAM) ∧ t.tick = s.tick + p.dt ∧ Kept replyParts [] s t) ∧
    (s.axSt (axisOf p) = aSTOPPING → (s.axis (axisOf p)).queued = false → (at_ s p).followOk (axisOf p) = true → Ends (.axisEnable p) s fun t =>
      Started s t cmdAxisEnable p (axisOf p) (ans cPENDING) ∧ t.ax = upd s.ax (axisOf p) (fun x => { x with queued := true }) ∧
        t.tick = s.tick + p.dt ∧ Kept (.ax :: .flight :: replyParts) [] s t) ∧
    (s.axSt (axisOf p) = aDISABLED → s.dev = dARMED ∨ s.dev = dRUN → (s.axis (axisOf p)).keMeas = false →
      s.engineBusy (axisOf p) = false → s.on F.AX_CFG_PROG (axisOf p) = false ∨ (s.axis (axisOf p)).progLoaded = true →
      s.on F.AX_CFG_CATCH_DIS (axisOf p) = false → (at_ s p).followOk (axisOf p) = true →
      s.induction (axisOf p) = false ∨ s.on F.OBS_CFG_VT_EN (axisOf p) = true ∨
        s.bridgesOf (axisOf p) ≠ [] ∧ (∀ b ∈ s.bridgesOf (axisOf p), s.cfgOk b = true) → Ends (.axisEnable p) s fun t =>
        Started s t cmdAxisEnable p (axisOf p) (ans cACCEPTED) ∧ t.axSt (axisOf p) = aCATCH ∧ t.rd .AX_T_REF (axisOf p) = 0 ∧
          (∀ o ∈ t.obs[axisOf p]?, o.entered = t.tick ∧
            o.search = (s.induction (axisOf p) && !s.on F.OBS_CFG_VT_EN (axisOf p) && (s.ob (axisOf p)).relock.isNone)) ∧
          t.tick = s.tick + p.dt ∧ Spared [] [.AX_T_REF] s t) ∧
    (s.axSt (axisOf p) = aDISABLED → s.dev = dARMED ∨ s.dev = dRUN → (s.axis (axisOf p)).keMeas = false →
      s.engineBusy (axisOf p) = false → s.on F.AX_CFG_PROG (axisOf p) = false ∨ (s.axis (axisOf p)).progLoaded = true →
      s.on F.AX_CFG_CATCH_DIS (axisOf p) = true → (at_ s p).followOk (axisOf p) = true → s.pmsm (axisOf p) = true →
      s.angleKnown (axisOf p) = false → s.bridgesOk (axisOf p) = true → Ends (.axisEnable p) s fun t =>
        Started s t cmdAxisEnable p (axisOf p) (ans cACCEPTED) ∧ t.axSt (axisOf p) = aALIGN ∧ t.rd .AX_T_REF (axisOf p) = 0 ∧
          (∀ o ∈ t.obs[axisOf p]?, o.alignT = t.tick ∧ o.alignTry = 0) ∧ t.tick = s.tick + p.dt ∧ Spared [] [.AX_T_REF] s t) ∧
    (s.axSt (axisOf p) = aDISABLED → s.dev = dARMED ∨ s.dev = dRUN → (s.axis (axisOf p)).keMeas = false →
      s.engineBusy (axisOf p) = false → s.on F.AX_CFG_PROG (axisOf p) = false ∨ (s.axis (axisOf p)).progLoaded = true →
      s.on F.AX_CFG_CATCH_DIS (axisOf p) = true → (at_ s p).followOk (axisOf p) = true →
      s.pmsm (axisOf p) = false ∨ s.angleKnown (axisOf p) = true → s.bridgesOk (axisOf p) = true → s.emAny (axisOf p) = false → (s.ob (axisOf p)).relock = none → Ends (.axisEnable p) s fun t =>
        t.axSt (axisOf p) = aRUN ∧ t.dev = dRUN ∧ (∀ f ∈ t.hst.flight, ¬(f.opcode = 0x0301 ∧ f.target = axisOf p)) ∧
          t.tick = s.tick + p.dt ∧ Spared [.free] [] s t)) ∧
  (∀ (s : State) (p : Pkt) (role : Role), Calm s → Carried s cmdAxisDisable p role →
    (s.axSt (axisOf p) = aDISABLED → Ends (.axisDisable p) s fun t =>
      Answered s t cmdAxisDisable p (ok) ∧ t.tick = s.tick + p.dt ∧ Kept replyParts [] s t) ∧
    (s.axSt (axisOf p) = aCATCH ∨ s.axSt (axisOf p) = aALIGN → Ends (.axisDisable p) s fun t =>
      t.axSt (axisOf p) = aDISABLED ∧ (∀ f ∈ t.hst.flight, ¬((f.opcode = 0x0301 ∨ f.opcode = 0x0302) ∧ f.target = axisOf p)) ∧
        t.tick = s.tick + p.dt ∧ Spared [] [] s t) ∧
    (s.axSt (axisOf p) = aRUN → (∀ f ∈ s.hst.flight, ¬(f.opcode = 0x0306 ∧ f.target = axisOf p)) → Ends (.axisDisable p) s fun t =>
      Started s t cmdAxisDisable p (axisOf p) (ans cACCEPTED) ∧ t.axSt (axisOf p) = aSTOPPING ∧
        (∀ x ∈ t.ax[axisOf p]?, x.stop = .disable ∧ x.rate = 0 ∧
          (s.on F.AX_SH_STAT_DROOP (axisOf p) = false → x.spdI = s.sg .AX_T_REF (axisOf p))) ∧
        t.rd .AX_SP_ACTIVE (axisOf p) = s.rd .AX_SPEED (axisOf p) ∧ t.tick = s.tick + p.dt ∧ Spared [] [] s t) ∧
    (s.axSt (axisOf p) = aSTOPPING → (s.axis (axisOf p)).queued = false → Ends (.axisDisable p) s fun t =>
      Started s t cmdAxisDisable p (axisOf p) (ans cACCEPTED) ∧ t.tick = s.tick + p.dt ∧ Kept (.flight :: replyParts) [] s t)) ∧
  (∀ (s : State) (p : Pkt) (role : Role), Calm s →
    (∀ m, m = 3 ∨ m = 5 → Carried s cmdAxisEmergency p role → nth p.payload 1 = wd m → s.emAdmitted (axisOf p) m = true →
      s.axSt (axisOf p) ≠ aDISABLED → s.axSt (axisOf p) ≠ aFAULTED → s.fld F.AX_EM_STAT_OPMODE (axisOf p) = 0 →
      Ends (.axisEmergency p) s fun t =>
        t.axSt (axisOf p) = aEMERGENCY ∧ t.fld F.AX_EM_STAT_OPMODE (axisOf p) = m ∧ Raised t 0x3043 (axisOf p) ∧
          (∀ f ∈ t.hst.flight, ¬(f.opcode = 0x0306 ∧ f.target = 4 + axisOf p)) ∧ t.tick = s.tick + p.dt ∧ Spared [.free] [] s t) ∧
    (Carried s cmdAxisEmergency p role → nth p.payload 1 = 0x101 → s.emAdmitted (axisOf p) 1 = true →
      s.axSt (axisOf p) = aEMERGENCY → s.on F.AX_EM_STAT_LIMP (axisOf p) = true → Ends (.axisEmergency p) s fun t =>
        t.axSt (axisOf p) = aSTOPPING ∧ (∃ f ∈ t.hst.flight, f.opcode = 0x0306 ∧ f.pkt = p ∧ f.target = axisOf p) ∧
          t.tick = s.tick + p.dt ∧ Spared [] [] s t))

/-! ## Axis events -/

/-- A catch that finds a standstill ends in ALIGN for a PMSM of unknown angle, else in RUN; a speed search that finds the rotor ends in RUN
with the observer locked, one under negative power refuses the start and the axis is DISABLED again (R246, R249). The two polarity
pulses of ALIGN: with a clear difference the angle is taken, turned by half a turn where the negative pulse was larger, and the axis
runs, a channel referenced meanwhile being compared with it at once; else ALIGN is tried again (R242, R243). A relock whose currents do not decay within 5 ms has failed: counted, it starts again, and
the third in a row is FR3 (R252); one that finds a standstill with the angle known runs again, its torque ramp begun; the end of the
torque ramp clears the count (R251, R252). The model's choices in it: log entries 1, 2, 48, 49, 50. -/
def Obligations.CatchAlignRelockEnd : Prop :=
  (∀ (s : State) (a : Fin 4) (dt : Nat), Calm s → s.axSt a = aCATCH → (s.ob a).relock = none →
    ((s.ob a).search = false → s.encValid a = false → (s.ob a).catch_.early = false → (s.ob a).catch_.v < s.sg .OBS_CATCH_VMIN a →
      s.induction a = false ∨ s.on F.OBS_CFG_SS_EN a = false → s.bridgesOk a = true → s.emAny a = false →
      Ends (.catchEnd a dt) s fun t =>
        t.axSt a = (if s.pmsm a = true ∧ s.angleKnown a = false then aALIGN else aRUN) ∧ t.fld F.OBS_STAT_CATCH_OUT a = 1 ∧
          t.tick = max (s.tick + dt) ((s.ob a).entered + s.fld F.OBS_CATCH_CFG_TMIN a * ticksPerMs) ∧
          Spared [.free] [.OBS_STAT, .OBS_CATCH_SPEED, .AX_T_REF] s t) ∧
    (∀ w v th, (s.ob a).search = true → (s.ob a).catch_.found = some (.found w v th) → s.bridgesOk a = true → s.emAny a = false →
      Ends (.catchEnd a dt) s fun t =>
        t.axSt a = aRUN ∧ t.fld F.OBS_STAT_CATCH_OUT a = 6 ∧ t.fld F.OBS_STAT_LOCKED a = 1 ∧ t.rd .OBS_THETA a = th ∧
          (∀ f ∈ t.hst.flight, ¬(f.opcode = 0x0301 ∧ f.target = a.val)) ∧ t.tick = s.tick + dt ∧
          Spared [.free] [.OBS_STAT, .OBS_CATCH_SPEED, .OBS_THETA, .OBS_SPEED, .AX_T_REF] s t) ∧
    ((s.ob a).search = true → (s.ob a).catch_.found = some .negative → Ends (.catchEnd a dt) s fun t =>
      t.axSt a = aDISABLED ∧ t.fld F.OBS_STAT_CATCH_OUT a = 4 ∧ t.rd .OBS_CATCH_SPEED a = 0 ∧
        (∀ f ∈ t.hst.flight, ¬(f.opcode = 0x0301 ∧ f.target = a.val)) ∧ t.tick = s.tick + dt ∧
        Spared [] [.OBS_STAT, .OBS_CATCH_SPEED] s t)) ∧
  (∀ (s : State) (a : Fin 4) (dt : Nat) (ip in_ : Int), Calm s → s.axSt a = aALIGN → (s.ob a).peakP = some ip → (s.ob a).peakN = some in_ →
    (s.sg .OBS_POL_MIN a ≤ (ip - in_).natAbs → s.bridgesOk a = true → s.emAny a = false →
      (s.ob a).relock = none → s.onObserver a = true ∨ s.on F.EN_STAT_REFERENCED (s.encOf a) = false → Ends (.alignComplete a dt) s fun t =>
        t.axSt a = aRUN ∧ (∀ o ∈ t.obs[a.val]?, o.thInj = (s.ob a).thInj + (if ip < in_ then 0x80000000 else 0)) ∧
          (s.onObserver a = true → t.fld F.OBS_STAT_LOCKED a = 1) ∧ (∀ f ∈ t.hst.flight, ¬(f.opcode = 0x0301 ∧ f.target = a.val)) ∧
          t.tick = s.tick + dt ∧ Spared [.free] [.OBS_STAT, .OBS_THETA] s t) ∧
    (∀ d, s.sg .OBS_POL_MIN a ≤ (ip - in_).natAbs → s.bridgesOk a = true → s.emAny a = false → (s.ob a).relock = none →
      s.onObserver a = false → s.on F.EN_STAT_REFERENCED (s.encOf a) = true → (∀ b, b < 4 → b ≠ a.val → (s.ob b).aligned = none) →
      d = (s.elapse dt).encAngle a - ((s.ob a).thInj + (if ip < in_ then 0x80000000 else 0)) → d.toInt.natAbs ≤ s.plausAng a →
      Ends (.alignComplete a dt) s fun t =>
        t.axSt a = aRUN ∧ t.rd .OBS_ALIGN_DEV a = d ∧ (∀ o ∈ t.obs[a.val]?, o.aligned = none) ∧
          (∀ f ∈ t.hst.flight, ¬(f.opcode = 0x0301 ∧ f.target = a.val)) ∧ t.tick = s.tick + dt ∧
          Spared [.free] [.OBS_STAT, .OBS_THETA, .OBS_ALIGN_DEV] s t) ∧
    ((ip - in_).natAbs < s.sg .OBS_POL_MIN a → (s.ob a).alignTry < 2 → Ends (.alignComplete a dt) s fun t =>
      t.obs = upd s.obs a (fun o =>
          { o with
            alignTry := (s.ob a).alignTry + 1, alignK := none, peakP := none, peakN := none,
            alignT := t.tick - s.fld F.OBS_ALIGN_T a * ticksPerMs }) ∧
        t.fld F.OBS_STAT_ALIGN_RETRY a ≠ 0 ∧ t.tick = s.tick + dt ∧ Kept [.obs] [(.OBS_STAT, a)] s t)) ∧
  (∀ (s : State) (a : Fin 4) (dt : Nat) (k : Relock), Calm s →
    (s.axSt a = aCATCH → (s.ob a).relock = some k → (s.ob a).search = false → (s.ob a).catch_.decayAt = none →
      s.fld F.OBS_STAT_RELOCK_FAIL a < 2 → Ends (.relockDecision a dt) s fun t =>
        t.fld F.OBS_STAT_RELOCK_FAIL a = s.fld F.OBS_STAT_RELOCK_FAIL a + 1 ∧ t.axSt a = aCATCH ∧ t.rd .AX_T_REF a = 0 ∧
          t.tick = max (s.tick + dt) ((s.ob a).entered + 5 * ticksPerMs) ∧ Spared [] [.OBS_STAT, .OBS_RELOCK_CNT, .AX_T_REF] s t) ∧
    (s.axSt a = aCATCH → (s.ob a).relock = some k → (s.ob a).search = false → (s.ob a).catch_.decayAt = none →
      2 ≤ s.fld F.OBS_STAT_RELOCK_FAIL a → Ends (.relockDecision a dt) s fun t =>
        t.fld F.OBS_STAT_RELOCK_FAIL a = 3 ∧ Raised t 0x2012 a ∧ t.tick = max (s.tick + dt) ((s.ob a).entered + 5 * ticksPerMs) ∧
          Spared [] [.OBS_STAT] s t) ∧
    (s.axSt a = aCATCH → (s.ob a).relock = some k → (s.ob a).search = false → (s.ob a).catch_.decayAt = some (s.ob a).entered →
      (s.ob a).catch_.v < s.sg .OBS_CATCH_VMIN a → s.induction a = false ∨ s.on F.OBS_CFG_SS_EN a = false →
      s.bridgesOk a = true → s.emAny a = false → s.pmsm a = false ∨ s.angleKnown a = true → k.heldFr2 = none →
      Ends (.relockDecision a dt) s fun t =>
        t.axSt a = aRUN ∧ t.fld F.OBS_STAT_CATCH_OUT a = 1 ∧ (∀ o ∈ t.obs[a.val]?, o.relock = none ∧ o.rampAt = some t.tick) ∧
          t.tick = max (s.tick + dt) ((s.ob a).entered + s.fld F.OBS_CATCH_CFG_RELOCK a * ticksPerMs) ∧
          Spared [.free] [.OBS_STAT, .OBS_CATCH_SPEED, .AX_T_REF] s t) ∧
    (∀ t0, (s.ob a).rampAt = some t0 → Ends (.relockRampEnd a) s fun t =>
      t.obs = upd s.obs a (fun o => { o with rampAt := none }) ∧ t.fld F.OBS_STAT_RELOCK_FAIL a = 0 ∧
        t.tick = max s.tick (t0 + 200 * ticksPerMs) ∧ Kept [.obs] [(.OBS_STAT, a)] s t))

/-- A stop is complete when the speed has been low for 100 ms and the brake, where one is fitted, is applied: the axis is DISABLED,
after an FR2 FAULTED, and the commands that waited for it are answered (R227, R228). Torque proving: proved, the brake is asked to
release, and EM-LOWER follows, or EM-HOLD ends with the axis at speed zero; failed, it is an FR2 (R279, R280). A recovered tension ends
EM-RENDER and gives back the mode and source of before (R281, R282). The model's choices in it: log entries 1, 2, 57. -/
def Obligations.StopsAndEmergenciesEnd : Prop :=
  (∀ (s : State) (a : Fin 4) (dt t0 : Nat), Calm s → s.axSt a = aSTOPPING → (s.axis a).lowSince = some t0 →
    ¬(s.sbcPresent = true ∧ s.braked = false) →
    ((s.axis a).stop = .none ∨ (s.axis a).stop = .disable ∨ (s.axis a).stop = .demand → (s.axis a).queued = false →
      Ends (.stopComplete a dt) s fun t =>
        t.axSt a = aDISABLED ∧ (∀ f ∈ t.hst.flight, ¬((f.opcode = 0x0302 ∨ f.opcode = 0x0306) ∧ f.target = a.val)) ∧
          t.tick = max (s.tick + dt) (t0 + 100 * ticksPerMs) ∧ Spared [] [] s t) ∧
    (∀ c, (s.axis a).stop = .fr2 c → Ends (.stopComplete a dt) s fun t =>
      t.axSt a = aFAULTED ∧ (∀ f ∈ t.hst.flight, ¬((f.opcode = 0x0301 ∨ f.opcode = 0x0302 ∨ f.opcode = 0x0306) ∧ f.target = a.val)) ∧
        t.tick = max (s.tick + dt) (t0 + 100 * ticksPerMs) ∧ Spared [] [] s t)) ∧
  (∀ (s : State) (a : Fin 4) (t0 : Nat), Calm s →
    ((s.emr a).proveFor = some true → (s.emr a).proveAt = some t0 → (s.emr a).proveOk = true → Ends (.torqueProvingEnd a) s fun t =>
      t.fld F.AX_EM_STAT_OPMODE a = 4 ∧ t.fld F.AX_EM_STAT_PROVING a = 0 ∧ t.fld F.LAN_SBC_REQ = 1 ∧ Raised t 0x3043 a ∧
        (∀ f ∈ t.hst.flight, ¬(f.opcode = 0x0306 ∧ f.target = a.val)) ∧
        t.tick = max s.tick (t0 + s.fld F.AX_EM_PROVE_T_T a * ticksPerMs) ∧ Spared [.free] [] s t) ∧
    ((s.emr a).proveFor = some false → s.opMode a = 5 → (s.emr a).proveAt = some t0 → (s.emr a).proveOk = true → Ends (.torqueProvingEnd a) s fun t =>
      t.fld F.AX_EM_STAT_OPMODE a = 0 ∧ t.fld F.AX_EM_STAT_PROVING a = 0 ∧ t.fld F.LAN_SBC_REQ = 1 ∧ t.fld F.AX_CTRL_MODE a = 1 ∧
        t.rd .AX_SP_ACTIVE a = 0 ∧ (∀ f ∈ t.hst.flight, ¬(f.opcode = 0x0306 ∧ f.target = a.val)) ∧ Spared [.free] [.AX_CTRL] s t) ∧
    (∀ b, (s.emr a).proveFor = some b → (s.emr a).proveAt = some t0 → (s.emr a).proveOk = false → Ends (.torqueProvingEnd a) s fun t =>
      Raised t 0x3045 a ∧ Spared [] [] s t) ∧
    ((s.emr a).recSince = some t0 → s.opMode a = 6 → (s.emr a).fr2 = none → Ends (.renderEnd a) s fun t =>
      t.fld F.AX_EM_STAT_OPMODE a = 0 ∧ (s.on F.AX_EM_STAT_LIMP a = false → s.on F.AX_EM_STAT_SENSORLESS a = false → t.axSt a = aRUN) ∧
        ((s.emr a).modeSrc.1 < 4 → t.fld F.AX_CTRL_MODE a = (s.emr a).modeSrc.1) ∧ t.tick = max s.tick (t0 + ticksPerS) ∧
        Spared [.free] [.AX_CTRL] s t) ∧
    (∀ c, (s.emr a).recSince = some t0 → s.opMode a = 6 → (s.emr a).fr2 = some c → Ends (.renderEnd a) s fun t =>
      t.axSt a = aSTOPPING ∧ (∀ x ∈ t.ax[a.val]?, x.stop = .fr2 c) ∧ t.tick = max s.tick (t0 + ticksPerS) ∧ Spared [] [] s t))

/-- A lost source falls to zero after its hold (R221); a host silent for HOST_TMO in RUN leads to EM-LEVER where the envelope admits it
(R271, R278); a power hold ends (R269, R270). Load sharing: a correction at its clip for 1 s is flagged and alerted once (R263); a share
group that is whole again for RESTORE samples ends the droop (R268); a difference current beyond its limit for 10 ms is an FR2 of the
axis (R219). The model's choices in it: log entry 2. -/
def Obligations.SourcesAndSharingEvents : Prop :=
  (∀ (s : State) (a : Fin 4), Calm s →
    (∀ t0, (s.axis a).lostAt = some t0 → Ends (.sourceHoldExpiry a) s fun t =>
      t.ax = upd s.ax a (fun x => { x with rawHeld := 0, raw := 0 }) ∧
        t.tick = max s.tick (t0 + s.fld F.AX_SRC_CFG_HOLD a * ticksPerMs) ∧ Kept [.ax] [] s t) ∧
    (s.axSt a = aRUN → s.on F.AX_EM_CFG_LEVER_AUTO a = true → (s.axis a).act.2 = 0 ∨ (s.axis a).act.2 = 3 → s.emAdmitted a 3 = true →
      Ends (.leverHostTimeout a) s fun t =>
        t.axSt a = aEMERGENCY ∧ t.fld F.AX_EM_STAT_OPMODE a = 3 ∧ Raised t 0x3043 a ∧
          t.tick = max s.tick ((s.emr a).lastSp + s.fld F.AX_EM_CFG_HOST_TMO a * ticksPerMs) ∧ Spared [.free] [] s t)) ∧
  (∀ (s : State) (a : Fin 4), Calm s →
    (∀ t0, (s.shr a).clipSince = some t0 → s.on F.AX_SH_STAT_IMB a = false → Ends (.shareImbalance a) s fun t =>
      t.fld F.AX_SH_STAT_IMB a ≠ 0 ∧ Raised t 0x3041 a ∧ t.tick = max s.tick (t0 + ticksPerS) ∧
        Kept [.logs, .latched] [(.AX_SH_STAT, a), (.SYS_FAULT, 0), (.AX_FAULT, a)] s t) ∧
    (s.on F.AX_SH_STAT_DROOP a = true → s.fld F.AX_SH_TMO_RESTORE a ≤ (s.shr a).absent → (s.shr a).wasFollow = false →
      Ends (.droopRestore a) s fun t =>
        t.fld F.AX_SH_STAT_DROOP a = 0 ∧ t.share = upd s.share a (fun x => { x with restoreAt := some s.tick, wasFollow := false }) ∧
          t.tick = s.tick ∧ Kept [.share] [(.AX_SH_STAT, a)] s t) ∧
    (s.on F.AX_SH_STAT_DROOP a = true → s.fld F.AX_SH_TMO_RESTORE a ≤ (s.shr a).absent → (s.shr a).wasFollow = true →
      Ends (.droopRestore a) s fun t =>
        t.fld F.AX_SH_STAT_DROOP a = 0 ∧ t.fld F.AX_CTRL_MODE a = 0 ∧ t.tick = s.tick ∧
          Kept [.share, .ax, .free] [(.AX_SH_STAT, a), (.AX_CTRL, a), (.AX_T_OUT, a)] s t) ∧
    (∀ t0, (s.axis a).circSince = some t0 → Ends (.circulatingCurrent a) s fun t =>
      t.fld F.AX_STAT_CIRC a ≠ 0 ∧ Raised t 0x3014 a ∧ t.tick = max s.tick (t0 + 10 * ticksPerMs) ∧ Spared [] [] s t))

/-! ## Motion engines (class 0x04xx) -/

/-- MOTION_MOVE with ARMED or RUN, an engine at rest and a target, a speed and an acceleration that it may take starts the profile; one
that is at the target already completes at once (R313 to R315). MOTION_STOP replies the position and the status, an engine in motion
having stopped (R316, R317); MOTION_HOME starts the move out, its speed ME_HOME_V refused when it is zero or above ME_VMAX (R314, R323). GEAR_CONFIG stores the list of its COUNT entries with MASTER and
BLEND, and with ENGAGE the engine is geared (R320). The model's choices in it: log entries 1, 26, 79, 80. -/
def Obligations.MotionCommandsAct : Prop :=
  (∀ (s : State) (p : Pkt) (role : Role), Calm s → Carried s cmdMotionMove p role → s.motionOk = true → s.reiniting 3 (engineOf p) = false →
    (s.me (engineOf p)).dead = false → s.on F.ME_STAT_AT_REST (engineOf p) = true → s.unsure (engineOf p) = false → nth p.payload 2 ≠ 0 →
    (nth p.payload 2).toNat ≤ (s.rd .ME_VMAX (engineOf p)).toNat → nth p.payload 3 ≠ 0 →
    (s.sg .ME_POS (engineOf p) ≠ (nth p.payload 1).toInt →
      s.meLimit (engineOf p) (s.sg .ME_POS (engineOf p) < (nth p.payload 1).toInt) = false → Ends (.motionMove p) s fun t =>
        Started s t cmdMotionMove p (engineOf p) (ans cACCEPTED) ∧ t.rd .ME_TARGET (engineOf p) = nth p.payload 1 ∧
          t.fld F.ME_STAT_PROFILE (engineOf p) = 1 ∧ t.fld F.ME_STAT_AT_REST (engineOf p) = 0 ∧
          t.mot.me = upd s.mot.me (engineOf p) (fun m => { m with
            move := some .profile, target := (nth p.payload 1).toInt, vmax := (nth p.payload 2).toNat, acc := (nth p.payload 3).toNat,
            speed := 0, accel := 0, dir := s.sg .ME_POS (engineOf p) < (nth p.payload 1).toInt, stallN := 0, held := false }) ∧
          t.tick = s.tick + p.dt ∧
          Kept (.mot :: .flight :: replyParts) [(.ME_TARGET, engineOf p), (.ME_STAT, engineOf p)] s t) ∧
    (s.sg .ME_POS (engineOf p) = (nth p.payload 1).toInt → s.mot.me.length = 2 →
      Ends (.motionMove p) s fun t =>
        t.fld F.ME_STAT_AT_REST (engineOf p) = 1 ∧ t.rd .ME_POS (engineOf p) = s.rd .ME_POS (engineOf p) ∧
          (∀ f ∈ t.hst.flight, ¬(f.opcode = 0x0400 ∧ f.target = engineOf p)) ∧ t.tick = s.tick + p.dt ∧
          Kept (.mot :: .flight :: .errors :: replyParts)
            [(.ME_TARGET, engineOf p), (.ME_STAT, engineOf p), (.ME_SPEED, engineOf p)] s t)) ∧
  (∀ (s : State) (p : Pkt) (role : Role), Calm s →
    (Carried s cmdMotionStop p role → s.on F.ME_STAT_AT_REST (engineOf p) = true → Ends (.motionStop p) s fun t =>
      Answered s t cmdMotionStop p (ok [s.rd .ME_POS (engineOf p), s.rd .ME_STAT (engineOf p)]) ∧ t.tick = s.tick + p.dt ∧
        Kept replyParts [] s t) ∧
    (Carried s cmdMotionStop p role → s.on F.ME_STAT_AT_REST (engineOf p) = false → s.meArrived (engineOf p) = false →
      Ends (.motionStop p) s fun t =>
        t.fld F.ME_STAT_AT_REST (engineOf p) = 1 ∧ t.rd .ME_SPEED (engineOf p) = 0 ∧ t.rd .ME_POS (engineOf p) = s.rd .ME_POS (engineOf p) ∧
          (∀ f ∈ t.hst.flight, ¬((f.opcode = 0x0400 ∨ f.opcode = 0x0402) ∧ f.target = engineOf p)) ∧ t.tick = s.tick + p.dt ∧
          Spared [] [] s t) ∧
    (Carried s cmdMotionHome p role → s.motionRefusal (engineOf p) none = none → stray 0xFFFF0001 (nth p.payload 1) = false →
      bitsOf (nth p.payload 1) 31 16 ≠ 0 → bitsOf (nth p.payload 1) 31 16 ≤ s.fld F.AUX_I_LEVELS_I_RUN →
      s.rd .ME_HOME_V (engineOf p) ≠ 0 → (s.rd .ME_HOME_V (engineOf p)).toNat ≤ (s.rd .ME_VMAX (engineOf p)).toNat →
      Ends (.motionHome p) s fun t =>
        Started s t cmdMotionHome p (engineOf p) (ans cACCEPTED) ∧ t.fld F.ME_STAT_HOMING (engineOf p) = 1 ∧
          t.fld F.ME_STAT_AT_REST (engineOf p) = 0 ∧
          t.mot.me = upd s.mot.me (engineOf p) (fun m => { m with
            move := some .homeOut, dir := bitOf (nth p.payload 1) 0, homeI := bitsOf (nth p.payload 1) 31 16,
            homeFrom := s.mePos (engineOf p), speed := 0, accel := 0, stallN := 0, held := false }) ∧
          t.tick = s.tick + p.dt ∧ Kept (.mot :: .flight :: replyParts) [(.ME_STAT, engineOf p)] s t) ∧
    (Carried s cmdMotionHome p role → s.motionOk = true → stray 0xFFFF0001 (nth p.payload 1) = false →
      bitsOf (nth p.payload 1) 31 16 ≠ 0 → bitsOf (nth p.payload 1) 31 16 ≤ s.fld F.AUX_I_LEVELS_I_RUN →
      s.rd .ME_HOME_V (engineOf p) = 0 ∨ (s.rd .ME_VMAX (engineOf p)).toNat < (s.rd .ME_HOME_V (engineOf p)).toNat →
      Ends (.motionHome p) s fun t =>
        Answered s t cmdMotionHome p (ans cBAD_PARAM 2) ∧ t.tick = s.tick + p.dt ∧ Kept replyParts [] s t)) ∧
  (∀ (s : State) (p : Pkt) (role : Role), Calm s → Carried s cmdGearConfig p role → stray 0xFFFF3F87 (nth p.payload 1) = false →
    bitsOf (nth p.payload 1) 2 0 < 5 → 1 ≤ bitsOf (nth p.payload 1) 13 8 → bitsOf (nth p.payload 1) 13 8 ≤ 32 →
    gearBad p (bitsOf (nth p.payload 1) 13 8) (bitsOf (nth p.payload 1) 31 16) = none →
    (bitOf (nth p.payload 1) 7 = false → s.on F.ME_STAT_GEARED (engineOf p) = false → Ends (.gearConfig p) s fun t =>
      Answered s t cmdGearConfig p (ok) ∧ t.rd .ME_GEAR_CFG (engineOf p) = nth p.payload 1 &&& 0xFFFF3F07 ∧
        (∀ k, k < 3 * bitsOf (nth p.payload 1) 13 8 → t.rd .ME_GEAR_LIST (96 * engineOf p + k) =
          (if k % 3 = 2 then nth p.payload (2 + k) &&& 0xFFFF else nth p.payload (2 + k))) ∧
        t.tick = s.tick + p.dt ∧ Kept replyParts ((.ME_GEAR_CFG, engineOf p) ::
          (upTo (3 * bitsOf (nth p.payload 1) 13 8)).map fun k => (.ME_GEAR_LIST, 96 * engineOf p + k)) s t) ∧
    (bitOf (nth p.payload 1) 7 = true → s.motionRefusal (engineOf p) none = none → s.unsure (engineOf p) = false →
      (bitsOf (nth p.payload 1) 2 0 < 4 → s.on F.EN_STAT_VALID (bitsOf (nth p.payload 1) 2 0) = true) → Ends (.gearConfig p) s fun t =>
        Answered s t cmdGearConfig p (ok) ∧ t.fld F.ME_STAT_GEARED (engineOf p) = 1 ∧ t.fld F.ME_STAT_AT_REST (engineOf p) = 0 ∧
          t.rd .ME_GEAR_CFG (engineOf p) = nth p.payload 1 &&& 0xFFFF3F07 ∧ t.tick = s.tick + p.dt ∧
          Kept (.mot :: replyParts) ((.ME_GEAR_CFG, engineOf p) :: (.ME_STAT, engineOf p) :: (.ME_GEAR_M, engineOf p) ::
            (upTo (3 * bitsOf (nth p.payload 1) 13 8)).map fun k => (.ME_GEAR_LIST, 96 * engineOf p + k)) s t))

/-- A profile at its target with speed zero is complete, a back-off at its end completes the homing, certain and home (R315, R323, R324);
the commands that waited for them are answered. The auxiliary period and the current samples follow each other in time (R304, R325): a
period with both engines at rest and none driving moves nothing; a sample gives the coil currents by the shunt, and a bridge that nothing
drives stays off. The model's choices in it: log entries 2, 79, 81, 82, 83. -/
def Obligations.MotionEventsAct : Prop :=
  (∀ (s : State) (me : Fin 2), Calm s →
    (s.meArrived me = true → Ends (.moveComplete me) s fun t =>
      t.fld F.ME_STAT_AT_REST me = 1 ∧ t.fld F.ME_STAT_PROFILE me = 0 ∧ t.rd .ME_SPEED me = 0 ∧ t.tick = s.tick ∧
        (∀ f ∈ t.hst.flight, ¬(f.opcode = 0x0400 ∧ f.target = me.val)) ∧
        Kept (.mot :: .flight :: .errors :: replyParts) [(.ME_STAT, me), (.ME_SPEED, me)] s t) ∧
    ((s.me me).move = some .homeBack → s.mePos me = s.backTarget me → Ends (.homeComplete me) s fun t =>
      t.fld F.ME_STAT_AT_REST me = 1 ∧ t.fld F.ME_STAT_HOMING me = 0 ∧ t.fld F.ME_STAT_UNCERTAIN me = 0 ∧
        t.fld F.ME_STAT_HOME_OK me = 1 ∧ t.rd .ME_POS me = wi ((s.mePos me + s.sg .ME_HOME_POS me * 65536 - (s.me me).stallPos) / 65536) ∧
        t.tick = s.tick ∧ (∀ f ∈ t.hst.flight, ¬(f.opcode = 0x0402 ∧ f.target = me.val)) ∧
        Kept (.mot :: .flight :: .errors :: replyParts) [(.ME_STAT, me), (.ME_SPEED, me), (.ME_POS, me)] s t)) ∧
  (∀ (s : State), Calm s →
    (∀ hb, s.auxDriver = none → s.on F.ME_STAT_AT_REST 0 = true → s.on F.ME_STAT_AT_REST 1 = true → Ends (.auxPeriodUpdate hb [0, 0]) s fun t =>
      t.tick = max s.tick (s.mot.periodAt + s.auxPer) ∧ t.mot.period = s.mot.period + 1 ∧ t.mot.periodAt = t.tick ∧
        Kept [.mot, .gate] [(.GATE_AUX_STAT, 0)] s t) ∧
    (∀ hb xcs, s.auxDriver = none → s.fld F.AUX_SHUNT_R ≠ 0 → (∀ h ∈ s.gate.halves, h.pulseAt = none) → (∀ k, k < 3 → 10 * nth xcs k % (s.fld F.AUX_SHUNT_R : Int) = 0) →
      Ends (.auxCurrentSample hb xcs) s fun t =>
        t.tick = max s.tick (s.mot.sampleAt + 10) ∧ t.mot.sampleAt = t.tick ∧
          (∀ k, k < 3 → t.fld F.AUX_I_MEAS_I k = (10 * nth xcs k / (s.fld F.AUX_SHUNT_R : Int) % 65536).toNat) ∧
          (∀ h ∈ t.gate.halves.take 4, h.ho = false ∧ h.lo = false) ∧
          Kept [.mot, .gate] [(.AUX_I_MEAS, 0), (.AUX_I_MEAS, 1), (.AUX_I_MEAS, 2), (.GATE_AUX_STAT, 0)] s t))

/-! ## Timed actions (R338 to R346) -/

/-- The registers in which Lamplighter shows its table. -/
def lampRegs : List (RegId × Nat) :=
  [(.LAMP_STAT, 0), (.LAMP_HEAD, 0), (.LAMP_NEXT_LO, 0), (.LAMP_NEXT_HI, 0), (.LAMP_LAUNCH_CNT, 0), (.LAMP_PREEMPT_CNT, 0),
    (.LAMP_LATE_CNT, 0), (.LAMP_WITHHELD_CNT, 0), (.LAMP_STALE_CNT, 0)]

/-- R344: ACTION_CANCEL by the STATUS of its entry. A pending entry whose launch tick is not reached is CANCELLED, VALID and every other
word staying as they are, and waits no more; one whose launch tick is reached, and one LAUNCHED or LATE, stands, LAUNCH_IN_PAST; of any
other final STATUS nothing changes, OK; with no entry the command is refused with BAD_PARAM. -/
def Obligations.CancelsByStatus : Prop :=
  ∀ (s : State) (p : Pkt) (role : Role) (i : Nat), Calm s → Carried s cmdActionCancel p role → i = (nth p.payload 0).toNat →
    (i < 2048 → s.tatStatus i = tPENDING → (at_ s p).launchReached i = false → Ends (.actionCancel p) s fun t =>
      Answered s t cmdActionCancel p (ok) ∧ t.tatStatus i = tCANCELLED ∧ i ∉ t.tatPending ∧
        bitOf (t.tatWord i 7) 31 = bitOf (s.tatWord i 7) 31 ∧ (∀ k, k < 7 → t.tatWord i k = s.tatWord i k) ∧
        (∀ j k, j ≠ i → k < 8 → t.tatWord j k = s.tatWord j k) ∧ Kept (.lamp :: replyParts) lampRegs s t) ∧
    (i < 2048 → s.tatStatus i = tLAUNCHED ∨ s.tatStatus i = tLATE ∨
        s.tatStatus i = tPENDING ∧ (at_ s p).launchReached i = true → Ends (.actionCancel p) s fun t =>
      Answered s t cmdActionCancel p (ans cLAUNCH_IN_PAST) ∧ Kept replyParts [] s t) ∧
    (i < 2048 → s.tatStatus i ∈ [tPREEMPTED, tEXPIRED, tWITHHELD, tREFUSED, tSTALE, tCANCELLED] → Ends (.actionCancel p) s fun t =>
      Answered s t cmdActionCancel p (ok) ∧ Kept replyParts [] s t) ∧
    (2048 ≤ i ∨ s.tatStatus i = 0 → Ends (.actionCancel p) s fun t =>
      Answered s t cmdActionCancel p (ans cBAD_PARAM) ∧ Kept replyParts [] s t)

/-- ACTION_POST puts an entry into the lowest free index as PENDING and replies the index (R341); ACTION_LIST replies the words of its
entries (R342). The entry due launches at its tick: its plain write reaches the register as one of Lamplighter, its STATUS is LAUNCHED
and the launch is counted (R342, R343); one that a forward step passed over launches late, counted and alerted (R345). RETAIN after its
final status an entry becomes FREE, its words zero (R342); TIME after its start a power hold ends (R270). The model's choices in it: log
entries 1, 2, 34, 88. -/
def Obligations.ActionsPostLaunchExpire : Prop :=
  (∀ (s : State) (p : Pkt) (role : Role), Calm s →
    (∀ i, Carried s cmdActionPost p role → State.postReserved p.payload = none → (at_ s p).postAddress p.payload role = none →
      (at_ s p).postSource p.payload = none →
      (at_ s p).meridian.toNat + 1000 * s.fld F.LAMP_CFG_LEAD ≤ (mk64 (nth p.payload 1) (nth p.payload 0)).toNat → s.tatFree = some i →
      (s.tatPending.filter fun j => (at_ s p).ticksTo (s.tatLaunch j) ==
        (at_ s p).ticksTo (mk64 (nth p.payload 1) (nth p.payload 0)).toNat).length < 32 → Ends (.actionPost p) s fun t =>
        Answered s t cmdActionPost p (ok [wd i]) ∧ t.tatStatus i = tPENDING ∧ (∀ k, k < 7 → t.tatWord i k = nth p.payload k) ∧
          (∀ j k, j ≠ i → k < 8 → t.tatWord j k = s.tatWord j k) ∧ t.lamp.posters = (i, role) :: s.lamp.posters ∧
          t.tick = s.tick + p.dt ∧ Kept (.lamp :: replyParts) lampRegs s t) ∧
    (∀ first n, first = (nth p.payload 0).toNat → n = (nth p.payload 1).toNat → Carried s cmdActionList p role → first < 2048 →
      first + n ≤ 2048 → 8 * n + 1 ≤ maxLength p.via → Ends (.actionList p) s fun t =>
        Answered s t cmdActionList p (ok ((upTo (8 * n)).map fun k => Store.get zeroMem s.lamp.tat (8 * first + k))) ∧
          t.tick = s.tick + p.dt ∧ Kept replyParts [] s t)) ∧
  (∀ (s u : State) (i : Nat) (r : RegId) (k : Nat) (w : Write) (new : Word), Calm s → s.sys.pwmClk.lost = false → k < 65536 →
    s.tatStatus i = tPENDING → s.tatStale i = false → s.refusing = false → s.lockUnmet i = false → s.posterRole i = .operator →
    locate (wd (baseOf (s.tatWord i 2))) = .at_ (.reg r k) .plain → aliasOf (s.tatWord i 2) = .plain → r ∉ actingRegs →
    w = ⟨.lamplighter, .plain, s.tatWord i 3, 0⟩ → Lands u r k ⟨0, [w], 0⟩ w new →
    (s.tatNext = some i → s.lamp.late = [] → u = s.elapse (s.ticksTo (s.tatLaunch i)).toNat → u.tatDue = [i] → Ends (.actionLaunch [] []) s fun t =>
      t.rd r k &&& ~~~pinBits r = new &&& ~~~pinBits r ∧ t.tatStatus i = tLAUNCHED ∧
        (r ≠ .LAMP_LAUNCH_CNT → t.fld F.LAMP_LAUNCH_CNT_COUNT = min (s.fld F.LAMP_LAUNCH_CNT_COUNT + 1) 0xFFFFFFFF) ∧ t.tick = u.tick ∧
        Kept [.lamp] ((r, k) :: lampRegs) s t) ∧
    (s.lamp.late = [i] → u = s.elapseTo s.lamp.lateAt → u.tatDue = [] → Ends (.actionLateLaunch [] []) s fun t =>
      t.rd r k &&& ~~~pinBits r = new &&& ~~~pinBits r ∧ t.tatStatus i = tLATE ∧ Raised t 0x3061 7 ∧ t.lamp.late = [] ∧
        t.lamp.lateAt = u.tick + 1 ∧ t.tick = u.tick ∧ Kept [.lamp, .logs, .latched] ((r, k) :: (.SYS_FAULT, 0) :: lampRegs) s t)) ∧
  (∀ s : State, Calm s →
    (∀ i t0 rest, s.lamp.done = (i, t0) :: rest → Ends .actionRetainExpiry s fun t =>
      (∀ k, k < 8 → t.tatWord i k = 0) ∧ t.tick = max s.tick (t0 + s.fld F.LAMP_CFG_RETAIN * ticksPerMs) ∧
        Kept [.lamp] lampRegs s t) ∧
    (∀ (a : Fin 4) t0, nth s.lamp.holds a = (some t0, none) → s.fld F.AX_PL_HOLD_TIME a ≠ 0 → Ends (.powerHoldExpiry a) s fun t =>
      t.lamp = { s.lamp with holds := upd s.lamp.holds a fun _ => (none, none) } ∧ t.fld F.AX_PL_HOLD_ACTIVE a = 0 ∧
        t.tick = max s.tick (t0 + s.fld F.AX_PL_HOLD_TIME a * ticksPerMs) ∧ Kept [.lamp] [(.AX_PL_HOLD, a)] s t))

/-! ## Membership (R347 to R358) -/

/-- MEMBER_JOIN begins to listen for the stored role or for a spare's, or leaves the domain; MEMBER_STATUS replies the own record (R353,
R357). A join that nothing has met ends in the role, with the epoch it expects, a takeover with the next one that it also stores; one
that met the role alive ends as it was before (R353, R354). The model's choices in it: log entries 1, 2, 89, 91. -/
def Obligations.MembersJoin : Prop :=
  (∀ (s : State) (p : Pkt) (role : Role), Calm s →
    (∀ id e, Carried s cmdMemberJoin p role → id = (nth p.payload 0).toNat → id ≤ 0x3FFF → nth p.payload 1 = 0 →
      s.dev = dSAFE ∨ s.dev = dREADY → s.nv.role = some (id, e) → s.on F.MEM_CFG_EN = true → s.reiniting 0x21 0 = false →
      s.mem.join = none → Ends (.memberJoin p) s fun t =>
        Started s t cmdMemberJoin p 0 (ans cACCEPTED) ∧ t.fld F.MEM_STAT_STATE = 1 ∧
          (∃ j, t.mem = { s.mem with join := some j } ∧ j.role = id ∧ j.spare = false ∧ j.take = false ∧ j.start = t.tick ∧
            j.lost = none ∧ j.expect = BitVec.ofNat 16 e) ∧ t.tick = s.tick + p.dt ∧
          Kept (.mem :: .flight :: replyParts) [(.MEM_STAT, 0)] s t) ∧
    (∀ id, Carried s cmdMemberJoin p role → id = (nth p.payload 0).toNat → id ≤ 0x3FFF → nth p.payload 1 = 1 →
      s.dev = dSAFE ∨ s.dev = dREADY ∨ s.dev = dQUARANTINE → (∀ q, s.peer id = some q → q.live = false) → s.on F.MEM_CFG_EN = true →
      s.reiniting 0x21 0 = false → s.mem.join = none → Ends (.memberJoin p) s fun t =>
        Started s t cmdMemberJoin p 0 (ans cACCEPTED) ∧ t.fld F.MEM_STAT_STATE = 1 ∧
          (∃ j, t.mem = { s.mem with join := some j } ∧ j.role = id ∧ j.spare = true ∧ j.take = false ∧ j.start = t.tick) ∧
          t.tick = s.tick + p.dt ∧ Kept (.mem :: .flight :: replyParts) [(.MEM_STAT, 0)] s t) ∧
    (Carried s cmdMemberJoin p role → nth p.payload 0 = 0xFFFF → nth p.payload 1 = 0 → s.dev = dSAFE ∨ s.dev = dREADY →
      s.on F.MEM_CFG_EN = true → s.reiniting 0x21 0 = false → s.mem.join = none → Ends (.memberJoin p) s fun t =>
        t.fld F.MEM_STAT_STATE = 0 ∧ t.mem.spare = false ∧ t.flt.nextAudit = s.flt.nextAudit + 1 ∧ t.flt.log = s.flt.log ∧
          (∀ f ∈ t.hst.flight, ¬(f.opcode = 0x0503 ∧ f.target = 0)) ∧ t.tick = s.tick + p.dt ∧
          Kept (.mem :: .logs :: .flight :: .errors :: replyParts) [(.MEM_STAT, 0)] s t) ∧
    (Carried s cmdMemberStatus p role → s.member ≠ 0 → p.length = 0 → Ends (.memberStatus p) s fun t =>
      Answered s t cmdMemberStatus p (ok ((at_ s p).ownRecord)) ∧ t.tick = s.tick + p.dt ∧ Kept replyParts [] s t)) ∧
  (∀ (s : State) (j : Joining), Calm s → s.mem.join = some j →
    (j.lost = none → j.spare = false → j.role ≤ 0x3FFF → Ends .memberJoinListenEnd s fun t =>
      t.fld F.MEM_STAT_STATE = 2 ∧ t.rd .SYS_UNIT = wd j.role ∧
        t.fld F.MEM_STAT_EPOCH = (if j.take = true then j.expect + 1 else j.expect).toNat ∧ t.mem.join = none ∧
        t.nv.role = (if j.take = true then some (j.role, (j.expect + 1).toNat) else s.nv.role) ∧
        t.flt.nextAudit = s.flt.nextAudit + 1 ∧ (∀ f ∈ t.hst.flight, ¬(f.opcode = 0x0503 ∧ f.target = 0)) ∧
        t.tick = max s.tick (j.start + (s.fld F.MEM_BEACON_MISS + 1) * s.fld F.MEM_BEACON_PERIOD * ticksPerMs) ∧
        Kept (.mem :: .nv :: .logs :: .flight :: .errors :: replyParts) [(.SYS_UNIT, 0), (.MEM_STAT, 0), (.MEM_LIVE, 0)] s t) ∧
    (∀ a, j.lost = some a → j.prev < 8 → Ends .memberJoinListenEnd s fun t =>
      t.fld F.MEM_STAT_STATE = j.prev ∧ t.mem = { s.mem with join := none } ∧
        (∀ f ∈ t.hst.flight, ¬(f.opcode = 0x0503 ∧ f.target = 0)) ∧
        Kept (.mem :: .flight :: .errors :: replyParts) [(.MEM_STAT, 0)] s t))

/-- A frame of the domain is heard: it came through the fabric (R24, R27), and its header, its CRCs and its address hold (R348). -/
structure HeardFrame (s : State) (dt : Nat) (e : EthFrame) (f : ConFrame) : Prop where
  on_ : s.on F.MEM_CFG_EN = true
  came : s.linked = true ∧ e.moved = ⟨0, 0⟩
  kind : e.ethertype.toNat = s.fld F.MEM_CFG_ETHERTYPE ∧ e.tags ≤ 1 ∧ e.mac = BitVec.ofNat 48 (0x034D58000000 + s.fld F.MEM_CFG_DOMAIN)
  parsed : (s.elapse dt).parseFrame e.words = (some f, s.elapse dt)
  epoch : s.epochOf f.unit = some f.epoch

/-- A beacon is sent PERIOD after the last one (R349); one received keeps its role alive (R349, R352), user data of a live sender reaches
the receive ring (R350), an action frame posts its entry (R351), and a role whose beacons stay out is dead (R349). A beacon of the own
role at the own epoch with a lower serial number supersedes the unit: ROLE_SUPERSEDED, FR4, the quarantine record, and QUARANTINE (R77,
R79, R355). The model's choices in it: log entries 1, 2, 90, 91. -/
def Obligations.FramesOfTheDomain : Prop :=
  (∀ (s : State), Calm s →
    (s.holdsRole = true → s.on F.MEM_CFG_EN = true → s.dev ≠ dQUARANTINE → Ends (.beaconTx ⟨0, 0⟩) s fun t =>
      t.outs = .beacon s.ethHead (s.frame 1 false [s.rd .SYS_SERIAL_LO, s.rd .SYS_SERIAL_HI, s.beaconState]).1 :: s.outs ∧
        t.mem = { s.mem with sent := s.mem.sent + 1, beaconAt := t.tick } ∧
        t.tick = max s.tick (s.mem.beaconAt + s.fld F.MEM_BEACON_PERIOD * ticksPerMs) ∧ Kept [.mem, .outs] [] s t) ∧
    (∀ dt e f q, HeardFrame s dt e f → f.type = 1 → f.payload.length = 3 → f.leaving = false → s.ownRole f.unit = false →
      s.mem.join = none → s.peer f.unit = some q → q.serial = BitVec.ofNat 16 (bitsOf (nth f.payload 0) 15 0) →
      Ends (.beaconRx dt e) s fun t =>
        (∃ x, t.peer f.unit = some x ∧ x.live = true ∧ x.heard = some f.epoch ∧ x.last = some t.tick ∧ x.seq = some f.seq ∧
          x.period = bitsOf (nth f.payload 2) 31 16 ∧ x.spare = f.spare) ∧ t.tick = s.tick + dt ∧
          Kept [.mem] [(.MEM_LIVE, 0), (.MEM_LOSS_CNT, 0)] s t) ∧
    (∀ dt e f q id ws, HeardFrame s dt e f → f.type = 2 → s.dev ≠ dQUARANTINE → s.peer f.unit = some q → q.heard.isSome = true →
      cyclicRecords f.payload.length f.payload = [(id, 2, ws)] → Ends (.cyclicFrameRx dt e) s fun t =>
        t.mem.ring = ws :: s.mem.ring ∧ t.tick = s.tick + dt ∧ Kept [.mem] [(.MEM_LIVE, 0), (.MEM_LOSS_CNT, 0)] s t) ∧
    (∀ dt e f q i, HeardFrame s dt e f → f.type = 3 → s.dev ≠ dQUARANTINE → s.peer f.unit = some q → q.heard.isSome = true →
      f.payload.length = 7 → e.post = 0 → s.addressed (bitsOf (nth f.payload 0) 15 0) = true →
      ((s.elapse dt).seqSeen f).post ((f.payload.drop 1).take 6 ++ [wd (f.unit + 2 ^ 16 * f.epoch.toNat), 0]) .operator =
        (ok [wd i], (((s.elapse dt).seqSeen f).post
          ((f.payload.drop 1).take 6 ++ [wd (f.unit + 2 ^ 16 * f.epoch.toNat), 0]) .operator).2) → s.tatFree = some i →
      Ends (.actionFrameRx dt e) s fun t =>
        t.tatStatus i = tPENDING ∧ (∀ k, k < 6 → t.tatWord i k = nth f.payload (k + 1)) ∧ t.tick = s.tick + dt ∧
          Kept [.mem, .lamp] ((.MEM_LIVE, 0) :: (.MEM_LOSS_CNT, 0) :: lampRegs) s t) ∧
    (∀ (role : Fin 16384) q, s.peer role = some q → q.live = true → Ends (.roleDead role) s fun t =>
      t.peer role = some { q with live := false, conflict := false } ∧
        t.tick = max s.tick (q.last.getD s.tick + s.fld F.MEM_BEACON_MISS * q.period * ticksPerMs) ∧ Kept [.mem] [(.MEM_LIVE, 0)] s t)) ∧
  (∀ (s : State) (dt : Nat) (e : EthFrame) (f : ConFrame), Calm s → HeardFrame s dt e f → f.type = 1 → f.payload.length = 3 →
    s.ownRole f.unit = true → s.mem.join = none →
    mk64 (nth f.payload 1) (nth f.payload 0) < mk64 (s.rd .SYS_SERIAL_HI) (s.rd .SYS_SERIAL_LO) →
    [dSAFE, dREADY, dARMED, dRUN, dFAULT].contains s.dev = true → s.halted = false → Ends (.beaconRx dt e) s fun t =>
      t.dev = dQUARANTINE ∧ t.fld F.MEM_STAT_STATE = 4 ∧ t.nv.quarantine = true ∧ Raised t 0x4011 7 ∧
        t.fld F.LAN_STAT_STO_ACTIVE ≠ 0 ∧ t.tick = s.tick + dt ∧
        Spared [.nv, .mem] [.MEM_STAT, .MEM_LIVE, .MEM_LOSS_CNT] s t)

/-! ## Transports -/

/-- The transports beside the packets (R72, R97, R103 to R106, R109, R333, R346, R473): a frame cut through leaves on the other port, a Sync
with its correctionField raised; ARP and echo requests for the own address are answered; SPI_CS# falling samples the status word, SPI_CS#
rising ends the transaction, in which the status word and then the queued reply words in order were sent, and lets the reset of a
DEVICE_RESET follow its reply; replies that waited enter the reply buffer; a packet under assembly is dropped 50 ms after its last segment;
an opcode that the table does not hold is refused with BAD_OPCODE; a reinitialisation ends with its answer. The model's choices in it:
log entries 1, 2, 13, 21, 22, 23, 28, 113. -/
def Obligations.TransportEventsAct : Prop :=
  ∀ (s : State) (dt : Nat), Calm s →
    (∀ port sync corr residence, s.linked = true → s.reiniting 0x11 0 = false →
      s.reiniting 0x11 1 = false → Ends (.cutThroughForward dt port sync corr residence) s fun t =>
        t.outs = .forward (1 - port.val) sync (if sync = true then corr + min (residence : Int) (2500 * 65536) +
          (if s.fld F.MER_CFG_P2P = 0 then 0 else s.sg .MER_MPD * 65536) else corr) :: s.outs ∧
          t.tick = s.tick + dt ∧ Kept [.outs] [] s t) ∧
    (∀ (port : Fin 2) sender, s.netUp = true → s.reiniting 0x11 port = false → Ends (.arpRequest dt port Config.ipOwn sender ⟨0, 0⟩ ⟨0, 0⟩) s fun t =>
      t.outs = .arp port sender :: s.outs ∧ t.tick = s.tick + dt ∧ Kept [.outs] [] s t) ∧
    (∀ src data, s.netUp = true → Ends (.icmpEchoRequest dt src Config.ipOwn data false ⟨0, 0⟩ ⟨0, 0⟩) s fun t =>
      t.outs = .icmp src data :: s.outs ∧ t.tick = s.tick + dt ∧ Kept [.outs] [] s t) ∧
    (Ends (.spiCsFall dt) s fun t =>
      t.hst.spiBusy = true ∧ t.hst.spiIgnore = false ∧ t.hst.spiDiscard = false ∧
        bitsOf t.hst.spiStatus 15 0 = min (spiFill s) 0xFFFF ∧
        (bitOf t.hst.spiStatus 16 = true ↔ (∃ x ∈ s.hst.spiWaiting, arrived x.2 = true) ∨ ∃ f ∈ s.hst.flight, f.pkt.via = .spi ∧ grouped f.pkt = false) ∧
        bitOf t.hst.spiStatus 17 = s.hst.spiDiscard ∧ bitsOf t.hst.spiStatus 23 18 = 0 ∧ bitsOf t.hst.spiStatus 31 24 = 0xA5 ∧
        t.hst.spiQueue = s.hst.spiQueue ∧ t.hst.spiSent = s.hst.spiSent ∧ t.hst.spiWaiting = s.hst.spiWaiting ∧
        t.tick = s.tick + dt ∧ Kept [.spi] [] s t) ∧
    (∀ words idle cut, Ends (.spiCsRise dt words idle cut) s fun t =>
      t.hst.spiBusy = false ∧ t.hst.spiIgnore = false ∧
        (t.hst.spiDiscard = true ↔ s.hst.spiDiscard = true ∨ cut = true ∧ s.hst.spiIgnore = false) ∧
        (words ≤ spiFill s → spiFill t = spiFill s - words) ∧ (∃ gone, s.hst.spiQueue = gone ++ t.hst.spiQueue) ∧
        (idle = [] → (∀ r ∈ s.hst.spiQueue.head?, s.hst.spiSent < r.size) → t.outs =
          .miso (s.hst.spiStatus :: ((s.hst.spiQueue.map Reply.toWords).flatten.drop s.hst.spiSent).take words) :: s.outs) ∧
        (s.resetUnsaid = true → t.resetUnsaid = false → t.sys.resetPend = some t.tick) ∧
        t.hst.spiStatus = s.hst.spiStatus ∧ t.hst.spiWaiting = s.hst.spiWaiting ∧ t.tick = s.tick + dt ∧
        (s.resetUnsaid = false → Kept [.spi, .outs] [] s t) ∧ Kept [.spi, .outs, .sys] [] s t) ∧
    (∀ r p l, s.hst.spiWaiting = (r, p) :: l → 4 * (spiFill s + r.size) ≤ 65536 → Ends (.replyBufferSpace dt) s fun t =>
      (∃ more, t.hst.spiQueue = s.hst.spiQueue ++ r :: more) ∧ (∃ sent, l = sent ++ t.hst.spiWaiting) ∧
        t.hst.flight.length = s.hst.flight.length ∧ t.hst.cache = s.hst.cache ∧ t.tick = s.tick + dt ∧
        Kept [.spi, .flight, .cache] [] s t) ∧
    (∀ (c : Fin 2) a, s.assembly c = some a → Ends (.canCmdSegmentTimeout c) s fun t =>
      t.hst.asm = s.hst.asm.set c none ∧ t.hst.asmDropped = s.hst.asmDropped + 1 ∧
        t.tick = max s.tick (a.at_ + 50 * ticksPerMs + 1) ∧ Kept [.host] [] s t) ∧
    (∀ opcode p, commandOf opcode = none → (s.elapse p.dt).hears p = true → p.moved = ⟨0, 0⟩ → p.out = ⟨0, 0⟩ →
      p.errs = [] → p.hcrc = crcWords (headWords opcode p) →
      (s.elapse p.dt).addressed p.unit.toNat = true → p.flags &&& 0xFD = 0 → grouped p = false → p.length.toNat ≤ maxLength p.via →
      p.payload.length = p.length.toNat → p.via = .spi ∨ p.frame = packetSize p.length.toNat →
      p.length.toNat = 0 ∨ p.pcrc = crcWords p.payload → (s.elapse p.dt).tagRule opcode p = none → s.flights < 256 →
      Ends (.badOpcode opcode p) s fun t =>
        Sent s t p (mkReply s opcode p (ans cBAD_OPCODE)) ∧ t.tick = s.tick + p.dt ∧ Kept [.spi, .outs, .can] [] s t) ∧
    (∀ func inst ok r, (s.sys.reinit.find? fun x => x.func == func && x.inst == inst) = some r →
      Ends (.funcReinitDone func inst dt ok) s fun t =>
        t.sys.reinit = (s.sys.reinit.filter fun x => !(x.func == func && x.inst == inst)) ∧
          (∀ f ∈ t.hst.flight, ¬(f.opcode = 0x0111 ∧ f.target = 256 * func + inst)) ∧
          t.tick = s.tick + (if func = 0x10 then dt else min dt (r.start + State.reinitTime func - s.tick)) ∧
          (func = 0x03 → inst < 2 → t.rd .ME_POS inst = 0 ∧ t.rd .ME_SPEED inst = 0 ∧ t.fld F.ME_STAT_UNCERTAIN inst = 1 ∧
            t.fld F.ME_STAT_AT_REST inst = 1 ∧ t.fld F.ME_STAT_GEARED inst = 0) ∧
          (func = 0x11 ∨ func = 0x13 → Kept (.sys :: .flight :: .errors :: .free :: replyParts) [] s t))

/-! ## Safety configuration (class 0x06xx) -/

/-- SAFETY_STATUS replies its six words (R438); a record that passes the checks of R411 is accepted; its commit puts it into its place in
the NV store and in force, with the new identity in LAN_ID, one audit record and the final reply; an envelope in force shows its bounds
(R411 to R413). The model's choices in it: log entries 1, 103. -/
def Obligations.SafetyRecordsLoad : Prop :=
  ∀ (s : State) (p : Pkt) (role : Role), Calm s →
    (Carried s cmdSafetyStatus p role → Ends (.safetyStatus p) s fun t =>
      (∃ stat func prof split, Answered s t cmdSafetyStatus p (ok [wd s.sw, s.rd .LAN_ID, stat, func, prof, split]) ∧
        bitsOf stat 0 0 = s.fld F.LAN_STAT_STO_ACTIVE ∧ bitsOf stat 1 1 = s.fld F.LAN_STO_IN_REL % 2 ∧
        bitsOf stat 2 2 = s.fld F.LAN_STO_IN_REL / 2 % 2 ∧ bitsOf stat 3 3 = s.fld F.LAN_STAT_STO_FB ∧
        bitsOf stat 4 4 = s.fld F.LAN_STAT_DISC ∧ bitsOf stat 8 8 = s.fld F.LAN_STAT_SBC_APPLIED ∧
        bitsOf stat 10 9 = s.fld F.LAN_SBC_ON ∧ bitsOf stat 11 11 = s.fld F.LAN_STAT_SBC_FAULT ∧
        bitsOf func 4 0 = profileFuncs s.profile ∧
        bitsOf func 12 8 = (if s.fld F.LAN_STAT_PARAM_VALID ≠ 0 ∧ s.nonsafe = false then profileFuncs s.profile else 0) ∧
        bitsOf func 16 16 = b2n s.networked ∧ bitsOf prof 5 0 = s.sw % 64 ∧ bitsOf prof 8 8 = s.fld F.LAN_STAT_PARAM_VALID ∧
        bitsOf prof 9 9 = s.fld F.LAN_STAT_ENV_VALID ∧ bitsOf split 0 0 = b2n s.nonsafe ∧
        bitsOf split 1 1 = s.fld F.SYS_STATE_SPLIT_A ∧ bitsOf split 2 2 = s.fld F.SYS_STATE_SPLIT_B) ∧
      t.tick = s.tick + p.dt ∧ Kept replyParts [] s t) ∧
    (Carried s cmdSafetyParamLoad p role → (at_ s p).recRefused 1 p.payload = none → Ends (.safetyParamLoad p) s fun t =>
      Started s t cmdSafetyParamLoad p 0 (ans cACCEPTED) ∧ t.lan.loading = some (1, p.payload) ∧ t.lan.loadAt = t.tick ∧ t.lan.par = s.lan.par ∧
        t.lan.conns = s.lan.conns ∧ t.tick = s.tick + p.dt ∧ Kept (.lan :: .flight :: replyParts) [] s t) ∧
    (Carried s cmdEnvelopeLoad p role → (at_ s p).recRefused 2 p.payload = none → Ends (.envelopeLoad p) s fun t =>
      Started s t cmdEnvelopeLoad p 0 (ans cACCEPTED) ∧ t.lan.loading = some (2, p.payload) ∧ t.lan.loadAt = t.tick ∧ t.lan.par = s.lan.par ∧
        t.lan.conns = s.lan.conns ∧ t.tick = s.tick + p.dt ∧ Kept (.lan :: .flight :: replyParts) [] s t) ∧
    (∀ dt l, s.lan.loading = some (1, l) → l.length = 85 → nth l 0 ≠ 0 → Ends (.safetyRecordCommitted dt true) s fun t =>
      Store.read zeroMem t.nv.mem 0x800 85 = l ∧ (∀ k, k < 0x800 ∨ 0x855 ≤ k → Store.get zeroMem t.nv.mem k = Store.get zeroMem s.nv.mem k) ∧
        t.lan.loading = none ∧ t.lan.par = (l.drop 5).take 72 ∧ (s.lan.configBad = false → t.fld F.LAN_STAT_PARAM_VALID = 1) ∧
        t.rd .LAN_ID = t.configId ∧ t.flt.nextAudit = s.flt.nextAudit + 1 ∧ t.flt.log = s.flt.log ∧
        (∀ f ∈ t.hst.flight, ¬(f.opcode = 0x0601 ∧ f.target = 0)) ∧ t.tick = s.tick + min dt (s.lan.loadAt + 50 * ticksPerMs - s.tick) ∧
        Spared [.nv] [.LAN_ID, .LAN_CONN_STAT, .LAN_CONN_DATA] s t) ∧
    (∀ dt l, s.lan.loading = some (2, l) → l.length = 77 → nth l 0 ≠ 0 → Ends (.safetyRecordCommitted dt true) s fun t =>
      Store.read zeroMem t.nv.mem 0xC00 77 = l ∧ (∀ k, k < 0xC00 ∨ 0xC4D ≤ k → Store.get zeroMem t.nv.mem k = Store.get zeroMem s.nv.mem k) ∧
        t.lan.loading = none ∧ t.fld F.LAN_STAT_ENV_VALID = 1 ∧
        (∀ a, a < 4 → t.rd .LAN_ENV_IMAX a = nth l (5 + 8 * a) ∧ t.rd .LAN_ENV_VMAX a = nth l (6 + 8 * a) ∧
          t.rd .LAN_ENV_TMAX a = nth l (7 + 8 * a) ∧ t.rd .LAN_ENV_TRATE a = nth l (8 + 8 * a) ∧
          t.rd .LAN_ENV_PMAX a = nth l (9 + 8 * a) ∧ t.rd .LAN_ENV_EM a = nth l (10 + 8 * a)) ∧
        (∀ b, b < 8 → t.rd .LAN_ENV_DTMIN b = nth l (37 + 4 * b) ∧ t.rd .LAN_ENV_TSEQ b = nth l (38 + 4 * b) ∧
          t.rd .LAN_ENV_VDC_HI b = nth l (39 + 4 * b) ∧ t.rd .LAN_ENV_VDC_LO b = nth l (40 + 4 * b)) ∧
        t.rd .LAN_ID = t.configId ∧ t.flt.nextAudit = s.flt.nextAudit + 1 ∧ t.flt.log = s.flt.log ∧
        (∀ f ∈ t.hst.flight, ¬(f.opcode = 0x0602 ∧ f.target = 0)) ∧ t.tick = s.tick + min dt (s.lan.loadAt + 50 * ticksPerMs - s.tick) ∧
        Spared [.nv] [.LAN_ID, .LAN_ENV_IMAX, .LAN_ENV_VMAX, .LAN_ENV_TMAX, .LAN_ENV_TRATE, .LAN_ENV_PMAX, .LAN_ENV_EM, .LAN_ENV_DTMIN,
          .LAN_ENV_TSEQ, .LAN_ENV_VDC_HI, .LAN_ENV_VDC_LO, .AX_EM_ADMIT, .AX_ILIM, .AX_ID_MAX, .AX_VLIM, .AX_RAMP_VMAX, .AX_TEN_VLIM,
          .AX_EM_VLIM, .AX_TLIM_P, .AX_TLIM_N, .AX_EM_TLIM, .AX_TRATE, .AX_PLIM, .AX_PLIM_GEN, .AX_EM_PLIM, .AX_SP_HOST, .SD_OC_HI,
          .SD_OC_LO, .CHOP_ON] s t)

/-! ## Logs and the non-volatile store (classes 0x08xx and 0x0Axx) -/

/-- LOG_READ and AUDIT_READ reply up to the count named of the records held from a sequence number on, oldest first, and refuse a count
of 0 (R455); an accepted FAULT_ACK ends the FR1 alert, takes the device from FAULT to READY with no fault latched, and a FAULTED axis to
DISABLED (R77, R82, R227, R495). The model's choices in it: log entries 1, 59, 108. -/
def Obligations.LogsAndFaultAck : Prop :=
  ∀ (s : State) (p : Pkt) (role : Role), Calm s →
    (∀ l, Carried s cmdLogRead p role → l = (s.flt.log.reverse.filter fun r => (nth p.payload 0).toNat ≤ r.seq.toNat).take
        (nth p.payload 1).toNat → nth p.payload 1 ≠ 0 → 16 * l.length + 1 ≤ maxLength p.via → Ends (.logRead p) s fun t =>
      Answered s t cmdLogRead p (ok (l.flatMap FaultRec.toWords)) ∧ t.tick = s.tick + p.dt ∧ Kept replyParts [] s t) ∧
    (∀ l, Carried s cmdAuditRead p role → l = (s.flt.audit.reverse.filter fun r => (nth p.payload 0).toNat ≤ r.seq.toNat).take
        (nth p.payload 1).toNat → nth p.payload 1 ≠ 0 → 16 * l.length + 1 ≤ maxLength p.via → Ends (.auditRead p) s fun t =>
      Answered s t cmdAuditRead p (ok (l.flatMap AuditRec.toWords)) ∧ t.tick = s.tick + p.dt ∧ Kept replyParts [] s t) ∧
    (Carried s cmdLogRead p role → nth p.payload 1 = 0 → Ends (.logRead p) s fun t =>
      Answered s t cmdLogRead p (ans cBAD_PARAM 1) ∧ t.tick = s.tick + p.dt ∧ Kept replyParts [] s t) ∧
    (Carried s cmdAuditRead p role → nth p.payload 1 = 0 → Ends (.auditRead p) s fun t =>
      Answered s t cmdAuditRead p (ans cBAD_PARAM 1) ∧ t.tick = s.tick + p.dt ∧ Kept replyParts [] s t) ∧
    (Carried s cmdFaultAck p role → nth p.payload 0 = 0 → s.flt.alertAt ≠ s.tick + p.dt → Ends (.faultAck p) s fun t =>
      Answered s t cmdFaultAck p (ok) ∧ t.flt.unacked = false ∧ t.flt.latched = s.flt.latched ∧ t.tick = s.tick + p.dt ∧
        Kept (.latched :: replyParts) [] s t) ∧
    (Carried s cmdFaultAck p role → nth p.payload 0 = 1 → s.dev = dFAULT → (∀ f ∈ s.flt.latched, f.at_ < s.tick + p.dt) →
      (at_ s p).devAckOk = true → (∀ b ∈ s.lan.sbcPin, b = false) → (∀ c, c < 8 → s.fld F.LAN_CONN_STAT_STATE c ≠ 1) →
      s.flt.alertAt ≠ s.tick + p.dt → Ends (.faultAck p) s fun t =>
        Answered s t cmdFaultAck p (ok) ∧ t.dev = dREADY ∧ t.fld F.SYS_STATE_PREV_STATE = dFAULT ∧ t.flt.latched = [] ∧
          t.flt.unacked = false ∧ t.flt.log = s.flt.log ∧ t.fld F.GATE_STAT_FLT = 0 ∧ t.gate.first = none ∧
          t.fld F.LAN_STAT_SBC_FAULT = 0 ∧ t.tick = s.tick + p.dt ∧ Spared [] [.GATE_FLT_MASK_LO, .GATE_FLT_MASK_HI, .GATE_FLT_REC] s t) ∧
    (∀ a, a < 4 → Carried s cmdFaultAck p role → nth p.payload 0 = wd (2 ^ (4 + a)) → s.axSt a = aFAULTED →
      (at_ s p).axisAckOk a = true → s.lostEncs a = [] → Ends (.faultAck p) s fun t =>
        t.axSt a = aDISABLED ∧ (∀ b, b < 4 → b ≠ a → t.axSt b = s.axSt b) ∧
          (∀ f ∈ t.hst.flight, ¬((f.opcode = 0x0302 ∨ f.opcode = 0x0306) ∧ f.target = a)) ∧ t.flt.log = s.flt.log ∧
          t.tick = s.tick + p.dt ∧ Spared [] [] s t)

/-- R100: a read whose reply would exceed the maximum LENGTH of the transport on which it arrived is refused with BAD_PARAM, and changes
nothing but the reply's parts. -/
def Obligations.LongRepliesRefused : Prop :=
  ∀ (s : State) (p : Pkt) (role : Role) (n : Nat), Calm s → n = (nth p.payload 1).toNat →
    (Carried s cmdBlockRead p role → maxLength p.via < n + 1 → Ends (.blockRead p) s fun t =>
      (∃ d, Answered s t cmdBlockRead p (ans cBAD_PARAM d)) ∧ Kept replyParts [] s t) ∧
    (Carried s cmdActionList p role → maxLength p.via < 8 * n + 1 → Ends (.actionList p) s fun t =>
      (∃ d, Answered s t cmdActionList p (ans cBAD_PARAM d)) ∧ Kept replyParts [] s t) ∧
    (Carried s cmdNvRead p role → maxLength p.via < n + 1 → Ends (.nvRead p) s fun t =>
      (∃ d, Answered s t cmdNvRead p (ans cBAD_PARAM d)) ∧ Kept replyParts [] s t) ∧
    (∀ l, Carried s cmdLogRead p role → l = (s.flt.log.reverse.filter fun r => (nth p.payload 0).toNat ≤ r.seq.toNat).take n →
      maxLength p.via < 16 * l.length + 1 → Ends (.logRead p) s fun t =>
        (∃ d, Answered s t cmdLogRead p (ans cBAD_PARAM d)) ∧ Kept replyParts [] s t) ∧
    (∀ l, Carried s cmdAuditRead p role → l = (s.flt.audit.reverse.filter fun r => (nth p.payload 0).toNat ≤ r.seq.toNat).take n →
      maxLength p.via < 16 * l.length + 1 → Ends (.auditRead p) s fun t =>
        (∃ d, Answered s t cmdAuditRead p (ans cBAD_PARAM d)) ∧ Kept replyParts [] s t)

/-- NV_READ replies words of the store, zeros for a key (R446, R497); NV_WRITE leaves its words in the user region without and in the
configuration region with an audit record, and a key on its slot, with the end of its role's sessions (R444, R446, R447); where the NV
write fails it changes nothing and answers INTERNAL (R451). FW_LOAD writes
a segment into the inactive bank, the first erasing it, in UPDATE; LAST begins the verification, which ends with the bank verified and
audited, or with FR1 and a device still in UPDATE in SAFE; FW_ACTIVATE replies, names the bank in the boot record and starts BOOT from it (R77, R449,
R450). The model's choices in it: log entries 1, 2, 24, 105, 106, 107. -/
def Obligations.NvStoreAndFirmware : Prop :=
  (∀ (s : State) (p : Pkt) (role : Role) (a n : Nat), Calm s → a = (nth p.payload 0).toNat → a % 4 = 0 →
    (Carried s cmdNvRead p role → n = (nth p.payload 1).toNat → n + 1 ≤ maxLength p.via → 0x80000 ≤ a → a + 4 * n ≤ 0x100000 →
      Ends (.nvRead p) s fun t =>
        Answered s t cmdNvRead p (ok (Store.read zeroMem s.nv.mem (a / 4) n)) ∧ t.tick = s.tick + p.dt ∧ Kept replyParts [] s t) ∧
    (Carried s cmdNvRead p role → n = (nth p.payload 1).toNat → n + 1 ≤ maxLength p.via → 0x1000 ≤ a → a + 4 * n ≤ 0x2000 →
      Ends (.nvRead p) s fun t =>
        Answered s t cmdNvRead p (ok (List.replicate n 0)) ∧ t.tick = s.tick + p.dt ∧ Kept replyParts [] s t) ∧
    (Carried s cmdNvWrite p role → 0x80000 ≤ a → a + 4 * (p.payload.length - 1) ≤ 0x100000 → Ends (.nvWrite p) s fun t =>
      Answered s t cmdNvWrite p (ok) ∧ t.nv = { s.nv with mem := Store.write zeroMem s.nv.mem (a / 4) (p.payload.drop 1) } ∧
        t.tick = s.tick + p.dt ∧ Kept (.nv :: replyParts) [] s t) ∧
    (Carried s cmdNvWrite p role → role ≠ .operator → 0x5000 ≤ a → a + 4 * (p.payload.length - 1) ≤ 0x40000 →
      Ends (.nvWrite p) s fun t =>
        Answered s t cmdNvWrite p (ok) ∧ t.nv.mem = Store.write zeroMem s.nv.mem (a / 4) (p.payload.drop 1) ∧
          t.nv.kept = s.nv.kept ∧ t.nv.keys = s.nv.keys ∧ t.flt.nextAudit = s.flt.nextAudit + 1 ∧ t.flt.log = s.flt.log ∧
          t.tick = s.tick + p.dt ∧ Kept (.nv :: .logs :: replyParts) [] s t) ∧
    (Carried s cmdNvWrite p role → role ≠ .operator → p.via = .spi → a = 0x1000 → p.payload.length = 9 → Ends (.nvWrite p) s fun t =>
      Sent s t p (mkReply s 0x0A01 p (ok)) ∧
        t.nv = { s.nv with keys := s.nv.keys.set (roleCode .operator) (some (p.payload.drop 1)) } ∧
        t.hst.sessions = (s.hst.sessions.filter fun x => x.role != .operator) ∧ t.flt.nextAudit = s.flt.nextAudit + 1 ∧
        t.flt.log = s.flt.log ∧ t.tick = s.tick + p.dt ∧ Kept (.nv :: .sessions :: .logs :: replyParts) [] s t) ∧
    (∀ q, Carried s cmdNvWrite q role → p = { q with nvFails := true } → role ≠ .operator → 0x5000 ≤ a →
      a + 4 * (p.payload.length - 1) ≤ 0x40000 → 2 ≤ p.payload.length → Ends (.nvWrite p) s fun t =>
        (∃ d, Answered s t cmdNvWrite p (ans cINTERNAL d)) ∧ t.nv = s.nv ∧ t.flt = s.flt ∧ t.tick = s.tick + p.dt ∧
          Kept (.free :: replyParts) [] s t)) ∧
  (∀ (s : State) (p : Pkt) (role : Role) (a : Nat), Calm s →
    (Carried s cmdFwLoad p role → a = (nth p.payload 1).toNat → s.fwMay = true → s.noneEnabled = true → s.nv.verifying = none →
      bitOf (nth p.payload 0) 0 = !s.nv.bootB → a = 0 ∨ s.nv.loadNext = some a → a + 4 * (p.payload.length - 2) ≤ 8 * 2 ^ 20 →
      Ends (.fwLoad p) s fun t =>
        t.dev = dUPDATE ∧ t.nv.bootB = s.nv.bootB ∧ t.bank s.nv.bootB = s.bank s.nv.bootB ∧ t.nv.mem = s.nv.mem ∧ t.nv.kept = s.nv.kept ∧
          t.bank (!s.nv.bootB) = Store.write zeroMem (if a = 0 then [] else s.bank (!s.nv.bootB)) (a / 4) (p.payload.drop 2) ∧
          t.nv.verified = (if a = 0 then s.nv.verified.set (b2n (!s.nv.bootB)) false else s.nv.verified) ∧
          (if bitOf (nth p.payload 0) 8 = true then
            Started s t cmdFwLoad p 0 (ans cACCEPTED) ∧ t.nv.verifying = some t.tick ∧ t.nv.loadNext = none
           else Answered s t cmdFwLoad p (ok) ∧ t.nv.verifying = none ∧ t.nv.loadNext = some (a + 4 * (p.payload.length - 2))) ∧
          t.flt = s.flt ∧ t.tick = s.tick + p.dt ∧ Spared [.nv] [] s t) ∧
    (∀ dt t0, s.nv.verifying = some t0 → Ends (.fwVerifyDone dt) s fun t =>
      t.nv.verifying = none ∧ (∀ f ∈ t.hst.flight, ¬(f.opcode = 0x0A02 ∧ f.target = 0)) ∧
        (if s.bankOk (!s.nv.bootB) = true then
          t.nv.verified = s.nv.verified.set (b2n (!s.nv.bootB)) true ∧ t.dev = s.dev ∧ t.flt.nextAudit = s.flt.nextAudit + 1
         else t.nv.verified = s.nv.verified ∧ Raised t 0x7072 7 ∧
          t.dev = (if s.sys.updBootsel = false ∧ s.dev = dUPDATE then dSAFE else s.dev)) ∧
        t.nv.mem = s.nv.mem ∧ t.nv.bootB = s.nv.bootB ∧ t.tick = s.tick + min dt (t0 + 60 * ticksPerMs - s.tick) ∧ Spared [.nv] [] s t) ∧
    (Carried s cmdFwActivate p role → s.fwMay = true → s.allDisabled = true →
      bitOf (nth p.payload 0) 0 = s.nv.bootB ∨ nth s.nv.verified (b2n (bitOf (nth p.payload 0) 0)) = true →
      Ends (.fwActivate p) s fun t =>
        t.nv.bootB = bitOf (nth p.payload 0) 0 ∧ t.fld F.SYS_STATE_ACTIVE_BANK = b2n t.nv.bootB ∧ t.sys.phase = .booting ∧
          t.dev = dBOOT ∧ t.gate.gc = 0 ∧ t.hst.sessions = [] ∧ t.hst.flight = [] ∧ t.hst.cache = [] ∧ t.flt.latched = [] ∧
          t.flt.nextAudit = s.flt.nextAudit + 1 ∧ t.flt.log = s.flt.log ∧ t.nv.mem = s.nv.mem ∧ t.nv.kept = s.nv.kept ∧
          (p.via = .udp → Out.reply (mkReply s 0x0A03 p (ok)) ∈ t.outs) ∧ s.tick + p.dt ≤ t.tick))

/-! ## The stream port and Candle (classes 0x09xx and 0x0Cxx) -/

/-- STREAM_CONFIG writes STR_CTRL (R392); CAPTURE_ARM arms a capture (R388, R389), which ends with its answer when its last frame is sent,
that frame entering the replay buffer. The stream link (R381, R383 to R387): LINK_RESET sets the credit and SEQ, cuts a frame in
progress by ABORT and supersedes what comes at the same boundary; CREDIT adds; a symbol with a parity error only counts; a frame starts
while the credit holds LEN + 2 words, which it takes; NAK replays every frame from the one it names, or is answered with GONE; without
STCLK lanes, credit, replay buffer and link are gone; with it IDLE is sent. The model's choices in it: log entries 1, 116, 117. -/
def Obligations.CapturesAndStreamRun : Prop :=
  (∀ (s : State) (p : Pkt) (role : Role), Calm s →
    (∀ w new, Carried s cmdStreamConfig p role → p.rivals = [] → s.reiniting 0x14 0 = false →
      w = ⟨.host role, .plain, nth p.payload 0, 0⟩ → Lands (at_ s p) .STR_CTRL 0 ⟨0, [w], 0⟩ w new →
      bitOf (s.rd .STR_CTRL) 4 = false ∨ bitOf new 4 = true → Ends (.streamConfig p) s fun t =>
        Answered s t cmdStreamConfig p (ok) ∧ t.rd .STR_CTRL = new ∧ t.tick = s.tick + p.dt ∧
          Kept (.logs :: replyParts) [(.STR_CTRL, 0)] s t) ∧
    (Carried s cmdCaptureArm p role → captureBad p.payload = none → s.fld F.STR_STAT_CAPTURE = 0 → s.reiniting 0x14 0 = false →
      Ends (.captureArm p) s fun t =>
        Started s t cmdCaptureArm p 0 (ans cACCEPTED) ∧ t.str = { s.str with cap := some ⟨p.payload, 0, [], none, 0, none, false⟩ } ∧
          t.fld F.STR_STAT_CAPTURE = 1 ∧ t.tick = s.tick + p.dt ∧
          Kept (.str :: .flight :: replyParts) [(.STR_STAT, 0), (.STR_CAP_FILL, 0)] s t) ∧
    (∀ dt c f, s.str.cap = some c → c.ended = true → (∀ r ∈ s.str.series, r.source ≠ 1) → s.str.cur = some f → f.source = 1 →
      f.last = true → Ends (.captureComplete dt) s fun t =>
        t.str = { s.str with cap := none, cur := none, sent := (f :: s.str.sent).take 64 } ∧ Out.stream (f.syms false) ∈ t.outs ∧
          t.fld F.STR_STAT_CAPTURE = 0 ∧ t.fld F.STR_FRAMES_COUNT = min (s.fld F.STR_FRAMES_COUNT + 1) 0xFFFFFFFF ∧
          (∀ f ∈ t.hst.flight, ¬(f.opcode = 0x0901 ∧ f.target = 0)) ∧ t.tick = s.tick + dt ∧
          Kept (.str :: .flight :: .errors :: replyParts) [(.STR_STAT, 0), (.STR_FRAMES, 0)] s t)) ∧
  (∀ (s : State) (dt : Nat), Calm s →
    (∀ value sent, s.str.clk = true → Ends (.linkReset dt value sent) s fun t =>
      t.fld F.STR_STAT_LINK = 1 ∧ t.fld F.STR_CREDIT_WORDS = 16 * value.toNat ∧ t.fld F.STR_SEQ_NEXT = 0 ∧ t.str.sent = [] ∧
        t.str.linkAt = some t.tick ∧ t.str.cur = none ∧ (s.str.cur = none → t.str.series = s.str.series ∧ t.outs = s.outs) ∧
        (∀ f, s.str.cur = some f → sent < f.size → t.outs = .stream ((f.syms false).take sent ++ [abortSym]) :: s.outs) ∧
        t.tick = s.tick + dt ∧
        Kept [.str, .outs] [(.STR_STAT, 0), (.STR_CREDIT, 0), (.STR_SEQ, 0), (.STR_CAP_FILL, 0), (.STR_FRAMES, 0)] s t) ∧
    (∀ value, s.str.clk = true → s.str.linkAt ≠ some (s.tick + dt) → Ends (.credit dt value) s fun t =>
      t.fld F.STR_CREDIT_WORDS = min 65535 (s.fld F.STR_CREDIT_WORDS + 16 * value.toNat) ∧ t.tick = s.tick + dt ∧
        Kept [] [(.STR_CREDIT, 0)] s t) ∧
    (∀ value sent, s.str.linkAt = some s.tick → Ends (.credit 0 value) s (fun t => t.tick = s.tick ∧ Kept [] [] s t) ∧
      (s.str.cur = none → Ends (.nak 0 value sent) s fun t => t.tick = s.tick ∧ Kept [] [] s t)) ∧
    (s.str.clk = true → Ends (.backChannelParityError dt) s fun t =>
      t.fld F.STR_BK_ERR_COUNT = min (s.fld F.STR_BK_ERR_COUNT + 1) 0xFFFFFFFF ∧ t.tick = s.tick + dt ∧ Kept [] [(.STR_BK_ERR, 0)] s t) ∧
    (∀ k r, s.str.cur = none → s.nextSeries = some k → s.str.series[k]? = some r → s.str.clk = true → s.fld F.STR_STAT_LINK = 1 →
      s.fld F.STR_CTRL_EN = 1 → (r.words.take s.maxLen).length + 2 ≤ s.fld F.STR_CREDIT_WORDS → Ends (.streamFrameStart dt []) s fun t =>
        (∃ f, t.str.cur = some f ∧ f.seq = s.fld F.STR_SEQ_NEXT ∧ f.source = r.source ∧ f.first = (!r.started) ∧
          f.words = r.words.take s.maxLen ∧ f.last = (r.closed && f.words.length == r.words.length) ∧
          t.fld F.STR_CREDIT_WORDS = s.fld F.STR_CREDIT_WORDS - (f.words.length + 2)) ∧
        t.fld F.STR_SEQ_NEXT = (s.fld F.STR_SEQ_NEXT + 1) % 4096 ∧ t.str.sent = s.str.sent ∧ t.tick = s.tick + dt ∧
        Kept [.str] [(.STR_CREDIT, 0), (.STR_SEQ, 0), (.STR_CAP_FILL, 0)] s t) ∧
    (∀ k r, s.str.cur = none → s.nextSeries = some k → s.str.series[k]? = some r →
      s.fld F.STR_CREDIT_WORDS < (r.words.take s.maxLen).length + 2 ∨ s.fld F.STR_STAT_LINK = 0 → Ends (.streamFrameStart dt []) s fun t =>
        t.tick = s.tick + dt ∧ Kept [] [] s t) ∧
    (∀ value sent k f, s.str.clk = true → s.str.linkAt ≠ some (s.tick + dt) → s.str.cur = none →
      (s.str.sent.findIdx? fun g => g.seq == value.toNat) = some k → s.str.sent[k]? = some f →
      s.sinceSof k 0 ≤ 64 → f.replays < 2 → Ends (.nak dt value sent) s fun t =>
        t.outs = .stream ((s.str.sent.take (k + 1)).reverse.flatMap fun g => g.syms true) :: s.outs ∧
          t.fld F.STR_NAK_COUNT = min (s.fld F.STR_NAK_COUNT + 1) 0xFFFFFFFF ∧
          t.fld F.STR_REPLAY_COUNT = min (s.fld F.STR_REPLAY_COUNT + k + 1) 0xFFFFFFFF ∧
          t.str.sent = (s.str.sent.take (k + 1)).map (fun g => { g with replays := g.replays + 1 }) ++ s.str.sent.drop (k + 1) ∧
          t.tick = s.tick + dt ∧ Kept [.str, .outs] [(.STR_NAK, 0), (.STR_REPLAY, 0)] s t) ∧
    (∀ value sent k f, s.str.clk = true → s.str.linkAt ≠ some (s.tick + dt) → s.str.cur = none →
      (s.str.sent.findIdx? fun g => g.seq == value.toNat) = some k → s.str.sent[k]? = some f →
      64 < s.sinceSof k 0 ∨ 2 ≤ f.replays → Ends (.nak dt value sent) s fun t =>
        t.outs = .stream [goneSym value.toNat] :: s.outs ∧ t.fld F.STR_GONE_COUNT = min (s.fld F.STR_GONE_COUNT + 1) 0xFFFFFFFF ∧
          t.tick = s.tick + dt ∧ Kept [.outs] [(.STR_GONE, 0)] s t) ∧
    (∀ sent, s.str.clk = true → Ends (.stclkLost dt sent) s fun t =>
      t.str.clk = false ∧ t.str.sent = [] ∧ t.str.cur = none ∧ t.fld F.SYS_CLK_STAT_STCLK_OK = 0 ∧ t.fld F.STR_STAT_STCLK_LOST = 1 ∧
        t.fld F.STR_CREDIT_WORDS = 0 ∧ t.fld F.STR_STAT_LINK = 0 ∧ t.tick = s.tick + dt ∧
        Kept [.str, .outs] [(.SYS_CLK_STAT, 0), (.STR_STAT, 0), (.STR_CREDIT, 0), (.STR_CAP_FILL, 0), (.STR_FRAMES, 0)] s t) ∧
    (s.str.clk = false → Ends (.stclkPresent dt) s fun t =>
      t.str = { s.str with clk := true } ∧ t.fld F.SYS_CLK_STAT_STCLK_OK = 1 ∧ t.tick = s.tick + dt ∧
        t.outs = .stream [symbol 0x00C3A5A5 true false] :: s.outs ∧ Kept [.str, .outs] [(.SYS_CLK_STAT, 0)] s t))

/-- Candle (R456 to R469): CANDLE_REPORT replies its record; a re-plan starts by MARGIN_REPLAN or 3,600 s after the last one, and waits
while it must; its end moves the margins only towards the stricter value, counts, and is answered; a qualifying window leaves the loss
V0 + R_ON of its fit by least squares among the bridge's values; the counters are saved once a minute. The model's choices in it: log
entries 1, 2, 8, 114, 115. -/
def Obligations.CandleMeasuresAndPlans : Prop :=
  ∀ (s : State) (p : Pkt) (role : Role), Calm s →
    (∀ ws, Carried s cmdCandleReport p role → (at_ s p).report (nth p.payload 0).toNat = some ws → Ends (.candleReport p) s fun t =>
      Answered s t cmdCandleReport p (ok ws) ∧ t.tick = s.tick + p.dt ∧ Kept replyParts [] s t) ∧
    (Carried s cmdMarginReplan p role → s.reiniting 0x30 0 = false → s.cdl.run = none → s.replanWaits = false →
      Ends (.marginReplan p) s fun t =>
        Started s t cmdMarginReplan p 0 (ans cACCEPTED) ∧ t.cdl = { s.cdl with run := some t.tick, again := false } ∧
          t.fld F.CDL_STAT_RUNNING = 1 ∧ t.tick = s.tick + p.dt ∧ Kept (.cdl :: .flight :: replyParts) [(.CDL_STAT, 0)] s t) ∧
    (∀ t0, Carried s cmdMarginReplan p role → s.reiniting 0x30 0 = false → s.cdl.run = some t0 → Ends (.marginReplan p) s fun t =>
      Started s t cmdMarginReplan p 0 (ans cACCEPTED) ∧ t.tick = s.tick + p.dt ∧ Kept (.flight :: replyParts) [] s t) ∧
    (s.fld F.CDL_CTRL_PERIODIC = 1 → s.cdl.run = none → s.replanWaits = false → Ends .replanPeriodic s fun t =>
      t.cdl = { s.cdl with run := some t.tick, again := false } ∧ t.fld F.CDL_STAT_RUNNING = 1 ∧
        t.tick = max s.tick (s.cdl.lastEnd + 3600 * ticksPerS) ∧ Kept [.cdl] [(.CDL_STAT, 0)] s t) ∧
    (s.replanWaits = true → Ends .replanPeriodic s fun t => t.tick = s.tick ∧ Kept [] [] s t) ∧
    (∀ dt ro osc nv t0, s.cdl.run = some t0 → s.cdl.rebase = false → Ends (.replanComplete dt ro osc nv) s fun t =>
      t.cdl.run = none ∧ t.cdl.lastEnd = t.tick ∧ t.fld F.CDL_STAT_RUNNING = 0 ∧ t.rd .CDL_RO_DRIFT = satW ro ∧
        t.fld F.CDL_NV_MARGIN_PCT = min nv 255 ∧
        t.fld F.CDL_REPLAN_CNT_COUNT = min (s.fld F.CDL_REPLAN_CNT_COUNT + 1) 0xFFFFFFFF ∧
        mk64 (t.rd .CDL_LAST_TIME_HI) (t.rd .CDL_LAST_TIME_LO) = t.meridian ∧
        (∀ b, b < 8 → s.fld F.CDL_MARGIN_DT_PLAN b ≤ t.fld F.CDL_MARGIN_DT_PLAN b) ∧
        (∀ a, a < 4 → s.fld F.CDL_MARGIN_GUARD_PRE a ≤ t.fld F.CDL_MARGIN_GUARD_PRE a ∧
          s.fld F.CDL_MARGIN_GUARD_POST a ≤ t.fld F.CDL_MARGIN_GUARD_POST a ∧ t.sg .CDL_MARGIN_DERATE a ≤ s.sg .CDL_MARGIN_DERATE a) ∧
        (∀ f ∈ t.hst.flight, ¬(f.opcode = 0x0C01 ∧ f.target = 0)) ∧ t.dev = s.dev ∧ (∀ a, a < 4 → t.axSt a = s.axSt a) ∧
        t.tick = s.tick + min dt (t0 + 500 * ticksPerMs - s.tick) ∧ Spared [.cdl, .nv, .free] [.CDL_STAT, .CDL_RO_DRIFT, .CDL_NV_MARGIN, .CDL_OSC_DRIFT, .CDL_RT_NOW,
          .CDL_MARGIN_DT, .CDL_MARGIN_GUARD, .SNS_EFF_GUARD, .CDL_MARGIN_DERATE, .CDL_MARGIN_BUDGET, .LE_TASK_BUDGET,
          .CDL_LAST_TIME_LO, .CDL_LAST_TIME_HI, .CDL_REPLAN_CNT] s t) ∧
    (Ends .candleWindow s fun t =>
      t.tick = max s.tick (s.cdl.winAt + ticksPerS) ∧ t.cdl.winAt = t.tick ∧
        (∀ b, b < 8 → (t.wearOf b).n = 0 ∧ (t.wearOf b).sumI = 0 ∧ (t.wearOf b).spoilt = false ∧
          (t.wearOf b).swTicks = (s.wearOf b).swTicks ∧
          t.rd .CDL_HOURS_SW b = wd (min ((s.wearOf b).swTicks / (60 * ticksPerS)) 0xFFFFFFFF) ∧
          (∀ w (den v0 r : Int), w = s.wearOf b → s.qualifies b = true → den = w.n * w.sumII - w.sumI * w.sumI → 0 < den →
            v0 * den = w.sumV * w.sumII - w.sumI * w.sumIV → r * den = (w.n * w.sumIV - w.sumI * w.sumV) * 2 ^ 24 →
            (w.swTicks, v0 + r) ∈ (t.wearOf b).losses)) ∧
        Kept [.cdl, .free] ((.CDL_STAT, 0) :: (upTo 8).flatMap fun b =>
          [(.CDL_VCE_DRIFT, b), (.CDL_RT_BASE, b), (.CDL_CYCLES, b), (.CDL_HOURS_SW, b)]) s t) ∧
    (s.sys.phase ≠ .unpowered → Ends .candleCounterSave s fun t =>
      t.fld F.CDL_HOURS_ON_MIN = min (s.fld F.CDL_HOURS_ON_MIN + 1) 0xFFFFFFFF ∧ t.tick = max s.tick (s.cdl.savedAt + 60 * ticksPerS) ∧
        t.cdl = { s.cdl with savedAt := t.tick } ∧ t.nv.mem = s.nv.mem ∧
        Store.get regDefault t.nv.kept (regCode .CDL_HOURS_ON 0) = t.rd .CDL_HOURS_ON ∧
        (∀ b, b < 8 → Store.get regDefault t.nv.kept (regCode .CDL_CYCLES b) = s.rd .CDL_CYCLES b ∧
          Store.get regDefault t.nv.kept (regCode .CDL_HOURS_SW b) = s.rd .CDL_HOURS_SW b) ∧
        (∀ a, a < 4 → Store.get regDefault t.nv.kept (regCode .CDL_ENERGY_MOT a) = s.rd .CDL_ENERGY_MOT a ∧
          Store.get regDefault t.nv.kept (regCode .CDL_ENERGY_GEN a) = s.rd .CDL_ENERGY_GEN a) ∧
        Kept [.cdl, .nv] [(.CDL_HOURS_ON, 0)] s t)

/-! ## Engine instructions (R179 to R204) -/

/-- The arithmetic and logic of the engines (R179, R182 to R184, R186): for each instruction the word in its destination, the flags, the
saturations counted and the cycles; nothing else changes. Products, accumulators and functions of the engines (R180, R182, R183, R186,
R187): a right shift with rounding adds half of the unit shifted to and shifts arithmetically (R183); the coefficient product is rounded
from the exact one and saturated; an accumulator saturates at its width, 48 or 64 bits; DIV by zero and SQRT of a negative number set V.
The model's choices in it: log entries 2, 12, 73, 77. -/
def Obligations.EngineArithmeticComputes : Prop :=
  (∀ (s : State) (u : Issue) (d a b : Fin 16), Calm s → u.prog = 0 → u.data = 0 →
    Ends (.nop u) s (fun t => Ran s t u 1 id 0) ∧
    Ends (.mov u d a) s (fun t => Ran s t u 1 (givesW d (s.xReg u.e a)) 0) ∧
    (∀ imm, Ends (.lil u d imm) s (fun t => Ran s t u 1 (givesW d (imm.signExtend 32)) 0)) ∧
    (∀ imm : BitVec 16, Ends (.lih u d imm) s fun t =>
      Ran s t u 1 (givesW d ((s.xReg u.e d &&& 0xFFFF) ||| (imm.setWidth 32 <<< 16))) 0) ∧
    Ends (.add u d a b) s (fun t => Ran s t u 1 (gives d (s.xInt u.e a + s.xInt u.e b)) (sat32 (s.xInt u.e a + s.xInt u.e b))) ∧
    Ends (.sub u d a b) s (fun t => Ran s t u 1 (gives d (s.xInt u.e a - s.xInt u.e b)) (sat32 (s.xInt u.e a - s.xInt u.e b))) ∧
    Ends (.neg u d a) s (fun t => Ran s t u 1 (gives d (-s.xInt u.e a)) (sat32 (-s.xInt u.e a))) ∧
    Ends (.abs u d a) s (fun t => Ran s t u 1 (gives d (s.xInt u.e a).natAbs) (sat32 (s.xInt u.e a).natAbs)) ∧
    Ends (.minReg u d a b) s (fun t => Ran s t u 1 (gives d (min (s.xInt u.e a) (s.xInt u.e b))) 0) ∧
    Ends (.maxReg u d a b) s (fun t => Ran s t u 1 (gives d (max (s.xInt u.e a) (s.xInt u.e b))) 0) ∧
    Ends (.clip u d a b) s (fun t => Ran s t u 1
      (gives d (max (-((s.xInt u.e b).natAbs : Int)) (min ((s.xInt u.e b).natAbs : Int) (s.xInt u.e a)))) 0) ∧
    Ends (.andReg u d a b) s (fun t => Ran s t u 1 (givesW d (s.xReg u.e a &&& s.xReg u.e b)) 0) ∧
    Ends (.orReg u d a b) s (fun t => Ran s t u 1 (givesW d (s.xReg u.e a ||| s.xReg u.e b)) 0) ∧
    Ends (.xorReg u d a b) s (fun t => Ran s t u 1 (givesW d (s.xReg u.e a ^^^ s.xReg u.e b)) 0) ∧
    (∀ sh : Fin 32, Ends (.shl u d a sh) s fun t =>
      Ran s t u 1 (gives d (s.xInt u.e a * 2 ^ sh.val)) (sat32 (s.xInt u.e a * 2 ^ sh.val))) ∧
    (∀ sh : Fin 32, Ends (.shr u d a sh) s fun t => Ran s t u 1 (gives d (roundShift (s.xInt u.e a) sh)) 0) ∧
    Ends (.addw u d a b) s (fun t => Ran s t u 1 (givesW d (s.xReg u.e a + s.xReg u.e b)) 0) ∧
    Ends (.subw u d a b) s (fun t => Ran s t u 1 (givesW d (s.xReg u.e a - s.xReg u.e b)) 0) ∧
    Ends (.tst u a) s (fun t => Ran s t u 1 (fun g => { g with z := s.xInt u.e a == 0, n := decide (s.xInt u.e a < 0), v := false }) 0) ∧
    ∀ y, y = s.xInt u.e a - s.xInt u.e b → Ends (.cmp u a b) s fun t =>
      Ran s t u 1 (fun g => { g with z := fit 32 y == 0, n := decide (fit 32 y < 0), v := fit 32 y != y }) (sat32 y)) ∧
  (∀ (s : State) (u : Issue) (d a b : Fin 16), Calm s → u.prog = 0 → u.data = 0 →
    (∀ (k : Fin 512) y, bitsOf (s.dataWord u.e (2 * k + 1)) 31 5 = 0 →
      y = roundShift (s.xInt u.e a * (s.dataWord u.e (2 * k)).toInt) (bitsOf (s.dataWord u.e (2 * k + 1)) 4 0) →
      Ends (.mulc u d a k) s (fun t => Ran s t u 2 (gives d y) (sat32 y)) ∧
      ∀ (n : Fin 4) w p z, w = (if u.e.val < 8 then 48 else 64) → p = fit w y → z = s.accReg u.e n + p →
        Ends (.mac u a k n) s fun t => Ran s t u 2
          (fun g => { g with acc := g.acc.set n (fit w z), z := fit w z == 0, n := decide (fit w z < 0), v := fit w z != z || p != y })
          (b2n (p != y) + b2n (fit w z != z))) ∧
    (∀ y, y = roundShift (s.xInt u.e a * s.xInt u.e b) 24 → Ends (.mul u d a b) s fun t => Ran s t u 2 (gives d y) (sat32 y)) ∧
    Ends (.mulw u d a b) s (fun t => Ran s t u 2 (givesW d (s.xReg u.e a * s.xReg u.e b)) 0) ∧
    (∀ (n : Fin 4) (sh : Fin 32) y, y = roundShift (s.accReg u.e n) sh → Ends (.accr u d n sh) s fun t =>
      Ran s t u 1 (gives d y) (sat32 y)) ∧
    (∀ n : Fin 4, Ends (.accz u n) s fun t =>
      Ran s t u 1 (fun g => { g with acc := g.acc.set n 0, z := true, n := false, v := false }) 0) ∧
    (Ends (.sincos u d a) s fun t => Ran s t u 4 (fun g => givesW d (BitVec.ofInt 32 (sinPu (s.xReg u.e a)))
      (if (d.val + 1) % 16 = 0 then g else { g with x := g.x.set (d.val + 1) (BitVec.ofInt 32 (cosPu (s.xReg u.e a))) })) 0) ∧
    Ends (.atan2 u d a b) s (fun t => Ran s t u 12 (givesW d (atan2Pu (s.xReg u.e a) (s.xReg u.e b))) 0) ∧
    (∀ y, s.xInt u.e b ≠ 0 → y = roundDiv (s.xInt u.e a * 2 ^ 24) (s.xInt u.e b) → Ends (.div u d a b) s fun t =>
      Ran s t u 20 (gives d y) (sat32 y)) ∧
    (s.xInt u.e b = 0 → Ends (.div u d a b) s fun t =>
      Ran s t u 20 (gives d (if 0 ≤ s.xInt u.e a then 2 ^ 31 - 1 else -2 ^ 31) true) 0) ∧
    (0 ≤ s.xInt u.e a → Ends (.sqrt u d a) s fun t => Ran s t u 16 (gives d (sqrtPu (s.xReg u.e a)).1) 0) ∧
    (s.xInt u.e a < 0 → Ends (.sqrt u d a) s fun t => Ran s t u 16 (gives d 0 true) 0) ∧
    (∀ (y : Int) (n : Nat), roundShift y n = (if n = 0 then y else y + 2 ^ (n - 1)) >>> n))

/-- The memory, register and mailbox instructions of the engines (R186, R188, R189, R196, R204): a store within the state window is
staged, one outside it takes effect at once; IN gives the register's word; an OUT that wins leaves its word in the register and clears
RT; MBR takes the next inbound word or sets E; MBW's word goes through the FIFO into the ring. The model's choices in it: log entries 2,
38, 76, 77. -/
def Obligations.EngineMemoryAccesses : Prop :=
  ∀ (s : State) (u : Issue) (d a : Fin 16) (off : Fin 16384), Calm s → u.prog = 0 → u.data = 0 →
    (∀ k, k = (s.xReg u.e a).toNat + off.val → k < (if u.e.val < 8 then 2048 else 8192) →
      Ends (.ld u d a off) s (fun t => Ran s t u 1 (givesW d (s.load u.e k)) 0) ∧
      (s.inWindow u.e k = true → Ends (.st u d a off) s fun t => Ran s t u 1
        (fun g => { g with window := (k, s.xReg u.e d) :: g.window.filter fun p => p.1 != k }) 0) ∧
      (s.inWindow u.e k = false → Ends (.st u d a off) s fun t => Ran s t u 1
        (fun g => { g with data := Store.set zeroMem g.data k (s.xReg u.e d) }) 0)) ∧
    (∀ addr r i k, addr = s.xReg u.e a + wd (4 * off.val) → baseOf addr / 65536 ∈ inBlocks → locate addr = .at_ (.reg r i) k →
      Quiet s (.engine u.e) r i → Ends (.inReg u d a off) s fun t => 
        Ran s t u 3 (givesW d ((s.elapseTo (s.engine u.e).ready).view r i)) 0) ∧
    (∀ addr r i w new, addr = s.xReg u.e a + wd (4 * off.val) → baseOf addr / 65536 ∈ outBlocks → locate addr = .at_ (.reg r i) .plain →
      locate (wd (baseOf addr)) = .at_ (.reg r i) .plain → i < 65536 → r ∉ actingRegs → w.who.engine? = some u.e.val →
      w.value = s.xReg u.e d → Lands (s.elapseTo (s.engine u.e).ready) r i ⟨0, [w], 0⟩ w new → Ends (.outReg u d a off []) s fun t =>
        t.rd r i &&& ~~~pinBits r = new &&& ~~~pinBits r ∧ t.tick = max s.tick (s.engine u.e).ready ∧
          t.eng = upd s.eng u.e (fun g => { nextEng g (t.tick + 1) with outAt := t.tick + 3, rt := false }) ∧
          Kept [.eng] [(r, i)] s t) ∧
    (u.mail = ⟨0, 0⟩ → s.fld F.LE_MBX_IPTR_RD u.e = s.fld F.LE_MBX_IPTR_WR u.e → (s.engine u.e).outFifo = [] →
      (∀ w rest, (s.engine u.e).inFifo = w :: rest → Ends (.mbr u d) s fun t =>
        Ran s t u 1 (fun g => { givesW d w g with em := false, inFifo := rest }) 0) ∧
      ((s.engine u.e).inFifo = [] → Ends (.mbr u d) s fun t => Ran s t u 1 (fun g => { givesW d 0 g with em := true }) 0) ∧
      ((s.fld F.LE_MBX_OPTR_WR u.e + 1) % 256 ≠ s.fld F.LE_MBX_OPTR_RD u.e → u.e.val < s.eng.length → Ends (.mbw u d) s fun t =>
        t.sram = Store.set zeroMem s.sram (s.ringWord u.e (s.fld F.LE_MBX_OPTR_WR u.e) false) (s.xReg u.e d) ∧
          t.fld F.LE_MBX_OPTR_WR u.e = (s.fld F.LE_MBX_OPTR_WR u.e + 1) % 256 ∧
          t.eng = upd s.eng u.e (fun g => nextEng g (t.tick + 1)) ∧ t.tick = max s.tick (s.engine u.e).ready ∧
          Kept [.eng, .sram] [(.LE_MBX_OPTR, u.e.val)] s t))

/-- R189: MBR with the inbound mailbox empty gives 0 and sets E, otherwise it clears E; MBW with the outbound mailbox full, ring and FIFO
(R204), drops its word and sets MBX_OVF. Neither waits: the next instruction may issue one tick later. The words come through the fabric
(R24, R27). -/
def Obligations.MailboxesNeverWait : Prop :=
  ∀ (s : State) (u : Issue) (d : Fin 16), Calm s → u.prog = 0 → u.data = 0 → u.mail = ⟨0, 0⟩ →
    (s.fld F.LE_MBX_IPTR_RD u.e = s.fld F.LE_MBX_IPTR_WR u.e → (s.engine u.e).inFifo = [] → Ends (.mbr u d) s fun t =>
      (∀ g ∈ t.eng[u.e.val]?, g.em = true ∧ g.x = (givesW d 0 (s.engine u.e)).x ∧ g.ready = t.tick + 1)) ∧
    (s.fld F.LE_MBX_IPTR_RD u.e ≠ s.fld F.LE_MBX_IPTR_WR u.e ∨ (s.engine u.e).inFifo ≠ [] → Ends (.mbr u d) s fun t =>
      (∀ g ∈ t.eng[u.e.val]?, g.em = false ∧ g.ready = t.tick + 1)) ∧
    (64 ≤ (s.engine u.e).outFifo.length → (s.fld F.LE_MBX_OPTR_WR u.e + 1) % 256 = s.fld F.LE_MBX_OPTR_RD u.e →
      Ends (.mbw u d) s fun t =>
        t.fld F.LE_STAT_MBX_OVF u.e = 1 ∧ (∀ g ∈ t.eng[u.e.val]?, g.outFifo = (s.engine u.e).outFifo ∧ g.ready = t.tick + 1) ∧
          (s.fld F.LE_MBX_IPTR_RD u.e = s.fld F.LE_MBX_IPTR_WR u.e → t.eng = upd s.eng u.e (fun g => nextEng g (t.tick + 1))) ∧
          Kept [.eng] [(.LE_STAT, u.e.val), (.LE_MBX_IPTR, u.e.val)] s t)

/-- Where the engines go on (R186, R190, R193 to R196, R203): a branch waits for the outcome of an OUT that it tests and takes two cycles
where it is taken; LOOP notes its passes; END commits the window and frees the engine; a release comes due, the lowest waiting slot
starts with cleared registers, its sample index and timestamp; a deadline missed drops the release, running, waiting or still due,
counted and logged. An exception
aborts the task, its window discarded: a coefficient with a reserved bit, a data address beyond the memory, an IN or OUT outside its
blocks (R180, R200, R201); one to three failed parity reads are repeated at 2 ticks each, more stop the engine until it is reinitialised
(R200, R202). The model's choices in it: log entries 2, 74, 77. -/
def Obligations.EngineTasksAndExceptions : Prop :=
  (∀ (s : State) (u : Issue), Calm s → u.prog = 0 → u.data = 0 →
    (∀ (c : Fin 16) (target : Fin 8192), Ends (.branch u c target) s fun t =>
      t.eng = (if s.cond u.e c = true then upd s.eng u.e fun g => State.flow { g with at_ := g.pc, ready := t.tick + 2 } target
        else upd s.eng u.e fun g => nextEng g (t.tick + 1)) ∧
      t.tick = max s.tick (if c.val = 9 ∨ c.val = 10 then max (s.engine u.e).ready (s.engine u.e).outAt else (s.engine u.e).ready) ∧
      Kept [.eng] [] s t) ∧
    (∀ (passes : Fin 256) (len : Fin 64), Ends (.loop u passes len) s fun t =>
      Ran s t u 1 (fun g => { g with loop := some (g.at_ + 1, g.at_ + 2 + len.val, passes.val + 1) }) 0) ∧
    (∀ r, (s.engine u.e).run = some r → r.slot < 4 → Ends (.endTask u) s fun t =>
      t.eng = upd s.eng u.e (fun g => { nextEng g (t.tick + 1) with
        data := g.window.foldr (fun p m => Store.set zeroMem m p.1 p.2) g.data, run := none, window := [], loop := none,
        hist := g.hist.set r.slot ((false :: nth g.hist r.slot).take 16) }) ∧
      t.fld F.LE_TASK_LAST_END (4 * u.e + r.slot) = min (t.tick + 1 - r.inst) 0xFFFFFF ∧ t.fld F.LE_STAT_BUSY u.e = 0 ∧
      t.fld F.LE_TASK_OVR_RUN (4 * u.e + r.slot) = 0 ∧ t.tick = max s.tick (s.engine u.e).ready ∧
      Kept [.eng] [(.LE_TASK_LAST, 4 * u.e + r.slot), (.LE_TASK_OVR, 4 * u.e + r.slot), (.LE_STAT, u.e.val)] s t) ∧
    (∀ (e : Fin 10) (slot : Fin 4) r, State.nextDue (s.engine e).due slot = some r → Ends (.taskRelease e slot) s fun t =>
      t.eng = upd s.eng e (fun g => { g with due := g.due.erase r, waiting := g.waiting ++ [r] }) ∧ t.tick = max s.tick r.at_ ∧
        Kept [.eng] [] s t) ∧
    (∀ (e : Fin 10) (r : Rel), ((upTo 4).findSome? fun k => (s.engine e).waiting.find? fun r => r.slot == k) = some r →
      (s.engine e).run = none → s.fld F.LE_CTRL_RUN e = 1 → Ends (.taskStart e) s fun t =>
        t.eng = upd s.eng e (fun g => { g with
          data := g.staged.foldl (fun m p => Store.set zeroMem m p.1 p.2) g.data, staged := [], run := some r, window := [], loop := none,
          waiting := g.waiting.erase r, x := List.replicate 14 0 ++ [r.index, r.stamp], acc := [0, 0, 0, 0], z := false, n := false,
          v := false, rt := false, em := false, pc := s.fld F.LE_TASK_CFG_ENTRY (4 * e + r.slot), ready := t.tick + 2 }) ∧
        t.fld F.LE_STAT_BUSY e = 1 ∧ t.fld F.LE_STAT_SLOT e = r.slot ∧ t.fld F.LE_MSTAT_PENDING e = 0 ∧
        t.tick = max s.tick (s.engine e).ready ∧ Kept [.eng] [(.LE_MSTAT, e.val), (.LE_STAT, e.val)] s t) ∧
    (∀ (e : Fin 10) (slot : Fin 4) (r : Rel), (s.engine e).run = some r → r.slot = slot → Ends (.taskDeadline e slot) s fun t =>
      (∀ g ∈ t.eng[e.val]?, g.run = none ∧ g.window = [] ∧ g.loop = none ∧ g.data = (s.engine e).data) ∧
        t.fld F.LE_STAT_BUSY e = 0 ∧ t.fld F.LE_TASK_OVR_COUNT (4 * e + slot) = min (s.fld F.LE_TASK_OVR_COUNT (4 * e + slot) + 1) 0xFFFF ∧
        Raised t 0x3001 r.axis ∧ t.tick = max s.tick (r.inst + s.fld F.LE_TASK_DEADLINE_DEADLINE (4 * e + slot)) ∧
        Spared [.eng] [.LE_STAT, .LE_TASK_OVR] s t) ∧
    (∀ (e : Fin 10) (slot : Fin 4) (r : Rel), (s.engine e).run = none → ((s.engine e).waiting.find? fun r => r.slot == slot.val) = some r →
      Ends (.taskDeadline e slot) s fun t =>
        (∀ g ∈ t.eng[e.val]?, g.run = none ∧ g.waiting = (s.engine e).waiting.erase r ∧ g.data = (s.engine e).data) ∧
          t.fld F.LE_TASK_OVR_COUNT (4 * e + slot) = min (s.fld F.LE_TASK_OVR_COUNT (4 * e + slot) + 1) 0xFFFF ∧
          Raised t 0x3001 r.axis ∧ t.tick = max s.tick (r.inst + s.fld F.LE_TASK_DEADLINE_DEADLINE (4 * e + slot)) ∧
          Spared [.eng] [.LE_TASK_OVR] s t) ∧
    (∀ (e : Fin 10) (slot : Fin 4) (r : Rel), (∀ q, (s.engine e).run = some q → q.slot ≠ slot) →
      ((s.engine e).waiting.find? fun r => r.slot == slot.val) = none → State.nextDue (s.engine e).due slot = some r →
      Ends (.taskDeadline e slot) s fun t =>
        (∀ g ∈ t.eng[e.val]?, g.run = (s.engine e).run ∧ g.due = (s.engine e).due.erase r ∧ g.data = (s.engine e).data) ∧
          t.fld F.LE_TASK_OVR_COUNT (4 * e + slot) = min (s.fld F.LE_TASK_OVR_COUNT (4 * e + slot) + 1) 0xFFFF ∧
          Raised t 0x3001 r.axis ∧ t.tick = max s.tick (r.inst + s.fld F.LE_TASK_DEADLINE_DEADLINE (4 * e + slot)) ∧
          Spared [.eng] [.LE_TASK_OVR] s t)) ∧
  (∀ (s : State) (u : Issue) (d a : Fin 16) (off : Fin 16384) (k : Fin 512), Calm s →
    (∀ i c, ((i = .mulc u d a k ∨ ∃ n, i = .mac u a k n) ∧ c = 4 ∧ bitsOf (s.dataWord u.e (2 * k.val + 1)) 31 5 ≠ 0) ∨
        ((i = .ld u d a off ∨ i = .st u d a off) ∧ c = 1 ∧ (if u.e.val < 8 then 2048 else 8192) ≤ (s.xReg u.e a).toNat + off.val) ∨
        (i = .inReg u d a off ∧ c = 2 ∧ baseOf (s.xReg u.e a + wd (4 * off.val)) / 65536 ∉ inBlocks) ∨
        (i = .outReg u d a off [] ∧ c = 3 ∧ baseOf (s.xReg u.e a + wd (4 * off.val)) / 65536 ∉ outBlocks) →
      u.prog = 0 → u.data = 0 → Ends i s fun t =>
        t.fld F.LE_EXC_INFO_CAUSE u.e = c ∧ t.fld F.LE_EXC_INFO_PC u.e = (s.engine u.e).pc % 8192 ∧ t.fld F.LE_STAT_EXCEPTION u.e = 1 ∧
          t.fld F.LE_STAT_BUSY u.e = 0 ∧ (∀ g ∈ t.eng[u.e.val]?, g.run = none ∧ g.window = [] ∧ g.data = (s.engine u.e).data) ∧
          Raised t 0x3022 (s.runAxis u.e) ∧ t.tick = max s.tick (s.engine u.e).ready ∧
          Spared [.eng] [.LE_EXC_INFO, .LE_STAT, .LE_TASK_OVR] s t) ∧
    (1 ≤ u.prog → u.prog ≤ 3 → u.data = 0 → Ends (.nop u) s fun t =>
      t.eng = upd s.eng u.e (fun g => nextEng g (t.tick + 1 + 2 * u.prog)) ∧ Raised t 0x7050 (s.runAxis u.e) ∧
        t.fld F.LE_PAR_REPLAY_COUNT u.e = min (s.fld F.LE_PAR_REPLAY_COUNT u.e + u.prog) 0xFFFFFFFF ∧
        t.tick = max s.tick (s.engine u.e).ready ∧ Spared [.eng, .cdl] [.LE_PAR_REPLAY] s t) ∧
    (3 < u.prog → Ends (.nop u) s fun t =>
      (∀ g ∈ t.eng[u.e.val]?, g.run = none ∧ g.window = [] ∧ g.waiting = [] ∧ g.due = [] ∧ g.dead = true) ∧
        t.fld F.LE_CTRL_RUN u.e = 0 ∧ t.fld F.LE_STAT_RUNNING u.e = 0 ∧ t.fld F.LE_STAT_PAR_FAULT u.e = 1 ∧
        Raised t 0x7051 (s.runAxis u.e) ∧ t.tick = max s.tick (s.engine u.e).ready ∧
        Spared [.eng, .cdl] [.LE_PAR_REPLAY, .LE_CTRL, .LE_STAT] s t))

/-! ## Feedback and sensing (R125 to R150, R168 to R176, R194) -/

/-- The registers that a counted edge may change beside the channel's own. -/
def compareRegs : List (RegId × Nat) := [(.CMP_FIRED, 0), (.CMP_STAT, 0), (.CMP_LAST_TIME_LO, 0), (.CMP_LAST_TIME_HI, 0)]

/-- Encoder edges (R128 to R130, R138, R139): one line changing in quadrature, and an edge of A in pulse/direction mode, count EN_POS up or
down and stamp it; both lines changing is an illegal edge, counted, which leaves the position. A compare pulse ends with its output low
(R146). A level that the filter does not accept changes nothing (R127), and an edge in the tick of a write of EN_POS leaves EN_POS as
written (R132). SSI frames (R136, R137) end 1 µs before a sample instant of the owner: a good one shows its data and references the
channel, one with its error bit set is predicted over, counted and logged. The model's choices in it: log entries 1, 2, 15, 67, 69, 71.
-/
def Obligations.EncoderEdgesCount : Prop :=
  (∀ (s : State) (dt : Nat) (c : Fin 4), Calm s →
    (∀ a b held, held < s.encDelay c → Ends (.encoderEdge dt c a b held []) s fun t => t.tick = s.tick + dt ∧ Kept [] [] s t) ∧
    (∀ a b held up, s.encMode c = 1 → s.fld F.EN_STAT_VALID c = 1 → s.encDelay c ≤ held → (s.enc c).presetAt ≠ some (s.tick + dt) →
      (a != (s.enc c).a) = !(b != (s.enc c).b) → up = ((if a != (s.enc c).a then a != b else a == b) != s.on F.EN_CFG_INVERT_DIR c) →
      Ends (.encoderEdge dt c a b held []) s fun t =>
        t.rd .EN_POS c = s.rd .EN_POS c + (if up = true then 1 else -1) ∧ t.fld F.EN_STAT_DIR c = b2n (!up) ∧
          t.fld F.EN_STAT_STANDSTILL c = 0 ∧ t.rd .EN_EDGE_TS c = State.stampOf ((s.elapse dt).changeTime (s.encDelay c)) ∧
          (∀ e ∈ t.feed.enc[c.val]?, e.a = a ∧ e.b = b) ∧ t.tick = s.tick + dt ∧
          Kept [.feed, .fio, .free] ([(.EN_POS, c.val), (.EN_ANGLE, c.val), (.EN_EDGE_TS, c.val), (.EN_STAT, c.val), (.EN_SPEED, c.val)] ++
            compareRegs) s t) ∧
    (∀ a b held, s.encMode c = 1 → s.fld F.EN_STAT_VALID c = 1 → s.encDelay c ≤ held → (s.enc c).presetAt = some (s.tick + dt) →
      (a != (s.enc c).a) = !(b != (s.enc c).b) → Ends (.encoderEdge dt c a b held []) s fun t =>
        t.rd .EN_POS c = s.rd .EN_POS c ∧ t.tick = s.tick + dt ∧ Kept [.feed, .fio, .free, .mot]
          ([(.EN_ANGLE, c.val), (.EN_EDGE_TS, c.val), (.EN_STAT, c.val), (.EN_SPEED, c.val)] ++ compareRegs) s t) ∧
    (∀ a b held, s.encMode c = 1 → s.fld F.EN_STAT_VALID c = 1 → s.encDelay c ≤ held → a ≠ (s.enc c).a → b ≠ (s.enc c).b →
      (s.enc c).illegal.length < 2 → Ends (.encoderEdge dt c a b held []) s fun t =>
        t.fld F.EN_ILLEGAL_COUNT c = min (s.fld F.EN_ILLEGAL_COUNT c + 1) 0xFFFFFFFF ∧ t.fld F.EN_STAT_DOUBT c = 1 ∧
          t.tick = s.tick + dt ∧ Kept [.feed] [(.EN_ILLEGAL, c.val), (.EN_STAT, c.val)] s t) ∧
    (∀ b held since, s.encMode c = 3 → s.fld F.EN_STAT_VALID c = 1 → s.encDelay c ≤ held → since < s.fld F.EN_FILT_PD_SETUP c →
      (s.enc c).presetAt ≠ some (s.tick + dt) → Ends (.pulseEdge dt c true b held since []) s fun t =>
        t.rd .EN_POS c = s.rd .EN_POS c + (if (b != s.on F.EN_CFG_INVERT_DIR c) = true then 1 else -1) ∧
          t.fld F.EN_STAT_DIR_VIOLATION c = 1 ∧ Raised t 0x2009 7 ∧ t.tick = s.tick + dt ∧
          Spared [.feed, .free] [.EN_POS, .EN_ANGLE, .EN_EDGE_TS, .EN_STAT, .EN_SPEED, .CMP_FIRED, .CMP_STAT, .CMP_LAST_TIME_LO,
            .CMP_LAST_TIME_HI] s t) ∧
    (∀ b held since up, s.encMode c = 3 → s.fld F.EN_STAT_VALID c = 1 → s.encDelay c ≤ held → s.fld F.EN_FILT_PD_SETUP c ≤ since →
      (s.enc c).presetAt ≠ some (s.tick + dt) → up = (!b != s.on F.EN_CFG_INVERT_DIR c) →
      Ends (.pulseEdge dt c true b held since []) s fun t =>
        t.rd .EN_POS c = s.rd .EN_POS c + (if up = true then 1 else -1) ∧ t.fld F.EN_STAT_DIR c = b2n (!up) ∧
          t.rd .EN_EDGE_TS c = State.stampOf ((s.elapse dt).changeTime (s.encDelay c)) ∧ t.tick = s.tick + dt ∧
          Kept [.feed, .fio, .free] ([(.EN_POS, c.val), (.EN_ANGLE, c.val), (.EN_EDGE_TS, c.val), (.EN_STAT, c.val), (.EN_SPEED, c.val)] ++
            compareRegs) s t) ∧
    (∀ t0, (s.feed.pulses.map Prod.snd).min? = some t0 → Ends .comparePulseEnd s fun t =>
      t.tick = max s.tick t0 ∧ t.feed.pulses = (s.feed.pulses.filter fun p => t0 < p.2) ∧
        (∀ p ∈ s.feed.pulses, p.2 ≤ t0 → t.cmpLevel p.1 = false) ∧
        (∀ o, 2 ≤ o ∨ (s.feed.due.map Prod.fst).Pairwise (· ≤ ·) → (∀ p ∈ s.feed.pulses, p.2 ≤ t0 → p.1 ≠ o) →
          t.cmpLevel o = (s.elapseTo t0).cmpLevel o) ∧ Kept [.feed, .fio] [] s t)) ∧
  (∀ (s : State) (dt : Nat) (c : Fin 4) (raw : Word) (par : Bool) (v data due : Nat), Calm s → s.encMode c = 2 → s.fld F.EN_SSI_CFG_PARITY c = 0 →
    v = raw.toNat % 2 ^ s.fld F.EN_SSI_CFG_BITS c → due = max (s.tick + dt) (((s.elapse dt).ssiDue c).getD 0) →
    (s.fld F.EN_STAT_REFERENCED c = 1 ∨ ∀ a, a < 4 → (s.ob a).aligned = none) →
    data = (if s.fld F.EN_SSI_CFG_CODE c = 0 then v else State.ungray (s.fld F.EN_SSI_CFG_BITS c) v) →
    (∀ err, s.fld F.EN_SSI_CFG_ERRBIT c = 0 ∨ err ≠ s.on F.EN_SSI_CFG_ERRPOL c → (∀ o, (s.enc c).ssiLast = some o →
      (((data - o : Int) + 2 ^ s.fld F.EN_SSI_CFG_BITS c / 2) % 2 ^ s.fld F.EN_SSI_CFG_BITS c -
        2 ^ s.fld F.EN_SSI_CFG_BITS c / 2).natAbs ≤ s.fld F.EN_SSI_CFG_MAX_STEP c) → Ends (.ssiFrame dt c raw par err []) s fun t =>
        t.rd .EN_SSI_RAW c = wd v ∧ t.fld F.EN_STAT_SSI_PRED c = 0 ∧ t.fld F.EN_STAT_REFERENCED c = 1 ∧
          (∀ e ∈ t.feed.enc[c.val]?, e.ssiLast = some data ∧ e.ssiBad = 0) ∧ t.tick = due ∧ Kept [.feed, .free, .mot, .fio, .outs]
            ([(.EN_SSI_RAW, c.val), (.EN_POS, c.val), (.EN_ANGLE, c.val), (.EN_STAT, c.val), (.EN_EDGE_TS, c.val), (.EN_SPEED, c.val),
              (.ME_GEAR_JUMP, 0),
              (.ME_GEAR_JUMP, 1)] ++ compareRegs) s t) ∧
    (∀ err, s.fld F.EN_SSI_CFG_ERRBIT c = 1 → err = s.on F.EN_SSI_CFG_ERRPOL c → (s.enc c).ssiBad < 2 →
      Ends (.ssiFrame dt c raw par err []) s fun t =>
        t.rd .EN_SSI_RAW c = wd v ∧ t.fld F.EN_STAT_SSI_PRED c = 1 ∧ Raised t 0x2005 7 ∧
          t.fld F.EN_SSI_ERR_COUNT c = min (s.fld F.EN_SSI_ERR_COUNT c + 1) 0xFFFFFFFF ∧
          (∀ e ∈ t.feed.enc[c.val]?, e.ssiLast = (s.enc c).ssiLast ∧ e.ssiBad = (s.enc c).ssiBad + 1) ∧ t.tick = due ∧
          Spared [.feed, .free, .mot] [.EN_SSI_RAW, .EN_SSI_ERR, .EN_POS, .EN_ANGLE, .EN_STAT, .ME_GEAR_JUMP] s t))

/-- The speed of a free channel falls to zero at its timeout and else follows its edge pair (R140, R141); an index event references the
channel, corrects a deviation within the window, or is a mismatch (R133, R134). The loss of an encoder channel, by its lines or its
supply, is raised on its owner, or on none, with VALID clear; once every cause has gone a channel without an owner is VALID again (R42,
R142, R143). The model's choices in it: log entries 1, 2, 10. -/
def Obligations.EncoderSpeedIndexAndLoss : Prop :=
  (∀ (s : State) (dt : Nat) (c : Fin 4), Calm s → s.fld F.EN_STAT_VALID c = 1 →
    (∀ k u, s.encMode c ≠ 0 → 4 ≤ s.owner c → (s.enc c).newest = some k → s.fld F.EN_STAT_STANDSTILL c = 0 →
      u = s.elapseFrom dt ((s.enc c).spdAt + 100 * ticksPerUs) →
      (s.fld F.EN_SPD_CFG_TIMEOUT c * ticksPerMs < (u.nowStamp - k.ts).toNat → Ends (.enSpeedUpdate dt c) s fun t =>
        t.rd .EN_SPEED c = 0 ∧ t.fld F.EN_STAT_STANDSTILL c = 1 ∧ t.tick = max (s.tick + dt) ((s.enc c).spdAt + 100 * ticksPerUs) ∧
          Kept [.feed] [(.EN_SPEED, c.val), (.EN_STAT, c.val)] s t) ∧
      (∀ r, (u.nowStamp - k.ts).toNat ≤ s.fld F.EN_SPD_CFG_TIMEOUT c * ticksPerMs → (s.enc c).reversed = false →
        (s.enc c).fresh = true → ((s.enc c).refs.getD (s.fld F.EN_SPD_CFG_WIN c) none).or (s.enc c).anchor = some r → r.ts ≠ k.ts →
        Ends (.enSpeedUpdate dt c) s fun t =>
          t.rd .EN_SPEED c = satW (roundDiv ((k.pos - r.pos).toInt * 2 ^ 32) (k.ts - r.ts).toNat) ∧
            t.tick = max (s.tick + dt) ((s.enc c).spdAt + 100 * ticksPerUs) ∧ Kept [.feed] [(.EN_SPEED, c.val)] s t)) ∧
    (∀ held, held < s.encDelay c → Ends (.indexEvent dt c true held) s fun t => t.tick = s.tick + dt ∧ Kept [] [] s t) ∧
    (∀ held, s.encDelay c ≤ held → s.encMode c = 1 ∨ s.encMode c = 3 → s.fld F.EN_IDX_CFG_EDGE c = 0 → s.fld F.EN_IDX_CFG_GATE c = 0 → s.fld F.EN_IDX_CFG_POLICY c ≠ 0 →
      s.fld F.EN_CPR_CPR c ≠ 0 → (s.enc c).illAt ≠ some (s.tick + dt) → (s.enc c).agreed = none →
      (s.enc c).presetAt ≠ some (s.tick + dt) →
      (s.fld F.EN_STAT_REFERENCED c = 0 → (∀ a, a < 4 → (s.ob a).aligned = none) → Ends (.indexEvent dt c true held) s fun t =>
        t.fld F.EN_STAT_REFERENCED c = 1 ∧ t.fld F.EN_STAT_DOUBT c = 0 ∧ t.rd .EN_POS c = s.rd .EN_POS c - wi (s.indexDev c) ∧
          (∀ e ∈ t.feed.enc[c.val]?, e.idxTs = State.stampOf ((s.elapse dt).changeTime (s.encDelay c))) ∧ t.tick = s.tick + dt ∧ Kept [.feed, .free, .mot]
            [(.EN_POS, c.val), (.EN_ANGLE, c.val), (.EN_STAT, c.val), (.ME_GEAR_JUMP, 0), (.ME_GEAR_JUMP, 1)] s t) ∧
      (s.fld F.EN_STAT_REFERENCED c = 1 → (s.indexDev c).natAbs ≤ s.fld F.EN_IDX_CFG_WIN c → Ends (.indexEvent dt c true held) s fun t =>
        t.rd .EN_IDX_DEV c = wi (s.indexDev c) ∧ t.fld F.EN_STAT_DOUBT c = 0 ∧ t.fld F.EN_STAT_RUN c = 0 ∧
          t.rd .EN_POS c = s.rd .EN_POS c - wi (s.indexDev c) ∧ t.tick = s.tick + dt ∧ Kept [.feed, .free, .mot]
            [(.EN_POS, c.val), (.EN_ANGLE, c.val), (.EN_STAT, c.val), (.EN_IDX_DEV, c.val), (.ME_GEAR_JUMP, 0), (.ME_GEAR_JUMP, 1)] s t) ∧
      (s.fld F.EN_STAT_REFERENCED c = 1 → s.fld F.EN_IDX_CFG_WIN c < (s.indexDev c).natAbs → Ends (.indexEvent dt c true held) s fun t =>
        t.rd .EN_IDX_DEV c = wi (s.indexDev c) ∧ t.fld F.EN_STAT_INDEX_MISMATCH c = 1 ∧
          t.fld F.EN_IDX_MISMATCH_COUNT c = min (s.fld F.EN_IDX_MISMATCH_COUNT c + 1) 0xFFFFFFFF ∧ Raised t 0x2002 7 ∧
          t.tick = s.tick + dt ∧ Spared [.feed] [.EN_IDX_DEV, .EN_IDX_MISMATCH, .EN_STAT] s t))) ∧
  (∀ (s : State) (dt : Nat) (c : Fin 4), Calm s → s.encMode c = 1 ∨ s.encMode c = 3 →
    (4 ≤ s.owner c ∨ s.fld F.EN_CFG_FALLBACK c = 0 ∧ s.fld F.EN_STAT_VALID c = 1 →
      (∀ line, line.val ≠ 2 → Ends (.encoderLineFault dt c line) s fun t =>
        t.fld F.EN_STAT_VALID c = 0 ∧ t.fld F.EN_STAT_LINE_FAULT c = 1 ∧ t.fld F.EN_STAT_REFERENCED c = 0 ∧
          (∀ e ∈ t.feed.enc[c.val]?, e.lost = true ∧ e.line = true) ∧ Raised t 0x2003 (if 4 ≤ s.owner c then 7 else s.owner c) ∧
          t.tick = s.tick + dt ∧ Spared [.feed] [.EN_STAT] s t) ∧
      (Ends (.encSupplyOverload dt c) s fun t =>
        t.fld F.EN_STAT_VALID c = 0 ∧ t.fld F.EN_STAT_SUPPLY_FAULT c = 1 ∧ t.fld F.EN_STAT_REFERENCED c = 0 ∧
          (∀ e ∈ t.feed.enc[c.val]?, e.lost = true ∧ e.supply = true ∧ e.supplyAt = t.tick) ∧
          Raised t 0x2007 (if 4 ≤ s.owner c then 7 else s.owner c) ∧ t.tick = s.tick + dt ∧ Spared [.feed] [.EN_STAT] s t)) ∧
    ((s.enc c).supply = true → Ends (.encSupplyRetry c) s fun t =>
      (∀ e ∈ t.feed.enc[c.val]?, e.supply = false) ∧ t.tick = max s.tick ((s.enc c).supplyAt + 100 * ticksPerMs) ∧
        ((s.enc c).lost = true → 4 ≤ s.owner c → (s.enc c).line = false → (s.enc c).ssiBad = 0 → t.fld F.EN_STAT_VALID c = 1) ∧
        Kept [.feed] [(.EN_STAT, c.val)] s t) ∧
    (Ends (.encoderLineRestored dt c) s fun t =>
      (∀ e ∈ t.feed.enc[c.val]?, e.line = false) ∧ t.tick = s.tick + dt ∧
        ((s.enc c).lost = true → 4 ≤ s.owner c → (s.enc c).supply = false → (s.enc c).ssiBad = 0 → t.fld F.EN_STAT_VALID c = 1) ∧
        Kept [.feed] [(.EN_STAT, c.val)] s t))

/-- Hall edges stamp their input, show the limit switches among the inputs (R223), and with SECT_EN give the sector's angle where the code
changes, or are illegal (R144, R145); without it no code is formed. An analog conversion gives its value within
one rounding (R176). A bit that takes the fast value of an enabled channel over a threshold, and the last of 64 identical ones, is FR4 of
the axis (R170). The model's choices in it: log entries 1, 10, 15, 54, 64, 70. -/
def Obligations.HallsAndAnalogsRead : Prop :=
  ∀ (s : State) (dt : Nat), Calm s →
    (∀ (h : Fin 8) level held, held < s.hallDelay h → Ends (.hallEdge dt h level held) s fun t => t.tick = s.tick + dt ∧ Kept [] [] s t) ∧
    (∀ (h : Fin 8) level held raw act code, s.hallDelay h ≤ held → s.fbit F.H_STATE_RAW h ≠ level → raw = s.fld F.H_STATE_RAW ^^^ 2 ^ h.val →
      act = raw ^^^ s.fld F.H_CFG_POL → code = act / 2 ^ s.fld F.H_CFG_SECT_BASE % 8 →
      (s.fld F.H_CFG_SECT_EN = 0 ∨ code = s.fld F.H_STATE_CODE → Ends (.hallEdge dt h level held) s fun t =>
        t.fld F.H_STATE_RAW = raw ∧ t.fld F.H_STATE_ACTIVE = act ∧ t.fld F.H_STATE_CODE = s.fld F.H_STATE_CODE ∧
          t.rd .H_EDGE_TS h = State.stampOf ((s.elapse dt).changeTime (s.hallDelay h)) ∧ t.feed = s.feed ∧
          (∀ a, a < 4 → t.fld F.AX_STAT_LIMSW a = b2n (s.on F.AX_CFG_LIMSW_EN a && (act.testBit (s.fld F.AX_CFG_LIM_FWD a) ||
            act.testBit (s.fld F.AX_CFG_LIM_REV a)))) ∧ t.tick = s.tick + dt ∧
          Kept [.logs, .latched] ((.H_STATE, 0) :: (.H_EDGE_TS, h.val) :: (.SYS_FAULT, 0) :: (upTo 4).flatMap fun a => [(.AX_STAT, a), (.AX_FAULT, a)]) s t) ∧
      (∀ o n, s.fld F.H_CFG_SECT_EN = 1 → code ≠ s.fld F.H_STATE_CODE → s.feed.sector = some o → State.sectorOf code = some n →
        ((o + 1) % 6 = n ∨ (n + 1) % 6 = o) → o ≠ n → Ends (.hallEdge dt h level held) s fun t =>
          t.fld F.H_STATE_RAW = raw ∧ t.fld F.H_STATE_CODE = code ∧ t.feed.sector = some n ∧
            t.rd .H_SECT_ANGLE = s.rd .H_SECT_OFS + BitVec.ofNat 32 (n * 0x2AAAAAAB + 0x15555555) ∧
            (∀ a, a < 4 → t.fld F.AX_STAT_LIMSW a = b2n (s.on F.AX_CFG_LIMSW_EN a && (act.testBit (s.fld F.AX_CFG_LIM_FWD a) ||
            act.testBit (s.fld F.AX_CFG_LIM_REV a)))) ∧ t.tick = s.tick + dt ∧
            Kept [.feed, .logs, .latched] ((.H_STATE, 0) :: (.H_EDGE_TS, h.val) :: (.H_SECT_ANGLE, 0) :: (.SYS_FAULT, 0) :: (upTo 4).flatMap fun a => [(.AX_STAT, a), (.AX_FAULT, a)]) s t) ∧
      (s.fld F.H_CFG_SECT_EN = 1 → code ≠ s.fld F.H_STATE_CODE → State.sectorOf code = none → Ends (.hallEdge dt h level held) s fun t =>
          t.fld F.H_STATE_RAW = raw ∧ t.fld F.H_STATE_CODE = code ∧ t.fld F.H_STATE_SECT_ILLEGAL = 1 ∧ t.feed.sector = none ∧
            t.rd .H_SECT_ANGLE = s.rd .H_SECT_ANGLE ∧ Raised t 0x2008 7 ∧ t.tick = s.tick + dt ∧
            Spared [.feed] [.H_STATE, .H_EDGE_TS] s t)) ∧
    (∀ (n : Fin 8) code x, s.fld F.AI_CFG_EN n = 1 → s.fld F.AI_CFG_FILT n = 0 → x = code.toInt * 65536 → Ends (.aiConversion dt n code) s fun t =>
      (∃ e, 0 ≤ e ∧ e ≤ 1 ∧ t.rd .AI_VALUE n = satW (x * s.sg .AI_GAIN n / (125 * 2 ^ 24) + e + s.sg .AI_OFFSET n)) ∧
        t.ai = upd s.ai n (fun a => { a with value := x, overRange := decide (32640 < code.toInt.natAbs), at_ := t.tick }) ∧
        (32640 < code.toInt.natAbs → t.fld F.AI_CFG_OVERRANGE n = 1) ∧ t.tick = max (s.tick + dt) ((nth s.ai n).at_ + 50 * ticksPerUs) ∧
        Kept [.ai, .free] [(.AI_CFG, n.val), (.AI_VALUE, n.val)] s t) ∧
    (∀ (ch : Fin 16) bits, s.fld F.SD_CFG_EN ch = 0 ∨ bits = [] →
      Ends (.overcurrentFast dt ch bits) s (fun t => t.tick = s.tick + dt ∧ Kept [.pwm] [] s t) ∧
      Ends (.sdStreamFault dt ch bits) s fun t => t.tick = s.tick + dt ∧ Kept [.pwm] [] s t) ∧
    (∀ (ch : Fin 16) b n x, s.fld F.SD_CFG_EN ch = 1 → s.sdClocked ch = true → n = s.sdCount ch (s.sd ch).at_ →
      n < s.sdCount ch (s.tick + dt) →
      x = { s.elapse dt with pwm := { s.pwm with
        sd := upd s.pwm.sd ch fun y => ⟨(b :: y.bits).take 16384, 10 * n + s.sdPlace ch⟩ } } →
      (∀ v high, (x.fastValue ch).1 = some v → s.fld F.SD_CFG_ROLE ch ≠ 0 → s.pwm.fastOut.getLsbD ch = false →
        (if high = true then s.sg .SD_OC_HI ch < v else v < s.sg .SD_OC_LO ch ∧ v ≤ s.sg .SD_OC_HI ch) →
        Ends (.overcurrentFast dt ch [b]) s fun t =>
          t.fld (if high = true then F.SD_STAT_OC_HI else F.SD_STAT_OC_LO) ch = 1 ∧
            Raised t (if s.fld F.SD_CFG_ROLE ch ≤ 3 then 0x1010 else 0x1012) (s.ownerOf (s.fld F.SD_CFG_BRIDGE ch)) ∧
            t.fld F.LAN_STAT_STO_ACTIVE = 1 ∧ t.tick = s.tick + dt ∧ Spared [.free] [.SD_STAT] s t) ∧
      ((b :: (s.sd ch).bits).take 64 = List.replicate 64 b → s.pwm.stuck.getLsbD ch = false → ch.val < s.pwm.sd.length →
        Ends (.sdStreamFault dt ch [b]) s fun t =>
          t.fld F.SD_STAT_STREAM_FAULT ch = 1 ∧ Raised t 0x1011 (s.ownerOf (s.fld F.SD_CFG_BRIDGE ch)) ∧
            t.fld F.LAN_STAT_STO_ACTIVE = 1 ∧ t.tick = s.tick + dt ∧ Spared [.free] [.SD_STAT] s t))

/-- The sample instants of an axis (R168, R169, R172, R193, R194): with its bridges at rest, and no sharing, a sample is measured, undisturbed, awaits its
channels, counts, and releases the tasks of its rate and phase; the value of a channel that a sample waits for arrives after its filter:
the sinc3 of the window centred on the instant, within one rounding of gain and offset; bits that no sample waits for give none. The
model's choices in it: log entries 2, 10, 65, 124. -/
def Obligations.SamplesTaken : Prop :=
  ∀ (s : State) (a : Fin 4), Calm s →
    (∀ t0, (s.axis a).grid = some t0 → s.axSt a = aDISABLED → (∀ b ∈ s.bridgesOf a, s.running b = false) → s.opMode a = 0 →
      (s.emr a).proveFor = none → (s.ob a).aligned = none → (s.axis a).waits = false → s.fld F.AX_SH_CFG_MODE a = 0 → s.awaits a (s.sampleChans a true) = true → Ends (.sampleInstant a) s fun t =>
        t.tick = max s.tick t0 ∧ (∀ x ∈ t.ax[a.val]?, x.samples = ((s.axis a).samples + 1) % 2 ^ 32 ∧ x.lastSample = some t.tick ∧
          x.shot = some ⟨t.tick, 0, 0, false, s.sampleChans a true⟩ ∧ x.grid = ((s.elapseTo t0).nextGrid a t0).map Prod.fst) ∧
        t.fld F.SNS_STAT_N_PRED a = 0 ∧ t.fld F.SNS_STAT_SKIPPED a = 0 ∧ t.fld F.SNS_STAT_SHIFTED a = 0 ∧ t.fld F.SNS_STAT_DEGRADED a = 0 ∧
        t.fld F.SNS_EFF_GUARD_PRE_EFF a = max (s.fld F.SNS_GUARD_PRE a) (s.fld F.CDL_MARGIN_GUARD_PRE a) ∧
        (∀ (e : Fin 10) (k : Fin 4), ∀ g ∈ t.eng[e.val]?, s.fld F.LE_TASK_CFG_EN (4 * e + k) = 1 → s.fld F.LE_TASK_CFG_AXIS (4 * e + k) = a →
          (s.axis a).samples % 2 ^ s.fld F.LE_TASK_CFG_RATE (4 * e + k) = s.fld F.LE_TASK_CFG_PHASE (4 * e + k) →
          ∃ r ∈ g.due, r.slot = k ∧ r.axis = a ∧ r.inst = t.tick ∧ r.index = wd (s.axis a).samples) ∧
        ((∀ c, s.str.cap = some c → State.capAxis c ≠ a.val) → Kept [.ax, .eng, .feed, .free, .obs, .share, .em] ([(.SNS_STAT, a.val), (.SNS_EFF_GUARD, a.val),
          (.AX_SH_STAT, a.val), (.AX_SPEED, a.val), (.AX_THETA, a.val), (.AX_T_LOAD, a.val), (.AX_STAT, a.val)] ++
          (upTo 4).flatMap fun c => [(.EN_SPEED, c), (.EN_STAT, c)]) s t)) ∧
    (∀ (ch : Fin 16) bits, (∀ b h, b < 4 → (s.axis b).shot = some h → ch.val ∉ h.left) → s.fld F.SD_CFG_EN ch = 0 ∨ bits = [] →
      Ends (.sdValueAvailable ch bits) s fun t => t.tick = s.tick ∧ Kept [.pwm] [] s t) ∧
    (∀ (ch : Fin 16) bits h u l sum, (s.axis a).shot = some h → ch.val ∈ h.left →
      (∀ b k, b < 4 → b ≠ a.val → (s.axis b).shot = some k → ch.val ∉ k.left) →
      u = (s.elapseTo (h.inst + (max 0 h.shift).toNat + 15 * s.fld F.SD_CFG_OSR ch + 2)).sdFeed ch bits → Calm u →
      (u.axis a).shot = some h → u.awaits a (h.left.erase ch.val) = true → 16 ≤ s.fld F.SD_CFG_OSR ch →
      u.sdWindow ch ((h.inst : Int) + h.shift).toNat = some l → sum = sinc (s.fld F.SD_CFG_OSR ch) 3 (l.map State.bitWorth) →
      Ends (.sdValueAvailable ch bits) s fun t =>
        (∃ v e, v = sum * s.sg .SD_GAIN ch / (s.fld F.SD_CFG_OSR ch : Int) ^ 3 + s.sg .SD_OFFSET ch + e ∧ 0 ≤ e ∧ e ≤ 1 ∧
          t.rd .SD_VALUE ch = satW (if s.fld F.SD_CFG_INVERT ch = 0 then v else -v)) ∧
        t.tick = max s.tick (h.inst + (max 0 h.shift).toNat + 15 * s.fld F.SD_CFG_OSR ch + 2) ∧
        t.ax = upd u.ax a (fun x => { x with shot := some { h with left := h.left.erase ch.val } }) ∧
        Kept [.ax, .free] [(.SD_VALUE, ch.val)] u t)

/-! ## Gate outputs and power-stage protection (R163 to R166, R285 to R309) -/

/-- The GATE registers in which a status fault is recorded (R297, R299, R300). -/
def gateRecordRegs : List RegId :=
  [.GATE_STAT, .GATE_FLT_CNT, .GATE_FLT_MASK_LO, .GATE_FLT_MASK_HI, .GATE_FLT_TIME_LO, .GATE_FLT_TIME_HI, .GATE_FLT_REC, .GATE_BLANK_CNT]

/-- The status lines (R288 to R291, R297, R299): a level shorter than the filter changes nothing; a change on no judged channel changes
nothing else; in ECHO mode the line that answers its command within the window is timed, one that leaves its command outside any window
is a fault, FR4, recorded with its KIND as the first one at offset 0. A window that ends acknowledged, with the line at its command, is
gone; one that ends unanswered is a fault; a latched level that has gone is a blanked glitch; on an ignored channel, or one assigned to
nothing, a window ends unjudged (R287). The model's choices in it: log entries 1,
2, 15, 62. -/
def Obligations.StatusLinesJudged : Prop :=
  ∀ (s : State) (dt held : Nat) (g : Fin 48), Calm s →
    (∀ levels, (∀ h, h < 48 → levels.getLsbD h ≠ s.gate.gs.getLsbD h → held < s.fld F.GC_CFG_FILT h) →
      Ends (.gsEdge dt levels held) s fun t => t.tick = s.tick + dt ∧ Kept [] [] s t) ∧
    (∀ levels, (∀ h, h < 48 → s.fld F.GC_CFG_FILT h ≤ held) →
        (∀ h, h < 48 → levels.getLsbD h ≠ s.gate.gs.getLsbD h → s.assigned h = false ∨ s.fld F.GC_CFG_MODE h = 0) →
      Ends (.gsEdge dt levels held) s fun t =>
        t.gate = { s.gate with gs := levels } ∧ t.tick = s.tick + dt ∧ Kept [.gate] [] s t) ∧
    (∀ lv levels, lv ≠ s.gate.gs.getLsbD g → levels = s.gate.gs ^^^ 1#48 <<< g.val → s.assigned g = true → s.fld F.GC_CFG_MODE g = 1 →
        s.fld F.GC_CFG_FILT g ≤ held →
      (lv ≠ s.gate.gc.getLsbD g → (∀ w ∈ (nth s.gate.chans g).wins, w.start + s.fld F.GC_CFG_BLANK g ≤ s.tick + dt) →
        Ends (.gsEdge dt levels held) s fun t =>
          t.gate.gs = levels ∧ (∃ b, Raised t 0x1001 b ∧ (b = 7 ∨ ∃ r, r < 8 ∧ b = s.fld F.BR_CFG_AXIS r)) ∧
            t.fld F.GATE_FLT_REC_VALID g = 1 ∧ (s.fld F.GATE_FLT_REC_VALID g = 0 → t.fld F.GATE_FLT_REC_KIND g = (if lv = true then 3 else 2) ∧
              (s.gate.first = none → t.fld F.GATE_FLT_REC_TICK g = 0 ∧ t.fld F.GATE_FLT_REC_EARLY g = 0)) ∧
            t.fld F.GATE_FLT_CNT_COUNT = min (s.fld F.GATE_FLT_CNT_COUNT + 1) 0xFFFFFFFF ∧ t.fld F.LAN_STAT_STO_ACTIVE = 1 ∧
            t.tick = s.tick + dt ∧ Spared [] gateRecordRegs s t) ∧
      (∀ w rt, (nth s.gate.chans g).wins = [w] → s.tick + dt < w.start + s.fld F.GC_CFG_BLANK g → w.acked = false → w.on = lv → lv = true →
        (nth s.gate.chans g).onSeen = false → rt = min (4 * (s.tick + dt - 2 - s.fld F.GC_CFG_FILT g) + 2 - w.edge) 65535 →
        rt ≤ s.fld F.GATE_RT_LIM_LIM → Ends (.gsEdge dt levels held) s fun t =>
          t.fld F.GATE_RT_RT_ON g = rt ∧ t.fld F.GATE_RT_RT_OFF g = s.fld F.GATE_RT_RT_OFF g ∧
            t.fld F.GATE_RT_MAX_ON_MAX g = max (s.fld F.GATE_RT_MAX_ON_MAX g) rt ∧ t.gate.gc = s.gate.gc ∧
            (∀ c ∈ t.gate.chans[g.val]?, c.wins = [{ w with acked := true }] ∧ c.onSeen = true) ∧ t.tick = s.tick + dt ∧
            Kept [.gate] [(.GATE_RT, g.val), (.GATE_RT_MAX, g.val)] s t)) ∧
    (∀ w rest, (nth s.gate.chans g).wins = w :: rest → s.assigned g = false ∨ s.fld F.GC_CFG_MODE g = 0 → Ends (.blankWindowEnd g) s fun t =>
      t.gate = { s.gate with chans := upd s.gate.chans g fun c => { c with wins := rest } } ∧
        t.tick = max s.tick (w.start + s.fld F.GC_CFG_BLANK g) ∧ Kept [.gate] [] s t) ∧
    (∀ w rest, (nth s.gate.chans g).wins = w :: rest → s.assigned g = true → s.fld F.GC_CFG_MODE g = 1 →
      (w.acked = true → w.latch = none → s.gate.gs.getLsbD g = s.gate.gc.getLsbD g → Ends (.blankWindowEnd g) s fun t =>
        t.gate = { s.gate with chans := upd s.gate.chans g fun c => { c with wins := rest } } ∧
          t.tick = max s.tick (w.start + s.fld F.GC_CFG_BLANK g) ∧ Kept [.gate] [] s t) ∧
      (∀ lv ts, w.acked = true → w.latch = some (lv, ts) → s.gate.gs.getLsbD g ≠ lv ∨ lv = s.gate.gc.getLsbD g →
        Ends (.blankWindowEnd g) s fun t =>
          t.gate = { s.gate with chans := upd s.gate.chans g fun c => { c with wins := rest } } ∧ Raised t 0x1003 7 ∧
            t.fld F.GATE_BLANK_CNT_COUNT = min (s.fld F.GATE_BLANK_CNT_COUNT + 1) 0xFFFFFFFF ∧
            t.tick = max s.tick (w.start + s.fld F.GC_CFG_BLANK g) ∧ Kept [.gate, .logs] [(.GATE_BLANK_CNT, 0), (.SYS_FAULT, 0)] s t) ∧
      (w.acked = false → Ends (.blankWindowEnd g) s fun t =>
        (∃ b, Raised t 0x1001 b) ∧ t.fld F.GATE_FLT_REC_VALID g = 1 ∧
          (s.fld F.GATE_FLT_REC_VALID g = 0 → t.fld F.GATE_FLT_REC_KIND g = (if w.on = true then 2 else 3)) ∧
          t.fld F.LAN_STAT_STO_ACTIVE = 1 ∧ t.tick = max s.tick (w.start + s.fld F.GC_CFG_BLANK g) ∧ Spared [] gateRecordRegs s t))

/-- Lantern before a command line (R163, R164, R292, R293): a placed edge of an allowed combination after the dead time drives its line
and no other; a turn-on of a bridge that is not released, or a combination outside the table, is suppressed, FR4; one sooner than the
least dead time is put later, FR1. The inner switches follow the off sequence after t_seq; every edge placed for a bridge dies with its
off sequence. The model's choices in it: log entries 2, 60. -/
def Obligations.CommandEdgesChecked : Prop :=
  ∀ (s : State), Calm s →
    (∀ e rest k combo, s.pwm.edges = e :: rest → k = s.slotOf e.br e.g →
      combo = (s.phaseSlots e.br k).map (fun j => if j = k then e.on else s.gate.gc.getLsbD (s.slot e.br j)) →
      ((e.on = true → s.released e.br = true) → State.comboOk (s.fld F.BR_CFG_TYPE e.br) combo = true →
        (∀ off, (nth s.gate.chans (s.slot e.br (s.complement e.br k))).offAt = some off → e.on = true → off + s.dtMin e.br ≤ e.at_) →
        Ends .commandEdge s fun t =>
          (∀ h, h < 48 → t.gate.gc.getLsbD h = if h = e.g then e.on else s.gate.gc.getLsbD h) ∧ t.gate.gs = s.gate.gs ∧
            t.pwm.edges = rest ∧ t.pwm.bridges = s.pwm.bridges ∧ t.tick = max s.tick (e.at_ / 4) ∧ Kept [.gate, .pwm] [] s t) ∧
      (e.on = true ∧ s.released e.br = false ∨ State.comboOk (s.fld F.BR_CFG_TYPE e.br) combo = false → Ends .commandEdge s fun t =>
        Raised t 0x1004 (s.fld F.BR_CFG_AXIS e.br) ∧ t.fld F.GATE_STAT_PATTERN = 1 ∧ t.fld F.LAN_STAT_STO_ACTIVE = 1 ∧
          t.tick = max s.tick (e.at_ / 4) ∧ Spared [.pwm] [.GATE_STAT] s t) ∧
      (∀ off, e.on = true → s.released e.br = true → State.comboOk (s.fld F.BR_CFG_TYPE e.br) combo = true →
        (nth s.gate.chans (s.slot e.br (s.complement e.br k))).offAt = some off → e.at_ < off + s.dtMin e.br → Ends .commandEdge s fun t =>
          t.gate = s.gate ∧ { e with at_ := off + s.dtMin e.br } ∈ t.pwm.edges ∧ Raised t 0x1005 (s.fld F.BR_CFG_AXIS e.br) ∧
            t.fld F.GATE_STAT_DT_CLIP = 1 ∧ t.tick = max s.tick (e.at_ / 4) ∧ Spared [.pwm] [.GATE_STAT] s t)) ∧
    (∀ t0, (s.gate.offDue.filterMap id).min? = some t0 → Ends .offSeqInner s fun t =>
      t.tick = max s.tick t0 ∧ (∀ b due, b < 8 → s.gate.offDue[b]? = some (some due) → due ≤ t.tick →
        t.fbit F.GATE_STAT_OFFSEQ b = false ∧ t.gate.offDue[b]? = some none ∧ (∀ g ∈ s.chansOf b, t.gate.gc.getLsbD g = false)) ∧
      (∀ g, t.gate.gc.getLsbD g = true → s.gate.gc.getLsbD g = true) ∧ Kept [.gate] [(.GATE_STAT, 0)] s t)

/-- The bits of a CHOPPER_EVAL bring chopper k one evaluation (R301), at the event's tick: the bit of its DC link is sampled there, the others
with it, or it has no DC link. -/
def PacedOnce (s : State) (dt : Nat) (k : Fin 8) (bits : List (List Bool)) : Prop :=
  (dt = 0 ∧ ∀ c, (nth bits c).length ≤ s.sdTaken c) ∧
      (∀ c, s.chopPace k = some c → ((s.sdFeedAll bits).sd c).at_ = s.tick) ∨
    (∀ c, nth bits c ≠ [] → (nth bits c).length = 1 ∧ s.sdClocked c = true ∧ s.sdTaken c = 0 ∧ s.sdNext c = s.tick + dt ∧
        (s.elapse dt).sdTaken c = 1) ∧
      ∀ c, s.chopPace k = some c → (s.sd c).at_ ≠ s.tick ∧ nth bits c ≠ [] ∧ (((s.elapse dt).sdFeedAll bits).sd c).at_ = s.tick + dt

/-- A chopper's switch follows the fast value of the link voltage, after the bit that arrives with it (R301, R302): on at CHOP_ON or above
after MIN_OFF, off at CHOP_OFF or below after MIN_ON or without its release. The supplies and limits of the drivers: the GC rail low is
FR4 with RAIL_LOW, its return ends the cause and releases a PGOOD that waited for it (R70, R286); an overcurrent of the auxiliary bridge
puts it high impedance, its engines stopped and in mid-move uncertain, FR2 (R306, R309, R316); the first bootstrap undervoltage takes its half-bridge alone, FR1, a second within 1 s is FR2 (R306,
R308); a neutral-point deviation past TRIP for 1 ms is FR3 (R166). The model's choices in it: log entries 1, 2, 63, 66. -/
def Obligations.ChoppersAndDriverSupplies : Prop :=
  (∀ (s u : State) (dt : Nat) (k : Fin 8) (bits : List (List Bool)), u = (s.elapse dt).sdFeedAll bits → Calm u →
    PacedOnce s dt k bits → u.fld F.CHOP_CFG_ASSIGNED k = 1 → (∀ j : Fin 8, j ≠ k → u.fld F.CHOP_CFG_ASSIGNED j = 0) → u.fld F.CHOP_DUTY_MAX k = 100 →
    u.fld F.CHOP_CFG_CH k < 48 →
    ((nth u.gate.chops k).on = false → u.chopReleased = true → u.sg .CHOP_OFF k < u.sg .CHOP_ON k →
      (∀ f, ∃ v, (({ u with free := f } : State).fastLink (u.fld F.CHOP_CFG_BRIDGE k)).1 = some v ∧ u.inForce .CHOP_ON k ≤ v) →
      u.fld F.CHOP_TIM_MIN_OFF k ≤ u.tick - (nth u.gate.chops k).since → Ends (.chopperEval dt bits) s fun t =>
        (∀ c ∈ t.gate.chops[k.val]?, c.on = true ∧ c.since = t.tick) ∧ t.fbit F.CHOP_STAT_ON k = true ∧
          t.gate.gc.getLsbD (u.fld F.CHOP_CFG_CH k) = true ∧ t.tick = s.tick + dt ∧
          Kept [.gate, .free] [(.CHOP_STAT, 0), (.CHOP_DUTY, k.val)] u t) ∧
    ((nth u.gate.chops k).on = true → u.chopReleased = false ∨
        (∀ f, ∃ v, (({ u with free := f } : State).fastLink (u.fld F.CHOP_CFG_BRIDGE k)).1 = some v ∧ v ≤ u.sg .CHOP_OFF k) ∧
          u.fld F.CHOP_TIM_MIN_ON k ≤ u.tick - (nth u.gate.chops k).since → Ends (.chopperEval dt bits) s fun t =>
        (∀ c ∈ t.gate.chops[k.val]?, c.on = false ∧ c.since = t.tick) ∧ t.fbit F.CHOP_STAT_ON k = false ∧
          t.gate.gc.getLsbD (u.fld F.CHOP_CFG_CH k) = false ∧ t.tick = s.tick + dt ∧
          Kept [.gate, .free] [(.CHOP_STAT, 0), (.CHOP_DUTY, k.val)] u t)) ∧
  (∀ (s : State) (dt : Nat), Calm s →
    (Ends (.gateRailLow dt) s fun t =>
      t.gate.railLow = true ∧ t.fld F.GATE_STAT_RAIL_LOW = 1 ∧ Raised t 0x1006 7 ∧ t.fld F.LAN_STAT_STO_ACTIVE = 1 ∧ t.tick = s.tick + dt ∧
        t.sys.rstAt = s.sys.rstAt.filter (fun t0 => decide (t0 ≤ t.tick)) ∧ Spared [.sys] [.GATE_STAT] s t) ∧
    (Ends (.gateRailRestored dt) s fun t =>
      t.gate = { s.gate with railLow := false } ∧ t.tick = s.tick + dt ∧
        t.sys.rstAt = (if s.gate.railLow = true ∧ s.sys.rstAt = none then
          some (max (s.sys.supplyAt + 10 * ticksPerMs) (t.tick + 5 * ticksPerMs)) else s.sys.rstAt) ∧ Kept [.gate, .sys] [] s t) ∧
    (∀ mv held, held < 20 ∨ (∀ n, n < 4 → (nth mv n).natAbs ≤ s.fld F.GATE_AUX_OC_LIM) → Ends (.auxOvercurrent dt mv held) s fun t =>
      t.tick = s.tick + dt ∧ Kept [] [] s t) ∧
    (∀ mv held n, n < 4 → s.fld F.GATE_AUX_OC_LIM < (nth mv n).natAbs → 20 ≤ held → Ends (.auxOvercurrent dt mv held) s fun t =>
      (∀ k, k < 4 → t.fbit F.GATE_AUX_STAT_OC k = (s.fbit F.GATE_AUX_STAT_OC k || decide (s.fld F.GATE_AUX_OC_LIM < (nth mv k).natAbs))) ∧ t.fld F.GATE_AUX_STAT_HIZ = 15 ∧
        (∀ n : Fin 2, s.fld F.ME_CFG_OUT n = 1 → t.fld F.ME_STAT_AT_REST n = 1 ∧
          (s.meArrived n = false → (s.elapse dt).meMid n = true → t.fld F.ME_STAT_UNCERTAIN n = 1)) ∧
        (∃ a, Raised t 0x1063 a) ∧ t.tick = s.tick + dt ∧ Spared [] [] s t) ∧
    (∀ x : Fin 4, (∀ u, s.gate.auxUv = some u → u + ticksPerS < s.tick + dt) → Ends (.auxUvlo dt x) s fun t =>
      (∀ h ∈ t.gate.halves[x.val]?, h.ho = false ∧ h.lo = false ∧ h.uvHold = true ∧ h.uvAt = some t.tick) ∧ t.gate.auxUv = some t.tick ∧
        t.fbit F.GATE_AUX_STAT_UVLO x = true ∧ t.fbit F.GATE_AUX_STAT_UV_EVT x = true ∧ t.fbit F.GATE_AUX_STAT_REFRESH x = true ∧
        t.fld F.GATE_AUX_UV_CNT_COUNT = min (s.fld F.GATE_AUX_UV_CNT_COUNT + 1) 0xFFFFFFFF ∧ Raised t 0x1061 7 ∧ t.tick = s.tick + dt ∧
        Kept [.gate, .logs, .latched] [(.GATE_AUX_STAT, 0), (.GATE_AUX_UV_CNT, 0), (.SYS_FAULT, 0)] s t) ∧
    (∀ (x : Fin 4) u, s.gate.auxUv = some u → s.tick + dt ≤ u + ticksPerS → Ends (.auxUvlo dt x) s fun t =>
      t.fld F.GATE_AUX_STAT_HIZ = 15 ∧ (∃ a, Raised t 0x1062 a) ∧ Raised t 0x1061 7 ∧
        (∀ n : Fin 2, s.fld F.ME_CFG_OUT n = 1 → s.meArrived n = false → (s.elapse dt).meMid n = true →
          t.fld F.ME_STAT_UNCERTAIN n = 1) ∧ t.tick = s.tick + dt ∧
        Spared [] [.GATE_AUX_UV_CNT] s t) ∧
    (∀ (b : Fin 8) t0, (s.bridge b).npSince = some t0 → Ends (.npImbalance b dt) s fun t =>
      Raised t 0x1021 (s.fld F.BR_CFG_AXIS b) ∧ t.tick = max (s.tick + dt) (t0 + ticksPerMs) ∧ Spared [] [] s t))

/-! ## Meridian time (R332 to R337) -/

/-- What a measurement of an offset leaves: the offset shown, the state by the thresholds, a step after three offsets beyond STEP_THR
outside FREE, else a steering within 100 ppm (R334, R335). -/
def Measured (s t : State) (dt : Nat) (off : Int) : Prop :=
  t.mer.last = t.tick ∧ t.tick = s.tick + dt ∧ (-2 ^ 31 ≤ off → off < 2 ^ 31 → t.rd .MER_OFFSET = BitVec.ofInt 32 off) ∧
    (s.mst = mFREE ∨ s.mst = mHOLDOVER → t.mst = mACQUIRING) ∧
    (s.mst = mACQUIRING → t.mst = if off.natAbs < s.fld F.MER_LIM_LOCK_THR ∧ 15 ≤ s.mer.good then mLOCKED else mACQUIRING) ∧
    (s.mst = mLOCKED → t.mst = if 1000 < off.natAbs ∧ 2 ≤ s.mer.bad then mACQUIRING else mLOCKED) ∧
    (if s.mst ≠ mFREE ∧ 1000 * s.fld F.MER_LIM_STEP_THR < off.natAbs ∧ 2 ≤ s.mer.far then
      t.merTime = steppedTo s ((s.elapse dt).merTime - BitVec.ofInt 64 off) ∧ t.fld F.MER_STAT_STEP = 1 ∧ Raised t 0x7060 7
     else t.merTime = (s.elapse dt).merTime) ∧
    (s.mst ≠ mFREE → off.natAbs ≤ 1000 * s.fld F.MER_LIM_STEP_THR → (t.sg .MER_FREQ).natAbs ≤ 6553600) ∧
    Kept [.mer, .lamp, .free, .logs, .latched] [(.MER_STAT, 0), (.MER_OFFSET, 0), (.MER_FREQ, 0), (.SYS_FAULT, 0), (.LAMP_STAT, 0),
      (.LAMP_HEAD, 0), (.LAMP_NEXT_LO, 0), (.LAMP_NEXT_HI, 0)] s t

/-- The corrected timestamp of an edge or a message now, an error of up to 5 ns in it (R23). -/
def Stamp (s : State) (dt : Nat) (x : Time) : Prop := ∃ e : Int, -5 ≤ e ∧ e ≤ 5 ∧ x = (s.elapse dt).merTime + BitVec.ofInt 64 e

/-- A correctionField in whole nanoseconds, to either side. -/
def CorrNs (h : PtpHead) (c : Int) : Prop := c = h.corr / 65536 ∨ c = h.corr / 65536 + 1 ∧ h.corr % 65536 ≠ 0

/-- Half of a round trip is the mean path delay, to either side of a half. -/
def Halved (t : State) (twice : Int) : Prop := t.rd .MER_MPD = satW (twice / 2) ∨ t.rd .MER_MPD = satW (twice / 2 + 1) ∧ twice % 2 ≠ 0

/-- The messages of the time transmitter in use: a one-step Sync, and a two-step one with its Follow_Up, are a measurement of local time
minus origin, correction, path delay and asymmetry; a Delay_Resp gives the path delay (R333, R335). Delay requests and peer delays
(R333): the request leaves with its number and send time kept; a peer's request is answered by a response and its follow-up; a peer's
response gives the peer delay, a two-step one with its follow-up. The model's choices in it: log entries 1, 15, 85, 86. -/
def Obligations.TimeMessagesMeasured : Prop :=
  (∀ (s : State) (dt : Nat) (h : PtpHead), Calm s → s.fromMaster h = true → h.moved = ⟨0, 0⟩ →
    (∀ interval origin, Ends (.ptpSync dt h false interval origin) s fun t => ∃ rx c, Stamp s dt rx ∧ CorrNs h c ∧
      Measured s t dt (rx.toNat - origin.toNat - c - s.sg .MER_MPD - s.sg .MER_ASYM) ∧ t.mer.ptp.interval = interval * 1562500 ∧
        t.mer.ptp.diff = some (rx.toNat - origin.toNat - c)) ∧
    (∀ interval origin, Ends (.ptpSync dt h true interval origin) s fun t => ∃ rx c, Stamp s dt rx ∧ CorrNs h c ∧
      t.mer = { s.mer with ptp := { s.mer.ptp with interval := interval * 1562500, sync := some (h.seq.toNat, rx.toNat, c) } } ∧
        t.tick = s.tick + dt ∧ Kept [.mer, .free] [] s t) ∧
    (∀ origin rx c, s.mer.ptp.sync = some (h.seq.toNat, rx, c) → Ends (.ptpFollowUp dt h origin) s fun t => ∃ d, CorrNs h d ∧
      Measured s t dt (rx - origin.toNat - (c + d) - s.sg .MER_MPD - s.sg .MER_ASYM) ∧ t.mer.ptp.sync = none) ∧
    (∀ rxAt t3 d, s.fld F.MER_CFG_P2P = 0 → s.mer.ptp.delay = some (h.port.val, h.seq.toNat, t3) → s.mer.ptp.diff = some d →
      Ends (.ptpDelayResp dt h rxAt) s fun t => ∃ c, CorrNs h c ∧ Halved t (d + (rxAt.toNat - t3) - c) ∧
        t.mer = { s.mer with ptp := { s.mer.ptp with delay := none } } ∧ t.tick = s.tick + dt ∧ Kept [.mer, .free] [(.MER_MPD, 0)] s t)) ∧
  (∀ (s : State) (dt : Nat), Calm s → s.sys.merClk.lost = false → s.linked = true →
    (∀ port : Fin 2, s.usesPtp = true → s.fld F.MER_CFG_PTP_PORT = 0 ∨ s.fld F.MER_CFG_PTP_PORT = port.val + 1 → Ends (.ptpDelayReq dt port ⟨0, 0⟩) s fun t =>
      t.outs = .ptp (if s.fld F.MER_CFG_P2P = 0 then 1 else 2) [wd port.val, wd s.mer.ptp.seq] :: s.outs ∧
        (∃ x, Stamp s dt x ∧ t.mer = { s.mer with ptp := { s.mer.ptp with
          delay := some (port.val, s.mer.ptp.seq, x.toNat), pdelay := none, seq := (s.mer.ptp.seq + 1) % 65536 } }) ∧
        t.tick = s.tick + dt ∧ Kept [.mer, .outs, .free] [] s t) ∧
    (∀ h, h.moved = ⟨0, 0⟩ → s.fld F.MER_CFG_P2P = 1 → s.on F.MER_CFG_TRANSPORT = h.udp → s.fld F.MER_CFG_PTP_DOMAIN = h.domain.toNat →
      Ends (.ptpPdelayReq dt h ⟨0, 0⟩) s fun t =>
        (∃ x w, Stamp s dt x ∧ t.outs = .ptp 4 [wd h.port.val, wd h.seq.toNat, lo32 (x + w), hi32 (x + w)] ::
          .ptp 3 [wd h.port.val, wd h.seq.toNat, lo32 x, hi32 x] :: s.outs) ∧ t.tick = s.tick + dt ∧ Kept [.outs, .free] [] s t) ∧
    (∀ h t1, h.moved = ⟨0, 0⟩ → s.usesPtp = true → s.ptpFor h = true → s.fld F.MER_CFG_P2P = 1 → s.mer.ptp.delay = some (h.port.val, h.seq.toNat, t1) →
      (∀ rxAt, Ends (.ptpPdelayResp dt h false rxAt) s fun t => ∃ t4 c, Stamp s dt t4 ∧ CorrNs h c ∧ Halved t (t4.toNat - t1 - c) ∧
        t.mer = { s.mer with ptp := { s.mer.ptp with delay := none } } ∧ t.tick = s.tick + dt ∧ Kept [.mer, .free] [(.MER_MPD, 0)] s t) ∧
      (∀ rxAt, Ends (.ptpPdelayResp dt h true rxAt) s fun t => ∃ t4 c, Stamp s dt t4 ∧ CorrNs h c ∧
        t.mer = { s.mer with ptp := { s.mer.ptp with pdelay := some (h.seq.toNat, t4.toNat, rxAt.toNat, c) } } ∧ t.tick = s.tick + dt ∧
        Kept [.mer, .free] [] s t) ∧
      (∀ txAt t4 t2 c, s.mer.ptp.pdelay = some (h.seq.toNat, t4, t2, c) → Ends (.ptpPdelayRespFollowUp dt h txAt) s fun t => ∃ d, CorrNs h d ∧
        Halved t ((t4 - t1) - (txAt.toNat - t2) - c - d) ∧
        t.mer = { s.mer with ptp := { s.mer.ptp with delay := none, pdelay := none } } ∧ t.tick = s.tick + dt ∧
        Kept [.mer, .free] [(.MER_MPD, 0)] s t)))

/-- The selection of the time transmitter, PPS and the states of Meridian (R333, R334, R336, R337): an Announce of the one in use, or a
better one, is taken, with its identity and UTC offset shown; the first PPS_IN edge after a set applies it, any other within 100 ms of a
second is a measurement and one farther off is counted; silence leads LOCKED and ACQUIRING to HOLDOVER, HOLD_MAX in HOLDOVER to FREE,
each FR1; PPS_OUT rises at the next whole second. The model's choices in it: log entries 1, 2, 15, 84, 86, 87. -/
def Obligations.MeridianKeepsTime : Prop :=
  ∀ (s : State), Calm s →
    (∀ dt h rank interval utc utcValid fresh, s.usesPtp = true → s.ptpFor h = true → h.moved = ⟨0, 0⟩ →
      fresh = Transmitter.mk h.id h.port.val (rank ++ [h.port.val]) (s.tick + dt) (interval * 1562500) →
      (∀ b, s.mer.best = some b → (b.id = h.id ∧ b.port = h.port.val) ∨ lexLess fresh.rank b.rank = true ∨ b.heard + 3 * b.interval ≤ s.tick + dt) →
      Ends (.ptpAnnounce dt h rank interval true utc utcValid) s fun t =>
        t.mer = { s.mer with best := some fresh } ∧ t.rd .MER_GM_ID_LO = lo32 h.id ∧ t.rd .MER_GM_ID_HI = hi32 h.id ∧
          t.fld F.MER_UTC_OFS_OFFSET = utc.toNat ∧ t.fld F.MER_UTC_OFS_VALID = b2n utcValid ∧ t.tick = s.tick + dt ∧
          Kept [.mer] [(.MER_GM_ID_LO, 0), (.MER_GM_ID_HI, 0), (.MER_UTC_OFS, 0)] s t) ∧
    (∀ dt, s.sys.merClk.lost = false → s.fld F.MER_CFG_SRC = 2 →
      (∀ x t0, s.mer.set = some (x, t0) → Ends (.ppsInEdge dt) s fun t =>
        t.merTime = steppedTo s x ∧ t.mer.set = none ∧ t.fld F.MER_STAT_SET_PEND = 0 ∧ t.fld F.MER_STAT_STEP = 1 ∧ Raised t 0x7060 7 ∧
          t.tick = s.tick + dt ∧ Kept [.mer, .lamp, .logs, .latched] [(.MER_STAT, 0), (.SYS_FAULT, 0), (.LAMP_STAT, 0), (.LAMP_HEAD, 0),
            (.LAMP_NEXT_LO, 0), (.LAMP_NEXT_HI, 0)] s t) ∧
      (s.mer.set = none → Ends (.ppsInEdge dt) s fun t => ∃ (x : Time) (off : Int), Stamp s dt x ∧
        (off = (x.toNat % nsPerS : Nat) ∧ 2 * (x.toNat % nsPerS) ≤ nsPerS ∨
          off = ((x.toNat % nsPerS : Nat) : Int) - nsPerS ∧ nsPerS ≤ 2 * (x.toNat % nsPerS)) ∧
        (if 100000000 < off.natAbs then t.fld F.MER_PPS_BAD_COUNT = min (s.fld F.MER_PPS_BAD_COUNT + 1) 0xFFFFFFFF ∧ t.tick = s.tick + dt ∧
          t.merTime = (s.elapse dt).merTime ∧ Kept [.free] [(.MER_PPS_BAD, 0)] s t
         else Measured s t dt off ∧ t.mer.byPps = true))) ∧
    (s.mst = mLOCKED ∨ s.mst = mACQUIRING → Ends .meridianUnlocked s fun t =>
      t.mst = mHOLDOVER ∧ t.tick = max s.tick (s.mer.last + s.merSilence) ∧ t.mer.held = t.tick ∧ (s.mst = mLOCKED → Raised t 0x7061 7) ∧
        (s.mer.freqs ≠ [] → ∃ m : Int, t.rd .MER_FREQ = wi m ∧ (m * s.mer.freqs.length - s.mer.freqs.foldl (· + ·) 0).natAbs < s.mer.freqs.length) ∧
        Kept [.mer, .free, .logs, .latched] [(.MER_STAT, 0), (.MER_FREQ, 0), (.SYS_FAULT, 0)] s t) ∧
    (s.mst = mHOLDOVER → Ends .meridianHoldoverExpired s fun t =>
      t.mst = mFREE ∧ t.tick = max s.tick (s.mer.held + s.fld F.MER_LIM_HOLD_MAX * ticksPerS) ∧ Raised t 0x7062 7 ∧
        (∀ c : Fin 2, s.fld F.CAN_TT_CFG_REF c ≠ 1 → t.fld F.CAN_TT_STAT_SYNC c = 0) ∧
        Kept [.mer, .can, .logs, .latched] [(.MER_STAT, 0), (.CAN_TT_STAT, 0), (.CAN_TT_STAT, 1), (.SYS_FAULT, 0)] s t) ∧
    (∀ sec, s.sys.merClk.lost = false → s.fld F.MER_CFG_PPS_OUT_EN = 1 → s.mst = mLOCKED ∨ s.mst = mHOLDOVER →
      sec = (s.merTime.toNat + nsPerS - 1) / nsPerS → sec ≠ s.mer.ppsSec → Ends .ppsOutPulse s fun t =>
        (∃ e : Int, -2 ≤ e ∧ e ≤ 2 ∧ t.tick = s.tick + ((((sec * nsPerS - s.merTime.toNat + 4) / 5 : Nat) : Int) + e).toNat) ∧
          t.ppsOut = true ∧ t.mer = { s.mer with ppsSec := sec, ppsOff := t.tick + ticksPerS / 10 } ∧ Kept [.mer, .free] [] s t)

/-! ## CAN controllers: the bus and the schedule (R361 to R377) -/

/-- R364: the number of data bytes that a DLC gives in both formats, and LASTW of that number. -/
def Obligations.DlcGivesLength : Prop :=
  (∀ (fd : Bool) (d : Fin 16), State.dlcBytes fd d = if d.val ≤ 8 then d.val else if fd = false then 8 else
    nth [12, 16, 20, 24, 32, 48, 64] (d.val - 9)) ∧
  (∀ n, State.lastW n = if n = 0 then 3 else 3 + (n + 3) / 4)

/-- A frame from the bus on a controller without an attempt (R366, R372): with no matching receive buffer nothing is stored; the first
matching buffer that is not locked and is empty or has OVERWRITE takes its identifier, format, length, data and start of frame; with
every matching buffer closed it is lost, counted and flagged. The receive error counter counts down. Attempts (R369 to R371): the pending
buffer of the lowest identifier, then of the lowest index, begins; one that loses arbitration stays pending, or is CANCELLED where a
cancel has landed; a frame sent without error is TX_DONE, with CANCEL_LATE where a cancel came too late, its start of frame in the time
stamp, and the transmit error counter counts down. The model's choices in it: log entries 1, 15, 92, 93. -/
def Obligations.CanFramesReceivedAndSent : Prop :=
  (∀ (s : State) (n : Fin 2) (dt sof : Nat) (id : BitVec 29) (ide rtr fdf brs esi : Bool) (dlc : Fin 16) (data : List Byte)
    (fate : Fate) (f : State.BusFrame),
    Calm s → f = ⟨id.toNat, ide, rtr, fdf, brs, esi, dlc, data⟩ → s.canOn n = true → s.fld F.CAN_CTRL_MODE n ≠ 2 →
    (s.canR n).attempt = none → (s.canR n).recOver = false → s.isReference n f = false → s.isRequest n f = false →
    ((∀ k, k < 64 → s.mbMatch n k f = false) → Ends (.canFrameRx n dt sof id ide rtr fdf brs esi dlc data fate) s fun t =>
      (s.fld F.CAN_CTRL_MODE n = 0 → t.fld F.CAN_ERRCNT_REC n = s.fld F.CAN_ERRCNT_REC n - 1) ∧ t.tick = s.tick + dt ∧
        Kept [.can, .free, .logs, .latched] [(.CAN_ERRCNT, n.val), (.CAN_STAT, n.val), (.SYS_FAULT, 0)] s t) ∧
    (∀ (k : Fin 64) len ws, s.canCmd n = false ∨ k.val < 62 → s.mbMatch n k f = true → s.mbLocked n k = false → s.mb0 n k 2 2 = 0 ∨ s.mb0 n k 5 5 = 1 →
      (∀ j, j < k.val → s.mbMatch n j f = true → s.mbLocked n j = true ∨ s.mb0 n j 2 2 = 1 ∧ s.mb0 n j 5 5 = 0) →
      len = (if rtr = true then 0 else State.dlcBytes fdf dlc) → ws = wordsOf 16 (data.take len) →
      Ends (.canFrameRx n dt sof id ide rtr fdf brs esi dlc data fate) s fun t =>
        t.mb0 n k 2 2 = 1 ∧ t.mb0 n k 15 12 = dlc.val ∧ t.mb0 n k 28 24 = State.lastW len ∧ t.mb n k 1 = wd id.toNat ∧
          t.mb0 n k 16 16 = b2n ide ∧ t.mb0 n k 17 17 = b2n rtr ∧ t.mb0 n k 18 18 = b2n fdf ∧
          (∃ e : Int, -5 ≤ e ∧ e ≤ 5 ∧ ∃ x : Time, x = (s.elapse dt).meridian + BitVec.ofInt 64 (e - 5 * sof) ∧
            t.mb n k 2 = lo32 x ∧ t.mb n k 3 = hi32 x) ∧
          (∀ j, j < ws.length → t.mb n k (4 + j) = nth ws j) ∧ t.tick = s.tick + dt ∧
          Kept [.can, .free, .logs, .latched] ([(.CAN_ERRCNT, n.val), (.CAN_STAT, n.val), (.SYS_FAULT, 0)] ++
            (upTo 24).map fun w => (.CAN_MB, State.mbIx n k w)) s t) ∧
    (∀ (k : Fin 64), s.canCmd n = false ∨ k.val < 62 → s.mbMatch n k f = true → (∀ j, j < k.val → s.mbMatch n j f = false) →
      (∀ j, j < 64 → s.mbMatch n j f = true → s.mbLocked n j = true ∨ s.mb0 n j 2 2 = 1 ∧ s.mb0 n j 5 5 = 0) →
      Ends (.canFrameRx n dt sof id ide rtr fdf brs esi dlc data fate) s fun t =>
        t.fld F.CAN_RX_LOST_COUNT n = min (s.fld F.CAN_RX_LOST_COUNT n + 1) 0xFFFFFFFF ∧ Raised t 0x4023 7 ∧
          (s.mbLocked n k = false → t.mb0 n k 4 4 = 1) ∧ (s.mbLocked n k = true → ∀ r ∈ t.can[n.val]?, k.val ∈ r.lostWait) ∧
          t.mb0 n k 2 2 = s.mb0 n k 2 2 ∧ t.tick = s.tick + dt ∧
          Kept [.can, .free, .logs, .latched] [(.CAN_ERRCNT, n.val), (.CAN_STAT, n.val), (.SYS_FAULT, 0), (.CAN_RX_LOST, n.val),
            (.CAN_MB, State.mbIx n k 0)] s t)) ∧
  (∀ (s : State) (n : Fin 2) (dt : Nat), Calm s →
    (∀ k : Fin 64, s.canOn n = true → (s.canR n).attempt = none → s.fld F.CAN_CTRL_MODE n ≠ 1 → s.fld F.CAN_CTRL_TT_EN n = 0 →
      s.canCmd n = false → s.mbPending n k = true →
      (∀ j, j < 64 → s.mbPending n j = true →
        State.idKey (s.offerId n k).1 (s.offerId n k).2 < State.idKey (s.offerId n j).1 (s.offerId n j).2 ∨
        State.idKey (s.offerId n k).1 (s.offerId n k).2 = State.idKey (s.offerId n j).1 (s.offerId n j).2 ∧ k.val ≤ j) →
      Ends (.canStartOfFrame n dt) s fun t =>
        (∃ e : Int, -5 ≤ e ∧ e ≤ 5 ∧ ∀ r ∈ t.can[n.val]?, r.attempt = some ⟨k, (s.elapse dt).meridian + BitVec.ofInt 64 e, false⟩) ∧
          t.tick = s.tick + dt ∧ Kept [.can, .free] [] s t) ∧
    (∀ x, (s.canR n).attempt = some x → x.mb < 64 →
      (x.cancel = false → Ends (.canArbitrationLost n dt) s fun t =>
        t.can = upd s.can n (fun r => { r with attempt := none }) ∧ t.tick = s.tick + dt ∧ Kept [.can] [] s t) ∧
      (x.cancel = true → Ends (.canArbitrationLost n dt) s fun t =>
        t.can = upd s.can n (fun r => { r with attempt := none }) ∧ t.mbPending n x.mb = false ∧ t.mb0 n x.mb 9 8 = 2 ∧ t.tick = s.tick + dt ∧
          Kept [.can] [(.CAN_MB, State.mbIx n x.mb 0), (if x.mb < 32 then .CAN_TXREQ_LO else .CAN_TXREQ_HI, n.val)] s t) ∧
      (∀ tdcv, s.canCmd n = false ∨ x.mb ≠ 63 → s.fld F.CAN_CTRL_SELF_RX n = 0 → s.fld F.CAN_CTRL_MODE n ≠ 2 →
        Ends (.canTxComplete n dt tdcv) s fun t =>
          t.outs = .canFrame n (s.mbFrame n x.mb).id (s.mbFrame n x.mb).ide (s.mbFrame n x.mb).data :: s.outs ∧
            t.mbPending n x.mb = false ∧ t.mb0 n x.mb 9 8 = 1 ∧ (x.cancel = true → t.mb0 n x.mb 10 10 = 1) ∧
            t.mb n x.mb 2 = lo32 x.start ∧ t.mb n x.mb 3 = hi32 x.start ∧ t.fld F.CAN_ERRCNT_TEC n = s.fld F.CAN_ERRCNT_TEC n - 1 ∧
            (∀ r ∈ t.can[n.val]?, r.attempt = none) ∧ t.tick = s.tick + dt ∧
            Kept [.can, .outs, .logs, .latched] [(.CAN_MB, State.mbIx n x.mb 0), (.CAN_MB, State.mbIx n x.mb 2), (.CAN_MB, State.mbIx n x.mb 3),
              (if x.mb < 32 then .CAN_TXREQ_LO else .CAN_TXREQ_HI, n.val), (.CAN_ERRCNT, n.val), (.CAN_STAT, n.val), (.CAN_TDC, n.val),
              (.SYS_FAULT, 0)] s t)))

/-- Errors (R372, R373): an error frame shows LEC; it counts 8 up for a transmitter, whose request stays pending, and 1 or 8 for a
receiver; above 127 the controller is error-passive, FR1 where it becomes so, above 255 bus-off, FR1. A transmit line dominant too long
is bus-off, and AUTO_REC brings a controller back with its requests kept. The model's choices in it: log entries 1, 92. -/
def Obligations.ErrorsConfine : Prop :=
  ∀ (s : State) (n : Fin 2) (dt : Nat), Calm s →
    (∀ (lec : Fin 7) tdcv, s.canOn n = true → (s.canR n).initAsk = false → (s.canR n).recOver = false →
      (∀ dom exempt rec_, (s.canR n).attempt = none → s.fld F.CAN_CTRL_MODE n ≠ 1 → s.fld F.CAN_ERRCNT_TEC n ≤ 255 →
        rec_ = s.fld F.CAN_ERRCNT_REC n + (if dom = true then 8 else 1) → Ends (.canErrorFrame n dt lec dom exempt tdcv) s fun t =>
          t.fld F.CAN_STAT_LEC n = lec.val ∧ t.fld F.CAN_ERRCNT_REC n = min rec_ 127 ∧ t.fld F.CAN_ERRCNT_TEC n = s.fld F.CAN_ERRCNT_TEC n ∧
            t.fld F.CAN_STAT_STATE n = (if 127 < s.fld F.CAN_ERRCNT_TEC n ∨ 127 < rec_ then 1 else 0) ∧
            (127 < rec_ → s.fld F.CAN_STAT_STATE n = 0 → t.fld F.CAN_STAT_PASSIVE_EVT n = 1 ∧ Raised t 0x4020 7) ∧ t.tick = s.tick + dt ∧
            Kept [.can, .logs, .latched] [(.CAN_STAT, n.val), (.CAN_ERRCNT, n.val), (.SYS_FAULT, 0)] s t) ∧
      (∀ dom x, (s.canR n).attempt = some x → x.mb < 64 → x.cancel = false → Ends (.canErrorFrame n dt lec dom false tdcv) s fun t =>
          t.fld F.CAN_STAT_LEC n = lec.val ∧ t.fld F.CAN_ERRCNT_TEC n = min (s.fld F.CAN_ERRCNT_TEC n + 8) 511 ∧
            (∀ r ∈ t.can[n.val]?, r.attempt = none) ∧
            (247 < s.fld F.CAN_ERRCNT_TEC n → t.fld F.CAN_STAT_STATE n = 2 ∧ t.fld F.CAN_STAT_BUS_OFF_EVT n = 1 ∧ Raised t 0x4021 7) ∧
            (119 < s.fld F.CAN_ERRCNT_TEC n → s.fld F.CAN_ERRCNT_TEC n ≤ 247 → t.fld F.CAN_STAT_STATE n = 1 ∧
              (s.fld F.CAN_STAT_STATE n = 0 → t.fld F.CAN_STAT_PASSIVE_EVT n = 1 ∧ Raised t 0x4020 7)) ∧ t.tick = s.tick + dt ∧
            Kept [.can, .logs, .latched] [(.CAN_STAT, n.val), (.CAN_ERRCNT, n.val), (.CAN_TDC, n.val), (.SYS_FAULT, 0)] s t)) ∧
    (s.canOn n = true → (∀ x, (s.canR n).attempt = some x → x.cancel = false) → Ends (.canTxdDominant n dt) s fun t =>
      t.fld F.CAN_STAT_TXD_DOM n = 1 ∧ t.fld F.CAN_STAT_STATE n = (if (s.canR n).initAsk = true then 3 else 2) ∧ t.fld F.CAN_STAT_BUS_OFF_EVT n = 1 ∧
        Raised t 0x4022 7 ∧ Raised t 0x4021 7 ∧ (∀ r ∈ t.can[n.val]?, r.attempt = none) ∧ t.tick = s.tick + dt ∧
        Kept [.can, .logs, .latched] [(.CAN_STAT, n.val), (.SYS_FAULT, 0)] s t) ∧
    (s.fld F.CAN_STAT_STATE n = 2 →
      (s.fld F.CAN_CTRL_AUTO_REC n = 1 → Ends (.canBusoffRecovery n dt) s fun t =>
        t.fld F.CAN_STAT_STATE n = 0 ∧ t.rd .CAN_ERRCNT n = 0 ∧ t.tick = s.tick + dt ∧
          Kept [.can] [(.CAN_STAT, n.val), (.CAN_ERRCNT, n.val), (.CAN_TT_STAT, n.val)] s t) ∧
      (s.fld F.CAN_CTRL_AUTO_REC n = 0 → Ends (.canBusoffRecovery n dt) s fun t => t.tick = s.tick + dt ∧ Kept [] [] s t))

/-- The schedule (R374 to R377): under REF 0 and 2 a basic cycle starts at the next Meridian time that is a multiple of its length past
TT_PHASE, with its count; under REF 1 silence loses the synchronisation, FR1; the window of the next column used opens within 50 ns of
its offset and closes after its length, an exclusive buffer that has not started being MISSED. The model's choices in it: log entries 2,
94. -/
def Obligations.ScheduleRuns : Prop :=
  ∀ (s : State) (n : Fin 2), Calm s → s.fld F.CAN_CTRL_TT_EN n = 1 → s.canInit n = false →
    (∀ len ph now, len = 1000 * s.fld F.CAN_TT_CFG_CYC_LEN n → ph = 1000 * s.fld F.CAN_TT_PHASE_PHASE n → now = s.meridian.toNat → len ≠ 0 → ph ≤ now →
      s.fld F.CAN_TT_CFG_REF n ≠ 1 → s.mst ≠ mFREE → Ends (.canTtCycleStart n) s fun t =>
        ∃ d, (now + d - ph) % len = 0 ∧ d < len + 5 ∧ t.tick = s.tick + (d + 4) / 5 ∧ t.fld F.CAN_TT_STAT_SYNC n = 1 ∧
          t.fld F.CAN_TT_STAT_CYCLE n = (now + d - ph) / len % s.ttCycles n ∧
          (∀ r ∈ t.can[n.val]?, r.cycleAt = t.tick ∧ r.col = none ∧ r.next = 0 ∧
            (s.fld F.CAN_TT_CFG_REF n = 2 → r.refTx = some ((now + d - ph) / len % s.ttCycles n))) ∧ Kept [.can] [(.CAN_TT_STAT, n.val)] s t) ∧
    (s.fld F.CAN_TT_CFG_CYC_LEN n ≠ 0 → s.fld F.CAN_TT_CFG_REF n = 1 → s.fld F.CAN_TT_STAT_SYNC n = 1 → Ends (.canTtCycleStart n) s fun t =>
      t.fld F.CAN_TT_STAT_SYNC n = 0 ∧ Raised t 0x4024 7 ∧
        t.tick = max s.tick ((s.canR n).refAt + 2 * s.fld F.CAN_TT_CFG_CYC_LEN n * ticksPerUs) ∧
        Kept [.can, .logs, .latched] [(.CAN_TT_STAT, n.val), (.SYS_FAULT, 0)] s t) ∧
    (∀ k : Fin 16, s.fld F.CAN_TT_STAT_SYNC n = 1 → (s.canR n).next ≤ k.val → s.ttUsed n k = true →
      (∀ j, j < k.val → (s.canR n).next ≤ j → s.ttUsed n j = false) → Ends (.canTtColumnStart n) s fun t =>
        (∃ e : Int, -10 ≤ e ∧ e ≤ 10 ∧
          t.tick = max s.tick ((((s.canR n).cycleAt + s.ttOfs n k * ticksPerUs : Nat) : Int) + e).toNat) ∧
          t.can = upd s.can n (fun r => { r with col := some k.val, next := k.val + 1, tried := [] }) ∧
          ((s.ttEntry n (s.fld F.CAN_TT_STAT_CYCLE n) k).1 = 3 → t.fld F.CAN_STAT_TT_ERR n = 1) ∧ Kept [.can, .free] [(.CAN_STAT, n.val)] s t) ∧
    (∀ k e b, (s.canR n).col = some k → s.ttEntry n (s.fld F.CAN_TT_STAT_CYCLE n) k = (e, b) →
      (e = 1 → s.mbPending n b = true → (s.canR n).tried.contains b = false → Ends (.canTtWindowEnd n) s fun t =>
        t.mbPending n b = false ∧ t.mb0 n b 9 8 = 3 ∧ t.fld F.CAN_TX_MISSED_COUNT n = min (s.fld F.CAN_TX_MISSED_COUNT n + 1) 0xFFFFFFFF ∧
          t.can = upd s.can n (fun r => { r with col := none }) ∧
          t.tick = max s.tick ((s.canR n).cycleAt + (s.ttOfs n k + s.ttWin n k) * ticksPerUs) ∧
          Kept [.can] [(.CAN_MB, State.mbIx n b 0), (if b < 32 then .CAN_TXREQ_LO else .CAN_TXREQ_HI, n.val), (.CAN_TX_MISSED, n.val)] s t) ∧
      (e ≠ 1 ∨ s.mbPending n b = false ∨ (s.canR n).tried.contains b = true → Ends (.canTtWindowEnd n) s fun t =>
        t.can = upd s.can n (fun r => { r with col := none }) ∧
          t.tick = max s.tick ((s.canR n).cycleAt + (s.ttOfs n k + s.ttWin n k) * ticksPerUs) ∧ Kept [.can] [] s t))

/-! ## Field inputs and outputs (R393 to R404, class 0x07xx) -/

/-- IO_READ gives the inputs, the invalid ones and the outputs as commanded with FIO_FAULT; IO_WRITE sets FIO_DO by MASK and VALUE as one
write and takes the outputs it names out of their safe states with the next frame; IO_RESTORE names outputs for release and is refused
with BUSY while VF is low (R395, R399 to R401). The model's choices in it: log entries 1, 26, 96. -/
def Obligations.IoCommandsAct : Prop :=
  ∀ (s : State) (p : Pkt) (role : Role), Calm s →
    (Carried s cmdIoRead p role → Ends (.ioRead p) s fun t =>
      Answered s t cmdIoRead p (ok [wd (s.fld F.FIO_DI_STATE), wd (s.fld F.FIO_DI_INVALID_MASK),
        wd (s.fld F.FIO_DO_CMD + s.fld F.FIO_STAT_FIO_FAULT * 2 ^ 31)]) ∧ t.tick = s.tick + p.dt ∧ Kept replyParts [] s t) ∧
    (∀ mask v, Carried s cmdIoWrite p role → mask = nth p.payload 0 → v = nth p.payload 1 → p.rivals = [] →
      mask &&& wd (s.fld F.CMP_OUT_SEL_DO_MASK) = 0 → v &&& 0xFFFF0000 = 0 → s.reiniting 0x15 0 = false → Ends (.ioWrite p) s fun t =>
        Answered s t cmdIoWrite p (ok) ∧ t.rd .FIO_DO = (s.rd .FIO_DO &&& ~~~mask) ||| (v &&& mask) ∧
          t.fio = { s.fio with wake := s.fio.wake ||| mask.truncate 16 } ∧ t.tick = s.tick + p.dt ∧
          Kept (.fio :: replyParts) [(.FIO_DO, 0)] s t) ∧
    (Carried s cmdIoRestore p role → s.fio.vfLow = false → s.reiniting 0x15 0 = false → Ends (.ioRestore p) s fun t =>
      Answered s t cmdIoRestore p (ok) ∧ t.fio = { s.fio with restore := s.fio.restore ||| (nth p.payload 0).truncate 16 } ∧
        t.tick = s.tick + p.dt ∧ Kept (.fio :: replyParts) [] s t)

/-- The barrier link, logic to field (R400, R401, R404): each frame carries the levels of the compare list on its outputs and FIO_DO on
the others, and the outputs to be woken and restored; the frame before it arrives, and its outputs leave their safe states, and their
hold-off and latch-off as far as the causes have gone; one with a CRC error is named again. The barrier link, field to logic, and the
inputs (R393 to R395, R402, R403): a frame shows the states with invalid inputs at 0; one that reports a fault raises FIO_FAULT, FR1; one
with a CRC error is counted alone; the first one after a loss leaves every input invalid. A sample of an input is classified by the
thresholds of its mode. The model's choices in it: log entries 1, 10, 95. -/
def Obligations.FieldFramesAct : Prop :=
  (∀ (s : State) (dt at_ : Nat) (own levels : BitVec 16) (settings : FieldSet), Calm s → s.linked = true →
    at_ = max (s.tick + dt) (s.fio.outAt + 100 * ticksPerUs) →
    settings = ⟨s.rd .FIO_SAFE, s.rd .FIO_CFG, [s.rd .FIO_DI_FILT 0, s.rd .FIO_DI_FILT 1, s.rd .FIO_DI_FILT 2], s.rd .FIO_DI_WB⟩ → own = BitVec.ofNat 16 (s.fld F.CMP_OUT_SEL_DO_MASK) →
    levels = (s.fio.cmpLv &&& own) ||| (BitVec.ofNat 16 (s.fld F.FIO_DO_CMD) &&& ~~~own) →
    (∀ o, s.fio.sent = some o → Ends (.fieldFrameTx dt true) s fun t =>
      t.outs = .field levels :: s.outs ∧ t.fio = { s.fio with
        cmd := o.cmd, safe := s.fio.safe &&& ~~~(o.wake ||| o.restore),
        heldOff := if s.fio.vfLow = true then s.fio.heldOff else s.fio.heldOff &&& ~~~o.restore,
        latched := s.fio.latched &&& (~~~o.restore ||| s.fio.newLatch), newLatch := 0, fieldAt := t.tick, silent := false, set := o.set,
        sent := some ⟨levels, s.fio.wake, s.fio.restore, settings⟩, wake := 0, restore := 0, outAt := t.tick } ∧ t.tick = at_ ∧
      Kept [.fio, .outs] [] s t) ∧
    (∀ o, s.fio.sent = some o → Ends (.fieldFrameTx dt false) s fun t =>
      t.outs = .field levels :: s.outs ∧ t.fio = { s.fio with
        sent := some ⟨levels, s.fio.wake ||| o.wake, s.fio.restore ||| o.restore, settings⟩, wake := 0, restore := 0, outAt := t.tick } ∧
        t.tick = at_ ∧ Kept [.fio, .outs] [] s t) ∧
    (∀ arrived, s.fio.sent = none → Ends (.fieldFrameTx dt arrived) s fun t =>
      t.outs = .field levels :: s.outs ∧ t.fio = { s.fio with
        sent := some ⟨levels, s.fio.wake, s.fio.restore, settings⟩, wake := 0, restore := 0, outAt := t.tick } ∧ t.tick = at_ ∧
      Kept [.fio, .outs] [] s t)) ∧
  (∀ (s : State) (dt : Nat), Calm s → s.sys.phase ≠ .unpowered →
    (∀ at_, s.linked = true → at_ = max (s.tick + dt) (s.fio.inAt + 100 * ticksPerUs) →
     (∀ arrived, s.fio.back = none → Ends (.fieldFrameRx dt arrived) s fun t =>
        t.fio = { s.fio with back := some s.fieldIn, event := false, inAt := t.tick } ∧ t.tick = at_ ∧ Kept [.fio] [] s t) ∧
     (∀ b, s.fio.back = some b →
      (s.fld F.FIO_STAT_LINK = 1 → b.fault = false → Ends (.fieldFrameRx dt true) s fun t =>
        t.rd .FIO_DI = wd (b.state &&& ~~~b.invalid).toNat ∧ t.rd .FIO_DI_INVALID = wd b.invalid.toNat ∧ t.fld F.FIO_STAT_LINK = 1 ∧
          t.fld F.SYS_CLK_STAT_FIELD_LINK = 1 ∧
          t.fio = { s.fio with back := some s.fieldIn, event := false, logicAt := t.tick, lost := false, inAt := t.tick } ∧ t.tick = at_ ∧
          Kept [.fio] [(.FIO_DI, 0), (.FIO_DI_INVALID, 0), (.FIO_STAT, 0), (.SYS_CLK_STAT, 0)] s t) ∧
      (b.fault = true → s.fld F.FIO_STAT_FIO_FAULT = 0 → Ends (.fieldFrameRx dt true) s fun t =>
        t.fld F.FIO_STAT_FIO_FAULT = 1 ∧ t.fld F.FIO_FAULT_CNT_COUNT = min (s.fld F.FIO_FAULT_CNT_COUNT + 1) 0xFFFFFFFF ∧
          Raised t 0x6001 7 ∧ t.tick = at_ ∧ Kept [.fio, .logs, .latched] [(.FIO_DI, 0), (.FIO_DI_INVALID, 0), (.FIO_STAT, 0),
            (.SYS_CLK_STAT, 0), (.FIO_FAULT_CNT, 0), (.SYS_FAULT, 0)] s t) ∧
      (s.fld F.FIO_STAT_LINK = 0 → b.fault = false → Ends (.fieldFrameRx dt true) s fun t =>
        t.rd .FIO_DI = 0 ∧ t.rd .FIO_DI_INVALID = 0xFFFFFF ∧ t.fld F.FIO_STAT_LINK = 1 ∧ (∀ f ∈ t.fio.filts, f.fresh = true ∧ f.held = 0) ∧
          t.tick = at_ ∧ Kept [.fio] [(.FIO_DI, 0), (.FIO_DI_INVALID, 0), (.FIO_STAT, 0), (.SYS_CLK_STAT, 0)] s t) ∧
      (Ends (.fieldFrameRx dt false) s fun t =>
        t.fld F.FIO_LINK_ERR_COUNT = min (s.fld F.FIO_LINK_ERR_COUNT + 1) 0xFFFFFFFF ∧
          t.fio = { s.fio with back := some s.fieldIn, event := b.fault, inAt := t.tick } ∧ t.tick = at_ ∧ Kept [.fio] [(.FIO_LINK_ERR, 0)] s t))) ∧
    (∀ mv, Ends (.fieldInputSample dt mv) s fun t => t.tick = max (s.tick + dt) (s.fio.sampledAt + 25 * ticksPerUs) ∧
      (∃ filts, t.fio = { s.fio with filts := filts, sampledAt := t.tick }) ∧
      (∀ (n : Fin 24), ∀ f ∈ s.fio.filts[n.val]?,
        (bitOf s.fio.set.wb n = false →
          (11000 < nth mv n → t.fio.filts[n.val]? = some (State.filtStep (s.filtSamples n) (some (some true)) f)) ∧
          (5000 < nth mv n → nth mv n < 11000 → t.fio.filts[n.val]? = some (State.filtStep (s.filtSamples n) none f)) ∧
          (nth mv n < 5000 → t.fio.filts[n.val]? = some (State.filtStep (s.filtSamples n) (some (some false)) f))) ∧
        (bitOf s.fio.set.wb n = true →
          (15000 < nth mv n → t.fio.filts[n.val]? = some (State.filtStep (s.filtSamples n) (some (some true)) f)) ∧
          (9000 < nth mv n → nth mv n < 15000 → t.fio.filts[n.val]? = some (State.filtStep (s.filtSamples n) none f)) ∧
          (3000 < nth mv n → nth mv n < 9000 → t.fio.filts[n.val]? = some (State.filtStep (s.filtSamples n) (some (some false)) f)) ∧
          (2000 < nth mv n → nth mv n < 3000 → t.fio.filts[n.val]? = some (State.filtStep (s.filtSamples n) none f)) ∧
          (nth mv n < 2000 → t.fio.filts[n.val]? = some (State.filtStep (s.filtSamples n) (some none) f)))) ∧
      Kept [.fio, .free] [] s t))

/-- The field side's own limits (R397 to R399, R401, R402): outputs in current limit for more than 10 ms, and
those at their thermal limit at once (R482), are off and latched off; a readback against the
command is reported; VF low puts every output off and held off and every input invalid, and its return releases the AUTO_RESTORE outputs
alone; silence on the field side puts every output in its safe state; silence on the logic side clears the link, invalidates the inputs
and raises FIELD_LINK_LOST, FR1. The model's choices in it: log entries 1, 2, 95. -/
def Obligations.FieldLimitsAct : Prop :=
  ∀ (s : State) (dt : Nat), Calm s → s.sys.phase ≠ .unpowered →
    (∀ ma held (hot : BitVec 16) (heavy : Nat → Bool), (∀ n, n < 16 → heavy n = (s.doLevel n && (hot.getLsbD n ||
        decide (10 * ticksPerMs < held) && (decide (1200 ≤ nth ma n) || decide (1500 < ((ma.drop (4 * (n / 4))).take 4).sum))))) →
      ((∀ n, n < 16 → heavy n = false) → Ends (.doCurrentLimitLatch dt ma held hot) s fun t => t.tick = s.tick + dt ∧ Kept [] [] s t) ∧
      ((∃ n, n < 16 ∧ heavy n = true) → Ends (.doCurrentLimitLatch dt ma held hot) s fun t =>
        t.fio = { s.fio with latched := t.fio.latched, newLatch := t.fio.newLatch, event := true } ∧
          (∀ n, n < 16 → t.fio.latched.getLsbD n = (s.fio.latched.getLsbD n || heavy n) ∧
            t.fio.newLatch.getLsbD n = (s.fio.newLatch.getLsbD n || heavy n) ∧ (heavy n = true → t.doLevel n = false)) ∧
          t.tick = s.tick + dt ∧ Kept [.fio] [] s t)) ∧
    (∀ mv held, Ends (.doReadbackFault dt mv held) s fun t =>
      t.fio = { s.fio with high := t.fio.high } ∧ (∀ n, n < 16 → t.fio.high.getLsbD n =
        (decide (6000 < nth mv n) && (decide (2 * ticksPerMs < held) || s.fio.high.getLsbD n))) ∧ t.tick = s.tick + dt ∧ Kept [.fio] [] s t) ∧
    (∀ mv held, (mv < 18000 → ticksPerMs < held → Ends (.vfLow dt mv held) s fun t =>
        t.fio = { s.fio with vfLow := true, heldOff := 0xFFFF, event := true } ∧ (∀ n, t.doLevel n = false) ∧ (∀ n, t.diInvalid n = true) ∧
          t.tick = s.tick + dt ∧ Kept [.fio] [] s t) ∧
      (18000 ≤ mv ∨ held ≤ ticksPerMs → Ends (.vfLow dt mv held) s fun t => t.tick = s.tick + dt ∧ Kept [] [] s t) ∧
      (s.fio.vfLow = true → 19500 < mv → 10 * ticksPerMs ≤ held → Ends (.vfRestored dt mv held) s fun t =>
        t.fio.vfLow = false ∧ t.fio.heldOff = s.fio.heldOff &&&
            ~~~BitVec.ofNat 16 (bitsOf s.fio.set.cfg F.FIO_CFG_AUTO_RESTORE.hi F.FIO_CFG_AUTO_RESTORE.lo) ∧
          (∀ f ∈ t.fio.filts, f.fresh = true ∧ f.held = 0) ∧
          t.fio = { s.fio with vfLow := false, heldOff := t.fio.heldOff, filts := t.fio.filts } ∧ t.tick = s.tick + dt ∧ Kept [.fio] [] s t) ∧
      (mv ≤ 19500 ∨ held < 10 * ticksPerMs → Ends (.vfRestored dt mv held) s fun t => t.tick = s.tick + dt ∧ Kept [] [] s t)) ∧
    (s.sys.phase = .up → s.fio.silent = false → Ends .barrierTimeout s fun t =>
      t.fio.safe = 0xFFFF ∧ t.fio.silent = true ∧ t.tick = max s.tick (s.fio.fieldAt +
          bitsOf s.fio.set.cfg F.FIO_CFG_TMO.hi F.FIO_CFG_TMO.lo * ticksPerMs) ∧
        (∀ n, n < 16 → s.dev ≠ dBOOT → s.fio.vfLow = false → s.fio.heldOff.getLsbD n = false → s.fio.latched.getLsbD n = false →
          t.doLevel n = (match bitsOf s.fio.set.safe (2 * n + 1) (2 * n) with | 0 => false | 1 => true | _ => s.doLevel n)) ∧
        t.fio.wake = 0 ∧ t.fio.restore = 0 ∧ Kept [.fio] [] s t) ∧
    (s.linked = true → s.fio.lost = false → Ends .fieldLinkLost s fun t =>
      t.fld F.FIO_STAT_LINK = 0 ∧ t.fld F.SYS_CLK_STAT_FIELD_LINK = 0 ∧ t.rd .FIO_DI_INVALID = 0xFFFFFF ∧ t.rd .FIO_DI = 0 ∧
        t.fld F.FIO_STAT_FIO_FAULT = 1 ∧ Raised t 0x6002 7 ∧ t.fio = { s.fio with lost := true, back := none } ∧
        t.tick = max s.tick (s.fio.logicAt + ticksPerMs) ∧ Kept [.fio, .logs, .latched] [(.FIO_STAT, 0), (.SYS_CLK_STAT, 0),
          (.FIO_DI_INVALID, 0), (.FIO_DI, 0), (.SYS_FAULT, 0)] s t)

/-! ## Lantern (R416 to R435) -/

/-- A demand on a channel (R418), accepted after the filter that STO_PULSE_TOL sets, a shorter low being ignored: counted and logged, FR0,
it puts STO in force at once where INPUT_FUNC or the profile asks for no SS1, the device going to READY once every off sequence has
ended (R77); with SS1 every axis that runs goes to STOPPING and SS1 starts. An accepted release releases nothing by itself (R420);
channels that differ for longer than STO_DISC latch DISC, FR1 (R419). The end of SS1 and of a demand (R77, R293, R422): with every axis
at SS1_ZERO STO follows at once, else at SS1_TMAX with SS1_TIMEOUT, FR1; a demand whose STO and off sequences have ended takes the
device from ARMED or RUN to READY. The model's choices in it: log entries 1, 2, 14, 47, 97, 98. -/
def Obligations.StoInputsAndDemandsEnd : Prop :=
  (∀ (s : State) (dt held : Nat) (chB : Bool), Calm s →
    (held < s.stoLowTime → Ends (.stoLowAccepted dt chB held) s fun t => t.tick = s.tick + dt ∧ Kept [] [] s t) ∧
    (s.stoLowTime ≤ held → s.fbit F.LAN_STO_IN_REL (b2n chB) = false → Ends (.stoLowAccepted dt chB held) s fun t =>
      t.fbit F.LAN_STO_IN_RAW (b2n chB) = false ∧ t.tick = s.tick + dt ∧ Kept [] [(.LAN_STO_IN, 0)] s t) ∧
    (s.stoLowTime ≤ held → s.fbit F.LAN_STO_IN_REL (b2n chB) = true →
      (s.stoOn = false → s.inputFunc = false ∨ s.hasFunc 1 = false → Ends (.stoLowAccepted dt chB held) s fun t =>
        t.fbit F.LAN_STO_IN_REL (b2n chB) = false ∧ t.fld F.LAN_STAT_STO_ACTIVE = 1 ∧ Raised t 0x5005 7 ∧
          t.fld F.LAN_DEMAND_CNT_COUNT = min (s.fld F.LAN_DEMAND_CNT_COUNT + 1) 0xFFFFFFFF ∧
          ((∀ b, b < 8 → s.running b = false) → s.fld F.GATE_STAT_OFFSEQ = 0 → s.dev = dARMED ∨ s.dev = dRUN → t.dev = dREADY) ∧
          t.tick = s.tick + dt ∧ Spared [] [.LAN_STO_IN, .LAN_DEMAND_CNT] s t) ∧
      (s.stoOn = false → s.inputFunc = true → s.hasFunc 1 = true → s.lan.ss1 = none → Ends (.stoLowAccepted dt chB held) s fun t =>
        t.fbit F.LAN_STO_IN_REL (b2n chB) = false ∧ t.fld F.LAN_STAT_STO_ACTIVE = 0 ∧ t.fld F.LAN_STAT_SS1_RUN = 1 ∧
          (∃ q, t.lan.ss1 = some q ∧ q.t0 = t.tick) ∧ Raised t 0x5005 7 ∧ (∀ a, a < 4 → s.axSt a = aRUN → t.axSt a = aSTOPPING) ∧
          t.fld F.LAN_DEMAND_CNT_COUNT = min (s.fld F.LAN_DEMAND_CNT_COUNT + 1) 0xFFFFFFFF ∧ t.tick = s.tick + dt ∧
          Spared [] [.LAN_STO_IN, .LAN_DEMAND_CNT] s t) ∧
      (s.stoOn = true → Ends (.stoLowAccepted dt chB held) s fun t =>
        t.fbit F.LAN_STO_IN_REL (b2n chB) = false ∧ t.fld F.LAN_STAT_STO_ACTIVE = 1 ∧ Raised t 0x5005 7 ∧
          t.fld F.LAN_DEMAND_CNT_COUNT = min (s.fld F.LAN_DEMAND_CNT_COUNT + 1) 0xFFFFFFFF ∧ t.tick = s.tick + dt ∧
          Kept [.lan, .logs] [(.LAN_STO_IN, 0), (.LAN_DEMAND_CNT, 0), (.SYS_FAULT, 0)] s t)) ∧
    (held < 10 * ticksPerMs → Ends (.stoReleaseAccepted dt chB held) s fun t => t.tick = s.tick + dt ∧ Kept [] [] s t) ∧
    (10 * ticksPerMs ≤ held → Ends (.stoReleaseAccepted dt chB held) s fun t =>
      t.fbit F.LAN_STO_IN_REL (b2n chB) = true ∧ t.fbit F.LAN_STO_IN_RAW (b2n chB) = true ∧
        t.fld F.LAN_STAT_STO_ACTIVE = s.fld F.LAN_STAT_STO_ACTIVE ∧ t.tick = s.tick + dt ∧ Kept [.lan] [(.LAN_STO_IN, 0)] s t) ∧
    (∀ t0, s.lan.diffSince = some t0 → s.nonsafe = false → s.fld F.LAN_STAT_DISC = 0 → Ends (.stoDiscrepancy dt) s fun t =>
      t.fld F.LAN_STAT_DISC = 1 ∧ Raised t 0x5004 7 ∧ t.lan.bothSince = false ∧
        t.tick = max (s.tick + dt) (t0 + bitsOf (s.par 5) 31 16 * ticksPerMs + 1) ∧ Kept [.lan, .logs, .latched] [(.LAN_STAT, 0), (.SYS_FAULT, 0)] s t)) ∧
  (∀ (s : State),
    (∀ dt q, s.stoOn = false → s.lan.ss1 = some q →
      ((∀ n, n < 4 → nth q.axes n = true → ∃ v, s.safeOf n = some v ∧ (v.natAbs : Int) ≤ (s.par 7).toInt) → Ends (.ss1End dt) s fun t =>
        t.fld F.LAN_STAT_STO_ACTIVE = 1 ∧ t.fld F.LAN_STAT_SS1_RUN = 0 ∧ t.lan.ss1 = none ∧
          (s.lan.doneWait = true → (∀ b, b < 8 → s.running b = false) → s.fld F.GATE_STAT_OFFSEQ = 0 → s.dev = dARMED ∨ s.dev = dRUN → t.dev = dREADY) ∧
          t.tick = s.tick + dt ∧ Spared [] [] s t) ∧
      ((∃ n, n < 4 ∧ nth q.axes n = true ∧ ∀ v, s.safeOf n = some v → (s.par 7).toInt < v.natAbs) → Ends (.ss1End dt) s fun t =>
        t.fld F.LAN_STAT_STO_ACTIVE = 1 ∧ t.fld F.LAN_STAT_SS1_RUN = 0 ∧ t.lan.ss1 = none ∧ Raised t 0x5007 7 ∧
          t.tick = max (s.tick + dt) (q.t0 + bitsOf (s.par 6) 31 16 * 10 * ticksPerMs) ∧ Spared [] [] s t)) ∧
    (∀ t0, s.lan.doneWait = true → s.stoOn = true → (s.gate.offDue.filterMap id).min? = some t0 →
      (∀ b, b < 8 → s.fbit F.GATE_STAT_OFFSEQ b = true → s.gate.offDue[b]? = some (some t0)) → s.dev = dARMED ∨ s.dev = dRUN →
      Ends .offSeqInner s fun t =>
        t.dev = dREADY ∧ t.lan.doneWait = false ∧ t.fld F.GATE_STAT_OFFSEQ = 0 ∧ t.tick = max s.tick t0 ∧ Spared [] [.GATE_STAT] s t))

/-- What Lantern judges on its own (R416, R417, R424, R426): a safe speed of source A alone, and none at all where neither source is
valid; the tenth value of a running bridge's link below VDC_LO, FR2; a brake output that does not turn off in its test, or that reads
energised while off, FR3, with both outputs off. The model's choices in it: log entries 1, 10, 99, 100. -/
def Obligations.SafeSpeedsAndBrakes : Prop :=
  ∀ (s : State) (dt : Nat), Calm s →
    ((∀ b, b < 8 → s.running b = false) → (∀ n, n < 4 → bitOf (s.parAx n 0) 2 = false) → Ends (.safeSpeedUpdate dt) s fun t =>
      (∀ n, n < 4 → t.fld F.LAN_SPD_STAT_A_VALID n = 0 ∧ t.fld F.LAN_SPD_STAT_B_VALID n = 0 ∧ t.fld F.LAN_SPD_STAT_UNKNOWN n = 1 ∧
        t.fld F.LAN_SPD_STAT_SINGLE n = 0 ∧ t.rd .LAN_SPD_SAFE n = s.rd .LAN_SPD_SAFE n) ∧ t.tick = max (s.tick + dt) (s.lan.updAt + ticksPerMs) ∧
        Kept [.lan, .free] ((upTo 4).flatMap fun n => [(.LAN_SPD_STAT, n), (.LAN_SS1_LIM, n)]) s t) ∧
    (∀ (n : Fin 4) ch c old, (∀ b, b < 8 → s.running b = false) → bitOf (s.parAx n 0) 2 = true → ch = bitsOf (s.parAx n 0) 1 0 →
      s.fld F.EN_STAT_VALID ch = 1 → (s.parAx n 1).toNat * (s.parAx n 2).toNat ≠ 0 → c = s.counter ch → old = (nth s.lan.ax n).counts.getLastD c →
      Ends (.safeSpeedUpdate dt) s fun t =>
        (∃ e, 0 ≤ e ∧ e ≤ 1 ∧ t.rd .LAN_SPD_A n =
          satW ((c - old).toInt * 1500000 * 2 ^ 24 / ((s.parAx n 1).toNat * (s.parAx n 2).toNat : Nat) + e)) ∧
          t.rd .LAN_SPD_SAFE n = t.rd .LAN_SPD_A n ∧ t.fld F.LAN_SPD_STAT_A_VALID n = 1 ∧ t.fld F.LAN_SPD_STAT_B_VALID n = 0 ∧
          t.fld F.LAN_SPD_STAT_UNKNOWN n = 0 ∧ t.fld F.LAN_SPD_STAT_SINGLE n = b2n (s.hasFunc 2 || s.hasFunc 3) ∧
          (s.hasFunc 2 = true → s.fld F.LAN_SPD_STAT_SINGLE n = 0 → Raised t 0x5009 n) ∧ t.tick = max (s.tick + dt) (s.lan.updAt + ticksPerMs) ∧
          Spared [.free] [.LAN_SPD_A, .LAN_SPD_STAT, .LAN_SPD_SAFE, .LAN_SS1_LIM] s t) ∧
    (∀ bits u, u = (s.elapseFrom dt (s.lan.cmpAt + ticksPerMs)).sdFeedAll bits → Calm u →
      ((∀ b, b < 8 → u.running b = true → u.envValid = true → ∀ f v, (({ u with free := f } : State).fastLink b).1 = some v →
          u.sg .LAN_ENV_VDC_LO b ≤ v) → Ends (.vdcLoCompare dt bits) s fun t =>
        (∀ b, b < 8 → ∀ n ∈ t.lan.vdcLow[b]?, n = 0) ∧ t.tick = max (s.tick + dt) (s.lan.cmpAt + ticksPerMs) ∧
          Kept [.lan, .free] [] u t) ∧
      (∀ b : Fin 8, u.running b = true → u.envValid = true →
        (∀ f, ∃ v, (({ u with free := f } : State).fastLink b).1 = some v ∧ v < u.sg .LAN_ENV_VDC_LO b) → nth u.lan.vdcLow b = 9 →
        (∀ c, c < 8 → c ≠ b.val → u.running c = false) → Ends (.vdcLoCompare dt bits) s fun t =>
          Raised t 0x500D (u.fld F.BR_CFG_AXIS b) ∧ (∀ n ∈ t.lan.vdcLow[b.val]?, n = 10) ∧
            t.tick = max (s.tick + dt) (s.lan.cmpAt + ticksPerMs) ∧ Spared [.free] [] u t)) ∧
    (s.fld F.LAN_SBC_ON = 3 → s.brakeCond = true → s.nonsafe = false →
      (Ends (.sbcTestPulse dt true true) s fun t =>
        t.tick = max (s.tick + dt) (s.lan.sbcTestAt + bitsOf (s.par 9) 15 0 * ticksPerS) + 1000 * ticksPerUs ∧ t.fld F.LAN_SBC_ON = 3 ∧
          Kept [] [] s t) ∧
      (∀ okB, Ends (.sbcTestPulse dt false okB) s fun t =>
        t.fld F.LAN_STAT_SBC_FAULT = 1 ∧ t.fld F.LAN_SBC_ON = 0 ∧ t.fld F.LAN_STAT_SBC_APPLIED = 1 ∧ Raised t 0x500C 7 ∧
          t.tick = max (s.tick + dt) (s.lan.sbcTestAt + bitsOf (s.par 9) 15 0 * ticksPerS) + 500 * ticksPerUs ∧ Spared [] [] s t)) ∧
    (∀ outB energised, s.brakeCond = true ∧ s.fld F.LAN_SBC_ON = 3 ∨ nth s.lan.sbcPin (b2n outB) = energised →
      Ends (.sbcOutputFault dt outB energised) s fun t => t.tick = s.tick + dt ∧ Kept [] [] s t) ∧
    (∀ outB, s.brakeCond = false → nth s.lan.sbcPin (b2n outB) = true → Ends (.sbcOutputFault dt outB false) s fun t =>
      t.lan = { s.lan with sbcPin := s.lan.sbcPin.set (b2n outB) false, slsSince := t.lan.slsSince, sbcTestAt := t.lan.sbcTestAt } ∧
        t.tick = s.tick + dt ∧ Kept [.lan] [] s t) ∧
    (∀ outB, s.brakeCond = false → nth s.lan.sbcPin (b2n outB) = false → Ends (.sbcOutputFault dt outB true) s fun t =>
      t.fld F.LAN_STAT_SBC_FAULT = 1 ∧ t.fld F.LAN_SBC_ON = 0 ∧ Raised t 0x500C 7 ∧ t.lan.sbcPin = s.lan.sbcPin.set (b2n outB) true ∧
        t.tick = s.tick + dt ∧ Spared [] [] s t)

/-- The safety layer (R428 to R431), with the links started: a producer's PDU carries its number, its WD, its permits and its SCRC, by
itself or in a Constellation frame of TYPE 5 (R347), which asks for MEM_CFG.EN and none of which leaves in QUARANTINE (R81); an accepted PDU shows its
permits, STO_PERMIT 0 putting STO in force; a refused one is counted; without one for WD the connection enters fail-safe with all permits
0, FR1, and STO in force. The model's choices in it: log entries 1, 2, 101. -/
def Obligations.SafetyPdusExchanged : Prop :=
  ∀ (s : State) (dt : Nat) (c : Fin 8), Calm s → s.linked = true →
    (s.dev = dQUARANTINE ∨ s.on F.MEM_CFG_EN = false → s.pduVia c = 0 → Ends (.safetyPduTx dt c ⟨0, 0⟩) s fun t =>
      t.tick = s.tick + dt ∧ Kept [] [] s t) ∧
    (s.produces c = true → s.dev ≠ dQUARANTINE ∧ s.on F.MEM_CFG_EN = true ∨ s.pduVia c ≠ 0 → Ends (.safetyPduTx dt c ⟨0, 0⟩) s fun t =>
      (∃ ws d, ws = [s.parConn c 0, wd ((s.conn c).txSeq % 65536 + s.connWd c * 65536),
          wd (b2n (s.fld F.LAN_CONN_STAT_STATE c == 1) * 2 ^ 16 + b2n s.nonsafe * 2 ^ 17),
          wd (b2n s.stoOn + 2 * b2n s.lan.ss1.isSome + 4 * b2n s.slsDemand + 8 * b2n s.braked + 16 * b2n (!s.flt.latched.isEmpty)), d] ∧
        t.outs = (if s.pduVia c = 0 then .safetyFrame s.ethHead c (s.frame 5 false (ws ++ [lanCrc (s.parConn c 0) ws])).1
          else .safetyPdu c (ws ++ [lanCrc (s.parConn c 0) ws])) :: s.outs) ∧
        t.mem = { s.mem with sent := s.mem.sent + (if s.pduVia c = 0 then 1 else 0) } ∧
        t.lan = { s.lan with
          conns := upd s.lan.conns c fun x => { x with txSeq := (x.txSeq + 1) % 65536, txAt := some t.tick },
          slsSince := t.lan.slsSince, sbcTestAt := t.lan.sbcTestAt } ∧
        t.tick = (match (s.conn c).txAt with
          | none => s.tick + dt
          | some u => max (s.tick + dt) (u + s.connWd c * ticksPerMs / 4 / (250 * ticksPerUs) * (250 * ticksPerUs))) ∧ Kept [.lan, .mem, .outs, .free] [] s t) ∧
    (∀ src pdu, s.hearsPdu src = true →
      ((s.consuming.filter fun c => s.fromPeer c src).find? fun d => s.parConn d 0 == nth pdu 0) = some c.val →
      s.fld F.LAN_CONN_STAT_STATE c = 2 → s.tick + dt ≤ (s.conn c).lastAt + s.connWd c * ticksPerMs →
      bitsOf (nth pdu 1) 31 16 = s.connWd c → bitOf (nth pdu 2) 17 = false →
      (pdu.length = 6 → nth pdu 5 = lanCrc (s.parConn c 0) (pdu.take 5) → bitsOf (nth pdu 2) 31 18 = 0 → bitsOf (nth pdu 2) 15 0 = 0 →
        nth pdu 4 = 0 → bitsOf (nth pdu 1) 15 0 = (s.fld F.LAN_CONN_STAT_RX_SEQ c + 1) % 65536 → bitOf (nth pdu 2) 16 = false →
        (bitOf (nth pdu 3) 0 = true → bitOf (nth pdu 3) 2 = true →
          (∀ d ∈ s.consuming, d ≠ c.val → bitOf (s.rd .LAN_CONN_DATA d) 0 = true ∧ bitOf (s.rd .LAN_CONN_DATA d) 2 = true) →
          Ends (.safetyPduRx dt src pdu ⟨0, 0⟩) s fun t =>
            t.rd .LAN_CONN_DATA c = nth pdu 3 ∧ t.fld F.LAN_CONN_STAT_RX_SEQ c = bitsOf (nth pdu 1) 15 0 ∧ t.fld F.LAN_CONN_STAT_STATE c = 2 ∧
              t.tick = s.tick + dt ∧ Kept [.lan] [(.LAN_CONN_STAT, c.val), (.LAN_CONN_DATA, c.val)] s t) ∧
        (bitOf (nth pdu 3) 2 = false → s.stoOn = false → Ends (.safetyPduRx dt src pdu ⟨0, 0⟩) s fun t =>
          t.rd .LAN_CONN_DATA c = nth pdu 3 ∧ t.fld F.LAN_STAT_STO_ACTIVE = 1 ∧
            t.fld F.LAN_DEMAND_CNT_COUNT = min (s.fld F.LAN_DEMAND_CNT_COUNT + 1) 0xFFFFFFFF ∧ t.tick = s.tick + dt ∧
            Spared [] [.LAN_CONN_STAT, .LAN_CONN_DATA, .LAN_DEMAND_CNT] s t)) ∧
      (pdu.length ≠ 6 ∨ nth pdu 5 ≠ lanCrc (s.parConn c 0) (pdu.take 5) ∨ bitsOf (nth pdu 1) 15 0 ≠ (s.fld F.LAN_CONN_STAT_RX_SEQ c + 1) % 65536 →
        (s.conn c).refused < 2 → Ends (.safetyPduRx dt src pdu ⟨0, 0⟩) s fun t =>
          t.fld F.LAN_CONN_ERR_COUNT c = min (s.fld F.LAN_CONN_ERR_COUNT c + 1) 0xFFFFFFFF ∧ t.tick = s.tick + dt ∧
            Kept [.lan] [(.LAN_CONN_ERR, c.val)] s t)) ∧
    (s.fld F.LAN_CONN_STAT_STATE c = 2 → c.val ∈ s.consuming → s.stoOn = false → Ends (.safetyWdExpiry c) s fun t =>
      t.fld F.LAN_CONN_STAT_STATE c = 1 ∧ t.rd .LAN_CONN_DATA c = 0 ∧ t.fld F.LAN_STAT_NET_FAILSAFE = 1 ∧ Raised t 0x5020 7 ∧
        t.fld F.LAN_STAT_STO_ACTIVE = 1 ∧ t.tick = max s.tick ((s.conn c).lastAt + s.connWd c * ticksPerMs + 1) ∧
        Spared [] [.LAN_CONN_STAT, .LAN_CONN_DATA, .LAN_DEMAND_CNT] s t)

/-- Lockstep (R432 to R435): digests are counted; a first difference is latent, counted, FR0, and the pair resynchronises; a second one
within 1 s is a mismatch, and so is one on a bus output: FR4 for pair A, FR3 for pair B, a second mismatch within 60 s FR5 besides; a
pair that is split is not compared. The model's choices in it: log entries 1, 102. -/
def Obligations.LockstepSupervised : Prop :=
  ∀ (s : State) (dt : Nat) (pairB : Bool) (k at_ : Nat), Calm s → k = b2n pairB →
    at_ = max (s.tick + dt) (nth s.lan.digestAt k + (10 * ticksPerMs - 40 * ticksPerUs)) →
    (∀ equal, s.splitPair pairB = true ∨ nth s.lan.resync k = true → Ends (.lockstepDigest dt pairB equal) s fun t =>
      t.tick = s.tick + dt ∧ Kept [] [] s t) ∧
    (s.splitPair pairB = true →
      Ends (.lockstepMismatch dt pairB) s fun t => t.tick = s.tick + dt ∧ Kept [] [] s t) ∧
    (s.splitPair pairB = false → nth s.lan.resync k = false →
      (Ends (.lockstepDigest dt pairB true) s fun t =>
        t.fld F.LAN_LS_DIGEST_COUNT = min (s.fld F.LAN_LS_DIGEST_COUNT + 1) 0xFFFFFFFF ∧ t.tick = at_ ∧
          t.lan = { s.lan with digestAt := s.lan.digestAt.set k t.tick, slsSince := t.lan.slsSince, sbcTestAt := t.lan.sbcTestAt } ∧
          Kept [.lan] [(.LAN_LS_DIGEST, 0)] s t) ∧
      ((∀ u, (if pairB = true then s.lan.latentB else s.lan.latentA) = some u → u + ticksPerS < at_) → s.cdl.run = none →
        Ends (.lockstepDigest dt pairB false) s fun t =>
          Raised t 0x5032 7 ∧ (if pairB = true then t.fld F.LAN_LS_LATENT_B = min (s.fld F.LAN_LS_LATENT_B + 1) 0xFFFF
            else t.fld F.LAN_LS_LATENT_A = min (s.fld F.LAN_LS_LATENT_A + 1) 0xFFFF) ∧
            t.lan.resync = s.lan.resync.set k true ∧ t.tick = at_ ∧
            Kept [.lan, .logs] [(.LAN_LS_DIGEST, 0), (.LAN_LS_LATENT, 0), (.SYS_FAULT, 0)] s t) ∧
      (∀ u, (if pairB = true then s.lan.latentB else s.lan.latentA) = some u → at_ ≤ u + ticksPerS →
        Ends (.lockstepDigest dt pairB false) s fun t =>
          Raised t 0x5032 7 ∧ Raised t (if pairB = true then 0x5031 else 0x5030) 7 ∧ t.tick = at_ ∧
            Spared [.cdl] [.LAN_LS_DIGEST, .LAN_LS_LATENT, .CDL_STAT] s t)) ∧
    (s.splitPair pairB = false →
      (Ends (.lockstepMismatch dt pairB) s fun t =>
        Raised t (if pairB = true then 0x5031 else 0x5030) 7 ∧ t.lan.mismatch = some t.tick ∧
          (∀ u, s.lan.mismatch = some u → t.tick ≤ u + 60 * ticksPerS → Raised t 0x5033 7 ∧ t.fld F.SYS_STATE_HALTED = 1) ∧
          (pairB = false → t.fld F.LAN_STAT_STO_ACTIVE = 1) ∧ t.tick = s.tick + dt ∧ Spared [.cdl] [.CDL_STAT] s t)) ∧
    (∀ u, nth s.lan.resync k = true → (if pairB = true then s.lan.latentB else s.lan.latentA) = some u → s.cdl.again = false →
      Ends (.lockstepResyncDone dt pairB) s fun t =>
        t.fld F.LAN_LS_RESYNC_LAST = min ((t.tick - u) / ticksPerUs) 65535 ∧ t.lan.resync = s.lan.resync.set k false ∧
          t.tick = s.tick + min dt (u + 2 * ticksPerMs - s.tick) ∧ Kept [.lan] [(.LAN_LS_RESYNC, 0)] s t)
end

