-- ==== Sys2Proof/Laws/Bits.lean ====
section
/-!
SUPPORT. Laws/Bits.lean: the laws of bit fields: what a field reads after a field is put, and which bits a put leaves alone.
-/

namespace Sys2Proof.Machine

theorem getLsbD_maskOf (hi lo n : Nat) (hn : n < 32) : (maskOf hi lo).getLsbD n = (decide (lo ≤ n) && decide (n < hi + 1)) := by
  simp only [maskOf, BitVec.getLsbD_ofNat, Nat.testBit_shiftLeft, Nat.testBit_two_pow_sub_one, hn, decide_true, Bool.true_and]
  by_cases h : lo ≤ n
  · simp [h]; omega
  · simp [h]

theorem getLsbD_putBits (w : Word) (hi lo v n : Nat) (hn : n < 32) :
    (putBits w hi lo v).getLsbD n = if lo ≤ n ∧ n ≤ hi then v.testBit (n - lo) else w.getLsbD n := by
  simp only [putBits, BitVec.getLsbD_or, BitVec.getLsbD_and, BitVec.getLsbD_not, getLsbD_maskOf _ _ _ hn, hn, decide_true,
    Bool.true_and, BitVec.getLsbD_ofNat, Nat.testBit_shiftLeft, Nat.testBit_mod_two_pow]
  by_cases h1 : lo ≤ n <;> by_cases h2 : n ≤ hi
  · have : n - lo < hi + 1 - lo := by omega
    have h3 : n < hi + 1 := by omega
    simp [h1, h2, this, h3]
  · have : ¬ n - lo < hi + 1 - lo := by omega
    have h3 : ¬ n < hi + 1 := by omega
    simp [h1, h2, this, h3]
  · simp [h1]
  · simp [h1]

theorem testBit_bitsOf (w : Word) (hi lo n : Nat) :
    (bitsOf w hi lo).testBit n = (decide (n < hi + 1 - lo) && w.getLsbD (lo + n)) := by
  simp [bitsOf, Nat.testBit_mod_two_pow, Nat.testBit_shiftRight, BitVec.getLsbD]

/-- A field reads what was put into it, cut to its width. -/
theorem bitsOf_putBits_same (w : Word) (hi lo v : Nat) (h : hi < 32) :
    bitsOf (putBits w hi lo v) hi lo = v % 2 ^ (hi + 1 - lo) := by
  apply Nat.eq_of_testBit_eq
  intro n
  rw [testBit_bitsOf, Nat.testBit_mod_two_pow]
  by_cases hn : n < hi + 1 - lo
  · rw [getLsbD_putBits _ _ _ _ _ (by omega)]
    have : lo ≤ lo + n ∧ lo + n ≤ hi := by omega
    simp [hn, this]
  · simp [hn]

/-- A field that another one does not meet keeps its value. -/
theorem bitsOf_putBits_other (w : Word) (hi lo v hi' lo' : Nat) (h : hi < lo' ∨ hi' < lo) :
    bitsOf (putBits w hi lo v) hi' lo' = bitsOf w hi' lo' := by
  apply Nat.eq_of_testBit_eq
  intro n
  rw [testBit_bitsOf, testBit_bitsOf]
  by_cases hn : n < hi' + 1 - lo'
  · by_cases h32 : lo' + n < 32
    · rw [getLsbD_putBits _ _ _ _ _ h32]
      have : ¬ (lo ≤ lo' + n ∧ lo' + n ≤ hi) := by omega
      simp [this]
    · simp [BitVec.getLsbD_of_ge _ _ (Nat.le_of_not_lt h32)]
  · simp [hn]

/-- Outside the field put, and so under any mask that covers it, the word is unchanged. -/
theorem putBits_and_not (w m : Word) (hi lo v : Nat) (h : maskOf hi lo &&& ~~~m = 0) :
    putBits w hi lo v &&& ~~~m = w &&& ~~~m := by
  apply BitVec.eq_of_getLsbD_eq
  intro n hn
  have hb := congrArg (fun x : Word => x.getLsbD n) h
  simp only [BitVec.getLsbD_and, BitVec.getLsbD_not, hn, decide_true, Bool.true_and, getLsbD_maskOf _ _ _ hn] at hb
  simp only [BitVec.getLsbD_and, BitVec.getLsbD_not, hn, decide_true, Bool.true_and, getLsbD_putBits _ _ _ _ _ hn]
  by_cases hc : lo ≤ n ∧ n ≤ hi
  · have : m.getLsbD n = true := by
      have h3 : n < hi + 1 := by omega
      simpa [hc.1, h3] using hb
    simp [this]
  · simp [hc]

theorem bitsOf_lt (w : Word) (hi lo : Nat) : bitsOf w hi lo < 2 ^ (hi + 1 - lo) := Nat.mod_lt _ (Nat.two_pow_pos _)

@[simp] theorem b2n_true : b2n true = 1 := rfl
@[simp] theorem b2n_false : b2n false = 0 := rfl
theorem b2n_mod (b : Bool) : b2n b % 2 = b2n b := by cases b <;> rfl
theorem b2n_ne_zero (b : Bool) : (b2n b != 0) = b := by cases b <;> rfl

/-- The element changed, of a list that has it. -/
theorem nth_upd_same {α : Type} [Inhabited α] (l : List α) (i : Nat) (f : α → α) (h : i < l.length) :
    nth (upd l i f) i = f (nth l i) := by
  simp [nth, upd, List.getD, h]

/-- The other elements of a changed list. -/
theorem nth_upd_other {α : Type} [Inhabited α] (l : List α) {i j : Nat} (f : α → α) (h : j ≠ i) :
    nth (upd l i f) j = nth l j := by
  simp [nth, upd, List.getD, Ne.symm h]

@[simp] theorem length_upd {α : Type} (l : List α) (i : Nat) (f : α → α) : (upd l i f).length = l.length := by simp [upd]

end Sys2Proof.Machine
end

