-- ==== Sys2Proof/Laws/Store.lean ====
section
/-!
SUPPORT. Laws/Store.lean: the laws of a memory of words: what a read gives after a write, and that every operation keeps the
canonical form.
-/

namespace Sys2Proof.Machine

variable {d : Nat → Word}

theorem Store.get_erase_same (m : Store) (k : Nat) : Store.get d (Store.erase m k) k = d k := by
  induction m with
  | nil => rfl
  | cons p m ih =>
    obtain ⟨a, v⟩ := p
    by_cases h : k = a <;> simp [Store.erase, Store.get, h]
    · subst h; exact ih
    · exact ih

theorem Store.get_erase_other (m : Store) {k j : Nat} (h : j ≠ k) : Store.get d (Store.erase m k) j = Store.get d m j := by
  induction m with
  | nil => rfl
  | cons p m ih =>
    obtain ⟨a, v⟩ := p
    by_cases hk : k = a
    · subst hk; simp [Store.erase, Store.get, h, ih]
    · by_cases hj : j = a <;> simp [Store.erase, Store.get, hk, hj, ih]

theorem Store.get_insert_same (m : Store) (k : Nat) (w : Word) : Store.get d (Store.insert m k w) k = w := by
  induction m with
  | nil => simp [Store.insert, Store.get]
  | cons p m ih =>
    obtain ⟨a, v⟩ := p
    by_cases h : k = a
    · simp [Store.insert, Store.get, h]
    · by_cases hl : k < a <;> simp [Store.insert, Store.get, h, hl, ih]

theorem Store.get_insert_other (m : Store) {k j : Nat} (w : Word) (h : j ≠ k) :
    Store.get d (Store.insert m k w) j = Store.get d m j := by
  induction m with
  | nil => simp [Store.insert, Store.get, h]
  | cons p m ih =>
    obtain ⟨a, v⟩ := p
    by_cases hk : k = a
    · subst hk; simp [Store.insert, Store.get, h]
    · by_cases hl : k < a
      · simp [Store.insert, Store.get, hk, hl, h]
      · by_cases hj : j = a <;> simp [Store.insert, Store.get, hk, hl, hj, ih]

/-- A read of the place written gives what was written. -/
theorem Store.get_set_same (m : Store) (k : Nat) (w : Word) : Store.get d (Store.set d m k w) k = w := by
  by_cases h : w = d k
  · subst h; simp [Store.set, Store.get_erase_same]
  · simp [Store.set, h, Store.get_insert_same]

/-- A write leaves every other place alone. -/
theorem Store.get_set_other (m : Store) {k j : Nat} (w : Word) (h : j ≠ k) :
    Store.get d (Store.set d m k w) j = Store.get d m j := by
  by_cases hw : w = d k
  · subst hw; simp [Store.set, Store.get_erase_other _ h]
  · simp [Store.set, hw, Store.get_insert_other _ _ h]

theorem Store.above_mono {b c : Nat} (m : Store) (hb : b < c) (h : Store.above c m) : Store.above b m := by
  cases m with
  | nil => rfl
  | cons q m => obtain ⟨a, v⟩ := q; simp [Store.above] at h ⊢; omega

theorem Store.above_erase {b : Nat} (m : Store) (k : Nat) (h : Store.above b m) (hw : Store.wf d m) :
    Store.above b (Store.erase m k) := by
  induction m generalizing b with
  | nil => rfl
  | cons p m ih =>
    obtain ⟨a, v⟩ := p
    simp [Store.above] at h
    simp [Store.wf] at hw
    by_cases hk : k = a
    · subst hk
      simpa [Store.erase] using ih (Store.above_mono m h hw.1.2) hw.2
    · simp [Store.erase, hk, Store.above, h]

/-- Erasing keeps the canonical form. -/
theorem Store.wf_erase (m : Store) (k : Nat) (h : Store.wf d m) : Store.wf d (Store.erase m k) := by
  induction m with
  | nil => rfl
  | cons p m ih =>
    obtain ⟨a, v⟩ := p
    simp [Store.wf] at h
    by_cases hk : k = a
    · simpa [Store.erase, hk] using hk ▸ ih h.2
    · simp [Store.erase, hk, Store.wf, h.1.1, ih h.2, Store.above_erase m k h.1.2 h.2]

theorem Store.above_insert {b k : Nat} (m : Store) (w : Word) (h : Store.above b m) (hk : b < k) :
    Store.above b (Store.insert m k w) := by
  cases m with
  | nil => simp [Store.insert, Store.above, hk]
  | cons p m =>
    obtain ⟨a, v⟩ := p
    simp only [Store.insert]
    split
    · simp [Store.above, hk]
    · split
      · simp [Store.above, hk]
      · simpa [Store.above] using h

/-- Inserting a word other than the default keeps the canonical form. -/
theorem Store.wf_insert (m : Store) (k : Nat) (w : Word) (hw : w ≠ d k) (h : Store.wf d m) :
    Store.wf d (Store.insert m k w) := by
  induction m with
  | nil => simp [Store.insert, Store.wf, Store.above, hw]
  | cons p m ih =>
    obtain ⟨a, v⟩ := p
    have h' := h
    simp [Store.wf] at h
    simp only [Store.insert]
    split
    · rename_i e; subst e; simp [Store.wf, hw, h.1.2, h.2]
    · split
      · rename_i _ hl; simp [Store.wf, hw, h.1.1, h.1.2, h.2]; simp [Store.above, hl]
      · rename_i hn hl
        simp [Store.wf, h.1.1, ih h.2, Store.above_insert m w h.1.2 (by omega : a < k)]

/-- A write keeps the canonical form. -/
theorem Store.wf_set (m : Store) (k : Nat) (w : Word) (h : Store.wf d m) : Store.wf d (Store.set d m k w) := by
  unfold Store.set
  split
  · exact Store.wf_erase m k h
  · exact Store.wf_insert m k w (by assumption) h

/-- A run of writes keeps the canonical form. -/
theorem Store.wf_write (ws : List Word) (m : Store) (k : Nat) (h : Store.wf d m) : Store.wf d (Store.write d m k ws) := by
  induction ws generalizing m k with
  | nil => exact h
  | cons w ws ih => exact ih _ _ (Store.wf_set m k w h)

theorem Store.above_filter {b : Nat} (f : Nat × Word → Bool) (m : Store) (h : Store.above b m) (hw : Store.wf d m) :
    Store.above b (m.filter f) := by
  induction m generalizing b with
  | nil => rfl
  | cons p m ih =>
    obtain ⟨a, v⟩ := p
    simp [Store.above] at h
    simp [Store.wf] at hw
    by_cases hf : f (a, v)
    · simp [hf, Store.above, h]
    · simp only [List.filter_cons, hf]
      exact ih (Store.above_mono m h hw.1.2) hw.2

theorem Store.wf_filter (f : Nat × Word → Bool) (m : Store) (h : Store.wf d m) : Store.wf d (m.filter f) := by
  induction m with
  | nil => rfl
  | cons p m ih =>
    obtain ⟨a, v⟩ := p
    simp [Store.wf] at h
    by_cases hf : f (a, v)
    · simp [hf, Store.wf, h.1.1, ih h.2, Store.above_filter f m h.1.2 h.2]
    · simpa [hf] using ih h.2

/-- Clearing a range keeps the canonical form. -/
theorem Store.wf_clear (m : Store) (k n : Nat) (h : Store.wf d m) : Store.wf d (Store.clear m k n) :=
  Store.wf_filter _ m h

/-- A read of n words gives n words. -/
theorem Store.length_read (m : Store) (k n : Nat) : (Store.read d m k n).length = n := by
  induction n generalizing k with
  | zero => rfl
  | succ n ih => simp [Store.read, ih]

/-- A place before or after the written range keeps its word. -/
theorem Store.get_write_other (ws : List Word) (m : Store) (k j : Nat) (h : j < k ∨ k + ws.length ≤ j) :
    Store.get d (Store.write d m k ws) j = Store.get d m j := by
  induction ws generalizing m k with
  | nil => rfl
  | cons w ws ih =>
    simp only [List.length_cons] at h
    rw [Store.write, ih _ _ (by omega), Store.get_set_other _ _ (by omega)]

/-- What a run of writes has written is read back. -/
theorem Store.read_write (ws : List Word) (m : Store) (k : Nat) :
    Store.read d (Store.write d m k ws) k ws.length = ws := by
  induction ws generalizing m k with
  | nil => rfl
  | cons w ws ih =>
    simp only [List.length_cons, Store.read, Store.write, ih]
    rw [Store.get_write_other _ _ _ _ (by omega), Store.get_set_same]

end Sys2Proof.Machine
end

