-- ==== Sys2Proof/Laws/Regs.lean ====
section
/-!
SUPPORT. Laws/Regs.lean: the laws of registers and fields: what a register or a field reads after a register or a field is
written.
-/

namespace Sys2Proof.Machine

theorem regCode_inj {r r' : RegId} {i i' : Nat} (hi : i < 65536) (hi' : i' < 65536) (h : regCode r i = regCode r' i') :
    r = r' ∧ i = i' := by
  unfold regCode at h
  have h1 : r.ctorIdx = r'.ctorIdx := by omega
  refine ⟨?_, by omega⟩
  rw [← RegId.ofNat_ctorIdx r, ← RegId.ofNat_ctorIdx r', h1]

namespace State

@[simp] theorem rd_wr_same (s : State) (r : RegId) (w : Word) (i : Nat) : (s.wr r w i).rd r i = w :=
  Store.get_set_same _ _ _

theorem rd_wr_other (s : State) (r r' : RegId) (w : Word) (i i' : Nat) (hi : i < 65536) (hi' : i' < 65536)
    (h : r' ≠ r ∨ i' ≠ i) : (s.wr r w i).rd r' i' = s.rd r' i' := by
  refine Store.get_set_other _ _ fun e => ?_
  have := regCode_inj hi' hi e
  rcases h with h | h
  · exact h this.1
  · exact h this.2

theorem fld_wr_same (s : State) (f : Fld) (w : Word) (i : Nat) : (s.wr f.reg w i).fld f i = bitsOf w f.hi f.lo := by
  simp [fld]

theorem fld_wr_other (s : State) (f : Fld) (r : RegId) (w : Word) (i i' : Nat) (hi : i < 65536) (hi' : i' < 65536)
    (h : f.reg ≠ r ∨ i' ≠ i) : (s.wr r w i).fld f i' = s.fld f i' := by
  simp [fld, rd_wr_other s r f.reg w i i' hi hi' h]

/-- A field reads what was put into it, cut to its width. -/
theorem fld_setF_same (s : State) (f : Fld) (v i : Nat) (h : f.hi < 32) : (s.setF f v i).fld f i = v % 2 ^ (f.hi + 1 - f.lo) := by
  rw [setF, fld_wr_same, bitsOf_putBits_same _ _ _ _ h]

/-- A field of another register, or of another copy, keeps its value. -/
theorem fld_setF_reg (s : State) (f g : Fld) (v i j : Nat) (hi : i < 65536) (hj : j < 65536) (h : g.reg ≠ f.reg ∨ j ≠ i) :
    (s.setF f v i).fld g j = s.fld g j := fld_wr_other s g f.reg _ i j hi hj h

/-- Another field of the same register keeps its value. -/
theorem fld_setF_bits (s : State) (f g : Fld) (v i : Nat) (hr : g.reg = f.reg) (h : f.hi < g.lo ∨ g.hi < f.lo) :
    (s.setF f v i).fld g i = s.fld g i := by
  unfold setF fld
  rw [hr, rd_wr_same, bitsOf_putBits_other _ _ _ _ _ _ h]

theorem rd_setF_other (s : State) (f : Fld) (v i : Nat) (r : RegId) (j : Nat) (hi : i < 65536) (hj : j < 65536)
    (h : r ≠ f.reg ∨ j ≠ i) : (s.setF f v i).rd r j = s.rd r j := rd_wr_other s f.reg r _ i j hi hj h

theorem rd_setF_same (s : State) (f : Fld) (v i : Nat) : (s.setF f v i).rd f.reg i = putBits (s.rd f.reg i) f.hi f.lo v := by
  simp [setF]

/-- A raised one-bit flag reads 1. -/
theorem fld_raiseF_same (s : State) (f : Fld) (i : Nat) (h : f.hi < 32) :
    (s.raiseF f i).fld f i = 2 ^ (f.hi + 1 - f.lo) - 1 := by
  rw [raiseF, fld_setF_same _ _ _ _ h]
  exact Nat.mod_eq_of_lt (Nat.sub_lt (Nat.two_pow_pos _) Nat.one_pos)

/-- A counter that is not full reads one more; a full one stays (R119). -/
theorem fld_bump_same (s : State) (f : Fld) (i : Nat) (h : f.hi < 32) :
    (s.bump f i).fld f i = min (s.fld f i + 1) (2 ^ (f.hi + 1 - f.lo) - 1) := by
  rw [bump, fld_setF_same _ _ _ _ h]
  have := Nat.two_pow_pos (f.hi + 1 - f.lo)
  exact Nat.mod_eq_of_lt (by omega)

end State

end Sys2Proof.Machine
end

