-- ==== Sys2Proof/Laws/State.lean ====
section
/-!
SUPPORT. Laws/State.lean: what the named updates of the state leave alone, one lemma per field and update; and what they change.
-/

namespace Sys2Proof.Machine.State

theorem regs_pending (s : State) (m : Store) : { s with regs := m }.pending = s.pending := rfl
theorem regs_tick (s : State) (m : Store) : { s with regs := m }.tick = s.tick := rfl
theorem regs_merTime (s : State) (m : Store) : { s with regs := m }.merTime = s.merTime := rfl
theorem regs_pwmTime (s : State) (m : Store) : { s with regs := m }.pwmTime = s.pwmTime := rfl
theorem regs_free (s : State) (m : Store) : { s with regs := m }.free = s.free := rfl
theorem regs_sram (s : State) (m : Store) : { s with regs := m }.sram = s.sram := rfl
theorem regs_outs (s : State) (m : Store) : { s with regs := m }.outs = s.outs := rfl
theorem regs_hst (s : State) (m : Store) : { s with regs := m }.hst = s.hst := rfl
theorem regs_flt (s : State) (m : Store) : { s with regs := m }.flt = s.flt := rfl
theorem regs_sys (s : State) (m : Store) : { s with regs := m }.sys = s.sys := rfl
theorem regs_gate (s : State) (m : Store) : { s with regs := m }.gate = s.gate := rfl
theorem regs_pwm (s : State) (m : Store) : { s with regs := m }.pwm = s.pwm := rfl
theorem regs_ax (s : State) (m : Store) : { s with regs := m }.ax = s.ax := rfl
theorem regs_lan (s : State) (m : Store) : { s with regs := m }.lan = s.lan := rfl
theorem regs_nv (s : State) (m : Store) : { s with regs := m }.nv = s.nv := rfl
theorem regs_em (s : State) (m : Store) : { s with regs := m }.em = s.em := rfl
theorem regs_share (s : State) (m : Store) : { s with regs := m }.share = s.share := rfl
theorem regs_mot (s : State) (m : Store) : { s with regs := m }.mot = s.mot := rfl
theorem regs_fio (s : State) (m : Store) : { s with regs := m }.fio = s.fio := rfl
theorem regs_eng (s : State) (m : Store) : { s with regs := m }.eng = s.eng := rfl
theorem regs_obs (s : State) (m : Store) : { s with regs := m }.obs = s.obs := rfl
theorem regs_ai (s : State) (m : Store) : { s with regs := m }.ai = s.ai := rfl
theorem regs_mer (s : State) (m : Store) : { s with regs := m }.mer = s.mer := rfl
theorem regs_lamp (s : State) (m : Store) : { s with regs := m }.lamp = s.lamp := rfl
theorem regs_mem (s : State) (m : Store) : { s with regs := m }.mem = s.mem := rfl
theorem regs_feed (s : State) (m : Store) : { s with regs := m }.feed = s.feed := rfl
theorem regs_str (s : State) (m : Store) : { s with regs := m }.str = s.str := rfl
theorem regs_cdl (s : State) (m : Store) : { s with regs := m }.cdl = s.cdl := rfl
theorem regs_can (s : State) (m : Store) : { s with regs := m }.can = s.can := rfl

@[simp] theorem wr_pending (s : State) (r : RegId) (w : Word) (i : Nat) : (s.wr r w i).pending = s.pending := regs_pending s _
@[simp] theorem wr_tick (s : State) (r : RegId) (w : Word) (i : Nat) : (s.wr r w i).tick = s.tick := regs_tick s _
@[simp] theorem wr_merTime (s : State) (r : RegId) (w : Word) (i : Nat) : (s.wr r w i).merTime = s.merTime := regs_merTime s _
@[simp] theorem wr_pwmTime (s : State) (r : RegId) (w : Word) (i : Nat) : (s.wr r w i).pwmTime = s.pwmTime := regs_pwmTime s _
@[simp] theorem wr_free (s : State) (r : RegId) (w : Word) (i : Nat) : (s.wr r w i).free = s.free := regs_free s _
@[simp] theorem wr_sram (s : State) (r : RegId) (w : Word) (i : Nat) : (s.wr r w i).sram = s.sram := regs_sram s _
@[simp] theorem wr_outs (s : State) (r : RegId) (w : Word) (i : Nat) : (s.wr r w i).outs = s.outs := regs_outs s _
@[simp] theorem wr_hst (s : State) (r : RegId) (w : Word) (i : Nat) : (s.wr r w i).hst = s.hst := regs_hst s _
@[simp] theorem wr_flt (s : State) (r : RegId) (w : Word) (i : Nat) : (s.wr r w i).flt = s.flt := regs_flt s _
@[simp] theorem wr_sys (s : State) (r : RegId) (w : Word) (i : Nat) : (s.wr r w i).sys = s.sys := regs_sys s _
@[simp] theorem wr_gate (s : State) (r : RegId) (w : Word) (i : Nat) : (s.wr r w i).gate = s.gate := regs_gate s _
@[simp] theorem wr_pwm (s : State) (r : RegId) (w : Word) (i : Nat) : (s.wr r w i).pwm = s.pwm := regs_pwm s _
@[simp] theorem wr_ax (s : State) (r : RegId) (w : Word) (i : Nat) : (s.wr r w i).ax = s.ax := regs_ax s _
@[simp] theorem wr_lan (s : State) (r : RegId) (w : Word) (i : Nat) : (s.wr r w i).lan = s.lan := regs_lan s _
@[simp] theorem wr_nv (s : State) (r : RegId) (w : Word) (i : Nat) : (s.wr r w i).nv = s.nv := regs_nv s _
@[simp] theorem wr_em (s : State) (r : RegId) (w : Word) (i : Nat) : (s.wr r w i).em = s.em := regs_em s _
@[simp] theorem wr_share (s : State) (r : RegId) (w : Word) (i : Nat) : (s.wr r w i).share = s.share := regs_share s _
@[simp] theorem wr_mot (s : State) (r : RegId) (w : Word) (i : Nat) : (s.wr r w i).mot = s.mot := regs_mot s _
@[simp] theorem wr_fio (s : State) (r : RegId) (w : Word) (i : Nat) : (s.wr r w i).fio = s.fio := regs_fio s _
@[simp] theorem wr_eng (s : State) (r : RegId) (w : Word) (i : Nat) : (s.wr r w i).eng = s.eng := regs_eng s _
@[simp] theorem wr_obs (s : State) (r : RegId) (w : Word) (i : Nat) : (s.wr r w i).obs = s.obs := regs_obs s _
@[simp] theorem wr_ai (s : State) (r : RegId) (w : Word) (i : Nat) : (s.wr r w i).ai = s.ai := regs_ai s _
@[simp] theorem wr_mer (s : State) (r : RegId) (w : Word) (i : Nat) : (s.wr r w i).mer = s.mer := regs_mer s _
@[simp] theorem wr_lamp (s : State) (r : RegId) (w : Word) (i : Nat) : (s.wr r w i).lamp = s.lamp := regs_lamp s _
@[simp] theorem wr_mem (s : State) (r : RegId) (w : Word) (i : Nat) : (s.wr r w i).mem = s.mem := regs_mem s _
@[simp] theorem wr_feed (s : State) (r : RegId) (w : Word) (i : Nat) : (s.wr r w i).feed = s.feed := regs_feed s _
@[simp] theorem wr_str (s : State) (r : RegId) (w : Word) (i : Nat) : (s.wr r w i).str = s.str := regs_str s _
@[simp] theorem wr_cdl (s : State) (r : RegId) (w : Word) (i : Nat) : (s.wr r w i).cdl = s.cdl := regs_cdl s _
@[simp] theorem wr_can (s : State) (r : RegId) (w : Word) (i : Nat) : (s.wr r w i).can = s.can := regs_can s _

@[simp] theorem setF_pending (s : State) (f : Fld) (v i : Nat) : (s.setF f v i).pending = s.pending := regs_pending s _
@[simp] theorem setF_tick (s : State) (f : Fld) (v i : Nat) : (s.setF f v i).tick = s.tick := regs_tick s _
@[simp] theorem setF_merTime (s : State) (f : Fld) (v i : Nat) : (s.setF f v i).merTime = s.merTime := regs_merTime s _
@[simp] theorem setF_pwmTime (s : State) (f : Fld) (v i : Nat) : (s.setF f v i).pwmTime = s.pwmTime := regs_pwmTime s _
@[simp] theorem setF_free (s : State) (f : Fld) (v i : Nat) : (s.setF f v i).free = s.free := regs_free s _
@[simp] theorem setF_sram (s : State) (f : Fld) (v i : Nat) : (s.setF f v i).sram = s.sram := regs_sram s _
@[simp] theorem setF_outs (s : State) (f : Fld) (v i : Nat) : (s.setF f v i).outs = s.outs := regs_outs s _
@[simp] theorem setF_hst (s : State) (f : Fld) (v i : Nat) : (s.setF f v i).hst = s.hst := regs_hst s _
@[simp] theorem setF_flt (s : State) (f : Fld) (v i : Nat) : (s.setF f v i).flt = s.flt := regs_flt s _
@[simp] theorem setF_sys (s : State) (f : Fld) (v i : Nat) : (s.setF f v i).sys = s.sys := regs_sys s _
@[simp] theorem setF_gate (s : State) (f : Fld) (v i : Nat) : (s.setF f v i).gate = s.gate := regs_gate s _
@[simp] theorem setF_pwm (s : State) (f : Fld) (v i : Nat) : (s.setF f v i).pwm = s.pwm := regs_pwm s _
@[simp] theorem setF_ax (s : State) (f : Fld) (v i : Nat) : (s.setF f v i).ax = s.ax := regs_ax s _
@[simp] theorem setF_lan (s : State) (f : Fld) (v i : Nat) : (s.setF f v i).lan = s.lan := regs_lan s _
@[simp] theorem setF_nv (s : State) (f : Fld) (v i : Nat) : (s.setF f v i).nv = s.nv := regs_nv s _
@[simp] theorem setF_em (s : State) (f : Fld) (v i : Nat) : (s.setF f v i).em = s.em := regs_em s _
@[simp] theorem setF_share (s : State) (f : Fld) (v i : Nat) : (s.setF f v i).share = s.share := regs_share s _
@[simp] theorem setF_mot (s : State) (f : Fld) (v i : Nat) : (s.setF f v i).mot = s.mot := regs_mot s _
@[simp] theorem setF_fio (s : State) (f : Fld) (v i : Nat) : (s.setF f v i).fio = s.fio := regs_fio s _
@[simp] theorem setF_eng (s : State) (f : Fld) (v i : Nat) : (s.setF f v i).eng = s.eng := regs_eng s _
@[simp] theorem setF_obs (s : State) (f : Fld) (v i : Nat) : (s.setF f v i).obs = s.obs := regs_obs s _
@[simp] theorem setF_ai (s : State) (f : Fld) (v i : Nat) : (s.setF f v i).ai = s.ai := regs_ai s _
@[simp] theorem setF_mer (s : State) (f : Fld) (v i : Nat) : (s.setF f v i).mer = s.mer := regs_mer s _
@[simp] theorem setF_lamp (s : State) (f : Fld) (v i : Nat) : (s.setF f v i).lamp = s.lamp := regs_lamp s _
@[simp] theorem setF_mem (s : State) (f : Fld) (v i : Nat) : (s.setF f v i).mem = s.mem := regs_mem s _
@[simp] theorem setF_feed (s : State) (f : Fld) (v i : Nat) : (s.setF f v i).feed = s.feed := regs_feed s _
@[simp] theorem setF_str (s : State) (f : Fld) (v i : Nat) : (s.setF f v i).str = s.str := regs_str s _
@[simp] theorem setF_cdl (s : State) (f : Fld) (v i : Nat) : (s.setF f v i).cdl = s.cdl := regs_cdl s _
@[simp] theorem setF_can (s : State) (f : Fld) (v i : Nat) : (s.setF f v i).can = s.can := regs_can s _

@[simp] theorem raiseF_pending (s : State) (f : Fld) (i : Nat) : (s.raiseF f i).pending = s.pending := regs_pending s _
@[simp] theorem raiseF_tick (s : State) (f : Fld) (i : Nat) : (s.raiseF f i).tick = s.tick := regs_tick s _
@[simp] theorem raiseF_merTime (s : State) (f : Fld) (i : Nat) : (s.raiseF f i).merTime = s.merTime := regs_merTime s _
@[simp] theorem raiseF_pwmTime (s : State) (f : Fld) (i : Nat) : (s.raiseF f i).pwmTime = s.pwmTime := regs_pwmTime s _
@[simp] theorem raiseF_free (s : State) (f : Fld) (i : Nat) : (s.raiseF f i).free = s.free := regs_free s _
@[simp] theorem raiseF_sram (s : State) (f : Fld) (i : Nat) : (s.raiseF f i).sram = s.sram := regs_sram s _
@[simp] theorem raiseF_outs (s : State) (f : Fld) (i : Nat) : (s.raiseF f i).outs = s.outs := regs_outs s _
@[simp] theorem raiseF_hst (s : State) (f : Fld) (i : Nat) : (s.raiseF f i).hst = s.hst := regs_hst s _
@[simp] theorem raiseF_flt (s : State) (f : Fld) (i : Nat) : (s.raiseF f i).flt = s.flt := regs_flt s _
@[simp] theorem raiseF_sys (s : State) (f : Fld) (i : Nat) : (s.raiseF f i).sys = s.sys := regs_sys s _
@[simp] theorem raiseF_gate (s : State) (f : Fld) (i : Nat) : (s.raiseF f i).gate = s.gate := regs_gate s _
@[simp] theorem raiseF_pwm (s : State) (f : Fld) (i : Nat) : (s.raiseF f i).pwm = s.pwm := regs_pwm s _
@[simp] theorem raiseF_ax (s : State) (f : Fld) (i : Nat) : (s.raiseF f i).ax = s.ax := regs_ax s _
@[simp] theorem raiseF_lan (s : State) (f : Fld) (i : Nat) : (s.raiseF f i).lan = s.lan := regs_lan s _
@[simp] theorem raiseF_nv (s : State) (f : Fld) (i : Nat) : (s.raiseF f i).nv = s.nv := regs_nv s _
@[simp] theorem raiseF_em (s : State) (f : Fld) (i : Nat) : (s.raiseF f i).em = s.em := regs_em s _
@[simp] theorem raiseF_share (s : State) (f : Fld) (i : Nat) : (s.raiseF f i).share = s.share := regs_share s _
@[simp] theorem raiseF_mot (s : State) (f : Fld) (i : Nat) : (s.raiseF f i).mot = s.mot := regs_mot s _
@[simp] theorem raiseF_fio (s : State) (f : Fld) (i : Nat) : (s.raiseF f i).fio = s.fio := regs_fio s _
@[simp] theorem raiseF_eng (s : State) (f : Fld) (i : Nat) : (s.raiseF f i).eng = s.eng := regs_eng s _
@[simp] theorem raiseF_obs (s : State) (f : Fld) (i : Nat) : (s.raiseF f i).obs = s.obs := regs_obs s _
@[simp] theorem raiseF_ai (s : State) (f : Fld) (i : Nat) : (s.raiseF f i).ai = s.ai := regs_ai s _
@[simp] theorem raiseF_mer (s : State) (f : Fld) (i : Nat) : (s.raiseF f i).mer = s.mer := regs_mer s _
@[simp] theorem raiseF_lamp (s : State) (f : Fld) (i : Nat) : (s.raiseF f i).lamp = s.lamp := regs_lamp s _
@[simp] theorem raiseF_mem (s : State) (f : Fld) (i : Nat) : (s.raiseF f i).mem = s.mem := regs_mem s _
@[simp] theorem raiseF_feed (s : State) (f : Fld) (i : Nat) : (s.raiseF f i).feed = s.feed := regs_feed s _
@[simp] theorem raiseF_str (s : State) (f : Fld) (i : Nat) : (s.raiseF f i).str = s.str := regs_str s _
@[simp] theorem raiseF_cdl (s : State) (f : Fld) (i : Nat) : (s.raiseF f i).cdl = s.cdl := regs_cdl s _
@[simp] theorem raiseF_can (s : State) (f : Fld) (i : Nat) : (s.raiseF f i).can = s.can := regs_can s _

@[simp] theorem setBit_pending (s : State) (f : Fld) (k : Nat) (v : Bool) (i : Nat) : (s.setBit f k v i).pending = s.pending := regs_pending s _
@[simp] theorem setBit_tick (s : State) (f : Fld) (k : Nat) (v : Bool) (i : Nat) : (s.setBit f k v i).tick = s.tick := regs_tick s _
@[simp] theorem setBit_merTime (s : State) (f : Fld) (k : Nat) (v : Bool) (i : Nat) : (s.setBit f k v i).merTime = s.merTime := regs_merTime s _
@[simp] theorem setBit_pwmTime (s : State) (f : Fld) (k : Nat) (v : Bool) (i : Nat) : (s.setBit f k v i).pwmTime = s.pwmTime := regs_pwmTime s _
@[simp] theorem setBit_free (s : State) (f : Fld) (k : Nat) (v : Bool) (i : Nat) : (s.setBit f k v i).free = s.free := regs_free s _
@[simp] theorem setBit_sram (s : State) (f : Fld) (k : Nat) (v : Bool) (i : Nat) : (s.setBit f k v i).sram = s.sram := regs_sram s _
@[simp] theorem setBit_outs (s : State) (f : Fld) (k : Nat) (v : Bool) (i : Nat) : (s.setBit f k v i).outs = s.outs := regs_outs s _
@[simp] theorem setBit_hst (s : State) (f : Fld) (k : Nat) (v : Bool) (i : Nat) : (s.setBit f k v i).hst = s.hst := regs_hst s _
@[simp] theorem setBit_flt (s : State) (f : Fld) (k : Nat) (v : Bool) (i : Nat) : (s.setBit f k v i).flt = s.flt := regs_flt s _
@[simp] theorem setBit_sys (s : State) (f : Fld) (k : Nat) (v : Bool) (i : Nat) : (s.setBit f k v i).sys = s.sys := regs_sys s _
@[simp] theorem setBit_gate (s : State) (f : Fld) (k : Nat) (v : Bool) (i : Nat) : (s.setBit f k v i).gate = s.gate := regs_gate s _
@[simp] theorem setBit_pwm (s : State) (f : Fld) (k : Nat) (v : Bool) (i : Nat) : (s.setBit f k v i).pwm = s.pwm := regs_pwm s _
@[simp] theorem setBit_ax (s : State) (f : Fld) (k : Nat) (v : Bool) (i : Nat) : (s.setBit f k v i).ax = s.ax := regs_ax s _
@[simp] theorem setBit_lan (s : State) (f : Fld) (k : Nat) (v : Bool) (i : Nat) : (s.setBit f k v i).lan = s.lan := regs_lan s _
@[simp] theorem setBit_nv (s : State) (f : Fld) (k : Nat) (v : Bool) (i : Nat) : (s.setBit f k v i).nv = s.nv := regs_nv s _
@[simp] theorem setBit_em (s : State) (f : Fld) (k : Nat) (v : Bool) (i : Nat) : (s.setBit f k v i).em = s.em := regs_em s _
@[simp] theorem setBit_share (s : State) (f : Fld) (k : Nat) (v : Bool) (i : Nat) : (s.setBit f k v i).share = s.share := regs_share s _
@[simp] theorem setBit_mot (s : State) (f : Fld) (k : Nat) (v : Bool) (i : Nat) : (s.setBit f k v i).mot = s.mot := regs_mot s _
@[simp] theorem setBit_fio (s : State) (f : Fld) (k : Nat) (v : Bool) (i : Nat) : (s.setBit f k v i).fio = s.fio := regs_fio s _
@[simp] theorem setBit_eng (s : State) (f : Fld) (k : Nat) (v : Bool) (i : Nat) : (s.setBit f k v i).eng = s.eng := regs_eng s _
@[simp] theorem setBit_obs (s : State) (f : Fld) (k : Nat) (v : Bool) (i : Nat) : (s.setBit f k v i).obs = s.obs := regs_obs s _
@[simp] theorem setBit_ai (s : State) (f : Fld) (k : Nat) (v : Bool) (i : Nat) : (s.setBit f k v i).ai = s.ai := regs_ai s _
@[simp] theorem setBit_mer (s : State) (f : Fld) (k : Nat) (v : Bool) (i : Nat) : (s.setBit f k v i).mer = s.mer := regs_mer s _
@[simp] theorem setBit_lamp (s : State) (f : Fld) (k : Nat) (v : Bool) (i : Nat) : (s.setBit f k v i).lamp = s.lamp := regs_lamp s _
@[simp] theorem setBit_mem (s : State) (f : Fld) (k : Nat) (v : Bool) (i : Nat) : (s.setBit f k v i).mem = s.mem := regs_mem s _
@[simp] theorem setBit_feed (s : State) (f : Fld) (k : Nat) (v : Bool) (i : Nat) : (s.setBit f k v i).feed = s.feed := regs_feed s _
@[simp] theorem setBit_str (s : State) (f : Fld) (k : Nat) (v : Bool) (i : Nat) : (s.setBit f k v i).str = s.str := regs_str s _
@[simp] theorem setBit_cdl (s : State) (f : Fld) (k : Nat) (v : Bool) (i : Nat) : (s.setBit f k v i).cdl = s.cdl := regs_cdl s _
@[simp] theorem setBit_can (s : State) (f : Fld) (k : Nat) (v : Bool) (i : Nat) : (s.setBit f k v i).can = s.can := regs_can s _

@[simp] theorem bump_pending (s : State) (f : Fld) (i : Nat) : (s.bump f i).pending = s.pending := regs_pending s _
@[simp] theorem bump_tick (s : State) (f : Fld) (i : Nat) : (s.bump f i).tick = s.tick := regs_tick s _
@[simp] theorem bump_merTime (s : State) (f : Fld) (i : Nat) : (s.bump f i).merTime = s.merTime := regs_merTime s _
@[simp] theorem bump_pwmTime (s : State) (f : Fld) (i : Nat) : (s.bump f i).pwmTime = s.pwmTime := regs_pwmTime s _
@[simp] theorem bump_free (s : State) (f : Fld) (i : Nat) : (s.bump f i).free = s.free := regs_free s _
@[simp] theorem bump_sram (s : State) (f : Fld) (i : Nat) : (s.bump f i).sram = s.sram := regs_sram s _
@[simp] theorem bump_outs (s : State) (f : Fld) (i : Nat) : (s.bump f i).outs = s.outs := regs_outs s _
@[simp] theorem bump_hst (s : State) (f : Fld) (i : Nat) : (s.bump f i).hst = s.hst := regs_hst s _
@[simp] theorem bump_flt (s : State) (f : Fld) (i : Nat) : (s.bump f i).flt = s.flt := regs_flt s _
@[simp] theorem bump_sys (s : State) (f : Fld) (i : Nat) : (s.bump f i).sys = s.sys := regs_sys s _
@[simp] theorem bump_gate (s : State) (f : Fld) (i : Nat) : (s.bump f i).gate = s.gate := regs_gate s _
@[simp] theorem bump_pwm (s : State) (f : Fld) (i : Nat) : (s.bump f i).pwm = s.pwm := regs_pwm s _
@[simp] theorem bump_ax (s : State) (f : Fld) (i : Nat) : (s.bump f i).ax = s.ax := regs_ax s _
@[simp] theorem bump_lan (s : State) (f : Fld) (i : Nat) : (s.bump f i).lan = s.lan := regs_lan s _
@[simp] theorem bump_nv (s : State) (f : Fld) (i : Nat) : (s.bump f i).nv = s.nv := regs_nv s _
@[simp] theorem bump_em (s : State) (f : Fld) (i : Nat) : (s.bump f i).em = s.em := regs_em s _
@[simp] theorem bump_share (s : State) (f : Fld) (i : Nat) : (s.bump f i).share = s.share := regs_share s _
@[simp] theorem bump_mot (s : State) (f : Fld) (i : Nat) : (s.bump f i).mot = s.mot := regs_mot s _
@[simp] theorem bump_fio (s : State) (f : Fld) (i : Nat) : (s.bump f i).fio = s.fio := regs_fio s _
@[simp] theorem bump_eng (s : State) (f : Fld) (i : Nat) : (s.bump f i).eng = s.eng := regs_eng s _
@[simp] theorem bump_obs (s : State) (f : Fld) (i : Nat) : (s.bump f i).obs = s.obs := regs_obs s _
@[simp] theorem bump_ai (s : State) (f : Fld) (i : Nat) : (s.bump f i).ai = s.ai := regs_ai s _
@[simp] theorem bump_mer (s : State) (f : Fld) (i : Nat) : (s.bump f i).mer = s.mer := regs_mer s _
@[simp] theorem bump_lamp (s : State) (f : Fld) (i : Nat) : (s.bump f i).lamp = s.lamp := regs_lamp s _
@[simp] theorem bump_mem (s : State) (f : Fld) (i : Nat) : (s.bump f i).mem = s.mem := regs_mem s _
@[simp] theorem bump_feed (s : State) (f : Fld) (i : Nat) : (s.bump f i).feed = s.feed := regs_feed s _
@[simp] theorem bump_str (s : State) (f : Fld) (i : Nat) : (s.bump f i).str = s.str := regs_str s _
@[simp] theorem bump_cdl (s : State) (f : Fld) (i : Nat) : (s.bump f i).cdl = s.cdl := regs_cdl s _
@[simp] theorem bump_can (s : State) (f : Fld) (i : Nat) : (s.bump f i).can = s.can := regs_can s _

@[simp] theorem elapse_pending (s : State) (n : Nat) : (s.elapse n).pending = s.pending := rfl
@[simp] theorem elapse_free (s : State) (n : Nat) : (s.elapse n).free = s.free := rfl
@[simp] theorem elapse_regs (s : State) (n : Nat) : (s.elapse n).regs = s.regs := rfl
@[simp] theorem elapse_sram (s : State) (n : Nat) : (s.elapse n).sram = s.sram := rfl
@[simp] theorem elapse_outs (s : State) (n : Nat) : (s.elapse n).outs = s.outs := rfl
@[simp] theorem elapse_hst (s : State) (n : Nat) : (s.elapse n).hst = s.hst := rfl
@[simp] theorem elapse_flt (s : State) (n : Nat) : (s.elapse n).flt = s.flt := rfl
@[simp] theorem elapse_sys (s : State) (n : Nat) : (s.elapse n).sys = s.sys := rfl
@[simp] theorem elapse_gate (s : State) (n : Nat) : (s.elapse n).gate = s.gate := rfl
@[simp] theorem elapse_pwm (s : State) (n : Nat) : (s.elapse n).pwm = s.pwm := rfl
@[simp] theorem elapse_ax (s : State) (n : Nat) : (s.elapse n).ax = s.ax := rfl
@[simp] theorem elapse_lan (s : State) (n : Nat) : (s.elapse n).lan = s.lan := rfl
@[simp] theorem elapse_nv (s : State) (n : Nat) : (s.elapse n).nv = s.nv := rfl
@[simp] theorem elapse_em (s : State) (n : Nat) : (s.elapse n).em = s.em := rfl
@[simp] theorem elapse_share (s : State) (n : Nat) : (s.elapse n).share = s.share := rfl
@[simp] theorem elapse_mot (s : State) (n : Nat) : (s.elapse n).mot = s.mot := rfl
@[simp] theorem elapse_fio (s : State) (n : Nat) : (s.elapse n).fio = s.fio := rfl
@[simp] theorem elapse_eng (s : State) (n : Nat) : (s.elapse n).eng = s.eng := rfl
@[simp] theorem elapse_obs (s : State) (n : Nat) : (s.elapse n).obs = s.obs := rfl
@[simp] theorem elapse_ai (s : State) (n : Nat) : (s.elapse n).ai = s.ai := rfl
@[simp] theorem elapse_mer (s : State) (n : Nat) : (s.elapse n).mer = s.mer := rfl
@[simp] theorem elapse_lamp (s : State) (n : Nat) : (s.elapse n).lamp = s.lamp := rfl
@[simp] theorem elapse_mem (s : State) (n : Nat) : (s.elapse n).mem = s.mem := rfl
@[simp] theorem elapse_feed (s : State) (n : Nat) : (s.elapse n).feed = s.feed := rfl
@[simp] theorem elapse_str (s : State) (n : Nat) : (s.elapse n).str = s.str := rfl
@[simp] theorem elapse_cdl (s : State) (n : Nat) : (s.elapse n).cdl = s.cdl := rfl
@[simp] theorem elapse_can (s : State) (n : Nat) : (s.elapse n).can = s.can := rfl

@[simp] theorem elapseTo_pending (s : State) (n : Nat) : (s.elapseTo n).pending = s.pending := rfl
@[simp] theorem elapseTo_free (s : State) (n : Nat) : (s.elapseTo n).free = s.free := rfl
@[simp] theorem elapseTo_regs (s : State) (n : Nat) : (s.elapseTo n).regs = s.regs := rfl
@[simp] theorem elapseTo_sram (s : State) (n : Nat) : (s.elapseTo n).sram = s.sram := rfl
@[simp] theorem elapseTo_outs (s : State) (n : Nat) : (s.elapseTo n).outs = s.outs := rfl
@[simp] theorem elapseTo_hst (s : State) (n : Nat) : (s.elapseTo n).hst = s.hst := rfl
@[simp] theorem elapseTo_flt (s : State) (n : Nat) : (s.elapseTo n).flt = s.flt := rfl
@[simp] theorem elapseTo_sys (s : State) (n : Nat) : (s.elapseTo n).sys = s.sys := rfl
@[simp] theorem elapseTo_gate (s : State) (n : Nat) : (s.elapseTo n).gate = s.gate := rfl
@[simp] theorem elapseTo_pwm (s : State) (n : Nat) : (s.elapseTo n).pwm = s.pwm := rfl
@[simp] theorem elapseTo_ax (s : State) (n : Nat) : (s.elapseTo n).ax = s.ax := rfl
@[simp] theorem elapseTo_lan (s : State) (n : Nat) : (s.elapseTo n).lan = s.lan := rfl
@[simp] theorem elapseTo_nv (s : State) (n : Nat) : (s.elapseTo n).nv = s.nv := rfl
@[simp] theorem elapseTo_em (s : State) (n : Nat) : (s.elapseTo n).em = s.em := rfl
@[simp] theorem elapseTo_share (s : State) (n : Nat) : (s.elapseTo n).share = s.share := rfl
@[simp] theorem elapseTo_mot (s : State) (n : Nat) : (s.elapseTo n).mot = s.mot := rfl
@[simp] theorem elapseTo_fio (s : State) (n : Nat) : (s.elapseTo n).fio = s.fio := rfl
@[simp] theorem elapseTo_eng (s : State) (n : Nat) : (s.elapseTo n).eng = s.eng := rfl
@[simp] theorem elapseTo_obs (s : State) (n : Nat) : (s.elapseTo n).obs = s.obs := rfl
@[simp] theorem elapseTo_ai (s : State) (n : Nat) : (s.elapseTo n).ai = s.ai := rfl
@[simp] theorem elapseTo_mer (s : State) (n : Nat) : (s.elapseTo n).mer = s.mer := rfl
@[simp] theorem elapseTo_lamp (s : State) (n : Nat) : (s.elapseTo n).lamp = s.lamp := rfl
@[simp] theorem elapseTo_mem (s : State) (n : Nat) : (s.elapseTo n).mem = s.mem := rfl
@[simp] theorem elapseTo_feed (s : State) (n : Nat) : (s.elapseTo n).feed = s.feed := rfl
@[simp] theorem elapseTo_str (s : State) (n : Nat) : (s.elapseTo n).str = s.str := rfl
@[simp] theorem elapseTo_cdl (s : State) (n : Nat) : (s.elapseTo n).cdl = s.cdl := rfl
@[simp] theorem elapseTo_can (s : State) (n : Nat) : (s.elapseTo n).can = s.can := rfl

@[simp] theorem elapseFrom_pending (s : State) (n m : Nat) : (s.elapseFrom n m).pending = s.pending := rfl
@[simp] theorem elapseFrom_free (s : State) (n m : Nat) : (s.elapseFrom n m).free = s.free := rfl
@[simp] theorem elapseFrom_regs (s : State) (n m : Nat) : (s.elapseFrom n m).regs = s.regs := rfl
@[simp] theorem elapseFrom_sram (s : State) (n m : Nat) : (s.elapseFrom n m).sram = s.sram := rfl
@[simp] theorem elapseFrom_outs (s : State) (n m : Nat) : (s.elapseFrom n m).outs = s.outs := rfl
@[simp] theorem elapseFrom_hst (s : State) (n m : Nat) : (s.elapseFrom n m).hst = s.hst := rfl
@[simp] theorem elapseFrom_flt (s : State) (n m : Nat) : (s.elapseFrom n m).flt = s.flt := rfl
@[simp] theorem elapseFrom_sys (s : State) (n m : Nat) : (s.elapseFrom n m).sys = s.sys := rfl
@[simp] theorem elapseFrom_gate (s : State) (n m : Nat) : (s.elapseFrom n m).gate = s.gate := rfl
@[simp] theorem elapseFrom_pwm (s : State) (n m : Nat) : (s.elapseFrom n m).pwm = s.pwm := rfl
@[simp] theorem elapseFrom_ax (s : State) (n m : Nat) : (s.elapseFrom n m).ax = s.ax := rfl
@[simp] theorem elapseFrom_lan (s : State) (n m : Nat) : (s.elapseFrom n m).lan = s.lan := rfl
@[simp] theorem elapseFrom_nv (s : State) (n m : Nat) : (s.elapseFrom n m).nv = s.nv := rfl
@[simp] theorem elapseFrom_em (s : State) (n m : Nat) : (s.elapseFrom n m).em = s.em := rfl
@[simp] theorem elapseFrom_share (s : State) (n m : Nat) : (s.elapseFrom n m).share = s.share := rfl
@[simp] theorem elapseFrom_mot (s : State) (n m : Nat) : (s.elapseFrom n m).mot = s.mot := rfl
@[simp] theorem elapseFrom_fio (s : State) (n m : Nat) : (s.elapseFrom n m).fio = s.fio := rfl
@[simp] theorem elapseFrom_eng (s : State) (n m : Nat) : (s.elapseFrom n m).eng = s.eng := rfl
@[simp] theorem elapseFrom_obs (s : State) (n m : Nat) : (s.elapseFrom n m).obs = s.obs := rfl
@[simp] theorem elapseFrom_ai (s : State) (n m : Nat) : (s.elapseFrom n m).ai = s.ai := rfl
@[simp] theorem elapseFrom_mer (s : State) (n m : Nat) : (s.elapseFrom n m).mer = s.mer := rfl
@[simp] theorem elapseFrom_lamp (s : State) (n m : Nat) : (s.elapseFrom n m).lamp = s.lamp := rfl
@[simp] theorem elapseFrom_mem (s : State) (n m : Nat) : (s.elapseFrom n m).mem = s.mem := rfl
@[simp] theorem elapseFrom_feed (s : State) (n m : Nat) : (s.elapseFrom n m).feed = s.feed := rfl
@[simp] theorem elapseFrom_str (s : State) (n m : Nat) : (s.elapseFrom n m).str = s.str := rfl
@[simp] theorem elapseFrom_cdl (s : State) (n m : Nat) : (s.elapseFrom n m).cdl = s.cdl := rfl
@[simp] theorem elapseFrom_can (s : State) (n m : Nat) : (s.elapseFrom n m).can = s.can := rfl

@[simp] theorem emit_pending (s : State) (o : Out) : (s.emit o).pending = s.pending := rfl
@[simp] theorem emit_tick (s : State) (o : Out) : (s.emit o).tick = s.tick := rfl
@[simp] theorem emit_merTime (s : State) (o : Out) : (s.emit o).merTime = s.merTime := rfl
@[simp] theorem emit_pwmTime (s : State) (o : Out) : (s.emit o).pwmTime = s.pwmTime := rfl
@[simp] theorem emit_free (s : State) (o : Out) : (s.emit o).free = s.free := rfl
@[simp] theorem emit_regs (s : State) (o : Out) : (s.emit o).regs = s.regs := rfl
@[simp] theorem emit_sram (s : State) (o : Out) : (s.emit o).sram = s.sram := rfl
@[simp] theorem emit_hst (s : State) (o : Out) : (s.emit o).hst = s.hst := rfl
@[simp] theorem emit_flt (s : State) (o : Out) : (s.emit o).flt = s.flt := rfl
@[simp] theorem emit_sys (s : State) (o : Out) : (s.emit o).sys = s.sys := rfl
@[simp] theorem emit_gate (s : State) (o : Out) : (s.emit o).gate = s.gate := rfl
@[simp] theorem emit_pwm (s : State) (o : Out) : (s.emit o).pwm = s.pwm := rfl
@[simp] theorem emit_ax (s : State) (o : Out) : (s.emit o).ax = s.ax := rfl
@[simp] theorem emit_lan (s : State) (o : Out) : (s.emit o).lan = s.lan := rfl
@[simp] theorem emit_nv (s : State) (o : Out) : (s.emit o).nv = s.nv := rfl
@[simp] theorem emit_em (s : State) (o : Out) : (s.emit o).em = s.em := rfl
@[simp] theorem emit_share (s : State) (o : Out) : (s.emit o).share = s.share := rfl
@[simp] theorem emit_mot (s : State) (o : Out) : (s.emit o).mot = s.mot := rfl
@[simp] theorem emit_fio (s : State) (o : Out) : (s.emit o).fio = s.fio := rfl
@[simp] theorem emit_eng (s : State) (o : Out) : (s.emit o).eng = s.eng := rfl
@[simp] theorem emit_obs (s : State) (o : Out) : (s.emit o).obs = s.obs := rfl
@[simp] theorem emit_ai (s : State) (o : Out) : (s.emit o).ai = s.ai := rfl
@[simp] theorem emit_mer (s : State) (o : Out) : (s.emit o).mer = s.mer := rfl
@[simp] theorem emit_lamp (s : State) (o : Out) : (s.emit o).lamp = s.lamp := rfl
@[simp] theorem emit_mem (s : State) (o : Out) : (s.emit o).mem = s.mem := rfl
@[simp] theorem emit_feed (s : State) (o : Out) : (s.emit o).feed = s.feed := rfl
@[simp] theorem emit_str (s : State) (o : Out) : (s.emit o).str = s.str := rfl
@[simp] theorem emit_cdl (s : State) (o : Out) : (s.emit o).cdl = s.cdl := rfl
@[simp] theorem emit_can (s : State) (o : Out) : (s.emit o).can = s.can := rfl

@[simp] theorem updAxis_pending (s : State) (n : Nat) (f : Axis → Axis) : (s.updAxis n f).pending = s.pending := rfl
@[simp] theorem updAxis_tick (s : State) (n : Nat) (f : Axis → Axis) : (s.updAxis n f).tick = s.tick := rfl
@[simp] theorem updAxis_merTime (s : State) (n : Nat) (f : Axis → Axis) : (s.updAxis n f).merTime = s.merTime := rfl
@[simp] theorem updAxis_pwmTime (s : State) (n : Nat) (f : Axis → Axis) : (s.updAxis n f).pwmTime = s.pwmTime := rfl
@[simp] theorem updAxis_free (s : State) (n : Nat) (f : Axis → Axis) : (s.updAxis n f).free = s.free := rfl
@[simp] theorem updAxis_regs (s : State) (n : Nat) (f : Axis → Axis) : (s.updAxis n f).regs = s.regs := rfl
@[simp] theorem updAxis_sram (s : State) (n : Nat) (f : Axis → Axis) : (s.updAxis n f).sram = s.sram := rfl
@[simp] theorem updAxis_outs (s : State) (n : Nat) (f : Axis → Axis) : (s.updAxis n f).outs = s.outs := rfl
@[simp] theorem updAxis_hst (s : State) (n : Nat) (f : Axis → Axis) : (s.updAxis n f).hst = s.hst := rfl
@[simp] theorem updAxis_flt (s : State) (n : Nat) (f : Axis → Axis) : (s.updAxis n f).flt = s.flt := rfl
@[simp] theorem updAxis_sys (s : State) (n : Nat) (f : Axis → Axis) : (s.updAxis n f).sys = s.sys := rfl
@[simp] theorem updAxis_gate (s : State) (n : Nat) (f : Axis → Axis) : (s.updAxis n f).gate = s.gate := rfl
@[simp] theorem updAxis_pwm (s : State) (n : Nat) (f : Axis → Axis) : (s.updAxis n f).pwm = s.pwm := rfl
@[simp] theorem updAxis_lan (s : State) (n : Nat) (f : Axis → Axis) : (s.updAxis n f).lan = s.lan := rfl
@[simp] theorem updAxis_nv (s : State) (n : Nat) (f : Axis → Axis) : (s.updAxis n f).nv = s.nv := rfl
@[simp] theorem updAxis_em (s : State) (n : Nat) (f : Axis → Axis) : (s.updAxis n f).em = s.em := rfl
@[simp] theorem updAxis_share (s : State) (n : Nat) (f : Axis → Axis) : (s.updAxis n f).share = s.share := rfl
@[simp] theorem updAxis_mot (s : State) (n : Nat) (f : Axis → Axis) : (s.updAxis n f).mot = s.mot := rfl
@[simp] theorem updAxis_fio (s : State) (n : Nat) (f : Axis → Axis) : (s.updAxis n f).fio = s.fio := rfl
@[simp] theorem updAxis_eng (s : State) (n : Nat) (f : Axis → Axis) : (s.updAxis n f).eng = s.eng := rfl
@[simp] theorem updAxis_obs (s : State) (n : Nat) (f : Axis → Axis) : (s.updAxis n f).obs = s.obs := rfl
@[simp] theorem updAxis_ai (s : State) (n : Nat) (f : Axis → Axis) : (s.updAxis n f).ai = s.ai := rfl
@[simp] theorem updAxis_mer (s : State) (n : Nat) (f : Axis → Axis) : (s.updAxis n f).mer = s.mer := rfl
@[simp] theorem updAxis_lamp (s : State) (n : Nat) (f : Axis → Axis) : (s.updAxis n f).lamp = s.lamp := rfl
@[simp] theorem updAxis_mem (s : State) (n : Nat) (f : Axis → Axis) : (s.updAxis n f).mem = s.mem := rfl
@[simp] theorem updAxis_feed (s : State) (n : Nat) (f : Axis → Axis) : (s.updAxis n f).feed = s.feed := rfl
@[simp] theorem updAxis_str (s : State) (n : Nat) (f : Axis → Axis) : (s.updAxis n f).str = s.str := rfl
@[simp] theorem updAxis_cdl (s : State) (n : Nat) (f : Axis → Axis) : (s.updAxis n f).cdl = s.cdl := rfl
@[simp] theorem updAxis_can (s : State) (n : Nat) (f : Axis → Axis) : (s.updAxis n f).can = s.can := rfl

@[simp] theorem updBridge_pending (s : State) (n : Nat) (f : Bridge → Bridge) : (s.updBridge n f).pending = s.pending := rfl
@[simp] theorem updBridge_tick (s : State) (n : Nat) (f : Bridge → Bridge) : (s.updBridge n f).tick = s.tick := rfl
@[simp] theorem updBridge_merTime (s : State) (n : Nat) (f : Bridge → Bridge) : (s.updBridge n f).merTime = s.merTime := rfl
@[simp] theorem updBridge_pwmTime (s : State) (n : Nat) (f : Bridge → Bridge) : (s.updBridge n f).pwmTime = s.pwmTime := rfl
@[simp] theorem updBridge_free (s : State) (n : Nat) (f : Bridge → Bridge) : (s.updBridge n f).free = s.free := rfl
@[simp] theorem updBridge_regs (s : State) (n : Nat) (f : Bridge → Bridge) : (s.updBridge n f).regs = s.regs := rfl
@[simp] theorem updBridge_sram (s : State) (n : Nat) (f : Bridge → Bridge) : (s.updBridge n f).sram = s.sram := rfl
@[simp] theorem updBridge_outs (s : State) (n : Nat) (f : Bridge → Bridge) : (s.updBridge n f).outs = s.outs := rfl
@[simp] theorem updBridge_hst (s : State) (n : Nat) (f : Bridge → Bridge) : (s.updBridge n f).hst = s.hst := rfl
@[simp] theorem updBridge_flt (s : State) (n : Nat) (f : Bridge → Bridge) : (s.updBridge n f).flt = s.flt := rfl
@[simp] theorem updBridge_sys (s : State) (n : Nat) (f : Bridge → Bridge) : (s.updBridge n f).sys = s.sys := rfl
@[simp] theorem updBridge_gate (s : State) (n : Nat) (f : Bridge → Bridge) : (s.updBridge n f).gate = s.gate := rfl
@[simp] theorem updBridge_ax (s : State) (n : Nat) (f : Bridge → Bridge) : (s.updBridge n f).ax = s.ax := rfl
@[simp] theorem updBridge_lan (s : State) (n : Nat) (f : Bridge → Bridge) : (s.updBridge n f).lan = s.lan := rfl
@[simp] theorem updBridge_nv (s : State) (n : Nat) (f : Bridge → Bridge) : (s.updBridge n f).nv = s.nv := rfl
@[simp] theorem updBridge_em (s : State) (n : Nat) (f : Bridge → Bridge) : (s.updBridge n f).em = s.em := rfl
@[simp] theorem updBridge_share (s : State) (n : Nat) (f : Bridge → Bridge) : (s.updBridge n f).share = s.share := rfl
@[simp] theorem updBridge_mot (s : State) (n : Nat) (f : Bridge → Bridge) : (s.updBridge n f).mot = s.mot := rfl
@[simp] theorem updBridge_fio (s : State) (n : Nat) (f : Bridge → Bridge) : (s.updBridge n f).fio = s.fio := rfl
@[simp] theorem updBridge_eng (s : State) (n : Nat) (f : Bridge → Bridge) : (s.updBridge n f).eng = s.eng := rfl
@[simp] theorem updBridge_obs (s : State) (n : Nat) (f : Bridge → Bridge) : (s.updBridge n f).obs = s.obs := rfl
@[simp] theorem updBridge_ai (s : State) (n : Nat) (f : Bridge → Bridge) : (s.updBridge n f).ai = s.ai := rfl
@[simp] theorem updBridge_mer (s : State) (n : Nat) (f : Bridge → Bridge) : (s.updBridge n f).mer = s.mer := rfl
@[simp] theorem updBridge_lamp (s : State) (n : Nat) (f : Bridge → Bridge) : (s.updBridge n f).lamp = s.lamp := rfl
@[simp] theorem updBridge_mem (s : State) (n : Nat) (f : Bridge → Bridge) : (s.updBridge n f).mem = s.mem := rfl
@[simp] theorem updBridge_feed (s : State) (n : Nat) (f : Bridge → Bridge) : (s.updBridge n f).feed = s.feed := rfl
@[simp] theorem updBridge_str (s : State) (n : Nat) (f : Bridge → Bridge) : (s.updBridge n f).str = s.str := rfl
@[simp] theorem updBridge_cdl (s : State) (n : Nat) (f : Bridge → Bridge) : (s.updBridge n f).cdl = s.cdl := rfl
@[simp] theorem updBridge_can (s : State) (n : Nat) (f : Bridge → Bridge) : (s.updBridge n f).can = s.can := rfl

@[simp] theorem updChan_pending (s : State) (n : Nat) (f : Chan → Chan) : (s.updChan n f).pending = s.pending := rfl
@[simp] theorem updChan_tick (s : State) (n : Nat) (f : Chan → Chan) : (s.updChan n f).tick = s.tick := rfl
@[simp] theorem updChan_merTime (s : State) (n : Nat) (f : Chan → Chan) : (s.updChan n f).merTime = s.merTime := rfl
@[simp] theorem updChan_pwmTime (s : State) (n : Nat) (f : Chan → Chan) : (s.updChan n f).pwmTime = s.pwmTime := rfl
@[simp] theorem updChan_free (s : State) (n : Nat) (f : Chan → Chan) : (s.updChan n f).free = s.free := rfl
@[simp] theorem updChan_regs (s : State) (n : Nat) (f : Chan → Chan) : (s.updChan n f).regs = s.regs := rfl
@[simp] theorem updChan_sram (s : State) (n : Nat) (f : Chan → Chan) : (s.updChan n f).sram = s.sram := rfl
@[simp] theorem updChan_outs (s : State) (n : Nat) (f : Chan → Chan) : (s.updChan n f).outs = s.outs := rfl
@[simp] theorem updChan_hst (s : State) (n : Nat) (f : Chan → Chan) : (s.updChan n f).hst = s.hst := rfl
@[simp] theorem updChan_flt (s : State) (n : Nat) (f : Chan → Chan) : (s.updChan n f).flt = s.flt := rfl
@[simp] theorem updChan_sys (s : State) (n : Nat) (f : Chan → Chan) : (s.updChan n f).sys = s.sys := rfl
@[simp] theorem updChan_pwm (s : State) (n : Nat) (f : Chan → Chan) : (s.updChan n f).pwm = s.pwm := rfl
@[simp] theorem updChan_ax (s : State) (n : Nat) (f : Chan → Chan) : (s.updChan n f).ax = s.ax := rfl
@[simp] theorem updChan_lan (s : State) (n : Nat) (f : Chan → Chan) : (s.updChan n f).lan = s.lan := rfl
@[simp] theorem updChan_nv (s : State) (n : Nat) (f : Chan → Chan) : (s.updChan n f).nv = s.nv := rfl
@[simp] theorem updChan_em (s : State) (n : Nat) (f : Chan → Chan) : (s.updChan n f).em = s.em := rfl
@[simp] theorem updChan_share (s : State) (n : Nat) (f : Chan → Chan) : (s.updChan n f).share = s.share := rfl
@[simp] theorem updChan_mot (s : State) (n : Nat) (f : Chan → Chan) : (s.updChan n f).mot = s.mot := rfl
@[simp] theorem updChan_fio (s : State) (n : Nat) (f : Chan → Chan) : (s.updChan n f).fio = s.fio := rfl
@[simp] theorem updChan_eng (s : State) (n : Nat) (f : Chan → Chan) : (s.updChan n f).eng = s.eng := rfl
@[simp] theorem updChan_obs (s : State) (n : Nat) (f : Chan → Chan) : (s.updChan n f).obs = s.obs := rfl
@[simp] theorem updChan_ai (s : State) (n : Nat) (f : Chan → Chan) : (s.updChan n f).ai = s.ai := rfl
@[simp] theorem updChan_mer (s : State) (n : Nat) (f : Chan → Chan) : (s.updChan n f).mer = s.mer := rfl
@[simp] theorem updChan_lamp (s : State) (n : Nat) (f : Chan → Chan) : (s.updChan n f).lamp = s.lamp := rfl
@[simp] theorem updChan_mem (s : State) (n : Nat) (f : Chan → Chan) : (s.updChan n f).mem = s.mem := rfl
@[simp] theorem updChan_feed (s : State) (n : Nat) (f : Chan → Chan) : (s.updChan n f).feed = s.feed := rfl
@[simp] theorem updChan_str (s : State) (n : Nat) (f : Chan → Chan) : (s.updChan n f).str = s.str := rfl
@[simp] theorem updChan_cdl (s : State) (n : Nat) (f : Chan → Chan) : (s.updChan n f).cdl = s.cdl := rfl
@[simp] theorem updChan_can (s : State) (n : Nat) (f : Chan → Chan) : (s.updChan n f).can = s.can := rfl

@[simp] theorem updEng_pending (s : State) (n : Nat) (f : Eng → Eng) : (s.updEng n f).pending = s.pending := rfl
@[simp] theorem updEng_tick (s : State) (n : Nat) (f : Eng → Eng) : (s.updEng n f).tick = s.tick := rfl
@[simp] theorem updEng_merTime (s : State) (n : Nat) (f : Eng → Eng) : (s.updEng n f).merTime = s.merTime := rfl
@[simp] theorem updEng_pwmTime (s : State) (n : Nat) (f : Eng → Eng) : (s.updEng n f).pwmTime = s.pwmTime := rfl
@[simp] theorem updEng_free (s : State) (n : Nat) (f : Eng → Eng) : (s.updEng n f).free = s.free := rfl
@[simp] theorem updEng_regs (s : State) (n : Nat) (f : Eng → Eng) : (s.updEng n f).regs = s.regs := rfl
@[simp] theorem updEng_sram (s : State) (n : Nat) (f : Eng → Eng) : (s.updEng n f).sram = s.sram := rfl
@[simp] theorem updEng_outs (s : State) (n : Nat) (f : Eng → Eng) : (s.updEng n f).outs = s.outs := rfl
@[simp] theorem updEng_hst (s : State) (n : Nat) (f : Eng → Eng) : (s.updEng n f).hst = s.hst := rfl
@[simp] theorem updEng_flt (s : State) (n : Nat) (f : Eng → Eng) : (s.updEng n f).flt = s.flt := rfl
@[simp] theorem updEng_sys (s : State) (n : Nat) (f : Eng → Eng) : (s.updEng n f).sys = s.sys := rfl
@[simp] theorem updEng_gate (s : State) (n : Nat) (f : Eng → Eng) : (s.updEng n f).gate = s.gate := rfl
@[simp] theorem updEng_pwm (s : State) (n : Nat) (f : Eng → Eng) : (s.updEng n f).pwm = s.pwm := rfl
@[simp] theorem updEng_ax (s : State) (n : Nat) (f : Eng → Eng) : (s.updEng n f).ax = s.ax := rfl
@[simp] theorem updEng_lan (s : State) (n : Nat) (f : Eng → Eng) : (s.updEng n f).lan = s.lan := rfl
@[simp] theorem updEng_nv (s : State) (n : Nat) (f : Eng → Eng) : (s.updEng n f).nv = s.nv := rfl
@[simp] theorem updEng_em (s : State) (n : Nat) (f : Eng → Eng) : (s.updEng n f).em = s.em := rfl
@[simp] theorem updEng_share (s : State) (n : Nat) (f : Eng → Eng) : (s.updEng n f).share = s.share := rfl
@[simp] theorem updEng_mot (s : State) (n : Nat) (f : Eng → Eng) : (s.updEng n f).mot = s.mot := rfl
@[simp] theorem updEng_fio (s : State) (n : Nat) (f : Eng → Eng) : (s.updEng n f).fio = s.fio := rfl
@[simp] theorem updEng_obs (s : State) (n : Nat) (f : Eng → Eng) : (s.updEng n f).obs = s.obs := rfl
@[simp] theorem updEng_ai (s : State) (n : Nat) (f : Eng → Eng) : (s.updEng n f).ai = s.ai := rfl
@[simp] theorem updEng_mer (s : State) (n : Nat) (f : Eng → Eng) : (s.updEng n f).mer = s.mer := rfl
@[simp] theorem updEng_lamp (s : State) (n : Nat) (f : Eng → Eng) : (s.updEng n f).lamp = s.lamp := rfl
@[simp] theorem updEng_mem (s : State) (n : Nat) (f : Eng → Eng) : (s.updEng n f).mem = s.mem := rfl
@[simp] theorem updEng_feed (s : State) (n : Nat) (f : Eng → Eng) : (s.updEng n f).feed = s.feed := rfl
@[simp] theorem updEng_str (s : State) (n : Nat) (f : Eng → Eng) : (s.updEng n f).str = s.str := rfl
@[simp] theorem updEng_cdl (s : State) (n : Nat) (f : Eng → Eng) : (s.updEng n f).cdl = s.cdl := rfl
@[simp] theorem updEng_can (s : State) (n : Nat) (f : Eng → Eng) : (s.updEng n f).can = s.can := rfl

/-! ## What they change -/

@[simp] theorem elapse_tick (s : State) (n : Nat) : (s.elapse n).tick = s.tick + n := rfl
@[simp] theorem emit_outs (s : State) (o : Out) : (s.emit o).outs = o :: s.outs := rfl
@[simp] theorem updAxis_ax (s : State) (n : Nat) (f : Axis → Axis) : (s.updAxis n f).ax = upd s.ax n f := rfl
@[simp] theorem updEng_eng (s : State) (n : Nat) (f : Eng → Eng) : (s.updEng n f).eng = upd s.eng n f := rfl
theorem updBridge_pwm (s : State) (n : Nat) (f : Bridge → Bridge) :
    (s.updBridge n f).pwm = { s.pwm with bridges := upd s.pwm.bridges n f } := rfl
theorem updChan_gate (s : State) (n : Nat) (f : Chan → Chan) :
    (s.updChan n f).gate = { s.gate with chans := upd s.gate.chans n f } := rfl

/-- Time passes to a tick that lies ahead, and not otherwise. -/
theorem elapseTo_tick (s : State) (t : Nat) : (s.elapseTo t).tick = max s.tick t := by
  simp [elapseTo]; omega

/-- Time passes by dt, or to a tick that lies beyond. -/
theorem elapseFrom_tick (s : State) (dt t : Nat) : (s.elapseFrom dt t).tick = max (s.tick + dt) t := by
  simp only [elapseFrom, elapseTo_tick]; omega

/-! ## Registers through the other updates -/

@[simp] theorem rd_elapse (s : State) (n : Nat) (r : RegId) (j : Nat) : (s.elapse n).rd r j = s.rd r j := by simp only [rd, elapse_regs]
@[simp] theorem fld_elapse (s : State) (n : Nat) (g : Fld) (j : Nat) : (s.elapse n).fld g j = s.fld g j := by simp only [fld, rd_elapse]
@[simp] theorem on_elapse (s : State) (n : Nat) (g : Fld) (j : Nat) : (s.elapse n).on g j = s.on g j := by simp only [on, fld_elapse]
@[simp] theorem rd_elapseTo (s : State) (n : Nat) (r : RegId) (j : Nat) : (s.elapseTo n).rd r j = s.rd r j := by simp only [rd, elapseTo_regs]
@[simp] theorem fld_elapseTo (s : State) (n : Nat) (g : Fld) (j : Nat) : (s.elapseTo n).fld g j = s.fld g j := by simp only [fld, rd_elapseTo]
@[simp] theorem on_elapseTo (s : State) (n : Nat) (g : Fld) (j : Nat) : (s.elapseTo n).on g j = s.on g j := by simp only [on, fld_elapseTo]
@[simp] theorem rd_elapseFrom (s : State) (n m : Nat) (r : RegId) (j : Nat) : (s.elapseFrom n m).rd r j = s.rd r j := by simp only [rd, elapseFrom_regs]
@[simp] theorem fld_elapseFrom (s : State) (n m : Nat) (g : Fld) (j : Nat) : (s.elapseFrom n m).fld g j = s.fld g j := by simp only [fld, rd_elapseFrom]
@[simp] theorem on_elapseFrom (s : State) (n m : Nat) (g : Fld) (j : Nat) : (s.elapseFrom n m).on g j = s.on g j := by simp only [on, fld_elapseFrom]
@[simp] theorem rd_emit (s : State) (o : Out) (r : RegId) (j : Nat) : (s.emit o).rd r j = s.rd r j := by simp only [rd, emit_regs]
@[simp] theorem fld_emit (s : State) (o : Out) (g : Fld) (j : Nat) : (s.emit o).fld g j = s.fld g j := by simp only [fld, rd_emit]
@[simp] theorem on_emit (s : State) (o : Out) (g : Fld) (j : Nat) : (s.emit o).on g j = s.on g j := by simp only [on, fld_emit]
@[simp] theorem rd_updAxis (s : State) (n : Nat) (f : Axis → Axis) (r : RegId) (j : Nat) : (s.updAxis n f).rd r j = s.rd r j := by simp only [rd, updAxis_regs]
@[simp] theorem fld_updAxis (s : State) (n : Nat) (f : Axis → Axis) (g : Fld) (j : Nat) : (s.updAxis n f).fld g j = s.fld g j := by simp only [fld, rd_updAxis]
@[simp] theorem on_updAxis (s : State) (n : Nat) (f : Axis → Axis) (g : Fld) (j : Nat) : (s.updAxis n f).on g j = s.on g j := by simp only [on, fld_updAxis]
@[simp] theorem rd_updBridge (s : State) (n : Nat) (f : Bridge → Bridge) (r : RegId) (j : Nat) : (s.updBridge n f).rd r j = s.rd r j := by simp only [rd, updBridge_regs]
@[simp] theorem fld_updBridge (s : State) (n : Nat) (f : Bridge → Bridge) (g : Fld) (j : Nat) : (s.updBridge n f).fld g j = s.fld g j := by simp only [fld, rd_updBridge]
@[simp] theorem on_updBridge (s : State) (n : Nat) (f : Bridge → Bridge) (g : Fld) (j : Nat) : (s.updBridge n f).on g j = s.on g j := by simp only [on, fld_updBridge]
@[simp] theorem rd_updChan (s : State) (n : Nat) (f : Chan → Chan) (r : RegId) (j : Nat) : (s.updChan n f).rd r j = s.rd r j := by simp only [rd, updChan_regs]
@[simp] theorem fld_updChan (s : State) (n : Nat) (f : Chan → Chan) (g : Fld) (j : Nat) : (s.updChan n f).fld g j = s.fld g j := by simp only [fld, rd_updChan]
@[simp] theorem on_updChan (s : State) (n : Nat) (f : Chan → Chan) (g : Fld) (j : Nat) : (s.updChan n f).on g j = s.on g j := by simp only [on, fld_updChan]
@[simp] theorem rd_updEng (s : State) (n : Nat) (f : Eng → Eng) (r : RegId) (j : Nat) : (s.updEng n f).rd r j = s.rd r j := by simp only [rd, updEng_regs]
@[simp] theorem fld_updEng (s : State) (n : Nat) (f : Eng → Eng) (g : Fld) (j : Nat) : (s.updEng n f).fld g j = s.fld g j := by simp only [fld, rd_updEng]
@[simp] theorem on_updEng (s : State) (n : Nat) (f : Eng → Eng) (g : Fld) (j : Nat) : (s.updEng n f).on g j = s.on g j := by simp only [on, fld_updEng]

end Sys2Proof.Machine.State
end

