-- ==== Sys2Proof/Laws/Kept.lean ====
section
/-!
SUPPORT. Laws/Kept.lean: how "everything but …" composes, and what the named updates and the end of a command keep.
-/

namespace Sys2Proof.Machine

theorem Part.same_refl (p : Part) (s : State) : p.same s s := by cases p <;> simp [Part.same]

theorem Part.same_trans {p : Part} {s t u : State} (h : p.same s t) (h' : p.same t u) : p.same s u := by
  cases p
  case sys =>
    obtain ⟨a, b, c⟩ := h
    obtain ⟨a', b', c'⟩ := h'
    exact ⟨a'.trans a, fun e => b (b' e), c'.elim (fun e => c.elim (fun d => .inl (e.trans d)) fun d => .inr (e.trans d)) .inr⟩
  all_goals simp_all [Part.same]

theorem SameRegs.refl (l : List (RegId × Nat)) (s : State) : SameRegs l s s := fun _ _ _ _ => rfl

theorem Kept.refl (ps : List Part) (rs : List (RegId × Nat)) (s : State) : Kept ps rs s s :=
  ⟨fun p _ => p.same_refl s, SameRegs.refl rs s⟩

/-- What two steps in a row leave alone. -/
theorem Kept.trans {ps qs : List Part} {rs ws : List (RegId × Nat)} {s t u : State} (h : Kept ps rs s t) (h' : Kept qs ws t u) :
    Kept (ps ++ qs) (rs ++ ws) s u := by
  refine ⟨fun p hp => ?_, fun r i hi hr => ?_⟩
  · simp only [List.mem_append, not_or] at hp
    exact Part.same_trans (h.1 p hp.1) (h'.1 p hp.2)
  · simp only [List.mem_append, not_or] at hr
    rw [h'.2 r i hi hr.2, h.2 r i hi hr.1]

/-- A longer list leaves less alone. -/
theorem Kept.mono {ps qs : List Part} {rs ws : List (RegId × Nat)} {s t : State} (h : Kept ps rs s t) (hp : ∀ p ∈ ps, p ∈ qs)
    (hr : ∀ r ∈ rs, r ∈ ws) : Kept qs ws s t :=
  ⟨fun p hq => h.1 p fun hm => hq (hp p hm), fun r i hi hw => h.2 r i hi fun hm => hw (hr _ hm)⟩

theorem Kept.wr (s : State) (r : RegId) (w : Word) (i : Nat) (hi : i < 65536) : Kept [] [(r, i)] s (s.wr r w i) := by
  refine ⟨fun p _ => by cases p <;> simp [Part.same], fun r' i' hi' hn => ?_⟩
  rw [State.rd_wr_other s r r' w i i' hi hi']
  by_cases h : r' = r
  · subst h; exact .inr fun e => hn (by simp [e])
  · exact .inl h

theorem Kept.setF (s : State) (f : Fld) (v i : Nat) (hi : i < 65536) : Kept [] [(f.reg, i)] s (s.setF f v i) := Kept.wr s _ _ i hi

/-- Writing a pin bit is no change. -/
theorem Kept.pin (s : State) (f : Fld) (v i : Nat) (hi : i < 65536) (h : maskOf f.hi f.lo &&& ~~~pinBits f.reg = 0) :
    Kept [] [] s (s.setF f v i) := by
  refine ⟨fun p _ => by cases p <;> simp [Part.same], fun r' i' hi' _ => ?_⟩
  by_cases hr : r' = f.reg ∧ i' = i
  · obtain ⟨rfl, rfl⟩ := hr
    rw [State.rd_setF_same, putBits_and_not _ _ _ _ _ h]
  · rw [State.rd_setF_other s f v i r' i' hi hi']
    by_cases h : r' = f.reg
    · exact .inr fun e => hr ⟨h, e⟩
    · exact .inl h

theorem Kept.elapse (s : State) (n : Nat) : Kept [] [] s (s.elapse n) :=
  ⟨fun p _ => by cases p <;> simp [Part.same], fun r i _ _ => by simp⟩

theorem Kept.elapseTo (s : State) (n : Nat) : Kept [] [] s (s.elapseTo n) := Kept.elapse s _

theorem Kept.elapseFrom (s : State) (n m : Nat) : Kept [] [] s (s.elapseFrom n m) := Kept.elapse s _

theorem Kept.emit (s : State) (o : Out) : Kept [.outs] [] s (s.emit o) :=
  ⟨fun p hp => by cases p <;> simp_all [Part.same], fun r i _ _ => by simp⟩

theorem Kept.updAxis (s : State) (n : Nat) (f : Axis → Axis) : Kept [.ax] [] s (s.updAxis n f) :=
  ⟨fun p hp => by cases p <;> simp_all [Part.same], fun r i _ _ => by simp⟩

theorem Kept.updEng (s : State) (n : Nat) (f : Eng → Eng) : Kept [.eng] [] s (s.updEng n f) :=
  ⟨fun p hp => by cases p <;> simp_all [Part.same], fun r i _ _ => by simp⟩

/-! ## The end of a command -/

/-- A pin bit written after a command changes nothing more. -/
theorem Kept.thenPin {ps : List Part} {rs : List (RegId × Nat)} {s t : State} (h : Kept ps rs s t) (f : Fld) (v : Nat)
    (hf : maskOf f.hi f.lo &&& ~~~pinBits f.reg = 0) : Kept ps rs s (t.setF f v) := by
  have := h.trans (Kept.pin t f v 0 (by omega) hf)
  rwa [List.append_nil, List.append_nil] at this

/-- The same but for the times of the brake and of SLS. -/
theorem Kept.lan (s : State) (l : Lan)
    (h : { l with slsSince := none, sbcTestAt := 0 } = { s.lan with slsSince := none, sbcTestAt := 0 }) :
    Kept [] [] s { s with lan := l } :=
  ⟨fun p _ => by cases p <;> first | exact h | simp [Part.same],
    fun _ _ _ _ => rfl⟩

theorem Kept.brakeEval (s : State) : Kept [] [] s s.brakeEval := by
  unfold State.brakeEval
  dsimp only
  refine Kept.thenPin (Kept.thenPin (Kept.thenPin ?_ F.LAN_SBC_FB _ (by decide)) F.LAN_SBC_ON _ (by decide)) F.LAN_STAT_SBC_APPLIED _
    (by decide)
  split <;> split
  all_goals exact Kept.lan s _ rfl

theorem Kept.slsTrack (s : State) : Kept [] [] s s.slsTrack :=
  Kept.thenPin (Kept.lan s _ rfl) _ _ (by decide)

/-- The levels of the pins, the end of debug access and the orders done with are no change. -/
theorem Kept.pins (s : State) (a b c d e : Bool) (j : JtagIns) (he : e = true → s.sys.debugOpen = true)
    (hj : j = s.sys.jtagIr ∨ j = .bypass) :
    Kept [] [] s { s with
      sys := { s.sys with faultLow := a, alertLow := b, spiRdy := c, spiIrqLow := d, debugOpen := e, jtagIr := j },
      hst := { s.hst with keyClose := none, bootNext := false } } :=
  ⟨fun p _ => by cases p <;> first | exact ⟨rfl, he, hj⟩ | simp [Part.same], fun _ _ _ _ => rfl⟩

/-- The end of a command changes the pins alone while no demand waits. -/
theorem Kept.settle (s : State) (h : Calm s) : Kept [] [] s s.settle := by
  have hd : s.demandDone = s := by unfold State.demandDone; rw [h]; rfl
  unfold State.settle
  rw [hd]
  refine ((Kept.thenPin (Kept.thenPin (Kept.thenPin ((Kept.brakeEval s).trans (Kept.slsTrack _)) F.LAN_STAT_STO_FB _ (by decide))
    F.SYS_FAULT_LATCHED _ (by decide)) F.SYS_FAULT_ALERT _ (by decide)).trans (Kept.pins _ _ _ _ _ _ _ ?_ ?_))
  · simp only [Bool.and_eq_true]; exact fun e => e.1
  · split <;> simp

theorem settle_clocks (s : State) (h : Calm s) : SameClocks s s.settle := by
  have hd : s.demandDone = s := by unfold State.demandDone; rw [h]; rfl
  have hb : SameClocks s s.brakeEval := by
    unfold State.brakeEval
    dsimp only
    refine ⟨?_, ?_, ?_⟩ <;> simp only [State.setF_tick, State.setF_merTime, State.setF_pwmTime] <;> split <;> split <;> rfl
  unfold State.settle
  rw [hd]
  exact ⟨by simpa [State.slsTrack] using hb.1, by simpa [State.slsTrack] using hb.2.1, by simpa [State.slsTrack] using hb.2.2⟩

/-- A command whose meaning ends in `endWith x`, x with no demand waiting, ends in a state that differs from x in the pins alone. -/
theorem ends_over {c : Instr} {s x : State} {P : State → Prop} (h : exec c s = endWith x) (hc : Calm x)
    (hp : ∀ t, Kept [] [] x t → SameClocks x t → P t) : Ends c s P :=
  ⟨x.settle, h, hp _ (Kept.settle x hc) (settle_clocks x hc)⟩

/-- A register without pin bits, not listed, is the same. -/
theorem Kept.rd {ps : List Part} {rs : List (RegId × Nat)} {s t : State} (h : Kept ps rs s t) (r : RegId) (i : Nat)
    (hi : i < 65536) (hr : (r, i) ∉ rs) (hp : pinBits r = 0) : t.rd r i = s.rd r i := by
  have e := h.2 r i hi hr
  rwa [hp, show ~~~(0 : Word) = BitVec.allOnes 32 from rfl, BitVec.and_allOnes, BitVec.and_allOnes] at e

/-- A field apart from the pin bits, of a register not listed, is the same. -/
theorem Kept.fld {ps : List Part} {rs : List (RegId × Nat)} {s t : State} (h : Kept ps rs s t) (f : Fld) (i : Nat)
    (hi : i < 65536) (hr : (f.reg, i) ∉ rs) (hp : maskOf f.hi f.lo &&& pinBits f.reg = 0) : t.fld f i = s.fld f i := by
  have e := h.2 f.reg i hi hr
  unfold State.fld
  apply Nat.eq_of_testBit_eq
  intro n
  rw [testBit_bitsOf, testBit_bitsOf]
  by_cases hn : n < f.hi + 1 - f.lo
  · by_cases h32 : f.lo + n < 32
    · have hb := congrArg (fun x : Word => x.getLsbD (f.lo + n)) e
      have hm := congrArg (fun x : Word => x.getLsbD (f.lo + n)) hp
      have h1 : f.lo + n < f.hi + 1 := by omega
      have h2 : (pinBits f.reg).getLsbD (f.lo + n) = false := by
        simpa only [BitVec.getLsbD_and, getLsbD_maskOf _ _ _ h32, h1, decide_true, Bool.and_true, Nat.le_add_right,
          Bool.true_and] using hm.trans BitVec.getLsbD_zero
      simp only [BitVec.getLsbD_and, BitVec.getLsbD_not, h32, h2, decide_true, Bool.not_false, Bool.and_true] at hb
      rw [hb]
    · simp [BitVec.getLsbD_of_ge _ _ (Nat.le_of_not_lt h32)]
  · simp [hn]

end Sys2Proof.Machine
end

