-- ==== Sys2Proof/WellFormed.lean ====
section
/-!
DEFINITION. WellFormed.lean: the commands that the outside can give: what the operand types leave wider than the part's inputs. A
command that is not well formed stands for no event; exec answers it all the same.
-/

namespace Sys2Proof

/-- Who writes, the roles of host sessions apart: the interpreter is one writer, so that two host commands never meet in one cycle (R35). -/
def Writer.interp : Writer → Writer
  | .host _ => .host .operator
  | w => w

/-- No writer writes twice in one cycle of a register (R29, R30), nor does the host under two roles (R35). -/
def oneEach (l : List Write) : Bool := (l.map fun w => w.who.interp).Nodup

/-- The writes of a cycle come from different writers. -/
def WCycle.wf (c : WCycle) : Bool := oneEach c.ws

/-- The rivals of a host command are different writers, none of them the host (R35). -/
def rivalsWf (l : List Write) : Bool := oneEach l && l.all fun w => w.who.interp != .host .operator

/-- A packet holds no more payload words than LENGTH can count (R83). -/
def Pkt.wf (p : Pkt) : Bool := p.payload.length < 65536 && rivalsWf p.rivals

/-- A function code and an instance of it (R473). -/
def funcInst (f i : Nat) : Bool :=
  match f with
  | 0x01 => i < 8
  | 0x02 | 0x03 | 0x10 | 0x11 => i < 2
  | 0x12 | 0x13 | 0x14 | 0x15 | 0x20 | 0x21 | 0x30 => i == 0
  | _ => false

/-- The number of data bytes of a DLC (R364). -/
def frameBytes (fdf : Bool) (dlc : Nat) : Nat :=
  if dlc ≤ 8 then dlc else if !fdf then 8 else ([12, 16, 20, 24, 32, 48, 64].getD (dlc - 9) 64)

/-- A frame as the bus carries it (R363, R364): a base identifier stands in bits 28:18, a remote frame is classical and has no data,
BRS and ESI are bits of FD frames, and the data are as long as DLC says. -/
def frameForm (id : BitVec 29) (ide rtr fdf brs esi : Bool) (dlc : Fin 16) (data : List Byte) : Bool :=
  (ide || id.toNat % 2 ^ 18 == 0) && !(rtr && fdf) && (fdf || (!brs && !esi)) &&
    data.length == if rtr then 0 else frameBytes fdf dlc

/-- The command is well formed. -/
def Instr.wf : Instr → Bool
  | .echo p => p.wf
  | .getInfo p => p.wf
  | .sessionOpen p => p.wf
  | .sessionAuth p => p.wf
  | .sessionClose p => p.wf
  | .deviceReset p => p.wf
  | .deviceResetApply _ => true
  | .funcReinit p => p.wf
  | .funcReinitDone func inst _ _ => funcInst func inst
  | .stateRequest p => p.wf
  | .regRead p => p.wf
  | .regWrite p => p.wf
  | .regModify p => p.wf
  | .blockRead p => p.wf
  | .axisConfig p => p.wf
  | .axisEnable p => p.wf
  | .axisDisable p => p.wf
  | .axisSetpoint p => p.wf
  | .axisMode p => p.wf
  | .axisStatus p => p.wf
  | .axisEmergency p => p.wf
  | .motionMove p => p.wf
  | .moveComplete _ => true
  | .motionStop p => p.wf
  | .motionHome p => p.wf
  | .homeComplete _ => true
  | .gearConfig p => p.wf
  | .actionPost p => p.wf
  | .actionCancel p => p.wf
  | .actionList p => p.wf
  | .memberJoin p => p.wf
  | .memberJoinListenEnd => true
  | .memberStatus p => p.wf
  | .safetyStatus p => p.wf
  | .safetyParamLoad p => p.wf
  | .envelopeLoad p => p.wf
  | .safetyRecordCommitted _ _ => true
  | .ioRead p => p.wf
  | .ioWrite p => p.wf
  | .ioRestore p => p.wf
  | .logRead p => p.wf
  | .auditRead p => p.wf
  | .faultAck p => p.wf
  | .streamConfig p => p.wf
  | .captureArm p => p.wf
  | .captureComplete _ => true
  | .nvRead p => p.wf
  | .nvWrite p => p.wf
  | .fwLoad p => p.wf
  | .fwVerifyDone _ => true
  | .fwActivate p => p.wf
  | .candleReport p => p.wf
  | .marginReplan p => p.wf
  | .spiCsFall _ => true
  | .spiCsRise _ _ _ _ => true
  | .replyBufferSpace _ => true
  | .canCmdSegmentTimeout _ => true
  | .arpRequest _ _ _ _ _ _ => true
  | .icmpEchoRequest _ _ _ _ _ _ _ => true
  | .sessionAuthTimeout _ => true
  | .authLockoutEnd _ => true
  | .registerWrite _ c => c.wf
  | .rcCounterRead _ _ _ _ => true
  | .pairLoRead _ _ _ => true
  | .brCommit _ c => c.wf
  | .axTuneCommit _ c => c.wf
  | .pwmCtrlRunWrite c => c.wf
  | .bridgeStart _ => true
  | .leCtrlCheck _ c => c.wf
  | .staticCheckDone _ _ => true
  | .leCtrlRunWrite _ c => c.wf
  | .leMdataAccess _ _ access => match access with | .read _ => true | .write l => oneEach l
  | .enPosWrite _ c => c.wf
  | .enCfgChange _ _ c => c.wf
  | .cmpRangeArm _ c => c.wf
  | .sysUnitWrite c => c.wf
  | .sysSplitWrite c => c.wf
  | .axTLoadWrite _ c => c.wf
  | .axPlHoldRelease _ c => c.wf
  | .obsKeMeasure _ c => c.wf
  | .keMeasureWindowEnd _ _ => true
  | .obsKeRefWrite _ c _ => c.wf
  | .mePosWrite _ c => c.wf
  | .merSetHiWrite c => c.wf
  | .merSetDrop => true
  | .cdlRebaseWrite c => c.wf
  | .lanSbcReqWrite c => c.wf
  | .fioDoWrite c => c.wf
  | .canInitWrite _ c => c.wf
  | .canInitReleaseDone _ _ => true
  | .canTxreqSet _ _ c => c.wf
  | .canTxCancel _ _ c => c.wf
  | .canMbWord0Read _ _ _ _ => true
  | .canMbLastwRead _ _ _ _ => true
  | .canLockTimeout _ _ => true
  | .nop _ => true
  | .mov _ _ _ => true
  | .lil _ _ _ => true
  | .lih _ _ _ => true
  | .add _ _ _ _ => true
  | .sub _ _ _ _ => true
  | .neg _ _ _ => true
  | .abs _ _ _ => true
  | .minReg _ _ _ _ => true
  | .maxReg _ _ _ _ => true
  | .clip _ _ _ _ => true
  | .andReg _ _ _ _ => true
  | .orReg _ _ _ _ => true
  | .xorReg _ _ _ _ => true
  | .shl _ _ _ _ => true
  | .shr _ _ _ _ => true
  | .addw _ _ _ _ => true
  | .subw _ _ _ _ => true
  | .mulc _ _ _ _ => true
  | .mul _ _ _ _ => true
  | .mulw _ _ _ _ => true
  | .mac _ _ _ _ => true
  | .accr _ _ _ _ => true
  | .accz _ _ => true
  | .sincos _ _ _ => true
  | .atan2 _ _ _ _ => true
  | .div _ _ _ _ => true
  | .sqrt _ _ _ => true
  | .ld _ _ _ _ => true
  | .st _ _ _ _ => true
  | .inReg _ _ _ _ => true
  | .outReg _ _ _ _ rivals => oneEach rivals
  | .mbr _ _ => true
  | .mbw _ _ => true
  | .tst _ _ => true
  | .cmp _ _ _ => true
  | .branch _ _ _ => true
  | .loop _ _ _ => true
  | .endTask _ => true
  | .taskRelease _ _ => true
  | .taskStart _ => true
  | .taskDeadline _ _ => true
  | .sampleInstant _ => true
  | .sdValueAvailable _ _ => true
  | .enSpeedUpdate _ _ => true
  | .encoderEdge _ _ _ _ _ _ => true
  | .comparePulseEnd => true
  | .pulseEdge _ _ _ _ _ _ _ => true
  | .indexEvent _ _ _ _ => true
  | .ssiFrame _ _ _ _ _ _ => true
  | .encoderLineFault _ _ _ => true
  | .encSupplyOverload _ _ => true
  | .encSupplyRetry _ => true
  | .hallEdge _ _ _ _ => true
  | .aiConversion _ _ _ => true
  | .overcurrentFast _ _ _ => true
  | .sdStreamFault _ _ _ => true
  | .gsEdge _ _ _ => true
  | .blankWindowEnd _ => true
  | .offSeqInner => true
  | .gateRailLow _ => true
  | .chopperEval _ bits => bits.length == 16
  | .auxPeriodUpdate _ par => par.length == 2
  | .auxCurrentSample _ xcs => xcs.length == 3
  | .auxOvercurrent _ mv _ => mv.length == 4
  | .auxUvlo _ _ => true
  | .logicSupplyLow _ => true
  | .logicSupplyLost _ => true
  | .logicSupplyBack _ => true
  | .logicSupplyHigh _ => true
  | .vdrvUndervoltage _ => true
  | .vdrvRestored _ => true
  | .resetPin _ _ _ => true
  | .bootEnd _ seen => seen.switches.all fun x => x.1 < 4096 && x.2.1 < 4096 && x.2.2 < 4096
  | .sw1Poll _ _ => true
  | .clockSupervisionWindow _ _ => true
  | .pwmRefReturn _ => true
  | .pwmTimeCompare _ _ => true
  | .scrubRead _ _ => true
  | .ptpSync _ _ _ _ _ => true
  | .ptpFollowUp _ _ _ => true
  | .ptpDelayResp _ _ _ => true
  | .ptpPdelayReq _ _ _ => true
  | .ptpPdelayResp _ _ _ _ => true
  | .ptpPdelayRespFollowUp _ _ _ => true
  | .ptpAnnounce _ _ _ _ _ _ _ => true
  | .ppsInEdge _ => true
  | .meridianUnlocked => true
  | .meridianHoldoverExpired => true
  | .ppsOutPulse => true
  | .actionLaunch _ _ => true
  | .actionLateLaunch _ _ => true
  | .actionRetainExpiry => true
  | .powerHoldExpiry _ => true
  | .beaconTx _ => true
  | .beaconRx _ _ => true
  | .roleDead _ => true
  | .cyclicFrameRx _ _ => true
  | .actionFrameRx _ _ => true
  | .canFrameRx _ _ _ id ide rtr fdf brs esi dlc data fate => frameForm id ide rtr fdf brs esi dlc data && rivalsWf fate.rivals
  | .canTxComplete _ _ _ => true
  | .canBusoffRecovery _ _ => true
  | .canTxdDominant _ _ => true
  | .canTtCycleStart _ => true
  | .canTtColumnStart _ => true
  | .canTtWindowEnd _ => true
  | .linkReset _ _ _ => true
  | .credit _ _ => true
  | .nak _ _ _ => true
  | .streamFrameStart _ _ => true
  | .stclkLost _ _ => true
  | .fieldFrameTx _ _ => true
  | .fieldFrameRx _ _ => true
  | .fieldInputSample _ mv => mv.length == 24
  | .doCurrentLimitLatch _ ma _ _ => ma.length == 16
  | .doReadbackFault _ mv _ => mv.length == 16
  | .vfLow _ _ _ => true
  | .vfRestored _ _ _ => true
  | .barrierTimeout => true
  | .fieldLinkLost => true
  | .stoLowAccepted _ _ _ => true
  | .stoReleaseAccepted _ _ _ => true
  | .stoDiscrepancy _ => true
  | .safeSpeedUpdate _ => true
  | .ss1End _ => true
  | .vdcLoCompare _ bits => bits.length == 16
  | .sbcTestPulse _ _ _ => true
  | .safetyPduTx _ _ _ => true
  | .safetyPduRx _ _ _ _ => true
  | .safetyWdExpiry _ => true
  | .lockstepDigest _ _ _ => true
  | .lockstepResyncDone _ _ => true
  | .lockstepMismatch _ _ => true
  | .catchEnd _ _ => true
  | .alignComplete _ _ => true
  | .relockDecision _ _ => true
  | .relockRampEnd _ => true
  | .stopComplete _ _ => true
  | .sourceHoldExpiry _ => true
  | .leverHostTimeout _ => true
  | .torqueProvingEnd _ => true
  | .renderEnd _ => true
  | .shareImbalance _ => true
  | .droopRestore _ => true
  | .circulatingCurrent _ => true
  | .npImbalance _ _ => true
  | .dieTempSample _ _ => true
  | .replanPeriodic => true
  | .replanComplete _ _ _ _ => true
  | .candleWindow => true
  | .candleCounterSave => true
  | .resetRelease _ => true
  | .logicSupplyHighGone _ => true
  | .gateRailRestored _ => true
  | .encoderLineRestored _ _ => true
  | .commandEdge => true
  | .canStartOfFrame _ _ => true
  | .canArbitrationLost _ _ => true
  | .canErrorFrame _ _ _ _ _ _ => true
  | .stclkPresent _ => true
  | .backChannelParityError _ => true
  | .sbcOutputFault _ _ _ => true
  | .jtagAccess _ _ => true
  | .badOpcode _ p => p.wf
  | .cutThroughForward _ _ _ _ _ => true
  | .ptpDelayReq _ _ _ => true

/-- The packet of a command packet. -/
def Instr.packet? : Instr → Option Pkt
  | .echo p => some p
  | .getInfo p => some p
  | .sessionOpen p => some p
  | .sessionAuth p => some p
  | .sessionClose p => some p
  | .deviceReset p => some p
  | .funcReinit p => some p
  | .stateRequest p => some p
  | .regRead p => some p
  | .regWrite p => some p
  | .regModify p => some p
  | .blockRead p => some p
  | .axisConfig p => some p
  | .axisEnable p => some p
  | .axisDisable p => some p
  | .axisSetpoint p => some p
  | .axisMode p => some p
  | .axisStatus p => some p
  | .axisEmergency p => some p
  | .motionMove p => some p
  | .motionStop p => some p
  | .motionHome p => some p
  | .gearConfig p => some p
  | .actionPost p => some p
  | .actionCancel p => some p
  | .actionList p => some p
  | .memberJoin p => some p
  | .memberStatus p => some p
  | .safetyStatus p => some p
  | .safetyParamLoad p => some p
  | .envelopeLoad p => some p
  | .ioRead p => some p
  | .ioWrite p => some p
  | .ioRestore p => some p
  | .logRead p => some p
  | .auditRead p => some p
  | .faultAck p => some p
  | .streamConfig p => some p
  | .captureArm p => some p
  | .nvRead p => some p
  | .nvWrite p => some p
  | .fwLoad p => some p
  | .fwActivate p => some p
  | .candleReport p => some p
  | .marginReplan p => some p
  | .badOpcode _ p => some p
  | _ => none

/-- How long after the command before it a row comes, where it carries that: packets, the writes of a cycle, events with a `dt`. The others
come at times of their own. -/
def Instr.wait? (i : Instr) : Option Nat :=
  match i.packet? with
  | some p => some p.dt
  | none => match i with
    | .deviceResetApply dt | .funcReinitDone _ _ dt _ | .safetyRecordCommitted dt _ | .captureComplete dt | .fwVerifyDone dt
    | .spiCsFall dt | .spiCsRise dt _ _ _ | .replyBufferSpace dt | .arpRequest dt _ _ _ _ _ | .icmpEchoRequest dt _ _ _ _ _ _
    | .rcCounterRead dt _ _ _ | .pairLoRead dt _ _ | .staticCheckDone _ dt | .leMdataAccess _ dt _ | .keMeasureWindowEnd _ dt
    | .canInitReleaseDone _ dt | .canMbWord0Read _ _ dt _ | .canMbLastwRead _ _ dt _ | .enSpeedUpdate dt _ | .encoderEdge dt _ _ _ _ _
    | .pulseEdge dt _ _ _ _ _ _ | .indexEvent dt _ _ _ | .ssiFrame dt _ _ _ _ _ | .encoderLineFault dt _ _ | .encSupplyOverload dt _
    | .hallEdge dt _ _ _ | .aiConversion dt _ _ | .overcurrentFast dt _ _ | .sdStreamFault dt _ _ | .gsEdge dt _ _ | .gateRailLow dt
    | .chopperEval dt _ | .auxOvercurrent dt _ _ | .auxUvlo dt _ | .logicSupplyLow dt | .logicSupplyLost dt | .logicSupplyBack dt
    | .logicSupplyHigh dt | .vdrvUndervoltage dt | .vdrvRestored dt | .resetPin dt _ _ | .bootEnd dt _ | .sw1Poll dt _
    | .clockSupervisionWindow dt _ | .pwmRefReturn dt | .pwmTimeCompare dt _ | .scrubRead dt _ | .ptpSync dt _ _ _ _
    | .ptpFollowUp dt _ _ | .ptpDelayResp dt _ _ | .ptpPdelayReq dt _ _ | .ptpPdelayResp dt _ _ _ | .ptpPdelayRespFollowUp dt _ _
    | .ptpAnnounce dt _ _ _ _ _ _ | .ppsInEdge dt | .beaconRx dt _ | .cyclicFrameRx dt _ | .actionFrameRx dt _
    | .canFrameRx _ dt _ _ _ _ _ _ _ _ _ _ | .canTxComplete _ dt _ | .canBusoffRecovery _ dt | .canTxdDominant _ dt | .linkReset dt _ _
    | .credit dt _ | .nak dt _ _ | .streamFrameStart dt _ | .stclkLost dt _ | .fieldFrameTx dt _ | .fieldFrameRx dt _
    | .fieldInputSample dt _ | .doCurrentLimitLatch dt _ _ _ | .doReadbackFault dt _ _ | .vfLow dt _ _ | .vfRestored dt _ _
    | .stoLowAccepted dt _ _ | .stoReleaseAccepted dt _ _ | .stoDiscrepancy dt | .safeSpeedUpdate dt | .ss1End dt | .vdcLoCompare dt _
    | .sbcTestPulse dt _ _ | .safetyPduTx dt _ _ | .safetyPduRx dt _ _ _ | .lockstepDigest dt _ _ | .lockstepResyncDone dt _
    | .lockstepMismatch dt _ | .catchEnd _ dt | .alignComplete _ dt | .relockDecision _ dt | .stopComplete _ dt | .npImbalance _ dt
    | .dieTempSample dt _ | .replanComplete dt _ _ _ | .resetRelease dt | .logicSupplyHighGone dt | .gateRailRestored dt
    | .encoderLineRestored dt _ | .canStartOfFrame _ dt | .canArbitrationLost _ dt | .canErrorFrame _ dt _ _ _ _ | .stclkPresent dt
    | .backChannelParityError dt | .sbcOutputFault dt _ _ | .jtagAccess dt _ | .cutThroughForward dt _ _ _ _ | .ptpDelayReq dt _ _ => some dt
    | .registerWrite _ c | .brCommit _ c | .axTuneCommit _ c | .pwmCtrlRunWrite c | .leCtrlCheck _ c | .leCtrlRunWrite _ c
    | .enPosWrite _ c | .enCfgChange _ _ c | .cmpRangeArm _ c | .sysUnitWrite c | .sysSplitWrite c | .axTLoadWrite _ c
    | .axPlHoldRelease _ c | .obsKeMeasure _ c | .obsKeRefWrite _ c _ | .mePosWrite _ c | .merSetHiWrite c | .cdlRebaseWrite c
    | .lanSbcReqWrite c | .fioDoWrite c | .canInitWrite _ c | .canTxreqSet _ _ c | .canTxCancel _ _ c => some c.dt
    | _ => none

/-- The place of a transport among packets that arrive in one cycle of FABRIC: SPI, UDP, CAN (R35). -/
def Transport.place : Transport → Nat
  | .spi => 0
  | .udp => 1
  | .can0 | .can1 => 2

/-- The place of a row that brings a command packet: its own, or the one that a CAN frame completes (R108). -/
def Instr.place? : Instr → Option Nat
  | .canFrameRx _ _ _ _ _ _ _ _ _ _ _ _ => some 2
  | i => i.packet?.map fun p => p.via.place

/-- The commands that ask for a transition of the device last of all in a cycle (R80). -/
def Instr.asks : Instr → Bool
  | .stateRequest _ | .faultAck _ | .fwLoad _ | .memberJoin _ => true
  | _ => false

/-- Two rows of one tick, one after the other, stand in the order of R35 and R80: SPI before UDP before CAN, what else happens in the tick
before a command that asks for a transition, and an index event, whose gate reads the levels of its tick and which an illegal edge of its
tick sets aside (R135), after the edges of its channel. (log 123 DEDUCED) -/
def inOrder (c d : Instr) : Bool :=
  match c, d with
  | .indexEvent _ i _ _, .encoderEdge _ j _ _ _ _ => i != j
  | _, _ => match c.place?, d.place? with
    | some m, some n => m ≤ n
    | _, none => !c.asks
    | none, _ => true

/-- A queue of commands that the outside can give, after the rows `now` of its first tick: each is well formed, and the rows of one tick
stand in order. -/
def queueFrom (now : List Instr) : List Instr → Bool
  | [] => true
  | c :: l =>
    let now := if c.wait? == some 0 then now else []
    c.wf && now.all (fun d => inOrder d c) && queueFrom (c :: now) l

/-- A queue of commands that the outside can give. (log 123 DEDUCED) -/
def queueWf (l : List Instr) : Bool := queueFrom [] l

end Sys2Proof
end

