-- ==== Sys2Proof/Laws/Command.lean ====
section
/-!
SUPPORT. Laws/Command.lean: a queue stays in order as its commands leave it, and what a packet that is carried out does: its
command's body runs, and its answer is sent.
-/

namespace Sys2Proof

/-- A queue that stands in order after some rows of its tick does so after fewer of them. -/
theorem queueFrom_fewer {l now few : List Instr} (h : ∀ c ∈ few, c ∈ now) (hq : queueFrom now l = true) : queueFrom few l = true := by
  induction l generalizing now few with
  | nil => rfl
  | cons c l ih =>
    have h' : ∀ d ∈ if c.wait? == some 0 then few else [], d ∈ if c.wait? == some 0 then now else [] := by
      split
      · exact h
      · simp
    simp only [queueFrom, Bool.and_eq_true, List.all_eq_true] at hq ⊢
    refine ⟨⟨hq.1.1, fun d hd => hq.1.2 d (h' d hd)⟩, ih (fun d hd => ?_) hq.2⟩
    exact (List.mem_cons.1 hd).elim (fun e => e ▸ List.mem_cons_self) fun e => List.mem_cons_of_mem _ (h' d e)

/-- The rest of a queue in order is in order (R35, R80). -/
theorem queueWf_rest {c : Instr} {l : List Instr} (h : queueWf (c :: l) = true) : c.wf = true ∧ queueWf l = true := by
  simp only [queueWf, queueFrom, Bool.and_eq_true] at h
  exact ⟨h.1.1, queueFrom_fewer (by simp) h.2⟩

end Sys2Proof

namespace Sys2Proof.Machine

theorem Kept.at_ (s : State) (p : Pkt) : Kept [.cache] [] s (at_ s p) :=
  ⟨fun q hq => by cases q <;> simp_all [Part.same, Machine.at_], fun _ _ _ _ => rfl⟩

/-- A packet that is carried out runs its command's body; the answer, if there is one, is concluded. -/
theorem command_body {s : State} {c : Cmd} {p : Pkt} {r : Role} (h : Carried s c p r) :
    s.command c p = match c.body r p (at_ s p) with
      | (u, some a) =>
        ((u.conclude (BitVec.ofNat 16 c.opcode) p (c.kind == .read) a).keepOld (s.elapse p.dt) (BitVec.ofNat 16 c.opcode) p a).afterReply
      | (u, none) => u := by
  obtain ⟨_, h1, h2, h3, h4, h5, _, h6, h7, h8, h9, h10⟩ := h
  unfold State.command State.receive
  have hm : (s.elapse p.dt).moveIn (State.carrier p.via) p.moved = (s.elapse p.dt, true) := by rw [h2.1]; rfl
  rw [if_neg (by simp [h1]), hm]
  dsimp only
  rw [if_neg (by decide), if_pos (by rw [h2.2.2.2.1]; rfl)]
  unfold State.accept
  rw [if_neg (by simp [h3]), if_neg (by rw [flag, h4, h5]; decide)]
  have hf : framed p = true := by
    unfold framed
    obtain ⟨ha, hb, hc⟩ := h6
    rcases hc with h | h
    · rw [h] at ha; simp [h, ha, hb]
    · simp [h, ha, hb]
  have ha : arrived p = true := by
    unfold arrived
    rcases h7 with h | h
    · simp [hf, BitVec.eq_of_toNat_eq (x := p.length) (y := 0#16) h]
    · simp [hf, h]
  rw [if_neg (by simp [hf]), if_neg (by simp [ha]), h8]
  dsimp only
  rw [h9]
  dsimp only
  have hw : ∀ s : State, s.ownTransfers c p = (s, true) := fun s => by
    unfold State.ownTransfers
    split
    · rfl
    · rw [List.filter_eq_nil_iff.2 fun n hn => by simp [h2.2.1 n hn]]
      rfl
  have hc : ((s.elapse p.dt).forget p).carryOut c p r = c.body r p (at_ s p) := by
    unfold State.carryOut
    rw [if_neg (by simp [h10]), hw]
    dsimp only
    rw [if_pos rfl]
    unfold State.runBody
    rw [h2.2.2.1]
    rfl
  unfold State.execute
  exact hc ▸ rfl

/-- Nothing follows the reply of a command that has left no order for its end. -/
theorem afterReply_none (s : State) (hk : s.hst.keyClose = none) (hb : s.hst.bootNext = false) : s.afterReply = s := by
  unfold State.afterReply
  rw [hk]
  simp [hb]

theorem queueCan_keeps (s : State) (c : Nat) (r : Reply) : Kept [.can] [] s (s.queueCan c r) := by
  unfold State.queueCan
  split
  · exact Kept.refl _ _ _
  · exact ⟨fun q hq => by cases q <;> simp_all [Part.same], fun _ _ _ _ => rfl⟩

theorem sendReply_keeps (s : State) (p : Pkt) (r : Reply) : Kept [.spi, .outs, .can] [] s (s.sendReply p r) := by
  unfold State.sendReply
  split
  · split <;> exact ⟨fun q hq => by cases q <;> simp_all [Part.same], fun _ _ _ _ => rfl⟩
  · exact (Kept.emit s _).mono (by simp) (by simp)
  · exact (queueCan_keeps s _ _).mono (by simp) (by simp)
  · exact (queueCan_keeps s _ _).mono (by simp) (by simp)

theorem sendReply_sent (s : State) (p : Pkt) (r : Reply) : Sent s (s.sendReply p r) p r := by
  unfold Sent State.sendReply
  have hq : ∀ c, (s.queueCan c r).outs = s.outs ∧ (s.queueCan c r).hst = s.hst := fun c => by
    unfold State.queueCan; split <;> exact ⟨rfl, rfl⟩
  cases r.via <;> dsimp only
  · by_cases hf : s.fitsNow r <;> simp [hf]
  · exact ⟨rfl, rfl, rfl, rfl⟩
  · exact ⟨(hq 0).1, by rw [(hq 0).2], by rw [(hq 0).2], rfl⟩
  · exact ⟨(hq 1).1, by rw [(hq 1).2], by rw [(hq 1).2], rfl⟩

theorem sendReply_hst (s : State) (p : Pkt) (r : Reply) :
    (s.sendReply p r).hst.keyClose = s.hst.keyClose ∧ (s.sendReply p r).hst.bootNext = s.hst.bootNext ∧
      (s.sendReply p r).lan = s.lan ∧ SameClocks s (s.sendReply p r) := by
  unfold State.sendReply
  split
  · split <;> exact ⟨rfl, rfl, rfl, rfl, rfl, rfl⟩
  · exact ⟨rfl, rfl, rfl, rfl, rfl, rfl⟩
  all_goals
    unfold State.queueCan; split <;> exact ⟨rfl, rfl, rfl, rfl, rfl, rfl⟩

/-- Two states that agree on what a reply is formed and queued from send it alike. -/
theorem Sent.of_same {s u t : State} {p : Pkt} {r : Reply} (h : Sent u t p r) (ho : u.outs = s.outs) (hc : u.can = s.can)
    (hq : u.hst.spiQueue = s.hst.spiQueue) (hn : u.hst.spiSent = s.hst.spiSent) (hw : u.hst.spiWaiting = s.hst.spiWaiting)
    (hr : ∀ i, i < 2 → u.rd .CAN_CMD_REQ i = s.rd .CAN_CMD_REQ i) : Sent s t p r := by
  have hf : u.fitsNow r = s.fitsNow r := by unfold State.fitsNow spiFill; rw [hq, hn, hw]
  have hd : ∀ i, i < 2 → (u.queueCan i r).can = (s.queueCan i r).can := fun i hi => by
    have h1 : u.on F.CAN_CMD_REQ_EN i = s.on F.CAN_CMD_REQ_EN i := by simp only [State.on, State.fld, hr i hi]
    have h2 : u.on F.CAN_CMD_REQ_FD i = s.on F.CAN_CMD_REQ_FD i := by simp only [State.on, State.fld, hr i hi]
    unfold State.queueCan
    rw [h1, h2]
    by_cases he : (!s.on F.CAN_CMD_REQ_EN i) = true
    · rw [if_pos he, if_pos he, hc]
    · rw [if_neg he, if_neg he]; dsimp only; rw [hc]
  unfold Sent at h ⊢
  rw [ho, hc, hq, hw, hf, hd 0 (by omega), hd 1 (by omega)] at h
  exact h

/-- A final answer is formed and sent, and kept in the cache unless the command is a Read. -/
theorem conclude_sent (s u : State) (c : Cmd) (p : Pkt) (a : Answer) {ps : List Part} {rs : List (RegId × Nat)}
    (hg : grouped p = false) (hk : Kept ps rs (at_ s p) u) (hp : Part.outs ∉ ps ∧ Part.can ∉ ps ∧ Part.spi ∉ ps)
    (hr : (RegId.SYS_UNIT, 0) ∉ rs ∧ ∀ i, i < 2 → (RegId.CAN_CMD_REQ, i) ∉ rs) :
    let r := mkReply s (BitVec.ofNat 16 c.opcode) p a
    let v := u.conclude (BitVec.ofNat 16 c.opcode) p (c.kind == .read) a
    Sent s v p r ∧ v.hst.flight = u.hst.flight ∧
      v.hst.cache = (if c.kind = .read then u.hst.cache else
        ⟨BitVec.ofNat 16 c.opcode, p, r⟩ :: u.hst.cache) ∧
      Kept replyParts [] u v ∧ SameClocks u v ∧ v.lan = u.lan ∧
      v.hst.keyClose = u.hst.keyClose ∧ v.hst.bootNext = u.hst.bootNext := by
  dsimp only
  have hu : mkReply u (BitVec.ofNat 16 c.opcode) p a = mkReply s (BitVec.ofNat 16 c.opcode) p a := by
    have : u.fld F.SYS_UNIT_UNIT = s.fld F.SYS_UNIT_UNIT :=
      hk.fld F.SYS_UNIT_UNIT 0 (by omega) hr.1 (by decide)
    simp only [mkReply, this]
  generalize mkReply s (BitVec.ofNat 16 c.opcode) p a = r at hu
  have hspi := hk.1 _ hp.2.2
  generalize hw : (if (c.kind == .read) = true then u else u.cacheReply (BitVec.ofNat 16 c.opcode) p r) = w
  have hv : u.conclude (BitVec.ofNat 16 c.opcode) p (c.kind == .read) a = w.sendReply p r := by
    unfold State.conclude
    rw [if_neg (by simp [hg]), hu]
    dsimp only
    rw [hw]
  have huw : Kept [.cache] [] u w ∧ SameClocks u w ∧ w.lan = u.lan ∧ w.hst.keyClose = u.hst.keyClose ∧
      w.hst.bootNext = u.hst.bootNext := by
    subst hw
    split
    · exact ⟨Kept.refl _ _ _, ⟨rfl, rfl, rfl⟩, rfl, rfl, rfl⟩
    · refine ⟨⟨fun q hq => ?_, fun _ _ _ _ => rfl⟩, ⟨rfl, rfl, rfl⟩, rfl, rfl, rfl⟩
      cases q <;> simp_all [Part.same, State.cacheReply]
  have hwc : w.hst.cache = (if c.kind = .read then u.hst.cache else
        ⟨BitVec.ofNat 16 c.opcode, p, r⟩ :: u.hst.cache) := by
    subst hw
    by_cases hkd : c.kind = .read <;> simp [hkd, State.cacheReply]
  have hS := sendReply_hst w p r
  have hK := sendReply_keeps w p r
  rw [hv]
  refine ⟨?_, ?_, ?_, ?_, ?_, ?_, ?_, ?_⟩
  · refine (sendReply_sent w p r).of_same ?_ ?_ ?_ ?_ ?_ ?_
    · exact (huw.1.1 .outs (by simp)).trans (hk.1 _ hp.1)
    · exact (huw.1.1 .can (by simp)).trans (hk.1 _ hp.2.1)
    · exact (huw.1.1 .spi (by simp)).1.trans hspi.1
    · exact (huw.1.1 .spi (by simp)).2.1.trans hspi.2.1
    · exact (huw.1.1 .spi (by simp)).2.2.1.trans hspi.2.2.1
    · exact fun i hi => (huw.1.rd .CAN_CMD_REQ i (by omega) (by simp) rfl).trans
        (hk.rd .CAN_CMD_REQ i (by omega) (hr.2 i hi) rfl)
  · exact (hK.1 .flight (by simp)).trans (huw.1.1 .flight (by simp))
  · exact (hK.1 .cache (by simp)).1.trans hwc
  · exact (huw.1.trans hK).mono (by simp [replyParts]) (by simp)
  · exact ⟨hS.2.2.2.1.trans huw.2.1.1, hS.2.2.2.2.1.trans huw.2.1.2.1, hS.2.2.2.2.2.trans huw.2.1.2.2⟩
  · exact hS.2.2.1.trans huw.2.2.1
  · exact hS.1.trans huw.2.2.2.1
  · exact hS.2.1.trans huw.2.2.2.2

/-- Sending over a transport goes on as it was where later changes leave the reply's parts alone. -/
theorem Sent.then {s v t : State} {p : Pkt} {r : Reply} (h : Sent s v p r) (ho : t.outs = v.outs) (hc : t.can = v.can)
    (hq : t.hst.spiQueue = v.hst.spiQueue) (hw : t.hst.spiWaiting = v.hst.spiWaiting) : Sent s t p r := by
  unfold Sent at h ⊢
  rw [ho, hc, hq, hw]
  exact h

/-- What a refusal at step 13 brings back is in the reply cache alone. -/
theorem keepOld_keeps (s old : State) (op : BitVec 16) (p : Pkt) (a : Answer) :
    Kept [.cache] [] s (s.keepOld old op p a) ∧ SameClocks s (s.keepOld old op p a) ∧ (s.keepOld old op p a).lan = s.lan ∧
      (s.keepOld old op p a).hst.keyClose = s.hst.keyClose ∧ (s.keepOld old op p a).hst.bootNext = s.hst.bootNext ∧
      (s.keepOld old op p a).hst.cache = s.hst.cache ++ outlives old op p a := by
  unfold State.keepOld outlives
  by_cases h : a.status = cBAD_PARAM
  · rw [if_pos (by simp [h]), if_pos h]
    exact ⟨⟨fun q hq => by cases q <;> simp_all [Part.same], fun _ _ _ _ => rfl⟩, ⟨rfl, rfl, rfl⟩, rfl, rfl, rfl, rfl⟩
  · rw [if_neg (by simp [h]), if_neg h]
    exact ⟨Kept.refl _ _ _, ⟨rfl, rfl, rfl⟩, rfl, rfl, rfl, (List.append_nil _).symm⟩

/-- A packet that is carried out and whose body answers ends in a state that differs from the body's in the reply and the pins. -/
theorem carried_sends {i : Instr} {s u : State} {c : Cmd} {p : Pkt} {r : Role} {a : Answer} {ps : List Part}
    {rs : List (RegId × Nat)} {P : State → Prop} (he : exec i s = endWith (s.command c p)) (h : Carried s c p r)
    (hb : c.body r p (at_ s p) = (u, some a)) (hk : Kept ps rs (at_ s p) u) (hc : Calm u) (h1 : u.hst.keyClose = none)
    (h2 : u.hst.bootNext = false) (hp : Part.outs ∉ ps ∧ Part.can ∉ ps ∧ Part.spi ∉ ps)
    (hr : (RegId.SYS_UNIT, 0) ∉ rs ∧ ∀ i, i < 2 → (RegId.CAN_CMD_REQ, i) ∉ rs)
    (hP : ∀ t, Sent s t p (mkReply s (BitVec.ofNat 16 c.opcode) p a) → t.hst.flight = u.hst.flight →
      t.hst.cache = (if c.kind = .read then u.hst.cache else
        ⟨BitVec.ofNat 16 c.opcode, p, mkReply s (BitVec.ofNat 16 c.opcode) p a⟩ :: u.hst.cache) ++
          outlives s (BitVec.ofNat 16 c.opcode) p a →
      Kept replyParts [] u t → SameClocks u t → P t) : Ends i s P := by
  have hA := conclude_sent s u c p a h.single hk hp hr
  dsimp only at hA
  obtain ⟨hs, hf, hca, hkp, hcl, hl, hkc, hbn⟩ := hA
  rw [command_body h, hb] at he
  dsimp only at he
  have hR := keepOld_keeps (u.conclude (BitVec.ofNat 16 c.opcode) p (c.kind == .read) a) (s.elapse p.dt)
    (BitVec.ofNat 16 c.opcode) p a
  generalize (u.conclude (BitVec.ofNat 16 c.opcode) p (c.kind == .read) a) = v at hs hf hca hkp hcl hl hkc hbn hR he
  generalize State.keepOld v (s.elapse p.dt) (BitVec.ofNat 16 c.opcode) p a = w at hR he
  obtain ⟨rk, rcl, rl, rkc, rbn, rca⟩ := hR
  have hca := rca.trans (congrArg (· ++ outlives s (BitVec.ofNat 16 c.opcode) p a) hca)
  have hs := hs.then (rk.1 .outs (by simp)) (rk.1 .can (by simp)) (rk.1 .spi (by simp)).1 (rk.1 .spi (by simp)).2.2.1
  have hf := (rk.1 .flight (by simp)).trans hf
  have hkp : Kept replyParts [] u w := (hkp.trans rk).mono (by simp [replyParts]) (by simp)
  have hcl : SameClocks u w := ⟨rcl.1.trans hcl.1, rcl.2.1.trans hcl.2.1, rcl.2.2.trans hcl.2.2⟩
  rw [afterReply_none _ (rkc.trans (hkc.trans h1)) (rbn.trans (hbn.trans h2))] at he
  refine ends_over he (by unfold Calm; rw [rl, hl]; exact hc) fun t ht hct => hP t ?_ ?_ ?_ ?_ ?_
  · have hsp := ht.1 .spi (by simp)
    have ho : t.outs = _ := ht.1 .outs (by simp)
    have hcn : t.can = _ := ht.1 .can (by simp)
    unfold Sent at hs ⊢
    rw [ho, hcn, hsp.1, hsp.2.2.1]
    exact hs
  · exact (ht.1 .flight (by simp)).trans hf
  · exact (ht.1 .cache (by simp)).1.trans hca
  · exact (hkp.trans ht).mono (by simp) (by simp)
  · exact ⟨hct.1.trans hcl.1, hct.2.1.trans hcl.2.1, hct.2.2.trans hcl.2.2⟩

/-- As `carried_sends`, for a body that leaves commands in flight and the reply cache alone. -/
theorem carried_ends {i : Instr} {s u : State} {c : Cmd} {p : Pkt} {r : Role} {a : Answer} {ps : List Part}
    {rs : List (RegId × Nat)} {P : State → Prop} (he : exec i s = endWith (s.command c p)) (h : Carried s c p r)
    (hb : c.body r p (at_ s p) = (u, some a)) (hk : Kept ps rs (at_ s p) u) (hc : Calm u) (h1 : u.hst.keyClose = none)
    (h2 : u.hst.bootNext = false)
    (hp : Part.outs ∉ ps ∧ Part.can ∉ ps ∧ Part.spi ∉ ps ∧ Part.flight ∉ ps ∧ Part.cache ∉ ps)
    (hr : (RegId.SYS_UNIT, 0) ∉ rs ∧ ∀ i, i < 2 → (RegId.CAN_CMD_REQ, i) ∉ rs)
    (hP : ∀ t, Answered s t c p a → Kept replyParts [] u t → SameClocks u t → P t) : Ends i s P := by
  refine carried_sends he h hb hk hc h1 h2 ⟨hp.1, hp.2.1, hp.2.2.1⟩ hr fun t hs hf hca hkt hct => hP t ⟨hs, ?_, ?_⟩ hkt hct
  · exact hf.trans (hk.1 _ hp.2.2.2.1)
  · have : u.hst.cache = s.hst.cache.filter fun x => !State.sameTag x.pkt p := (hk.1 _ hp.2.2.2.2).1
    rw [hca, this]
    by_cases hkd : c.kind = .read <;> simp [hkd]

/-- A Deferred command's start: its interim reply is sent and it is in flight (R90, R94). -/
theorem defer_started (s : State) (c : Cmd) (p : Pkt) (target : Nat) (a : Answer) (hg : grouped p = false) :
    let v := (at_ s p).defer (BitVec.ofNat 16 c.opcode) p target a
    Started s v c p target a ∧ Kept (.flight :: replyParts) [] s v ∧ v.lan = s.lan ∧ v.hst.keyClose = s.hst.keyClose ∧
      v.hst.bootNext = s.hst.bootNext ∧ SameClocks (at_ s p) v := by
  dsimp only
  have hf : ∀ r, (at_ s p).fitsNow r = s.fitsNow r := fun _ => rfl
  have hr : mkReply (at_ s p) (BitVec.ofNat 16 c.opcode) p a = mkReply s (BitVec.ofNat 16 c.opcode) p a := rfl
  simp only [State.defer, hr, hf, hg, Bool.not_false, Bool.true_and, Bool.false_eq_true, if_false]
  generalize hR : mkReply s (BitVec.ofNat 16 c.opcode) p a = r
  generalize hw : ({ at_ s p with hst := { (at_ s p).hst with flight := _ } } : State) = w
  have hwS : w.hst.flight = s.hst.flight ++ [⟨BitVec.ofNat 16 c.opcode, p, if s.fitsNow r then some r else none, target⟩] := by
    subst hw; rfl
  have hK : Kept [.flight, .cache] [] s w := by
    subst hw
    exact ⟨fun q hq => by cases q <;> simp_all [Part.same, Machine.at_], fun _ _ _ _ => rfl⟩
  have hS := sendReply_hst w p r
  have hKs := sendReply_keeps w p r
  refine ⟨⟨?_, ?_⟩, ?_, ?_, ?_, ?_, ?_⟩
  · rw [hR]
    refine (sendReply_sent w p r).of_same ?_ ?_ ?_ ?_ ?_ ?_ <;> subst hw <;> first | rfl | exact fun _ _ => rfl
  · rw [hR]; exact (hKs.1 .flight (by simp)).trans hwS
  · exact (hK.trans hKs).mono (by simp [replyParts]) (by simp)
  · rw [hS.2.2.1]; subst hw; rfl
  · rw [hS.1]; subst hw; rfl
  · rw [hS.2.1]; subst hw; rfl
  · refine ⟨?_, ?_, ?_⟩
    · rw [hS.2.2.2.1]; subst hw; rfl
    · rw [hS.2.2.2.2.1]; subst hw; rfl
    · rw [hS.2.2.2.2.2]; subst hw; rfl

end Sys2Proof.Machine
end

