-- ==== Sys2Proof/Laws/React.lean ====
section
/-!
SUPPORT. Laws/React.lean: what the reactions to faults, demands and transitions never touch: the relation `Steady`, and one lemma per
shared operation that says it keeps it.
-/

namespace Sys2Proof.Machine

/-- t is s but for what reactions change, the parts `l` and the registers `w`: every other part and register, the clocks and Lantern's memory are the
same. -/
structure Steady (l : List Part) (w : List RegId) (s t : State) : Prop where
  parts : ∀ p, p ∉ l → p ∉ reactParts → p.same s t
  regs : ∀ r i, i < 65536 → r ∉ w → r ∉ reactRegs → t.rd r i = s.rd r i
  clocks : SameClocks s t
  lan : t.lan = s.lan
  orders : t.hst.keyClose = s.hst.keyClose ∧ t.hst.bootNext = s.hst.bootNext

variable {L : List Part} {W : List RegId}

/-- The registers of the device state and of the axis states. -/
abbrev stateRegs : List RegId := [.SYS_STATE, .AX_STAT]

namespace Steady

theorem refl (s : State) : Steady L W s s := ⟨fun p _ _ => p.same_refl s, fun _ _ _ _ _ => rfl, ⟨rfl, rfl, rfl⟩, rfl, rfl, rfl⟩

theorem trans {s t u : State} (h : Steady L W s t) (h' : Steady L W t u) : Steady L W s u :=
  ⟨fun p hl hp => Part.same_trans (h.parts p hl hp) (h'.parts p hl hp), fun r i hi hw hr => (h'.regs r i hi hw hr).trans (h.regs r i hi hw hr),
    ⟨h'.clocks.1.trans h.clocks.1, h'.clocks.2.1.trans h.clocks.2.1, h'.clocks.2.2.trans h.clocks.2.2⟩, h'.lan.trans h.lan,
    h'.orders.1.trans h.orders.1, h'.orders.2.trans h.orders.2⟩

theorem calm {s t : State} (h : Steady L W s t) (hc : Calm s) : Calm t := by unfold Calm; rw [h.lan]; exact hc

theorem fld {s t : State} (h : Steady L W s t) (f : Fld) (i : Nat) (hi : i < 65536) (hw : f.reg ∉ W) (hr : f.reg ∉ reactRegs) :
    t.fld f i = s.fld f i := by
  unfold State.fld; rw [h.regs f.reg i hi hw hr]

theorem mono {l : List Part} {w : List RegId} {s t : State} (h : Steady l w s t) (hl : ∀ p ∈ l, p ∈ L) (hw : ∀ r ∈ w, r ∈ W) :
    Steady L W s t :=
  ⟨fun p hp hr => h.parts p (fun hm => hp (hl p hm)) hr, fun r i hi hn hr => h.regs r i hi (fun hm => hn (hw r hm)) hr, h.clocks,
    h.lan, h.orders⟩

/-- A step that changes none of the registers and only parts that reactions may change. -/
theorem of_parts {s t : State} (hp : ∀ p, p ∉ L → p ∉ reactParts → p.same s t) (hr : t.regs = s.regs) (hc : SameClocks s t)
    (hl : t.lan = s.lan) (ho : t.hst.keyClose = s.hst.keyClose ∧ t.hst.bootNext = s.hst.bootNext) : Steady L W s t :=
  ⟨hp, fun r i _ _ _ => by unfold State.rd; rw [hr], hc, hl, ho⟩

theorem wr (s : State) (r : RegId) (w : Word) (i : Nat) (hr : r ∈ W ∨ r ∈ reactRegs) (hi : i < 65536) : Steady L W s (s.wr r w i) :=
  ⟨fun p _ _ => by cases p <;> simp [Part.same],
    fun r' i' hi' hw hn => State.rd_wr_other s r r' w i i' hi hi' (.inl fun e => hr.elim (fun h => hw (e ▸ h)) (fun h => hn (e ▸ h))), ⟨rfl, rfl, rfl⟩, rfl, rfl, rfl⟩

theorem setF (s : State) (f : Fld) (v i : Nat) (hr : f.reg ∈ W ∨ f.reg ∈ reactRegs) (hi : i < 65536) : Steady L W s (s.setF f v i) := wr s _ _ i hr hi

theorem setBit (s : State) (f : Fld) (k : Nat) (v : Bool) (i : Nat) (hr : f.reg ∈ W ∨ f.reg ∈ reactRegs) (hi : i < 65536) :
    Steady L W s (s.setBit f k v i) := wr s _ _ i hr hi

theorem bump (s : State) (f : Fld) (i : Nat) (hr : f.reg ∈ W ∨ f.reg ∈ reactRegs) (hi : i < 65536) : Steady L W s (s.bump f i) := wr s _ _ i hr hi

theorem emit (s : State) (o : Out) : Steady L W s (s.emit o) :=
  of_parts (fun p hl hp => by cases p <;> simp_all [Part.same]) rfl ⟨rfl, rfl, rfl⟩ rfl ⟨rfl, rfl⟩

theorem updAxis (s : State) (n : Nat) (f : Axis → Axis) : Steady L W s (s.updAxis n f) :=
  of_parts (fun p hl hp => by cases p <;> simp_all [Part.same]) rfl ⟨rfl, rfl, rfl⟩ rfl ⟨rfl, rfl⟩

theorem updBridge (s : State) (n : Nat) (f : Bridge → Bridge) : Steady L W s (s.updBridge n f) :=
  of_parts (fun p hl hp => by cases p <;> simp_all [Part.same]) rfl ⟨rfl, rfl, rfl⟩ rfl ⟨rfl, rfl⟩

theorem updChan (s : State) (n : Nat) (f : Chan → Chan) : Steady L W s (s.updChan n f) :=
  of_parts (fun p hl hp => by cases p <;> simp_all [Part.same]) rfl ⟨rfl, rfl, rfl⟩ rfl ⟨rfl, rfl⟩

theorem gate (s : State) (g : Gate) : Steady L W s { s with gate := g } :=
  of_parts (fun p hl hp => by cases p <;> simp_all [Part.same]) rfl ⟨rfl, rfl, rfl⟩ rfl ⟨rfl, rfl⟩

theorem pwm (s : State) (g : Pwm) : Steady L W s { s with pwm := g } :=
  of_parts (fun p hl hp => by cases p <;> simp_all [Part.same]) rfl ⟨rfl, rfl, rfl⟩ rfl ⟨rfl, rfl⟩

theorem mot (s : State) (g : Motion) : Steady L W s { s with mot := g } :=
  of_parts (fun p hl hp => by cases p <;> simp_all [Part.same]) rfl ⟨rfl, rfl, rfl⟩ rfl ⟨rfl, rfl⟩

theorem fio (s : State) (g : Fio) : Steady L W s { s with fio := g } :=
  of_parts (fun p hl hp => by cases p <;> simp_all [Part.same]) rfl ⟨rfl, rfl, rfl⟩ rfl ⟨rfl, rfl⟩

theorem em (s : State) (g : List Em) : Steady L W s { s with em := g } :=
  of_parts (fun p hl hp => by cases p <;> simp_all [Part.same]) rfl ⟨rfl, rfl, rfl⟩ rfl ⟨rfl, rfl⟩

theorem share (s : State) (g : List Share) : Steady L W s { s with share := g } :=
  of_parts (fun p hl hp => by cases p <;> simp_all [Part.same]) rfl ⟨rfl, rfl, rfl⟩ rfl ⟨rfl, rfl⟩

theorem free (s : State) (n : Nat) : Steady L W s { s with free := n } :=
  of_parts (fun p hl hp => by cases p <;> simp_all [Part.same]) rfl ⟨rfl, rfl, rfl⟩ rfl ⟨rfl, rfl⟩

theorem obs (s : State) (g : List Obs) : Steady L W s { s with obs := g } :=
  of_parts (fun p hl hp => by cases p <;> simp_all [Part.same]) rfl ⟨rfl, rfl, rfl⟩ rfl ⟨rfl, rfl⟩

theorem str (s : State) (g : Str) : Steady L W s { s with str := g } :=
  of_parts (fun p hl hp => by cases p <;> simp_all [Part.same]) rfl ⟨rfl, rfl, rfl⟩ rfl ⟨rfl, rfl⟩

theorem can (s : State) (g : List Can) : Steady L W s { s with can := g } :=
  of_parts (fun p hl hp => by cases p <;> simp_all [Part.same]) rfl ⟨rfl, rfl, rfl⟩ rfl ⟨rfl, rfl⟩

/-- A condition that takes a steady step or none. -/
theorem step_if {s t : State} {p : Prop} [Decidable p] (h : Steady L W s t) (f : State → State) (hf : ∀ u, Steady L W u (f u)) :
    Steady L W s (if p then f t else t) := by
  split
  · exact h.trans (hf t)
  · exact h

/-- A fold of steady steps. -/
theorem foldl {α : Type} (l : List α) (f : State → α → State) (h : ∀ s, ∀ a ∈ l, Steady L W s (f s a)) (s : State) :
    Steady L W s (l.foldl f s) := by
  induction l generalizing s with
  | nil => exact refl s
  | cons a l ih =>
    exact (h s a (by simp)).trans (ih (fun s b hb => h s b (by simp [hb])) _)

theorem forN (s : State) (n : Nat) (f : Nat → State → State) (h : ∀ k, k < n → ∀ s, Steady L W s (f k s)) : Steady L W s (s.forN n f) :=
  foldl _ _ (fun s a ha => h a (by simpa [upTo] using ha) s) s

theorem forL {α : Type} (s : State) (l : List α) (f : α → State → State) (h : ∀ a ∈ l, ∀ s, Steady L W s (f a s)) : Steady L W s (s.forL l f) :=
  foldl _ _ (fun s a ha => h a ha s) s

/-! ## Free values -/

theorem quot (s : State) (n d : Int) : Steady L W s (s.quot n d).2 := by
  unfold State.quot
  split
  · exact free s _
  · split
    · exact refl s
    · exact free s _

theorem gain (s : State) (a k : Nat) (v : Int) : Steady L W s (s.gain a k v).2 := quot s _ _

theorem pmul (s : State) (v w : Int) : Steady L W s (s.pmul v w).2 := quot s _ _

/-! ## Gates -/

theorem driveAt (s : State) (g : Nat) (v : Bool) (t : Nat) : Steady L W s (s.driveAt g v t) := by
  unfold State.driveAt
  split
  · exact refl s
  · exact (gate s _).trans (updChan _ _ _)

theorem drive (s : State) (g : Nat) (v : Bool) : Steady L W s (s.drive g v) := driveAt s g v _

theorem driveChop (s : State) (k : Nat) (v : Bool) : Steady L W s (s.driveChop k v) := by
  unfold State.driveChop
  dsimp only
  split
  · exact refl s
  · exact ((drive s _ v).trans (gate _ _)).trans (setBit _ F.CHOP_STAT_ON k v 0 (.inr (by decide)) (by decide))

theorem notRunning (s : State) (b : Nat) (hb : b < 65536) : Steady L W s (s.notRunning b) :=
  ((setF s F.BR_STAT_RUNNING 0 b (.inr (by decide)) hb).trans (setBit _ F.PWM_STAT_RUNNING b false 0 (.inr (by decide)) (by decide))).trans
    (updBridge _ _ _)

theorem tseqTimed (s : State) (b : Nat) : Steady L W s (s.tseqTimed b).2 := by
  unfold State.tseqTimed
  split
  · exact free s _
  · exact refl s

theorem offSeq (s : State) (b : Nat) (hb : b < 65536) : Steady L W s (s.offSeq b) := by
  unfold State.offSeq
  split
  · exact refl s
  · have k1 : ∀ u, Steady L W s u → Steady L W s (u.forL (u.outerSlots b) fun k s => if s.slot b k < 48 then s.drive (s.slot b k) false else s) :=
      fun u h => h.trans (forL _ _ _ fun k _ s => by split; exact drive s _ _; exact refl s)
    have k2 : ∀ u, Steady L W s u → Steady L W s (u.forL (u.choppersOf b) fun k s => s.driveChop k false) :=
      fun u h => h.trans (forL _ _ _ fun k _ s => driveChop s k false)
    have k3 : ∀ u, Steady L W s u → Steady L W s (u.notRunning b) := fun u h => h.trans (notRunning u b hb)
    have k4 : ∀ u c, Steady L W s u → Steady L W s (if (u.fld F.BR_CFG_TYPE b == 2 && c) = true then
        match u.tseqTimed b with
        | (n, u) => ({ u with gate := { u.gate with offDue := upd u.gate.offDue b fun _ => some (u.tick + n) } }).setBit
          F.GATE_STAT_OFFSEQ b true
        else u) := fun u c h => by
      split
      · exact ((h.trans (tseqTimed u b)).trans (gate _ _)).trans (setBit _ F.GATE_STAT_OFFSEQ b true 0 (.inr (by decide)) (by decide))
      · exact h
    exact k4 _ _ (k3 _ (k2 _ (k1 _ (pwm s _))))

theorem offAll (s : State) : Steady L W s s.offAll := forN s 8 _ fun k hk s => offSeq s k (by omega)

theorem setHalf (s : State) (x : Nat) (h l : Bool) : Steady L W s (s.setHalf x h l) :=
  (gate s _).trans (setF _ F.GATE_AUX_STAT_HIZ _ 0 (.inr (by decide)) (by decide))

theorem auxHiZ (s : State) : Steady L W s s.auxHiZ := (forN s 4 _ fun x _ s => setHalf s x false false).trans (mot _ _)

theorem showWick (s : State) : Steady L W s s.showWick := setF s F.GATE_AUX_STAT_WICK_ON _ 0 (.inr (by decide)) (by decide)

theorem wickFrom (s : State) (d : Nat) : Steady L W s (s.wickFrom d) := step_if (refl s) _ fun u => showWick u

/-! ## Replies of commands in flight -/

theorem queueCan (s : State) (c : Nat) (r : Reply) : Steady L W s (s.queueCan c r) := by
  unfold State.queueCan
  split
  · exact refl s
  · exact can s _

theorem sendReply (s : State) (p : Pkt) (r : Reply) : Steady L W s (s.sendReply p r) := by
  unfold State.sendReply
  split
  · split <;> exact of_parts (fun p hl hp => by cases p <;> simp_all [Part.same]) rfl ⟨rfl, rfl, rfl⟩ rfl ⟨rfl, rfl⟩
  · exact emit s _
  · exact queueCan s _ _
  · exact queueCan s _ _

theorem conclude (s : State) (o : BitVec 16) (p : Pkt) (r : Bool) (a : Answer) : Steady L W s (s.conclude o p r a) := by
  unfold State.conclude
  split
  · split
    · exact refl s
    · exact of_parts (fun p hl hp => by cases p <;> simp_all [Part.same]) rfl ⟨rfl, rfl, rfl⟩ rfl ⟨rfl, rfl⟩
  · dsimp only
    refine Steady.trans ?_ (sendReply _ _ _)
    split
    · exact refl s
    · exact of_parts (fun p hl hp => by cases p <;> simp_all [Part.same, State.cacheReply]) rfl ⟨rfl, rfl, rfl⟩ rfl ⟨rfl, rfl⟩

theorem finish (s : State) (o : BitVec 16) (n : Nat) (a : Answer) : Steady L W s (s.finish o n a) := by
  unfold State.finish
  refine Steady.trans ?_ (forL _ _ _ fun f _ s => conclude s _ _ _ _)
  exact of_parts (fun p hl hp => by cases p <;> simp_all [Part.same]) rfl ⟨rfl, rfl, rfl⟩ rfl ⟨rfl, rfl⟩

/-! ## Captures, grids, motion -/

theorem capPush (s : State) (ws : List Word) (c : Bool) : Steady L W s (s.capPush ws c) := by
  unfold State.capPush
  split
  · exact ((bump s F.STR_DROP_COUNT 0 (.inr (by decide)) (by decide)).trans
      (setF _ F.STR_STAT_OVERFLOW _ 0 (.inr (by decide)) (by decide))).trans (str _ _)
  · exact str s _

theorem capClose (s : State) (b : Bool) : Steady L W s (s.capClose b) := by
  unfold State.capClose
  split
  · exact refl s
  · split
    · exact refl s
    · dsimp only
      refine Steady.trans (Steady.trans ?_ (capPush _ _ _)) (((str _ _).trans (setF _ F.STR_STAT_CAPTURE 3 0 (.inr (by decide)) (by decide))).trans
        (setF _ F.STR_CAP_FILL_WORDS _ 0 (.inr (by decide)) (by decide)))
      split
      · exact refl s
      · exact (capPush s _ _).trans (capPush _ _ _)

theorem capDisabled (s : State) : Steady L W s s.capDisabled := by
  unfold State.capDisabled
  split
  · split
    · exact capClose s _
    · exact refl s
  · exact refl s

theorem logFault (s : State) (c a : Nat) (d : List Word) (b : Bool) : Steady [.logs] W s (s.logFault c a d b) := by
  have h : Steady [.logs] W s ((s.setF F.SYS_FAULT_LAST_CODE c).setF F.SYS_FAULT_LAST_CLASS (faultClass c)) :=
    (setF s _ _ 0 (.inr (by decide)) (by decide)).trans (setF _ _ _ 0 (.inr (by decide)) (by decide))
  unfold State.logFault
  dsimp only
  generalize ((s.setF F.SYS_FAULT_LAST_CODE c).setF F.SYS_FAULT_LAST_CLASS (faultClass c)) = u at h ⊢
  refine h.trans ?_
  split
  · split <;> exact of_parts (fun p hl hp => by cases p <;> simp_all [Part.same]) rfl ⟨rfl, rfl, rfl⟩ rfl ⟨rfl, rfl⟩
  · exact of_parts (fun p hl hp => by cases p <;> simp_all [Part.same]) rfl ⟨rfl, rfl, rfl⟩ rfl ⟨rfl, rfl⟩

theorem meRest (s : State) (n : Nat) (h : Bool) (hn : n < 65536) : Steady L W s (s.meRest n h) :=
  (((((mot s _).trans (setF _ F.ME_STAT_AT_REST 1 n (.inr (by decide)) hn)).trans (setF _ F.ME_STAT_PROFILE 0 n (.inr (by decide)) hn)).trans
    (setF _ F.ME_STAT_HOMING 0 n (.inr (by decide)) hn)).trans (setF _ F.ME_STAT_GEARED 0 n (.inr (by decide)) hn)).trans
    (wr _ .ME_SPEED 0 n (.inr (by decide)) hn)

theorem meStop (s : State) (n : Nat) (a : Answer) (hn : n < 65536) : Steady [.logs] W s (s.meStop n a) := by
  unfold State.meStop
  split
  · exact (meRest s n false hn).trans (finish _ _ _ _)
  · dsimp only
    refine (Steady.trans (Steady.trans ?_ (meRest _ n _ hn)) (finish _ _ _ _)).trans (finish _ _ _ _)
    split
    · exact ((setF s F.ME_STAT_UNCERTAIN 1 n (.inr (by decide)) hn).trans (bump _ F.ME_UNC_CNT_COUNT n (.inr (by decide)) hn)).trans
        (logFault _ _ _ _ _)
    · exact refl s

/-! ## The loops of an axis -/

theorem speedTarget (s : State) (a : Nat) (v : Int) : Steady L W s (s.speedTarget a v).2 := by
  unfold State.speedTarget
  dsimp only
  split
  · exact gain s _ _ _
  · exact refl s
  · split
    · exact pmul s _ _
    · exact refl s

theorem presetPi (s : State) (a : Nat) (ha : a < 65536) : Steady L W s (s.presetPi a) := by
  have k1 := speedTarget (L := L) (W := W) s a (s.sg .AX_T_REF a)
  have k2 := gain (L := L) (W := W) (s.speedTarget a (s.sg .AX_T_REF a)).2 a State.gKpSpd
    ((s.speedTarget a (s.sg .AX_T_REF a)).1 - (s.speedTarget a (s.sg .AX_T_REF a)).2.sg .AX_SPEED a)
  exact step_if (((k1.trans k2).trans (gain _ a State.gKpTen _)).trans (updAxis _ _ _)) _ fun u => wr u .AX_T_OUT _ a (.inr (by decide)) ha

theorem reaim (s : State) (a was : Nat) (ha : a < 65536) : Steady L W s (s.reaim a was) := by
  unfold State.reaim
  dsimp only
  split
  · exact presetPi s a ha
  · exact ((wr s .AX_SP_ACTIVE _ a (.inr (by decide)) ha).trans (updAxis _ _ _)).trans (presetPi _ a ha)

theorem auxStop (s : State) (c : Nat) (b : Bool) : Steady [.logs] W s (s.auxStop c b) := by
  refine (auxHiZ s).trans (forN _ 2 _ fun n hn s => ?_)
  split
  · exact meStop s n _ (by omega)
  · exact refl s

/-! ## Transitions -/

theorem setDev (s : State) (d c : Nat) (e : Bool) : Steady [.logs] stateRegs s (s.setDev d c e) := by
  have hsys : ∀ (u : State) (t : Option Nat), Steady [.logs] stateRegs u { u with sys := { u.sys with lastTrans := t } } := fun u t =>
    of_parts (fun p hl hp => by cases p <;> simp_all [Part.same, Sys.others]) rfl ⟨rfl, rfl, rfl⟩ rfl ⟨rfl, rfl⟩
  unfold State.setDev
  dsimp only
  split
  · exact refl s
  · have h1 : Steady [.logs] stateRegs s ((s.setF F.SYS_STATE_PREV_STATE s.dev).setF F.SYS_STATE_STATE d) :=
      (setF s _ _ 0 (.inl (by decide)) (by decide)).trans (setF _ _ _ 0 (.inl (by decide)) (by decide))
    have k1 : ∀ u, Steady [.logs] stateRegs s u → Steady [.logs] stateRegs s (if e = true then { u with sys := { u.sys with lastTrans := some u.tick } } else u) :=
      fun u h => step_if h _ fun u => hsys u _
    have k2 : ∀ (c : Bool) u, Steady [.logs] stateRegs s u → Steady [.logs] stateRegs s (if c = true then { u with mot := { u.mot with hiz := false } } else u) :=
      fun c u h => step_if h _ fun u => mot u _
    have k3 : ∀ (b : Bool) u, Steady [.logs] stateRegs s u → Steady [.logs] stateRegs s (if b = true then u.auxStop c true else u) :=
      fun b u h => step_if h _ fun u => auxStop u c true
    have k4 : ∀ (c : Bool) u, Steady [.logs] stateRegs s u → Steady [.logs] stateRegs s (if c = true then u else u.forN 8 fun k s => s.driveChop k false) :=
      fun c u h => by
        split
        · exact h
        · exact h.trans (forN _ 8 _ fun k _ s => driveChop s k false)
    have k5 : ∀ (c : Bool) u, Steady [.logs] stateRegs s u → Steady [.logs] stateRegs s (if c = true then u.doSafe else u) :=
      fun c u h => step_if h _ fun u => fio u _
    exact k5 _ _ ((k4 _ _ (k3 _ _ (k2 _ _ (k1 _ h1)))).trans (wickFrom _ _))

/-- The device state after a transition is the one named (R77). -/
theorem setDev_dev (s : State) (d c : Nat) (e : Bool) (hd : d < 16) : (s.setDev d c e).dev = d := by
  have hst : ∀ u v : State, Steady [.logs] [] u v → v.dev = u.dev := fun u v h => h.fld F.SYS_STATE_STATE 0 (by decide) (by simp) (by decide)
  have h1 : ∀ u : State, ((u.setF F.SYS_STATE_PREV_STATE s.dev).setF F.SYS_STATE_STATE d).dev = d := fun u => by
    unfold State.dev
    rw [State.fld_setF_same _ _ _ _ (by decide)]
    exact Nat.mod_eq_of_lt hd
  unfold State.setDev
  dsimp only
  split
  · rename_i h; simpa using h
  · have hu := h1 s
    generalize ((s.setF F.SYS_STATE_PREV_STATE s.dev).setF F.SYS_STATE_STATE d) = u at hu ⊢
    have k1 : ∀ u : State, u.dev = d → (if e = true then { u with sys := { u.sys with lastTrans := some u.tick } } else u).dev = d :=
      fun u h => by split <;> exact h
    have k2 : ∀ (c : Bool) (u : State), u.dev = d → (if c = true then { u with mot := { u.mot with hiz := false } } else u).dev = d :=
      fun c u h => by split <;> exact h
    have k3 : ∀ (b : Bool) (u : State), u.dev = d → (if b = true then u.auxStop c true else u).dev = d :=
      fun b u h => by
        split
        · exact (hst _ _ (auxStop u c true)).trans h
        · exact h
    have k4 : ∀ (c : Bool) (u : State), u.dev = d → (if c = true then u else u.forN 8 fun k s => s.driveChop k false).dev = d :=
      fun c u h => by
        split
        · exact h
        · exact (hst _ _ (forN _ 8 _ fun k _ s => driveChop s k false)).trans h
    have k5 : ∀ (c : Bool) (u : State), u.dev = d → (if c = true then u.doSafe else u).dev = d :=
      fun c u h => by split <;> exact h
    exact k5 _ _ ((hst _ _ (wickFrom _ _)).trans (k4 _ _ (k3 _ _ (k2 _ _ (k1 _ hu)))))

/-- Entering ARMED or RUN stops nothing. -/
theorem setDev_moving (s : State) (d c : Nat) (e : Bool) (hd : d = dARMED ∨ d = dRUN) :
    Steady L stateRegs s (s.setDev d c e) := by
  have hsys : ∀ (u : State) (t : Option Nat), Steady L stateRegs u { u with sys := { u.sys with lastTrans := t } } := fun u t =>
    of_parts (fun p hl hp => by cases p <;> simp_all [Part.same, Sys.others]) rfl ⟨rfl, rfl, rfl⟩ rfl ⟨rfl, rfl⟩
  have hg : ((s.dev == dARMED || s.dev == dRUN) && d != dARMED && d != dRUN) = false := by
    rcases hd with h | h <;> rw [h] <;> simp
  have h4 : (d == dARMED || d == dRUN || d == dFAULT) = true := by rcases hd with h | h <;> rw [h] <;> rfl
  have h5 : (d == dSAFE || d == dQUARANTINE || d == dUPDATE) = false := by rcases hd with h | h <;> rw [h] <;> rfl
  unfold State.setDev
  dsimp only
  split
  · exact refl s
  · have h1 : Steady L stateRegs s ((s.setF F.SYS_STATE_PREV_STATE s.dev).setF F.SYS_STATE_STATE d) :=
      (setF s _ _ 0 (.inl (by decide)) (by decide)).trans (setF _ _ _ 0 (.inl (by decide)) (by decide))
    have k1 : ∀ u, Steady L stateRegs s u → Steady L stateRegs s (if e = true then { u with sys := { u.sys with lastTrans := some u.tick } } else u) :=
      fun u h => step_if h _ fun u => hsys u _
    have k2 : ∀ (c : Bool) u, Steady L stateRegs s u → Steady L stateRegs s (if c = true then { u with mot := { u.mot with hiz := false } } else u) :=
      fun c u h => step_if h _ fun u => mot u _
    generalize (d == dARMED || d == dRUN || d == dFAULT) = b4 at h4 ⊢
    generalize (d == dSAFE || d == dQUARANTINE || d == dUPDATE) = b5 at h5 ⊢
    generalize ((s.dev == dARMED || s.dev == dRUN) && d != dARMED && d != dRUN) = b3 at hg ⊢
    subst h4 h5 hg
    exact (k2 _ _ (k1 _ h1)).trans (wickFrom _ _)

theorem runBitsOff (s : State) (a : Nat) : Steady L stateRegs s (s.runBitsOff a) :=
  forL s _ _ fun b hb s => (setBit s F.PWM_CTRL_RUN b false 0 (.inr (by decide)) (by decide)).trans (offSeq _ b (by
    have : b < 8 := by simpa [State.bridgesOf, upTo] using (List.mem_filter.mp hb).1
    omega))

theorem axisTo (s : State) (a st : Nat) (ha : a < 65536) : Steady L stateRegs s (s.axisTo a st) := by
  unfold State.axisTo
  dsimp only
  have k0 : Steady L stateRegs s (if (st == aDISABLED) = true then s.gridOff a else if (s.axSt a == aDISABLED) = true then s.gridOn a else s) := by
    split
    · exact updAxis s _ _
    · split
      · exact updAxis s _ _
      · exact refl s
  have k1 : ∀ u, Steady L stateRegs s u → Steady L stateRegs s ((u.setF F.AX_STAT_STATE st a).capDisabled) :=
    fun u h => (h.trans (setF _ _ _ a (.inl (by decide)) ha)).trans (capDisabled _)
  have k2 : ∀ u (c d : Bool), Steady L stateRegs s u →
      Steady L stateRegs s (if (u.dev == dARMED && c) = true then u.setDev dRUN 0 true
        else if (u.dev == dRUN && d) = true then u.setDev dARMED 0 true else u) := fun u c d h => by
    split
    · exact h.trans (setDev_moving _ _ _ _ (.inr rfl))
    · split
      · exact h.trans (setDev_moving _ _ _ _ (.inl rfl))
      · exact h
  exact k2 _ _ _ (k1 _ k0)

theorem modesEnd (s : State) (a : Nat) (ha : a < 65536) : Steady L stateRegs s (s.modesEnd a) :=
  ((((setF s F.AX_EM_STAT_OPMODE 0 a (.inr (by decide)) ha).trans (setF _ F.AX_EM_STAT_LIMP 0 a (.inr (by decide)) ha)).trans
    (setF _ F.AX_EM_STAT_SENSORLESS 0 a (.inr (by decide)) ha)).trans (em _ _)).trans (setF _ F.AX_EM_STAT_PROVING 0 a (.inr (by decide)) ha)

theorem obsEnd (s : State) (a : Nat) : Steady L stateRegs s (s.obsEnd a) := obs s _

theorem shareEnd (s : State) (a : Nat) (ha : a < 65536) : Steady L stateRegs s (s.shareEnd a) :=
  ((share s _).trans (setF _ F.AX_SH_STAT_MEMBERS 0 a (.inr (by decide)) ha)).trans (setF _ F.AX_SH_STAT_REMOTE_N 0 a (.inr (by decide)) ha)

theorem toDisabled (s : State) (a : Nat) (ha : a < 65536) : Steady L stateRegs s (s.toDisabled a) :=
  ((((((runBitsOff s a).trans (modesEnd _ a ha)).trans (obsEnd _ a)).trans (shareEnd _ a ha)).trans (updAxis _ _ _)).trans (axisTo _ a _ ha)).trans
    ((finish _ _ _ _).trans (finish _ _ _ _))

theorem rampFrom (s : State) (a was : Nat) (ha : a < 65536) : Steady L stateRegs s (s.rampFrom a was) :=
  ((wr s .AX_SP_ACTIVE _ a (.inr (by decide)) ha).trans (updAxis _ _ _)).trans (presetPi _ a ha)

theorem toStopping (s : State) (a : Nat) (why : StopCause) (ha : a < 65536) : Steady L stateRegs s (s.toStopping a why) :=
  (((((((updAxis s _ _).trans (em _ _)).trans (obs _ _)).trans (setF _ F.AX_EM_STAT_OPMODE 0 a (.inr (by decide)) ha)).trans
    (setF _ F.AX_EM_STAT_PROVING 0 a (.inr (by decide)) ha)).trans (axisTo _ a _ ha)).trans (rampFrom _ a _ ha)).trans (finish _ _ _ _)

theorem toFaulted (s : State) (a code : Nat) (ramp : Bool) (ha : a < 65536) : Steady L stateRegs s (s.toFaulted a code ramp) := by
  unfold State.toFaulted
  dsimp only
  have k0 : Steady L stateRegs s (if ramp = true then s else s.runBitsOff a) := by
    split
    · exact refl s
    · exact runBitsOff s a
  have k1 : ∀ u, Steady L stateRegs s u → Steady L stateRegs s ((u.modesEnd a).obsEnd a) := fun u h => (h.trans (modesEnd u a ha)).trans (obsEnd _ a)
  have k2 : ∀ u f, Steady L stateRegs s u → Steady L stateRegs s (u.updAxis a f) := fun u f h => h.trans (updAxis u _ _)
  have k3 : ∀ u, Steady L stateRegs s u → Steady L stateRegs s (if ramp = true then u.rampFrom a (s.modeOf a) else u) :=
    fun u h => step_if h _ fun u => rampFrom u a _ ha
  have k4 : ∀ u, Steady L stateRegs s u → Steady L stateRegs s (u.axisTo a aFAULTED) := fun u h => h.trans (axisTo u a _ ha)
  have k5 : ∀ u o b, Steady L stateRegs s u → Steady L stateRegs s (u.finish o a b) := fun u o b h => h.trans (finish u _ _ _)
  exact k5 _ _ _ (k5 _ _ _ (k5 _ _ _ (k3 _ (k4 _ (k2 _ _ (k1 _ k0))))))

/-- An FR2 of an axis is steady, but in the operating mode that drops the brake request with it. -/
theorem react2 (s : State) (code a : Nat) (ha : a < 65536) (hm : s.fld F.AX_EM_STAT_OPMODE a ≠ 5) : Steady L stateRegs s (s.react2 code a) := by
  have h0 : Steady L stateRegs s (s.setF F.AX_FAULT_CODE code a) := setF s _ _ a (.inr (by decide)) ha
  have hm' : (s.setF F.AX_FAULT_CODE code a).fld F.AX_EM_STAT_OPMODE a ≠ 5 := by
    rwa [State.fld_setF_reg _ _ _ _ _ _ ha ha (.inl (by decide))]
  unfold State.react2
  dsimp only
  generalize s.setF F.AX_FAULT_CODE code a = u at h0 hm' ⊢
  refine h0.trans ?_
  split
  · split
    · exact obs _ _
    · exact (obsEnd _ a).trans (toStopping _ a _ ha)
  · split
    · exact obs _ _
    · exact (obsEnd _ a).trans (toStopping _ a _ ha)
  · exact (finish _ _ _ _).trans (toStopping _ a _ ha)
  · exact updAxis _ _ _
  · split
    · exact (em _ _).trans (reaim _ a _ ha)
    · contradiction
    · exact em _ _
    · exact toStopping _ a _ ha
  · split
    · exact toFaulted _ a _ _ ha
    · exact refl _
  · exact refl _

end Steady

/-! ## Demands and faults -/

/-- Lantern's own part of a demand or of a fault apart, s and t as in `Steady`: LAN_STAT, LAN_SBC and the SS1 under way may change, a
waiting demand may not. -/
structure Handled (l : List Part) (s t : State) : Prop where
  parts : ∀ p, p ∉ l → p ∉ reactParts → p ≠ .lan → p.same s t
  regs : ∀ r i, i < 65536 → r ∉ reactRegs → r ∉ movedRegs → t.rd r i = s.rd r i
  clocks : SameClocks s t
  waits : t.lan.doneWait = s.lan.doneWait
  orders : t.hst.keyClose = s.hst.keyClose ∧ t.hst.bootNext = s.hst.bootNext

namespace Handled

theorem refl (s : State) : Handled L s s := ⟨fun p _ _ _ => p.same_refl s, fun _ _ _ _ _ => rfl, ⟨rfl, rfl, rfl⟩, rfl, rfl, rfl⟩

theorem trans {s t u : State} (h : Handled L s t) (h' : Handled L t u) : Handled L s u :=
  ⟨fun p hl hp hn => Part.same_trans (h.parts p hl hp hn) (h'.parts p hl hp hn),
    fun r i hi hr h1 => (h'.regs r i hi hr h1).trans (h.regs r i hi hr h1),
    ⟨h'.clocks.1.trans h.clocks.1, h'.clocks.2.1.trans h.clocks.2.1, h'.clocks.2.2.trans h.clocks.2.2⟩, h'.waits.trans h.waits,
    h'.orders.1.trans h.orders.1, h'.orders.2.trans h.orders.2⟩

theorem of {s t : State} (h : Steady L stateRegs s t) : Handled L s t :=
  ⟨fun p hl hp _ => h.parts p hl hp, fun r i hi hr hm => h.regs r i hi (fun hw => hm (by simp_all)) hr, h.clocks, by rw [h.lan], h.orders⟩

theorem mono {l : List Part} {s t : State} (h : Handled l s t) (hl : ∀ p ∈ l, p ∈ L) : Handled L s t :=
  ⟨fun p hp hr hn => h.parts p (fun hm => hp (hl p hm)) hr hn, h.regs, h.clocks, h.waits, h.orders⟩

theorem calm {s t : State} (h : Handled L s t) (hc : Calm s) : Calm t := h.waits.trans hc

theorem wr (s : State) (r : RegId) (w : Word) (hr : r = .LAN_STAT ∨ r = .LAN_SBC) : Handled L s (s.wr r w 0) :=
  ⟨fun p _ _ _ => by cases p <;> simp [Part.same],
    fun r' i' hi' hn h1 => State.rd_wr_other s r r' w 0 i' (by decide) hi' (.inl fun e => by rcases hr with h | h <;> simp_all),
    ⟨rfl, rfl, rfl⟩, rfl, rfl, rfl⟩

theorem ss1 (s : State) (x : Option Ss1) : Handled L s { s with lan := { s.lan with ss1 := x } } :=
  ⟨fun p hl hp hn => by cases p <;> simp_all [Part.same], fun _ _ _ _ _ => rfl, ⟨rfl, rfl, rfl⟩, rfl, rfl, rfl⟩

theorem forN (s : State) (n : Nat) (f : Nat → State → State) (h : ∀ k, k < n → ∀ s, Handled L s (f k s)) :
    Handled L s (s.forN n f) := by
  have : ∀ (l : List Nat), (∀ k ∈ l, k < n) → ∀ s, Handled L s (l.foldl (fun s k => f k s) s) := by
    intro l
    induction l with
    | nil => exact fun _ s => refl s
    | cons a l ih => exact fun hl s => (h a (hl a (by simp)) s).trans (ih (fun k hk => hl k (by simp [hk])) _)
  exact this _ (fun k hk => by simpa [upTo] using hk) s

/-- STO takes effect. -/
theorem stoTake (s : State) : Handled L s s.stoTake := by
  unfold State.stoTake
  split
  · exact refl s
  · have k0 := ss1 (L := L) s none
    have k1 : ∀ u, Handled L s u → Handled L s ((u.setF F.LAN_STAT_STO_ACTIVE 1).setF F.LAN_STAT_SS1_RUN 0) :=
      fun u h => (h.trans (wr _ _ _ (.inl rfl))).trans (wr _ _ _ (.inl rfl))
    have k2 : ∀ u, Handled L s u → Handled L s (u.offAll.forN 8 fun k s => s.driveChop k false) := fun u h =>
      (h.trans (of (Steady.offAll _))).trans (of (Steady.forN _ _ _ fun k _ s => Steady.driveChop s k false))
    have k3 : ∀ u, Handled L s u → Handled L s ((u.setF F.LAN_SBC_ON 0).setF F.LAN_STAT_SBC_APPLIED 1) :=
      fun u h => (h.trans (wr _ _ _ (.inr rfl))).trans (wr _ _ _ (.inl rfl))
    refine (k3 _ (k2 _ (k1 _ k0))).trans (forN _ 4 _ fun a ha s => of ?_)
    have ha' : a < 65536 := by omega
    split
    · exact (Steady.finish _ _ _ _).trans (Steady.toDisabled _ a ha')
    · exact (Steady.finish _ _ _ _).trans (Steady.toDisabled _ a ha')
    · exact Steady.toStopping _ a _ ha'
    · exact Steady.toStopping _ a _ ha'
    · exact (Steady.runBitsOff _ _).trans (Steady.updAxis _ _ _)
    · exact Steady.refl _

theorem ss1Start (s : State) (c : Nat) : Handled L s (s.ss1Start c) := by
  unfold State.ss1Start
  split
  · exact refl s
  · exact (ss1 s _).trans (wr _ _ _ (.inl rfl))

theorem ss1Demand (s : State) : Handled L s s.ss1Demand := by
  unfold State.ss1Demand
  split
  · exact refl s
  · refine (forN s 4 _ fun a ha s => of ?_).trans (ss1Start _ _)
    have ha' : a < 65536 := by omega
    split
    · exact (Steady.finish _ _ _ _).trans (Steady.toDisabled _ a ha')
    · exact (Steady.finish _ _ _ _).trans (Steady.toDisabled _ a ha')
    · exact Steady.toStopping _ a _ ha'
    · exact Steady.toStopping _ a _ ha'
    · exact Steady.refl _

theorem react2 (s : State) (code a : Nat) (ha : a < 65536) : Handled L s (s.react2 code a) := by
  by_cases hm : s.fld F.AX_EM_STAT_OPMODE a = 5
  · have h0 : Steady L stateRegs s (s.setF F.AX_FAULT_CODE code a) := Steady.setF s _ _ a (by decide) ha
    unfold State.react2
    dsimp only
    generalize s.setF F.AX_FAULT_CODE code a = u at h0 ⊢
    refine (of h0).trans ?_
    split
    · split
      · exact of (Steady.obs _ _)
      · exact of ((Steady.obsEnd _ a).trans (Steady.toStopping _ a _ ha))
    · split
      · exact of (Steady.obs _ _)
      · exact of ((Steady.obsEnd _ a).trans (Steady.toStopping _ a _ ha))
    · exact of ((Steady.finish _ _ _ _).trans (Steady.toStopping _ a _ ha))
    · exact of (Steady.updAxis _ _ _)
    · split
      · exact of ((Steady.em _ _).trans (Steady.reaim _ a _ ha))
      · exact (wr _ _ _ (.inr rfl)).trans (of (Steady.toFaulted _ a _ _ ha))
      · exact of (Steady.em _ _)
      · exact of (Steady.toStopping _ a _ ha)
    · split
      · exact of (Steady.toFaulted _ a _ _ ha)
      · exact refl _
    · exact refl _
  · exact of (Steady.react2 s code a ha hm)

theorem faultDev (s : State) (c : Nat) :
    Handled [.logs] s (if (s.dev == dREADY || s.dev == dARMED || s.dev == dRUN) = true then s.setDev dFAULT c else s) := by
  split
  · exact of (Steady.setDev _ _ _ _)
  · exact refl s

theorem react3 (s : State) (code : Nat) : Handled [.logs] s (s.react3 code) := by
  unfold State.react3
  refine ((faultDev s code).trans (forN _ 4 _ fun a ha s => of ?_)).trans (ss1Start _ _)
  split
  · exact Steady.refl _
  · exact Steady.toFaulted _ a _ _ (by omega)

theorem react4 (s : State) (code : Nat) : Handled [.logs] s (s.react4 code) := by
  unfold State.react4
  refine (((of (Steady.offAll s)).trans (faultDev _ code)).trans (forN _ 4 _ fun a ha s => of ?_)).trans (stoTake _)
  split
  · exact Steady.refl _
  · split
    · exact (Steady.runBitsOff _ _).trans (Steady.updAxis _ _ _)
    · exact Steady.toFaulted _ a _ _ (by omega)

theorem react5 (s : State) (code : Nat) : Handled [.logs] s (s.react5 code) := by
  unfold State.react5
  have k1 : Handled [.logs] s (s.offAll.forN 4 fun a s =>
      if ((s.axSt a == aDISABLED && !s.justLeft a) || s.axSt a == aFAULTED) = true then s else s.toFaulted a code false) :=
    (of (Steady.offAll s)).trans (forN _ 4 _ fun a ha s => of (by
      split
      · exact Steady.refl _
      · exact Steady.toFaulted _ a _ _ (by omega)))
  have k2 : ∀ u, Handled [.logs] s u → Handled [.logs] s ((u.setDev dSAFE code).stoTake.setF F.SYS_STATE_HALTED 1) := fun u h =>
    ((h.trans (of (Steady.setDev _ _ _ _))).trans (stoTake _)).trans (of (Steady.setF _ F.SYS_STATE_HALTED 1 0 (by decide) (by decide)))
  have k3 : ∀ u, Handled [.logs] s u → Handled [.logs] s { u with sys := { u.sys with
      lastTrans := some u.tick, phase := if (u.sys.phase == .booting) = true then .up else u.sys.phase } } := fun u h =>
    h.trans (of (Steady.of_parts (fun p hl hp => by cases p <;> simp_all [Part.same, Sys.others]) rfl ⟨rfl, rfl, rfl⟩ rfl ⟨rfl, rfl⟩))
  exact k3 _ (k2 _ k1)

/-- A fault noted touches the logs, the latches and its registers alone. -/
theorem note (s : State) (code axis : Nat) (d : List Word) : Handled [.logs, .latched] s (s.note code axis d) := by
  have hlat : ∀ (u : State) (f : Faults), Handled [.logs, .latched] u { u with flt := f } := fun u f =>
    of (Steady.of_parts (fun p hl hp => by cases p <;> simp_all [Part.same]) rfl ⟨rfl, rfl, rfl⟩ rfl ⟨rfl, rfl⟩)
  have k1 : ∀ u, Handled [.logs, .latched] s u →
      Handled [.logs, .latched] s (if axis < 4 then u.setF F.AX_FAULT_CODE code axis else u) := fun u h => by
    split
    · exact h.trans (of (Steady.setF _ _ _ axis (by decide) (by omega)))
    · exact h
  have k2 : ∀ u, Handled [.logs, .latched] s u → Handled [.logs, .latched] s
      (if (faultClass code == 1) = true then { u with flt := { u.flt with unacked := true, alertAt := u.tick } }
       else if faultClass code ≥ 3 then
         { u with flt := { u.flt with latched := ⟨code, faultClass code, axis, u.tick⟩ :: u.flt.latched } } else u) := fun u h => by
    split
    · exact h.trans (hlat u _)
    · split
      · exact h.trans (hlat u _)
      · exact h
  exact k2 _ (k1 _ (of ((Steady.logFault (W := stateRegs) s code axis d false).mono (by simp) (by simp))))

theorem react2s (s : State) (code : Nat) (axes : List Nat) (ha : ∀ a ∈ axes, a < 65536) :
    Handled L s (s.forL axes fun a s => s.react2 code a) := by
  have hl : ∀ (l : List Nat), (∀ k ∈ l, k < 65536) → ∀ s, Handled L s (l.foldl (fun s a => State.react2 s code a) s) := by
    intro l
    induction l with
    | nil => exact fun _ s => refl s
    | cons a l ih => exact fun hl s => (react2 s code a (hl a (by simp))).trans (ih (fun k hk => hl k (by simp [hk])) _)
  exact hl axes ha s

theorem react (s : State) (code : Nat) (axes : List Nat) (ha : ∀ a ∈ axes, a < 65536) : Handled [.logs] s (s.react code axes) := by
  unfold State.react
  split
  · exact react2s s code axes ha
  · exact react3 _ _
  · exact react4 _ _
  · exact react5 _ _
  · exact refl _

/-- A fault raised touches nothing beyond the reactions, the logs and the latches. -/
theorem raise (s : State) (code axis : Nat) (d : List Word) (axes : List Nat) (ha : ∀ a ∈ axes, a < 65536) :
    Handled [.logs, .latched] s (s.raise code axis d axes) :=
  (note s code axis d).trans ((react _ code axes ha).mono (by simp))

end Handled

end Sys2Proof.Machine
end

