-- ==== Sys2Proof/Laws/Raise.lean ====
section
/-!
SUPPORT. Laws/Raise.lean: what a raised fault leaves: its latch or its record, STO, the halt.
-/

namespace Sys2Proof.Machine

theorem logFault_logs (s : State) (c a : Nat) (d : List Word) (b : Bool) :
    ∃ r ∈ (s.logFault c a d b).flt.log, r.code = c ∧ r.axis = a := by
  unfold State.logFault
  dsimp only
  generalize hu : (s.setF F.SYS_FAULT_LAST_CODE c).setF F.SYS_FAULT_LAST_CLASS (faultClass c) = u
  split
  · rename_i r rest h
    split
    · rename_i hc
      simp only [Bool.and_eq_true, beq_iff_eq] at hc
      exact ⟨_, List.mem_cons_self, hc.1.1.2, hc.1.2⟩
    · exact ⟨⟨u.flt.nextSeq, u.meridian, c, faultClass c, a, u.dev, b, 0, d⟩, by simp, rfl, rfl⟩
  · exact ⟨⟨u.flt.nextSeq, u.meridian, c, faultClass c, a, u.dev, b, 0, d⟩, by simp, rfl, rfl⟩

/-- A fault noted shows: it is latched, or logged and alerted, by its class (R10, R82, R453). -/
theorem note_raised (s : State) (code axis : Nat) (d : List Word) : Raised (s.note code axis d) code axis := by
  have hlog := logFault_logs s code axis d false
  unfold State.note
  dsimp only
  generalize s.logFault code axis d = u at hlog
  have k1 : (∃ r ∈ (if axis < 4 then u.setF F.AX_FAULT_CODE code axis else u).flt.log, r.code = code ∧ r.axis = axis) := by
    split
    · simpa using hlog
    · exact hlog
  generalize (if axis < 4 then u.setF F.AX_FAULT_CODE code axis else u) = v at k1
  unfold Raised
  by_cases h1 : faultClass code = 1
  · simpa [h1] using k1
  · by_cases h3 : 3 ≤ faultClass code
    · simp [h1, h3]
    · simpa [h1, h3] using k1

/-- A reaction leaves what shows as raised. -/
theorem react_raised (s : State) (code axis : Nat) (axes : List Nat) (ha : ∀ a ∈ axes, a < 65536) (h : Raised s code axis) :
    Raised (s.react code axes) code axis := by
  have hr := Handled.react s code axes ha
  have hl := hr.parts .latched (by simp) (by decide) (by decide)
  by_cases h3 : 3 ≤ faultClass code
  · unfold Raised at h ⊢
    rw [if_pos h3] at h ⊢
    rw [hl.1]
    exact h
  · have hg : Handled [] s (s.react code axes) := by
      have : faultClass code = 0 ∨ faultClass code = 1 ∨ faultClass code = 2 := by omega
      unfold State.react
      rcases this with h | h | h <;> rw [h]
      · exact Handled.refl s
      · exact Handled.refl s
      · exact Handled.react2s s code axes ha
    unfold Raised at h ⊢
    rw [if_neg h3] at h ⊢
    rw [hl.2.1, (hg.parts .logs (by simp) (by decide) (by decide)).1]
    exact h

/-- A raised fault shows. -/
theorem raise_raised (s : State) (code axis : Nat) (d : List Word) (axes : List Nat) (ha : ∀ a ∈ axes, a < 65536) :
    Raised (s.raise code axis d axes) code axis :=
  react_raised _ code axis axes ha (note_raised s code axis d)

/-- What shows as raised goes on showing while the logs and the latches stay. -/
theorem Raised.of_same {s t : State} {c a : Nat} (h : Raised s c a) (hl : Part.latched.same s t) (hg : Part.logs.same s t) :
    Raised t c a := by
  unfold Raised at h ⊢
  rw [hl.1, hl.2.1, hg.1]
  exact h

theorem Raised.kept {ps : List Part} {rs : List (RegId × Nat)} {s t : State} {c a : Nat} (h : Raised s c a) (hk : Kept ps rs s t)
    (hl : Part.latched ∉ ps) (hg : Part.logs ∉ ps) : Raised t c a := h.of_same (hk.1 _ hl) (hk.1 _ hg)

/-- STO taken is in force. -/
theorem stoTake_on (s : State) : s.stoTake.fld F.LAN_STAT_STO_ACTIVE ≠ 0 := by
  unfold State.stoTake
  split
  · rename_i h; simpa [State.stoOn, State.on] using h
  · dsimp only
    have hsteady : ∀ (u v : State), Steady [.logs] stateRegs u v → v.fld F.LAN_STAT_STO_ACTIVE = u.fld F.LAN_STAT_STO_ACTIVE := fun u v h =>
      h.fld _ 0 (by decide) (by decide) (by decide)
    rw [hsteady _ _ (Steady.forN _ 4 _ fun a ha s => ?_)]
    · rw [State.fld_setF_bits _ F.LAN_STAT_SBC_APPLIED F.LAN_STAT_STO_ACTIVE _ _ rfl (by decide), State.fld_setF_reg _ _ _ _ _ _ (by decide) (by decide) (.inl (by decide)),
        hsteady _ _ (Steady.forN _ 8 _ fun k _ s => Steady.driveChop s k false), hsteady _ _ (Steady.offAll _),
        State.fld_setF_bits _ F.LAN_STAT_SS1_RUN F.LAN_STAT_STO_ACTIVE _ _ rfl (by decide), State.fld_setF_same _ _ _ _ (by decide)]
      decide
    · have ha' : a < 65536 := by omega
      split
      · exact (Steady.finish _ _ _ _).trans (Steady.toDisabled _ a ha')
      · exact (Steady.finish _ _ _ _).trans (Steady.toDisabled _ a ha')
      · exact Steady.toStopping _ a _ ha'
      · exact Steady.toStopping _ a _ ha'
      · exact (Steady.runBitsOff _ _).trans (Steady.updAxis _ _ _)
      · exact Steady.refl _

/-- A fault of class FR4 puts STO in force (R10). -/
theorem raise4_sto (s : State) (code axis : Nat) (d : List Word) (axes : List Nat) (h : faultClass code = 4) :
    (s.raise code axis d axes).fld F.LAN_STAT_STO_ACTIVE ≠ 0 := by
  unfold State.raise State.react
  rw [h]
  exact stoTake_on _

/-- A fault of class FR5 puts STO in force and halts the device (R10). -/
theorem raise5_halts (s : State) (code axis : Nat) (d : List Word) (axes : List Nat) (h : faultClass code = 5) :
    (s.raise code axis d axes).fld F.LAN_STAT_STO_ACTIVE ≠ 0 ∧ (s.raise code axis d axes).fld F.SYS_STATE_HALTED = 1 := by
  unfold State.raise State.react
  rw [h]
  have key : ∀ (u : State) (y : Sys), u.fld F.LAN_STAT_STO_ACTIVE ≠ 0 →
      ({ u.setF F.SYS_STATE_HALTED 1 with sys := y } : State).fld F.LAN_STAT_STO_ACTIVE ≠ 0 ∧
        ({ u.setF F.SYS_STATE_HALTED 1 with sys := y } : State).fld F.SYS_STATE_HALTED = 1 := fun u y h => by
    have e : ∀ (w : State) f, ({ w with sys := y } : State).fld f = w.fld f := fun _ _ => rfl
    rw [e, e, State.fld_setF_reg _ _ _ _ _ _ (by decide) (by decide) (.inl (by decide)), State.fld_setF_same _ _ _ _ (by decide)]
    exact ⟨h, rfl⟩
  exact key _ _ (stoTake_on _)

/-! ## Commands that end in a fault raised -/

theorem Handled.spared {l : List Part} {u t : State} (h : Handled l u t) (hl : ∀ p ∈ l, p ∈ [Part.logs, .latched]) : Spared [] [] u t :=
  ⟨fun p _ h1 h2 => h.parts p (fun hm => h1 (by have := hl p hm; simp_all)) h2 (fun e => h1 (by simp [e])),
    fun r i hi _ h1 h3 => h.regs r i hi h3 h1⟩

theorem Spared.trans {ps qs : List Part} {rs ws : List RegId} {s t u : State} (h : Spared ps rs s t) (h' : Spared qs ws t u) :
    Spared (ps ++ qs) (rs ++ ws) s u := by
  refine ⟨fun p hp h1 h2 => ?_, fun r i hi hr h1 h2 => ?_⟩
  · simp only [List.mem_append, not_or] at hp
    exact Part.same_trans (h.1 p hp.1 h1 h2) (h'.1 p hp.2 h1 h2)
  · simp only [List.mem_append, not_or] at hr
    exact (h'.2 r i hi hr.2 h1 h2).trans (h.2 r i hi hr.1 h1 h2)

/-- What is kept, the registers by name, is spared. -/
theorem Kept.spared {ps : List Part} {rs : List (RegId × Nat)} {s t : State} (h : Kept ps rs s t) : Spared ps (rs.map Prod.fst) s t := by
  refine ⟨fun p hp _ _ => h.1 p hp, fun r i hi hr h1 h3 => h.rd r i hi (fun hm => hr (List.mem_map_of_mem hm)) ?_⟩
  unfold pinBits
  split
  · exact absurd (by simp) h3
  · exact absurd (by simp) h1
  · exact absurd (by simp) h1
  · rfl

/-- A command whose meaning ends in a fault raised ends with the fault shown, its reaction begun, and nothing else touched. -/
theorem ends_raise {c : Instr} {s u : State} {code axis : Nat} {d : List Word} {axes : List Nat} {P : State → Prop}
    (he : exec c s = endWith (u.raise code axis d axes)) (hc : Calm u) (ha : ∀ a ∈ axes, a < 65536)
    (hp : ∀ t, Raised t code axis → Spared [] [] u t → SameClocks u t →
      (4 ≤ faultClass code → faultClass code ≤ 5 → t.fld F.LAN_STAT_STO_ACTIVE ≠ 0) →
      (faultClass code = 5 → t.fld F.SYS_STATE_HALTED = 1) → P t) : Ends c s P := by
  have hr := Handled.raise u code axis d axes ha
  have hx : Calm (u.raise code axis d axes) := hr.calm hc
  have ht := Kept.settle _ hx
  have hcl := settle_clocks _ hx
  refine ⟨_, he, hp _ ?_ ?_ ⟨hcl.1.trans hr.clocks.1, hcl.2.1.trans hr.clocks.2.1, hcl.2.2.trans hr.clocks.2.2⟩ (fun h4 h5 => ?_)
    fun h5 => ?_⟩
  · exact (raise_raised u code axis d axes ha).kept ht (by simp) (by simp)
  · exact (hr.spared (by simp)).trans (qs := []) (ws := []) ht.spared
  · rw [ht.fld F.LAN_STAT_STO_ACTIVE 0 (by decide) (by simp) (by decide)]
    have : faultClass code = 4 ∨ faultClass code = 5 := by omega
    rcases this with h | h
    · exact raise4_sto _ _ _ _ _ h
    · exact (raise5_halts _ _ _ _ _ h).1
  · rw [ht.fld F.SYS_STATE_HALTED 0 (by decide) (by simp) (by decide)]
    exact (raise5_halts _ _ _ _ _ h5).2

end Sys2Proof.Machine
end

