-- ==== Sys2Proof/Machine/Contacts.lean ====
section
/-!
DEFINITION. Machine/Contacts.lean: what the module does with each of its output contacts between two commands (R39 to R44): the level that
it drives, or none. The words that a transfer carries leave as outputs of its command.
-/

namespace Sys2Proof.Machine

/-- What the module does with an output contact: it drives a level, leaves the contact alone (high impedance, or off), or drives a
signal that a level does not tell. For a differential pair the level is that of its logic value, for a CAN bus `free` is the recessive
state. -/
inductive Drive where
  | low | high | free | signal
  deriving DecidableEq, Repr

/-- The output contacts (R40 to R44), groups by their numbers. -/
inductive Contact where
  | spiMiso | spiIrq | spiRdy | tdo | reset | pgood | fault | alert | ppsOut | stoFb | stfck
  | stl (k : Fin 4)
  | syncOut (k : Fin 2)
  | sbc (k : Fin 2)
  | enCk (n : Fin 4)
  | encSupply (n : Fin 4)
  | ethTx (p : Fin 2)
  | can (c : Fin 2)
  | sdClk (k : Fin 2)
  | gate (g : Fin 48)
  | auxHigh (n : Fin 4)
  | auxLow (n : Fin 4)
  | field (n : Fin 16)
  deriving DecidableEq, Repr

/-- A push-pull output. -/
def Drive.push (high : Bool) : Drive := if high then .high else .low

/-- An open-drain output. -/
def Drive.drain (low : Bool) : Drive := if low then .low else .free

/-- A 24 V output: on or off. -/
def Drive.switched (on : Bool) : Drive := if on then .high else .free

namespace State

/-- What the module does with a contact (R39 to R44). Between two commands no JTAG shift, no CAN frame and no SSI clock burst is under way;
an Ethernet port drives its lines once its PHY has left reset, the lanes send IDLE with STCLK (R381), and an encoder supply is on once
the logic supply is good, unless an overload has switched it off (R42). (log 5 DESIGN CHOICE) -/
def contact (s : State) : Contact → Drive
  | .spiMiso => if s.hst.spiBusy then .signal else .free
  | .spiIrq => .drain s.sys.spiIrqLow
  | .spiRdy => .push s.sys.spiRdy
  | .tdo => .free
  | .reset => .drain s.resetLow
  | .pgood => .drain !s.pgood
  | .fault => .drain s.sys.faultLow
  | .alert => .drain s.sys.alertLow
  | .ppsOut => .push s.ppsOut
  | .stoFb => .drain s.stoFb
  | .stfck => if s.str.clk then .signal else .low
  | .stl _ => if s.str.clk then .signal else .low
  | .syncOut k => .push (s.syncOut k)
  | .sbc k => .switched (s.fbit F.LAN_SBC_ON k)
  | .enCk _ => .high
  | .encSupply n => .switched (s.pgood && !(nth s.feed.enc n).supply)
  | .ethTx p => if s.linked && !s.reiniting 0x11 p then .signal else .free
  | .can _ => .free
  | .sdClk k => .push (s.sdClk k)
  | .gate g => .push (s.gate.gc.getLsbD g)
  | .auxHigh n => .push (nth s.gate.halves n).ho
  | .auxLow n => .push (nth s.gate.halves n).lo
  | .field n => .switched (s.doLevel n)

end State

end Sys2Proof.Machine
end

