-- ==== Sys2Proof/Machine/EngineWord.lean ====
section
/-!
DEFINITION. Machine/EngineWord.lean: the instruction that a program word of an engine spells (R185, R186).
-/

namespace Sys2Proof.Machine

/-- The register that a word names in bits hi downto lo. -/
def regOf (w : Word) (hi lo : Nat) : Fin 16 := Fin.ofNat 16 (bitsOf w hi lo)

/-- The command that program word w spells on engine u.e as it issues; none where its opcode is not in the table of R186 or a field breaks
its format (R185). The writes that an OUT meets are not in the word. -/
def engineInstr (w : Word) (u : Issue) (rivals : List Write) : Option Instr :=
  let d := regOf w 25 22
  let a := regOf w 21 18
  let b := regOf w 17 14
  let sh : Fin 32 := Fin.ofNat 32 (bitsOf w 4 0)
  let k : Fin 512 := Fin.ofNat 512 (bitsOf w 17 9)
  let n : Fin 4 := Fin.ofNat 4 (bitsOf w 8 7)
  let imm := BitVec.ofNat 16 (bitsOf w 15 0)
  let off : Fin 16384 := Fin.ofNat 16384 (bitsOf w 13 0)
  if flowOf u.e w == .illegal then none
  else match bitsOf w 31 26 with
    | 0x00 => some (.nop u)
    | 0x01 => some (.mov u d a)
    | 0x02 => some (.lil u d imm)
    | 0x03 => some (.lih u d imm)
    | 0x04 => some (.add u d a b)
    | 0x05 => some (.sub u d a b)
    | 0x06 => some (.neg u d a)
    | 0x07 => some (.abs u d a)
    | 0x08 => some (.minReg u d a b)
    | 0x09 => some (.maxReg u d a b)
    | 0x0A => some (.clip u d a b)
    | 0x0B => some (.andReg u d a b)
    | 0x0C => some (.orReg u d a b)
    | 0x0D => some (.xorReg u d a b)
    | 0x0E => some (.shl u d a sh)
    | 0x0F => some (.shr u d a sh)
    | 0x10 => some (.addw u d a b)
    | 0x11 => some (.subw u d a b)
    | 0x12 => some (.mulc u d a k)
    | 0x13 => some (.mul u d a b)
    | 0x14 => some (.mulw u d a b)
    | 0x15 => some (.mac u a k n)
    | 0x16 => some (.accr u d n sh)
    | 0x17 => some (.accz u n)
    | 0x18 => some (.sincos u d a)
    | 0x19 => some (.atan2 u d a b)
    | 0x1A => some (.div u d a b)
    | 0x1B => some (.sqrt u d a)
    | 0x20 => some (.ld u d a off)
    | 0x21 => some (.st u d a off)
    | 0x24 => some (.inReg u d a off)
    | 0x25 => some (.outReg u d a off rivals)
    | 0x26 => some (.mbr u d)
    | 0x27 => some (.mbw u d)
    | 0x28 => some (.tst u a)
    | 0x29 => some (.cmp u a b)
    | 0x30 => some (.branch u d (Fin.ofNat 8192 (bitsOf w 12 0)))
    | 0x31 => some (.loop u (Fin.ofNat 256 (bitsOf w 21 14)) (Fin.ofNat 64 (bitsOf w 13 8)))
    | 0x3F => some (.endTask u)
    | _ => none

namespace State

/-- The command that the word at an engine's program counter spells: the one that the engine issues next (R185). -/
def nextInstr (s : State) (u : Issue) (rivals : List Write) : Option Instr :=
  let g := s.engine u.e
  engineInstr (Store.get zeroMem g.prog g.pc) u rivals

end State

end Sys2Proof.Machine
end

