-- ==== Sys2Proof/Tests/Slice0.lean ====
section
/-!
SUPPORT. Tests/Slice0.lean: the model's own tests. The well-formedness smoke, a few single steps, and for every statement one theorem that
shows states and operands meeting the hypotheses of each of its clauses together.
-/

/- One theorem after another: hundreds of kernel evaluations that wait for each other at once would each hold a thread. -/
set_option Elab.async false

namespace Sys2Proof.Tests
open Sys2Proof Sys2Proof.Machine

/-- The state after reset with BOOT behind it. -/
def sUp : State := { State.reset with sys := { State.reset.sys with phase := .up, linksUp := true } }

/-- A register word set in a state. -/
def setR (r : RegId) (i : Nat) (w : Word) (s : State) : State := s.wr r w i

/-- A field set in a state. -/
def setFd (f : Fld) (i : Nat) (v : Nat) (s : State) : State := s.setF f v i

/-- Up, as unit 7, in a device state, with a session 9 of a role. -/
def sHost (d : Nat) (r : Role) : State :=
  let s := (sUp.setF F.SYS_UNIT_UNIT 7).setF F.SYS_STATE_STATE d
  { s with hst := { s.hst with sessions := [⟨9, r, true, 0, []⟩] } }

/-- A packet over SPI of session 9 to unit 7. -/
def pkt (op : Nat) (payload : List Word) : Pkt :=
  let p : Pkt := ⟨3, .spi, 0, 0, 0, 0, false, 5, 0, BitVec.ofNat 16 payload.length, 7, 9, 0, payload, crcWords payload, 0, [],
    ⟨0, 0⟩, [], [], ⟨0, 0⟩, false⟩
  { p with hcrc := crcWords (headWords (BitVec.ofNat 16 op) p) }

/-- Session 11 of the installer, opened with a challenge, its key written and the serial number known. -/
def sAuth : State :=
  let s := sHost dREADY .maker
  { s with
    regs := (3 * 65536, 5) :: (4 * 65536, 6) :: s.regs
    hst := { s.hst with sessions := ⟨11, .installer, false, 0, [1, 2, 3, 4, 5, 6, 7, 8]⟩ :: s.hst.sessions }
    nv := { s.nv with keys := [none, some [9, 8, 7, 6, 5, 4, 3, 2], none] } }

/-- A device that may go from SAFE to READY: profile 15, PARAM_VALID, ENV_VALID, PLL locked. -/
def sSafe : State :=
  let s := ((sHost dSAFE .operator).setF F.LAN_STAT_PARAM_VALID 1).setF F.LAN_STAT_ENV_VALID 1
  (s.setF F.SYS_CLK_STAT_PWMPLL_LOCK 1).setF F.SYS_SW1_ACCEPTED 0x00F

/-- Bridge 0 of axis 0 configured as a 2-level bridge on channels 0 to 5, its currents and its link measured. -/
def sBr : State :=
  let s := ((sHost dARMED .maker).setF F.BR_CFG_TYPE 1).setF F.BR_HALF_HALF 10000
  let s := (s.wr .BR_MAP0 0x03020100).wr .BR_MAP1 0x3F3F0504
  let s := s.forN 6 fun g s => s.setF F.GC_CFG_MODE 1 g
  let s := s.forN 4 fun c s => (s.setF F.SD_CFG_EN 1 c).setF F.SD_CFG_ROLE (c + 1) c
  let s := s.forN 3 fun c s => (s.wr .SD_OC_HI 0x02000000 c).wr .SD_OC_LO 0xFE000000 c
  s.wr .SNS_GUARD 0x0FA00FA0

/-- Bridge 0 released and asked for. -/
def sAsked : State :=
  let s := (sBr.setF F.LAN_STAT_STO_ACTIVE 0).wr .PWM_CTRL 1
  s.updBridge 0 fun r => { r with asked := some 5 }

/-- Bridge 0 switching. -/
def sRun : State := ((sAsked.setBit F.BR_STAT_RUNNING 0 true).setBit F.PWM_STAT_RUNNING 0 true).updBridge 0 fun r => { r with asked := none }

/-- A write by pair A. -/
def byA (v : Word) : Write := ⟨.pairA 0, .plain, v, 0⟩

/-- A cycle with one write. -/
def one (w : Write) : WCycle := ⟨4, [w], 0⟩

/-- Axis 2 a PMSM with terminal voltage measurement. -/
def sKe : State := ((sBr.setF F.AX_CFG_MOTOR 1 2).setF F.OBS_CFG_VT_EN 1 2).setF F.BR_CFG_AXIS 2

/-- The same while a gates-off measurement of it runs. -/
def sMeas (f : Catch → Catch) (w : Int) : State :=
  ((sKe.setF F.AX_BASE_F_VALUE 50000 2).updAxis 2 fun x => { x with keMeas := true }).updOb 2 fun o => { o with wEmf := w, catch_ := f o.catch_ }

/-- A write by the host. -/
def byH (v : Word) : Write := ⟨.host .maker, .plain, v, 0⟩

/-- Axis 0 with bridge 0 in a state, the device in RUN, STO released, motor type 1. -/
def sAx (st : Nat) : State :=
  (((((sBr.setF F.LAN_STAT_STO_ACTIVE 0).setF F.AX_CFG_PROG 0).setF F.AX_STAT_STATE st).setF F.SYS_STATE_STATE dRUN).setF F.AX_CFG_MOTOR 1)

/-- The same axis in EMERGENCY in an operating mode. -/
def sEm (m : Nat) : State := (sAx aEMERGENCY).setF F.AX_EM_STAT_OPMODE m

/-- Its runtime of emergency changed. -/
def emWith (f : Em → Em) (s : State) : State := s.updEm 0 f

/-- Motion engines with speed limits, the device in RUN. -/
def sMe : State :=
  let s := ((sAx aDISABLED).setF F.GATE_AUX_CFG_MODE 1).setF F.GATE_AUX_STAT_VDRV_OK 1
  (s.wr .ME_VMAX 1000 1).setF F.ME_STAT_UNCERTAIN 0 1

/-- Motion engine 1 moving. -/
def sMoving (f : Me → Me) : State := ((sMe.setF F.ME_STAT_AT_REST 0 1).setF F.ME_STAT_PROFILE 1 1).updMe 1 f

/-- An entry of the action table for AX_RAMP_ACC of axis 0 at tick 1000. -/
def tatWords : List Word := [1000000, 0, wd (RegId.AX_RAMP_ACC.addr 0), 77, 0, 0, 0xFFFF, 0]

/-- Entry 2047 holds the words, pending. -/
def sTat : State := (upTo 8).foldl (fun s k => s.setTat 2047 k (if k = 7 then wd tPENDING else nth tatWords k)) (sAx aDISABLED)

/-- A unit of a domain: role 7 at epoch 5, with role 8 alive in its table at epoch 6. -/
def sMem (d : Nat) : State :=
  let s := (((sHost d .maker).setF F.MEM_CFG_EN 1).setF F.MEM_STAT_STATE 2).setF F.MEM_STAT_EPOCH 5
  { s with
    regs := (3 * 65536, 5) :: (4 * 65536, 6) :: s.regs
    mem := { s.mem with peers := [⟨8, 6, 9, true, false, some 6, some 0, 10, 0, some 41, false⟩] } }

/-- A frame of role 8 at epoch 6. -/
def sent8 (type : Nat) (ws : List Word) : EthFrame :=
  let s := ((sMem dSAFE).setF F.SYS_UNIT_UNIT 8).setF F.MEM_STAT_EPOCH 6
  let s := { s with mem := { s.mem with sent := 42 } }
  ⟨BitVec.ofNat 16 (s.fld F.MEM_CFG_ETHERTYPE), BitVec.ofNat 48 (0x034D58000000 + s.fld F.MEM_CFG_DOMAIN), 1, (s.frame type false ws).1, ⟨0, 0⟩, 0⟩

/-- A beacon of role 7 at epoch 5. -/
def sent7 (ws : List Word) : EthFrame :=
  let s := sMem dSAFE
  ⟨BitVec.ofNat 16 (s.fld F.MEM_CFG_ETHERTYPE), BitVec.ofNat 48 (0x034D58000000 + s.fld F.MEM_CFG_DOMAIN), 0, (s.frame 1 false ws).1, ⟨0, 0⟩, 0⟩

/-- The state while it listens to join. -/
def sJoin (j : Joining) : State := let s := (sMem dSAFE).setF F.MEM_STAT_STATE 1; { s with mem := { s.mem with join := some j } }

/-- A reply of n words over SPI. -/
def replyOf (n : Nat) : Reply := mkReply (sHost dREADY .maker) 0x0100 (pkt 0x0100 []) (ok (List.replicate n 0))

/-- A state with the session's host state changed. -/
def withHst (f : Hst → Hst) (s : State) : State := { s with hst := f s.hst }

/-- A device in SAFE with switch word 0x00F, the serial number 5, 6, and an installer's key. -/
def sRec : State :=
  let s := (((sHost dSAFE .installer).setF F.LAN_STAT_PARAM_VALID 1).setF F.LAN_STAT_ENV_VALID 1).setF F.SYS_SW1_ACCEPTED 0x00F
  { s with regs := (3 * 65536, 5) :: (4 * 65536, 6) :: s.regs, nv := { s.nv with keys := [none, some [9, 8, 7, 6, 5, 4, 3, 2], none] } }

/-- A safety parameter record: the largest request time of its range, one hour; its TAG from another HMAC implementation. -/
def recPar : List Word := [0x101, 5, 6, 1, 15, 0x00320000, 0, 0, 0, 1] ++ List.replicate 67 0 ++
  [0x26a37700, 0x446310cf, 0xf702d89d, 0x9e154751, 0x59758482, 0xfe42b642, 0x64502234, 0x9ad982dc]

/-- An envelope record: every bound of every axis 1.0 pu and every mode, every bridge a dead time of at least 5 and a sequence of 400. -/
def recEnv : List Word := [0x102, 5, 6, 1, 15] ++
  (List.replicate 4 [(0x1000000 : Word), 0x1000000, 0x1000000, 0x1000000, 0x1000000, 0x7E, 0, 0]).flatten ++
  (List.replicate 8 [(5 : Word), 400, 0x1000000, 7]).flatten ++
  [0x8b93ae80, 0x91f7fd73, 0xac2371d3, 0xb1a30f12, 0x0e56d474, 0x561703c6, 0xc0458ceb, 0x35a97d36]

/-- A record being committed. -/
def loadingOf (k : Nat) (l : List Word) (s : State) : State := { s with lan := { s.lan with loading := some (k, l) } }

/-- Engine 9 with registers and memory, an instruction pending on it at tick 5. -/
def sEng : State := sBr.updEng 9 fun g => { g with
  x := [0, 0x7FFFFFFF, 1, 0x80000000, 0xFFFFFFFB, 7, 0x8191] ++ List.replicate 9 0, ready := 5, pc := 8191
  data := [(0, 0x40000000), (1, 3), (8191, 77)], acc := [2 ^ 63 - 1, 5, 0, 0] }

/-- The release that it runs. -/
def rel9 : Rel := ⟨3, 2, 4, 4, 5, 6⟩

/-- Engine 9 with its window at the top of its data memory, running slot 3. -/
def sRel : State := ((sEng.setF F.LE_TASK_STATE_BASE 8190 39).setF F.LE_TASK_STATE_LEN 2 39).updEng 9 fun g => { g with run := some rel9 }

/-- Engine 9 with its x6 at a register's address, its mailbox set. -/
def sReg (r : RegId) (i : Nat) (f : Eng → Eng) : State := sEng.updEng 9 fun g => f { g with x := g.x.set 6 (wd (r.addr i)) }

/-- A stream: a frame sent, a series of condition data waiting, and the link up. -/
def sStr : State :=
  let s := ((((sHost dREADY .maker).setF F.STR_STAT_LINK 1).setF F.STR_CTRL_EN 1).setF F.STR_CTRL_COND_EN 1).setF F.STR_CTRL_CAP_EN 1
  { s with str := { s.str with clk := true, sent := [⟨6, 2, true, true, [1, 2], [], false, 1⟩], series := [⟨2, [4, 5, 6], false, true⟩] } }

/-- The same with a part of it changed. -/
def strWith (f : Str → Str) : State := { sStr with str := f sStr.str }

/-- Candle with a part of it changed. -/
def cdlWith (f : Cdl → Cdl) : State := let s := sHost dREADY .maker; { s with cdl := f s.cdl }

/-- A capture's last frame in progress. -/
def lastFrame : SFrame := ⟨7, 1, false, true, [9], [], false, 0⟩

/-- Encoder channel 3 in a mode, free and valid, with a resolution. -/
def sEnc (m : Nat) (f : Enc → Enc := id) : State :=
  (((((sBr.setF F.EN_CFG_MODE m 3).setF F.EN_STAT_VALID 1 3).setF F.EN_STAT_STANDSTILL 0 3).wr .EN_CPR 4000 3).setF F.EN_IDX_CFG_POLICY 1 3).updEnc 3 f

/-- The channels of axis 0's bridge sampled, its grid at tick 9. -/
def sGrid : State := (sBr.setF F.SNS_CTRL_CLK0_EN 1).updAxis 0 fun x => { x with grid := some 9, samples := 5 }

/-- A window of a command edge of channel 0. -/
def win (acked : Bool) (latch : Option (Bool × Nat)) : Win := ⟨3, true, 12, acked, latch, false⟩

/-- Channel 0 in ECHO mode with its window, its line commanded on. -/
def sGate (gc gs : Lines) (ws : List Win) : State :=
  let s := (sAsked.setF F.GC_CFG_BLANK 200).updChan 0 fun c => { c with wins := ws }
  { s with gate := { s.gate with gc := gc, gs := gs } }

/-- A placed edge of bridge 0, with the time at which the complementary channel turned off. -/
def sEdge (on : Bool) (off : Option Nat) (s : State) : State :=
  let s := ((s.updChan 1 fun c => { c with offAt := off }).setF F.LAN_STAT_ENV_VALID 1).wr .LAN_ENV_DTMIN 400
  { s with pwm := { s.pwm with edges := [⟨0, 500, on, 0⟩] } }

/-- Channel 1 clocked, its threshold at half of full scale, with these bits and all up to tick 9 here. -/
def sSd (l : List Bool) : State :=
  let s := (sAsked.setF F.SNS_CTRL_CLK0_EN 1).wr .SD_OC_HI 0x800000 1
  { s with pwm := { s.pwm with sd := s.pwm.sd.set 1 ⟨l, 9⟩ } }

/-- What holds of 0 holds of every number below 1. -/
theorem only_zero {P : Nat → Prop} {k : Nat} (hk : k ≤ 1) (h : P 0) : ∀ n, n < k → P n :=
  fun _ l => Nat.lt_one_iff.mp (Nat.lt_of_lt_of_le l hk) ▸ h

/-- Ten ticks hold one place of a channel, whatever its clock's place is. -/
theorem sdCount_nine (s : State) (c k : Nat) : s.sdCount c (10 * k + 9) = k + 1 := by
  have : s.sdPlace c < 10 := Nat.mod_lt _ (by decide)
  unfold State.sdCount
  omega

/-- No bits, no change. -/
theorem sdFeed_nil (s : State) (c : Nat) : s.sdFeed c [] = s := by simp [State.sdFeed, State.forL]

theorem sdFeedAll_nil (s : State) : s.sdFeedAll [] = s := by
  have h : ∀ l : List Nat, l.foldl (fun s c => s.sdFeed c (nth [] c)) s = s := by
    intro l
    induction l with
    | nil => rfl
    | cons c l ih => rw [List.foldl_cons, show s.sdFeed c (nth [] c) = s from sdFeed_nil s c]; exact ih
  exact h _

/-- The fast value of a link on one channel whose scaling is exact. -/
theorem fastLink_at (s : State) (b c n : Nat) (v : Int) (hc : s.sdOf b 4 = some c) (hn : s.fld F.SD_OC_CFG_OSR_FAST c = n)
    (hl : ((s.sd c).bits.take (2 * n - 1)).length = 2 * n - 1) (h0 : ((n ^ 2 : Nat) : Int) ≠ 0)
    (hz : sinc n 2 (((s.sd c).bits.take (2 * n - 1)).map State.bitWorth) * s.sg .SD_GAIN c % ((n ^ 2 : Nat) : Int) = 0)
    (hv : satI (if s.on F.SD_CFG_INVERT c = true then
        -(sinc n 2 (((s.sd c).bits.take (2 * n - 1)).map State.bitWorth) * s.sg .SD_GAIN c / ((n ^ 2 : Nat) : Int) + s.sg .SD_OFFSET c)
      else sinc n 2 (((s.sd c).bits.take (2 * n - 1)).map State.bitWorth) * s.sg .SD_GAIN c / ((n ^ 2 : Nat) : Int) + s.sg .SD_OFFSET c) = v) :
    (s.fastLink b).1 = some v := by
  unfold State.fastLink
  rw [hc]
  unfold State.fastValue
  dsimp only
  rw [hn, if_pos (by simpa using hl)]
  unfold State.sdScaled State.quot
  rw [if_neg h0, if_pos hz]
  exact congrArg some hv

/-- The same whatever the free values. -/
theorem fastLink_exact (s : State) (d b c n : Nat) (v : Int) (hd : d = b) (hc : s.sdOf b 4 = some c) (hn : s.fld F.SD_OC_CFG_OSR_FAST c = n)
    (hl : ((s.sd c).bits.take (2 * n - 1)).length = 2 * n - 1) (h0 : ((n ^ 2 : Nat) : Int) ≠ 0)
    (hz : sinc n 2 (((s.sd c).bits.take (2 * n - 1)).map State.bitWorth) * s.sg .SD_GAIN c % ((n ^ 2 : Nat) : Int) = 0)
    (hv : satI (if s.on F.SD_CFG_INVERT c = true then
        -(sinc n 2 (((s.sd c).bits.take (2 * n - 1)).map State.bitWorth) * s.sg .SD_GAIN c / ((n ^ 2 : Nat) : Int) + s.sg .SD_OFFSET c)
      else sinc n 2 (((s.sd c).bits.take (2 * n - 1)).map State.bitWorth) * s.sg .SD_GAIN c / ((n ^ 2 : Nat) : Int) + s.sg .SD_OFFSET c) = v) :
    ∀ f : Nat, (({ s with free := f } : State).fastLink d).1 = some v :=
  fun f => hd ▸ fastLink_at { s with free := f } b c n v hc hn hl h0 hz hv

/-- Chopper 7 on channel 47 for bridge 0. -/
def sChop (on : Bool) : State :=
  let s := (((sAsked.wr .CHOP_CFG 0x8000002F 7).wr .CHOP_ON 0x1000000 7).wr .CHOP_OFF 0x0F00000 7).setF F.CHOP_DUTY_MAX 100 7
  { s with
    gate := { s.gate with chops := s.gate.chops.set 7 { nth s.gate.chops 7 with on := on }, gc := if on then 1#48 <<< 47 else 0 }
    pwm := { s.pwm with sd := s.pwm.sd.set 3 ⟨List.replicate 15 true, 0⟩ } }

/-- The same 7,000 ticks later, its bits up to now here. -/
def sChopLate (on : Bool) : State :=
  let s := (sChop on).elapse 7000
  { s with pwm := { s.pwm with sd := s.pwm.sd.set 3 ⟨List.replicate 15 true, s.tick⟩ } }

/-- A chopper whose link's bits are all here is evaluated once by a row that brings none. -/
theorem paced_now {s : State} {k : Fin 8} {d : Nat} (h : s.chopPace k = some d) (e : (s.sd d).at_ = s.tick) :
    PacedOnce s 0 k [] :=
  .inl ⟨⟨rfl, fun _ => Nat.zero_le _⟩, fun c hc => by rw [sdFeedAll_nil]; cases h.symm.trans hc; exact e⟩

/-- A unit steered by PTP, with its time transmitter known. -/
def sMer (src mst : Nat) (f : Mer → Mer := id) : State :=
  let s := ((sHost dREADY .maker).setF F.MER_CFG_SRC src).setF F.MER_STAT_MSTATE mst
  { s with merTime := 5000000500, mer := f { s.mer with best := some ⟨77, 0, [1, 2], 0, 100⟩, freqs := [3, 4] } }

/-- A message of it. -/
def ptpHead : PtpHead := ⟨0, false, 0, 77, 9, 65537, ⟨0, 0⟩⟩

/-- CAN controller 1 on the bus. -/
def sCan (f : Can → Can := id) : State := (((sHost dREADY .maker).setF F.CAN_STAT_STATE 0 1).setF F.CAN_CTRL_INIT 0 1).updCan 1 f

/-- The same with word 0 of a buffer and its identifier. -/
def sBuf (k : Nat) (w0 id : Word) (s : State) : State := (s.wr .CAN_MB w0 (State.mbIx 1 k 0)).wr .CAN_MB id (State.mbIx 1 k 1)

/-- The same on a schedule with a cycle of 1,000 microseconds and the last column used at 10 microseconds. -/
def sTt (ref : Nat) (f : Can → Can := id) : State :=
  let s := ((((sCan f).setF F.CAN_CTRL_TT_EN 1 1).setF F.CAN_TT_CFG_REF ref 1).setF F.CAN_TT_CFG_CYC_LEN 1000 1).setF F.CAN_TT_CFG_NCYC 2 1
  let s := ((upTo 16).foldl (fun s k => s.setF F.CAN_TT_COL_OFS (if k = 15 then 10 else 1000) (16 + k)) s).setF F.CAN_TT_COL_WIN 20 31
  { s.setF F.MER_STAT_MSTATE 2 with merTime := 1500000 }

/-- Axis 0 runs under profile 14 with a safety record of these words, counted as in the record. -/
def sLan (ws : List (Nat × Word)) (f : Lan → Lan := id) : State :=
  let s := (((sAx aRUN).setF F.SYS_SW1_ACCEPTED 14).setF F.LAN_STAT_PARAM_VALID 1).setF F.LAN_STO_IN_REL 3
  { s with lan := f { s.lan with par := ws.foldl (fun l w => l.set (w.1 - 5) w.2) (List.replicate 72 0) } }

/-- Connection 7 consumes from role 8 over Constellation with a WD of 20 ms. -/
def connWords : List (Nat × Word) := [(5, 0x00320001), (73, 99), (74, 0x00080004), (76, 20)]

/-- A PDU of it. -/
def pduOf (flags permits : Word) : List Word := let ws := [99, 0x00140000 + 6, flags, permits, 0]; ws ++ [lanCrc 99 ws]

/-- It is established with every permit. -/
def sConn (f : Lan → Lan := id) : State := ((((sLan connWords f).setF F.LAN_CONN_STAT_STATE 2 7).setF F.LAN_CONN_STAT_RX_SEQ 5 7).wr .LAN_CONN_DATA 0x1F 7).setF F.MEM_CFG_EN 1

/-- Settings on their way to the field side: output 3 ON in its safe state, 10 ms to it, every filter 1 ms, wire break on input 0. -/
def fieldOfSet : FieldSet := ⟨0x40, 10, [0x11111111, 0x11111111, 0x11111111], 1⟩

/-- A field-side frame in flight each way. -/
def sFio (f : Fio → Fio := id) : State :=
  let s := (sHost dREADY .maker).setF F.FIO_STAT_LINK 1
  { s with fio := f { s.fio with sent := some ⟨3, 4, 8, fieldOfSet⟩, back := some ⟨0xF, 0x1, false⟩ } }

/-- A demand under way on axis 0 at 100 units of safe speed, its end awaited. -/
def sDem (unknown : Nat) (v : Word) : State :=
  ((sLan [(5, 0x00320001), (7, 100)] fun l => { l with
    ss1 := some ⟨4, true, [true, false, false, false], [none, none, none, none], 0⟩, doneWait := true }).setF F.LAN_SPD_STAT_UNKNOWN unknown).wr .LAN_SPD_SAFE v

/-- Its record. -/
def demand : Ss1 := ⟨4, true, [true, false, false, false], [none, none, none, none], 0⟩

/-- Axis 0 has a sample of two channels under way. -/
def sShot : State := sBr.updAxis 0 fun x => { x with shot := some ⟨5, 0, 0, false, [0, 1]⟩ }

/-- The window of channel 1 of that sample at an OSR of 16, its last bit here at tick 229. -/
def sWindow : State := let s := sShot.setF F.SD_CFG_OSR 16 1; { s with pwm := { s.pwm with sd := s.pwm.sd.set 1 ⟨List.replicate 46 true, 229⟩ } }

/-- A carried packet from its checks. -/
theorem carried_of {s : State} {c : Cmd} {p : Pkt} {r : Role} (h : (s.hst.keyClose = none ∧ s.hst.bootNext = false) ∧
    (s.elapse p.dt).hears p = true ∧ (p.moved = ⟨0, 0⟩ ∧ (∀ n ∈ p.fails, n = 0) ∧ p.nvFails = false ∧ p.out = ⟨0, 0⟩ ∧ p.errs = []) ∧ p.hcrc = crcWords (headWords (BitVec.ofNat 16 c.opcode) p) ∧
    (s.elapse p.dt).addressed p.unit.toNat = true ∧ p.flags.getLsbD 0 = false ∧ grouped p = false ∧
    (p.length.toNat ≤ maxLength p.via ∧ p.payload.length = p.length.toNat ∧ (p.via = .spi ∨ p.frame = packetSize p.length.toNat)) ∧
    (p.length.toNat = 0 ∨ p.pcrc = crcWords p.payload) ∧ ((s.elapse p.dt).tagRule (BitVec.ofNat 16 c.opcode) p = none) ∧
    (s.elapse p.dt).judge (some c) p = .inr r ∧ stray (wordZero c.opcode) (nth p.payload 0) = false) : Carried s c p r :=
  let ⟨a, b, c, d, e, f, g, h, i, j, k, l⟩ := h
  ⟨a, b, c, d, e, f, g, h, i, j, k, l⟩

/-- A write that lands, from its checks. -/
theorem lands_of {s : State} {r : RegId} {i : Nat} {c : WCycle} {w : Write} {new : Word} (h : (c.ws = [w] ∧ c.hwSet = 0) ∧
    (w.kind = .plain ∧ State.failsOf w = 0) ∧ ((s.elapse c.dt).early r i (reqOf w)).2 = none ∧
    new = (s.elapse c.dt).compose r i w.who w.who.mayRl w.value ∧ (s.elapse c.dt).badValue r i (reqOf w) new = false ∧
    (s.elapse c.dt).changeRule r i (reqOf w) new = none ∧ (s.elapse c.dt).beyondEnv r i new = false ∧
    (w.who.inside = false ∨ (w.value ^^^ s.rd r i) &&& State.rlMask r = 0) ∧ (s.elapse c.dt).heldAt r i = none) :
    Lands s r i c w new :=
  let ⟨a, b, c, d, e, f, g, h, i⟩ := h
  ⟨a, b, c, d, e, f, g, h, i⟩

/-- A quiet register, from its checks. -/
theorem quiet_of {s : State} {b : Initiator} {r : RegId} {i : Nat} (h : (highOf r i = none ∧ r ≠ .CAN_MB ∧ r ≠ .LE_MDATA ∧
    ∀ f ∈ r.fields, f.acc ≠ .rc) ∧ ∀ l ∈ s.hst.latches, l.by_ = b → l.addr ≠ r.addr i) : Quiet s b r i :=
  ⟨h.1, h.2⟩

/-- A frame heard, from its checks. -/
theorem heard_of {s : State} {dt : Nat} {e : EthFrame} {f : ConFrame} (h : s.on F.MEM_CFG_EN = true ∧ (s.linked = true ∧ e.moved = ⟨0, 0⟩) ∧
    (e.ethertype.toNat = s.fld F.MEM_CFG_ETHERTYPE ∧ e.tags ≤ 1 ∧ e.mac = BitVec.ofNat 48 (0x034D58000000 + s.fld F.MEM_CFG_DOMAIN)) ∧
    (s.elapse dt).parseFrame e.words = (some f, s.elapse dt) ∧ s.epochOf f.unit = some f.epoch) : HeardFrame s dt e f :=
  ⟨h.1, h.2.1, h.2.2.1, h.2.2.2.1, h.2.2.2.2⟩

/-! ## Well-formedness refuses -/

/-- Two writes of one writer in one cycle. -/
def twice : List Write := [⟨.host .maker, .plain, 1, 0⟩, ⟨.host .maker, .plain, 2, 0⟩]

theorem test_wf_packet : (Instr.echo { pkt 0x0100 [] with rivals := twice }).wf = false ∧ (Instr.echo (pkt 0x0100 [5])).wf = true := by
  decide +kernel

theorem test_wf_long (p : Pkt) (h : 65536 ≤ p.payload.length) : (Instr.echo p).wf = false := by
  simp [Instr.wf, Pkt.wf, Nat.not_lt.mpr h]

theorem test_wf_writes : (Instr.registerWrite 0x8000 ⟨1, twice, 0⟩).wf = false ∧ (Instr.leMdataAccess 3 1 (.write twice)).wf = false ∧
    (Instr.outReg ⟨9, 0, 0, ⟨0, 0⟩⟩ 1 2 3 twice).wf = false := by decide

theorem test_wf_reinit : (Instr.funcReinitDone 0x01 8 1 true).wf = false ∧ (Instr.funcReinitDone 0x04 0 1 true).wf = false ∧
    (Instr.funcReinitDone 0x01 7 1 true).wf = true := by decide

theorem test_wf_lists : (Instr.chopperEval 1 [[]]).wf = false ∧ (Instr.auxCurrentSample 0 [1, 2]).wf = false ∧
    (Instr.fieldInputSample 1 [0]).wf = false ∧ (Instr.vdcLoCompare 1 [[]]).wf = false ∧
    (Instr.auxOvercurrent 1 [] 0).wf = false ∧ (Instr.auxPeriodUpdate 1 []).wf = false ∧ (Instr.doCurrentLimitLatch 1 [] 0 0).wf = false ∧
    (Instr.doReadbackFault 1 [] 0).wf = false := by decide

theorem test_wf_boot : ∃ seen, (Instr.bootEnd 1 seen).wf = false := ⟨{ (default : BootSeen) with switches := [(4096, 0, 0)] }, by decide⟩

/-- A base identifier below bit 18, a remote FD frame, BRS in a classical frame, data other than DLC says. -/
theorem test_wf_frame : (Instr.canFrameRx 0 1 0 1 false false false false false 0 [] default).wf = false ∧
    (Instr.canFrameRx 0 1 0 0 false true true false false 0 [] default).wf = false ∧
    (Instr.canFrameRx 0 1 0 0 false false false true false 0 [] default).wf = false ∧
    (Instr.canFrameRx 0 1 0 0 false false true false false 9 [1] default).wf = false ∧
    (Instr.canFrameRx 0 1 0 1 true false true true true 9 (List.replicate 12 0) default).wf = true := by decide

/-! ## Values from the standards the spec names, and single steps -/

/-- The check value of CRC-32C over the nine digits (R85). -/
theorem test_crc32c : crc32c [0x31, 0x32, 0x33, 0x34, 0x35, 0x36, 0x37, 0x38, 0x39] = 0xE3069283 := by decide +kernel

/-- SHA-256 of "abc" (R441; the example of its standard). -/
theorem test_sha256 : (sha256 [0x61, 0x62, 0x63]).take 4 = [0xBA, 0x78, 0x16, 0xBF] := by decide +kernel

/-- The next state of an outcome. -/
def nx (o : Host.Outcome State Fault Refusal) : State := match o with | .next t => t | _ => State.reset

/-- ADD of engine 9 at the top of the range saturates and is counted (R182, R183). -/
theorem test_add_saturates : let t := nx (exec (.add ⟨9, 0, 0, ⟨0, 0⟩⟩ 4 1 2) sEng)
    t.xReg 9 4 = 0x7FFFFFFF ∧ t.fld F.LE_SAT_CNT_COUNT 9 = 1 := by decide +kernel

/-- SUB whose destination is its source. -/
theorem test_sub_same : (nx (exec (.sub ⟨9, 0, 0, ⟨0, 0⟩⟩ 2 2 5) sEng)).xReg 9 2 = 0xFFFFFFFA := by decide +kernel

/-- ADDW wraps (R182). -/
theorem test_addw_wraps : (nx (exec (.addw ⟨9, 0, 0, ⟨0, 0⟩⟩ 4 1 2) sEng)).xReg 9 4 = 0x80000000 := by decide +kernel

/-- ABS of the most negative number saturates (R182). -/
theorem test_abs_saturates : (nx (exec (.abs ⟨9, 0, 0, ⟨0, 0⟩⟩ 4 3) sEng)).xReg 9 4 = 0x7FFFFFFF := by decide +kernel

/-- ECHO answers its payload: OK, and the words (R97). -/
theorem test_echo : ((nx (exec (.echo (pkt 0x0100 [7, 8])) (sHost dREADY .maker))).hst.spiQueue.map fun r => r.payload.drop 1) =
    [[7, 8]] := by decide +kernel

/-! ## The statements' hypotheses hold somewhere -/

theorem test_StepRunsFrontCommand : ∃ (c : Instr) (rest : List Instr) (s : State), s.pending = c :: rest :=
  ⟨.comparePulseEnd, [.merSetDrop], { sUp with pending := [.comparePulseEnd, .merSetDrop] }, rfl⟩

theorem test_EmptyQueueTicks : ∃ s : State, s.pending = [] := ⟨sUp, by decide +kernel⟩

theorem test_EveryCommandCompletes : ∃ (c : Instr) (s t : State), exec c s = .next t := ⟨.merSetDrop, sUp, _, rfl⟩

/-- A unit up, its pins as READY has them. -/
def sPins : State :=
  let s := sHost dREADY .maker
  { s with sys := { s.sys with faultLow := false, alertLow := false, spiRdy := true } }

theorem test_PinsFollowEveryStep : ∃ s t : State, Pinned s ∧ step s = .next t :=
  ⟨sPins, _, by constructor <;> decide +kernel, rfl⟩

/-- Each exception of EngineExceptionsTaken's first clause: a coefficient's reserved bit, a data address, the blocks of IN and OUT. -/
def sExc : State := sRel.updEng 9 fun g => { g with data := [(1, 32)], x := List.replicate 16 0 }

theorem test_EngineExceptions_causes : sExc.lan.doneWait = false ∧ bitsOf (sExc.dataWord 9 (2 * 0 + 1)) 31 5 ≠ 0 ∧
    (if (9 : Nat) < 8 then 2048 else 8192) ≤ (sExc.xReg 9 0).toNat + 8192 ∧
    baseOf (sExc.xReg 9 0 + wd (4 * 0)) / 65536 ∉ inBlocks ∧ baseOf (sExc.xReg 9 0 + wd (4 * 0)) / 65536 ∉ outBlocks := by decide +kernel

theorem test_SessionsOpenAndEnd :
    (∃ (s : State) (p : Pkt) (r : Role) (role : _), Calm s ∧ Carried s cmdSessionOpen p r ∧ nth p.payload 0 ≠ 0 ∧
        s.session (nth p.payload 0) = none ∧ roleAt (nth p.payload 1).toNat = some role ∧ s.hst.sessions.length < 8) ∧
    (∃ (s : State) (p : Pkt) (r : Role) (x : _), Calm s ∧ Carried s cmdSessionAuth p r ∧ s.session (nth p.payload 0) = some x ∧
        x.authed = false ∧ (s.elapse p.dt).lockedOut x.role = false ∧ s.keyOff x.role = false ∧ p.payload.drop 1 = s.response x) ∧
    (∃ (s : State) (p : Pkt) (r : Role), Calm s ∧ Carried s cmdSessionClose p r) ∧
    (∃ (s : State) (id : Word) (x : _), Calm s ∧ s.session id = some x ∧ x.authed = false) ∧
    (∃ (s : State) (role : Role) (x : _), Calm s ∧ ((s.hst.lockout.find? fun y => y.1 == role) = some x)) :=
  ⟨⟨sHost dREADY .operator, pkt 0x0102 [12, 1], .operator, .installer, (by decide +kernel : _ = false), carried_of (by decide +kernel),
      by decide +kernel⟩,
   ⟨sAuth, pkt 0x0103 (11 :: sAuth.response ⟨11, .installer, false, 0, [1, 2, 3, 4, 5, 6, 7, 8]⟩), .maker, ⟨11, .installer, false, 0, [1,
       2, 3, 4, 5, 6, 7, 8]⟩, (by decide +kernel : _ = false), carried_of (by decide +kernel), by decide +kernel⟩,
   ⟨sHost dREADY .operator, pkt 0x0104 [], .operator, (by decide +kernel : _ = false), carried_of (by decide +kernel)⟩,
   ⟨sAuth, 11, ⟨11, .installer, false, 0, [1, 2, 3, 4, 5, 6, 7, 8]⟩, (by decide +kernel : _ = false), by decide +kernel⟩,
   ⟨(let s := sHost dREADY .maker; { s with hst := { s.hst with lockout := [(Role.maker, 7)] } }), .maker, (.maker, 7),
       (by decide +kernel : _ = false), by decide +kernel⟩⟩

theorem test_SystemCommandsAct :
    (∃ (s : State) (p : Pkt) (r : Role), Calm s ∧ Carried s cmdEcho p r) ∧
    (∃ (s : State) (p : Pkt) (r : Role), Calm s ∧ Carried s cmdGetInfo p r) ∧
    (∃ (s : State) (p : Pkt) (r : Role), Calm s ∧ Carried s cmdDeviceReset p r) ∧
    (∃ (s : State) (p : Pkt) (r : Role) (n : _), Calm s ∧ Carried s cmdFuncReinit p r ∧
        State.reinitInsts (bitsOf (nth p.payload 0) 15 0) = some n ∧ bitsOf (nth p.payload 0) 23 16 < n ∧
        s.reiniting (bitsOf (nth p.payload 0) 15 0) (bitsOf (nth p.payload 0) 23 16) = false ∧
        s.reinitMay (bitsOf (nth p.payload 0) 15 0) (bitsOf (nth p.payload 0) 23 16) = true) ∧
    (∃ (s : State) (p : Pkt) (r : Role), Calm s ∧ Carried s cmdStateRequest p r ∧ bitsOf (nth p.payload 0) 3 0 = dREADY ∧ s.dev = dSAFE ∧
        s.mayReady = true) ∧
    (∃ (s : State) (p : Pkt) (r : Role), Calm s ∧ Carried s cmdStateRequest p r ∧ bitsOf (nth p.payload 0) 3 0 = dSAFE ∧ s.dev = dREADY) :=
  ⟨⟨sHost dREADY .operator, pkt 0x0100 [1, 2, 3], .operator, (by decide +kernel : _ = false), carried_of (by decide +kernel)⟩,
   ⟨sHost dREADY .operator, pkt 0x0101 [], .operator, (by decide +kernel : _ = false), carried_of (by decide +kernel)⟩,
   ⟨sHost dREADY .maker, pkt 0x0110 [], .maker, (by decide +kernel : _ = false), carried_of (by decide +kernel)⟩,
   ⟨sHost dREADY .maker, pkt 0x0111 [0x00010003], .maker, 2, (by decide +kernel : _ = false), carried_of (by decide +kernel),
       by decide +kernel⟩,
   ⟨sSafe, pkt 0x0112 [2], .operator, (by decide +kernel : _ = false), carried_of (by decide +kernel), by decide +kernel⟩,
   ⟨sHost dREADY .operator, pkt 0x0112 [1], .operator, (by decide +kernel : _ = false), carried_of (by decide +kernel), by decide +kernel⟩⟩

theorem test_SuppliesAct :
    (∃ (s : State), Calm s ∧ s.sys.phase ≠ .unpowered ∧ s.sys.supplyLow = false) ∧
    (∃ (s : State), Calm s ∧ s.sys.phase ≠ .unpowered ∧ s.sys.supplyHigh = false) ∧
    (∃ (s : State), Calm s) ∧
    (∃ (s : State), Calm s ∧ s.sys.phase ≠ .unpowered) ∧
    (∃ (s : State), Calm s ∧ s.sys.phase = .unpowered) ∧
    (∃ (s : State), Calm s ∧ s.sys.phase ≠ .unpowered) :=
  ⟨⟨sRun, (by decide +kernel : _ = false), by decide +kernel⟩,
   ⟨sRun, (by decide +kernel : _ = false), by decide +kernel⟩,
   ⟨sRun, (by decide +kernel : _ = false)⟩,
   ⟨sRun, (by decide +kernel : _ = false), by decide +kernel⟩,
   ⟨(let s := sUp; { s with sys := { s.sys with phase := .unpowered } }), (by decide +kernel : _ = false), by decide +kernel⟩,
   ⟨(let s := sUp; { s with sys := { s.sys with supplyLow := true } }), (by decide +kernel : _ = false), by decide +kernel⟩⟩

theorem test_ResetsRunAndBootEnds :
    (∃ (s : State) (nanos : _) (taken : _), Calm s ∧ (s.sys.phase = .up ∨ s.sys.phase = .booting) ∧ (10000 ≤ nanos ∨ 1000 ≤ nanos ∧ taken =
        true)) ∧
    (∃ (s : State), Calm s ∧ s.sys.phase = .held) ∧
    (∃ (s : State) (t0 : Nat), Calm s ∧ s.sys.resetPend = some t0 ∧ s.resetUnsaid = false) ∧
    (∃ (s : State), Calm s ∧ s.sys.phase = .booting ∧ s.sys.rstAt = none) ∧
    (∃ (s : State) (x : BootSeen) (t0 : Nat), Calm s ∧ s.sys.phase = .booting ∧ s.sys.rstAt = some t0 ∧ x.bootsel = true) ∧
    (∃ (s : State) (x : BootSeen) (t0 : Nat) (w : _), Calm s ∧ s.sys.phase = .booting ∧ s.sys.rstAt = some t0 ∧ x.bootsel = false ∧ x.failed
        = none ∧ x.pllLocked = true ∧ x.enginesOk = true ∧ acceptWord x.switches = some w) :=
  ⟨⟨sRun, 1000, true, (by decide +kernel : _ = false), by decide +kernel⟩,
   ⟨(let s := sUp; { s with sys := { s.sys with phase := .held } }), (by decide +kernel : _ = false), by decide +kernel⟩,
   ⟨(let s := sUp; { s with sys := { s.sys with resetPend := some 3 } }), 3, (by decide +kernel : _ = false), by decide +kernel⟩,
   ⟨(let s := State.reset; { s with sys := { s.sys with phase := .booting, rstAt := none } }), (by decide +kernel : _ = false),
      by decide +kernel⟩,
   ⟨(let s := State.reset; { s with sys := { s.sys with phase := .booting, rstAt := some 9 } }), ⟨true, [(0x10F, 0x10F, 0x10F)], none, true,
      true, 0, 0, 0, true, true, true, true, true, true, true⟩, 9, (by decide +kernel : _ = false), by decide +kernel⟩,
   ⟨(let s := State.reset; { s with sys := { s.sys with phase := .booting, rstAt := some 9 } }), ⟨false, [(0x10F, 0x10F, 0x10F)], none,
      true, true, 0, 0, 0, true, true, true, true, true, true, true⟩, 9, 0x10F, (by decide +kernel : _ = false), by decide +kernel⟩⟩

theorem test_ClocksSupervised :
    (∃ (s : State), Calm s ∧ s.sys.phase ≠ .unpowered) ∧
    (∃ (s : State) (off : ClockWin), Calm s ∧ s.sys.phase ≠ .unpowered ∧ off.pwm = true ∧ s.sys.pwmClk.lost = false ∧ s.sys.pwmClk.bad = 1) ∧
    (∃ (s : State) (off : ClockWin), Calm s ∧ s.sys.phase ≠ .unpowered ∧ off = ⟨false, false, false, false⟩ ∧ s.sys.pwmClk.lost = false ∧
        s.sys.merClk.lost = false) ∧
    (∃ (s : State), Calm s ∧ s.sys.merClk.lost = false ∧ s.fld F.SYS_CLK_STAT_PWM_ON_REF ≠ 0 ∧ (∀ b, b < 8 → s.running b = false)) ∧
    (∃ (s : State) (slip : _), Calm s ∧ s.sys.merClk.lost = false ∧ s.fld F.SYS_CLK_STAT_PWM_ON_REF = 0 ∧ s.sys.pwmClk.lost = false ∧
        s.pwmTime + BitVec.ofInt 64 (5 * slip) ≠ s.merTime) ∧
    (∃ (s : State) (slip : _), Calm s ∧ s.sys.merClk.lost = false ∧ s.sys.pwmClk.lost = false ∧ s.pwmTime + BitVec.ofInt 64 (5 * slip) =
        s.merTime) :=
  ⟨⟨sRun, (by decide +kernel : _ = false), by decide +kernel⟩,
   ⟨(let s := sRun; { s with sys := { s.sys with pwmClk := { s.sys.pwmClk with bad := 1 } } }), ⟨true, true, false, false⟩,
      (by decide +kernel : _ = false), by decide +kernel⟩,
   ⟨sRun, ⟨false, false, false, false⟩, (by decide +kernel : _ = false), by decide +kernel⟩,
   ⟨sUp.setF F.SYS_CLK_STAT_PWM_ON_REF 1, (by decide +kernel : _ = false), by decide +kernel⟩,
   ⟨sUp, 2, (by decide +kernel : _ = false), by decide +kernel⟩,
   ⟨{ sUp with pwmTime := 77, merTime := 67 }, -2, (by decide +kernel : _ = false), by decide +kernel⟩⟩

theorem test_WatchersReport :
    (∃ (s : State), Calm s ∧ s.auxMode = 0) ∧
    (∃ (s : State), Calm s ∧ s.auxMode ≠ 0 ∧ s.on F.GATE_AUX_STAT_VDRV_OK = true) ∧
    (∃ (s : State), Calm s) ∧
    (∃ (s : State) (word : BitVec 12), Calm s ∧ s.sys.phase = .up ∧ s.sys.updBootsel = false ∧ s.sys.swSeen = true ∧ s.sys.swPrev =
        word.toNat ∧ s.sw ≠ 0 ∧ word.toNat ≠ s.sw ∧ s.sys.swRaised ≠ some word.toNat) ∧
    (∃ (s : State) (word : BitVec 12), Calm s ∧ s.sys.phase = .up ∧ s.sys.updBootsel = false ∧ word.toNat = s.sw) ∧
    (∃ (s : State) (deci : _), Calm s ∧ s.sys.phase ≠ .unpowered ∧ s.sys.dieHot = false ∧ 1100 < deci ∧ deci ≤ 1250) ∧
    (∃ (s : State) (deci : _), Calm s ∧ s.sys.phase ≠ .unpowered ∧ s.sys.dieLimit = false ∧ 1250 < deci) ∧
    (∃ (s : State), Calm s ∧ s.sys.scrubWord ≠ 262143) ∧
    (∃ (s : State), Calm s ∧ s.sys.scrubWord ≠ 262143) ∧
    (∃ (s : State), Calm s) ∧
    (∃ (s : State), Calm s) :=
  ⟨⟨sUp, (by decide +kernel : _ = false), by decide +kernel⟩,
   ⟨(sUp.setF F.GATE_AUX_CFG_MODE 1).setF F.GATE_AUX_STAT_VDRV_OK 1, (by decide +kernel : _ = false), by decide +kernel⟩,
   ⟨sUp, (by decide +kernel : _ = false)⟩,
   ⟨(let s := sUp.setF F.SYS_SW1_ACCEPTED 0x10F; { s with sys := { s.sys with swSeen := true, swPrev := 0x203 } }), (0x203#12),
      (by decide +kernel : _ = false), by decide +kernel⟩,
   ⟨sUp.setF F.SYS_SW1_ACCEPTED 0x10F, (0x10F#12), (by decide +kernel : _ = false), by decide +kernel⟩,
   ⟨sUp, 1101, (by decide +kernel : _ = false), by decide +kernel⟩,
   ⟨sRun, 1251, (by decide +kernel : _ = false), by decide +kernel⟩,
   ⟨(let s := sUp; { s with sys := { s.sys with scrubWord := 262142 } }), (by decide +kernel : _ = false), by decide +kernel⟩,
   ⟨(let s := sUp; { s with sys := { s.sys with scrubWord := 262142 } }), (by decide +kernel : _ = false), by decide +kernel⟩,
   ⟨sUp, (by decide +kernel : _ = false)⟩,
   ⟨sUp, (by decide +kernel : _ = false)⟩⟩

theorem test_RegisterWritesLand :
    (∃ (s : State) (r : RegId) (i : Nat) (addr : Word) (c : WCycle) (w : Write), Calm s ∧ r ∈ plainRegs ∧ c.ws = [w] ∧ w.kind = .plain ∧
        State.failsOf w = 0 ∧ locate (wd (baseOf addr)) = .at_ (.reg r i) .plain) ∧
    (∃ (s : State) (r : RegId) (i : Nat) (p : Pkt) (role : Role), Calm s ∧ r ∈ plainRegs ∧ Carried s cmdRegWrite p role ∧ p.rivals = [] ∧
        locate (nth p.payload 0) = .at_ (.reg r i) .plain) ∧
    (∃ (s : State) (r : RegId) (i : Nat) (p : Pkt) (role : Role) (new : Word), Calm s ∧ r ∈ plainRegs ∧ Carried s cmdRegModify p role ∧
        p.rivals = [] ∧ locate (nth p.payload 0) = .at_ (.reg r i) .plain ∧ (∀ l ∈ s.hst.latches, l.by_ = .interp → l.addr ≠ r.addr i) ∧ new
        = (s.rd r i &&& ~~~(nth p.payload 1)) ||| (nth p.payload 2 &&& nth p.payload 1)) ∧
    (∃ (s : State) (r : RegId) (i : Nat) (w : Write) (new : Word) (addr : Word) (c : WCycle), Calm s ∧ i < 65536 ∧ r ∉ actingRegs ∧ locate
        (wd (baseOf addr)) = .at_ (.reg r i) .plain ∧ Lands s r i c w new) ∧
    (∃ (s : State) (r : RegId) (i : Nat) (w : Write) (new : Word) (p : Pkt) (role : Role), Calm s ∧ i < 65536 ∧ r ∉ actingRegs ∧ Carried s
        cmdRegWrite p role ∧ p.rivals = [] ∧ (at_ s p).writeNeeds (nth p.payload 0) = false ∧ locate (wd (baseOf (nth p.payload 0))) = .at_
        (.reg r i) .plain ∧ aliasOf (nth p.payload 0) = .plain ∧ r ≠ .CAN_CMD_REQ ∧ r ≠ .SYS_UNIT ∧ w = ⟨.host role, .plain, nth p.payload
        1, 0⟩ ∧ Lands (at_ s p) r i ⟨0, [w], 0⟩ w new) ∧
    (∃ (s : State) (r : RegId) (i : Nat) (w : Write) (new : Word) (p : Pkt) (role : Role), Calm s ∧ i < 65536 ∧ r ∉ actingRegs ∧ Carried s
        cmdRegModify p role ∧ p.rivals = [] ∧ (at_ s p).writeNeeds (nth p.payload 0) = false ∧ locate (nth p.payload 0) = .at_ (.reg r i)
        .plain ∧ Quiet s .interp r i ∧ r ≠ .CAN_CMD_REQ ∧ r ≠ .SYS_UNIT ∧ w = ⟨.host role, .plain, ((at_ s p).view r i &&& ~~~(nth p.payload
        1)) ||| (nth p.payload 2 &&& nth p.payload 1), 0⟩ ∧ Lands (at_ s p) r i ⟨0, [w], 0⟩ w new) :=
  ⟨⟨sBr, .AI_GAIN, 1, wd (RegId.AI_GAIN.addr 1), one (byA 77), byA 77, (by decide +kernel : _ = false), by decide +kernel⟩,
   ⟨sHost dREADY .operator, .SYS_SCRATCH, 0, pkt 0x0201 [wd (RegId.SYS_SCRATCH.addr 0), 77], .operator, (by decide +kernel : _ = false),
      by decide +kernel, carried_of (by decide +kernel), by decide +kernel⟩,
   ⟨sHost dREADY .operator, .SYS_SCRATCH, 0, pkt 0x0202 [wd (RegId.SYS_SCRATCH.addr 0), 7, 5], .operator, 5,
      (by decide +kernel : _ = false), by decide +kernel, carried_of (by decide +kernel), by decide +kernel⟩,
   ⟨sBr, .AI_GAIN, 1, byA 77, 77, wd (RegId.AI_GAIN.addr 1), one (byA 77), (by decide +kernel : _ = false), by decide +kernel,
      by decide +kernel, by decide +kernel, lands_of (by decide +kernel)⟩,
   ⟨sHost dREADY .installer, .OBS_POL_I, 1, ⟨.host .installer, .plain, 77, 0⟩, 77, pkt 0x0201 [wd (RegId.OBS_POL_I.addr 1), 77], .installer,
      (by decide +kernel : _ = false), by decide +kernel, by decide +kernel, carried_of (by decide +kernel), by decide +kernel,
      by decide +kernel, by decide +kernel, by decide +kernel, by decide +kernel, by decide +kernel, by decide +kernel,
      lands_of (by decide +kernel)⟩,
   ⟨sHost dREADY .installer, .FIO_DO, 0, ⟨.host .installer, .plain, 5, 0⟩, 5, pkt 0x0202 [wd (RegId.FIO_DO.addr 0), 7, 5], .installer,
      (by decide +kernel : _ = false), by decide +kernel, by decide +kernel, carried_of (by decide +kernel), by decide +kernel,
      by decide +kernel, by decide +kernel, quiet_of (by decide +kernel), by decide +kernel, by decide +kernel, by decide +kernel,
      lands_of (by decide +kernel)⟩⟩

theorem test_RegisterReadsReply :
    (∃ (s : State) (p : Pkt) (role : Role) (r : _) (i : _) (k : _), Calm s ∧ Carried s cmdRegRead p role ∧ locate (nth p.payload 0) = .at_
        (.reg r i) k ∧ Quiet s .interp r i) ∧
    (∃ (s : State) (p : Pkt) (role : Role) (w : _) (k : _), Calm s ∧ Carried s cmdRegRead p role ∧ locate (nth p.payload 0) = .at_ (.tat w)
        k) ∧
    (∃ (s : State) (p : Pkt) (role : Role) (r : _) (i : _) (k : _), Calm s ∧ Carried s cmdRegRead p role ∧ locate (nth p.payload 0) = .at_
        (.reg r i) k ∧ i < 65536 ∧ highOf r i = none ∧ r ≠ .CAN_MB ∧ r ≠ .LE_MDATA ∧ (∀ l ∈ s.hst.latches, l.by_ = .interp → l.addr ≠ r.addr
        i)) ∧
    (∃ (s : State) (p : Pkt) (role : Role), Calm s ∧ Carried s cmdBlockRead p role ∧ (nth p.payload 1).toNat + 1 ≤ maxLength p.via ∧ (∃ r i
        k, locate (nth p.payload 0) = .at_ (.reg r i) k) ∧ (∀ n, n < (nth p.payload 1).toNat → ∃ r i k, locate (wd ((nth p.payload 0).toNat
        + 4 * n)) = .at_ (.reg r i) k ∧ Quiet s .interp r i)) ∧
    (∃ (s : State) (addr : Word) (r : RegId) (i : Nat) (by_ : List Rd), Calm s ∧ i < 65536 ∧ locate addr = .at_ (.reg r i) .plain ∧ r ≠
        .CAN_MB ∧ r ≠ .LE_MDATA ∧ by_ ≠ [] ∧ (∀ q ∈ by_, q.fails = 0) ∧ highOf r i = none ∧ (∀ q l, q ∈ by_ → l ∈ s.hst.latches → l.by_ =
        q.by_ → l.addr ≠ r.addr i)) ∧
    (∃ (s : State) (addr : Word) (r : RegId) (i : Nat) (q : Rd), Calm s ∧ i < 65536 ∧ locate addr = .at_ (.reg r i) .plain ∧ r ≠ .CAN_MB ∧ r
        ≠ .LE_MDATA ∧ 4 ≤ q.fails ∧ r ≠ .FAB_PAR_REPLAY) ∧
    (∃ (s : State) (addr : Word) (r : RegId) (i : Nat) (by_ : _) (h : _) (j : _), Calm s ∧ i < 65536 ∧ locate addr = .at_ (.reg r i) .plain
        ∧ r ≠ .CAN_MB ∧ r ≠ .LE_MDATA ∧ highOf r i = some (h, j) ∧ (∀ l ∈ s.hst.latches, l.by_ = by_ → l.addr ≠ r.addr i)) :=
  ⟨⟨sBr, pkt 0x0200 [wd (RegId.SNS_GUARD.addr 0)], .maker, .SNS_GUARD, 0, .plain, (by decide +kernel : _ = false),
      carried_of (by decide +kernel), by decide +kernel, quiet_of (by decide +kernel)⟩,
   ⟨sTat, pkt 0x0200 [0x00200000], .maker, 0, .plain, (by decide +kernel : _ = false), carried_of (by decide +kernel), by decide +kernel⟩,
   ⟨sBr.wr .EN_ILLEGAL 9 2, pkt 0x0200 [wd (RegId.EN_ILLEGAL.addr 2)], .maker, .EN_ILLEGAL, 2, .plain, (by decide +kernel : _ = false),
      carried_of (by decide +kernel), by decide +kernel⟩,
   ⟨sBr, pkt 0x0203 [wd (RegId.SNS_GUARD.addr 0), 1], .maker, (by decide +kernel : _ = false), carried_of (by decide +kernel),
      by decide +kernel, ⟨.SNS_GUARD, 0, .plain, by decide +kernel⟩, only_zero (by decide +kernel) ⟨.SNS_GUARD, 0, .plain,
      by decide +kernel, quiet_of (by decide +kernel)⟩⟩,
   ⟨sBr, wd (RegId.EN_ILLEGAL.addr 2), .EN_ILLEGAL, 2, [⟨.interp, 0⟩], (by decide +kernel : _ = false), by decide +kernel,
      by decide +kernel, by decide +kernel, by decide +kernel, by decide +kernel, by decide +kernel, by decide +kernel, fun q l a c =>
      (by decide +kernel : ∀ q ∈ [(⟨Initiator.interp, 0⟩ : Rd)], ∀ l ∈ sBr.hst.latches, l.by_ = q.by_ → l.addr ≠ RegId.addr .EN_ILLEGAL 2) q
      a l c⟩,
   ⟨sBr, wd (RegId.EN_ILLEGAL.addr 2), .EN_ILLEGAL, 2, ⟨.pairA, 4⟩, (by decide +kernel : _ = false), by decide +kernel⟩,
   ⟨sBr, wd (RegId.MER_TIME_LO.addr 0), .MER_TIME_LO, 0, .interp, .MER_TIME_HI, 0, (by decide +kernel : _ = false), by decide +kernel⟩⟩

theorem test_BridgeRegistersAct :
    (∃ (s : State) (c : WCycle) (w : Write) (new : Word) (b : Fin 8), Calm s ∧ Lands s .BR_COMMIT b c w new ∧ bitOf new 0 = true ∧
        (s.bridgesOf (s.fld F.BR_CFG_AXIS b)).length ≠ 2) ∧
    (∃ (s : State) (c : WCycle) (w : Write) (new : Word) (a : Fin 4), Calm s ∧ Lands s .AX_TUNE_COMMIT a c w new ∧ bitOf new 0 = true) ∧
    (∃ (s : State) (c : WCycle) (w : Write) (new : Word) (b : Fin 8), Calm s ∧ Lands s .PWM_CTRL 0 c w new ∧ new = (s.rd .PWM_CTRL ||| 1#32
        <<< b.val) ∧ bitOf (s.rd .PWM_CTRL) b = false ∧ s.running b = false ∧ ((s.elapse c.dt).wr .PWM_CTRL new).cfgOk b = true) ∧
    (∃ (s : State) (c : WCycle) (w : Write) (new : Word) (b : Fin 8), Calm s ∧ Lands s .PWM_CTRL 0 c w new ∧ new = (s.rd .PWM_CTRL &&&
        ~~~(1#32 <<< b.val)) ∧ bitOf (s.rd .PWM_CTRL) b = true ∧ s.fbit F.GATE_STAT_OFFSEQ b = false) ∧
    (∃ (s : State) (b : Fin 8) (t0 : Nat) (v : Nat), Calm s ∧ (s.bridge b).asked = some t0 ∧ s.released b = true ∧ s.running b = false ∧
        s.fbit F.GATE_STAT_OFFSEQ b = false ∧ s.valleyFrom b (max s.tick (max t0 s.lan.relAt + 2)) = some v ∧ s.cfgOk b = true) ∧
    (∃ (s : State) (b : Fin 8) (t0 : Nat) (v : Nat), Calm s ∧ (s.bridge b).asked = some t0 ∧ s.released b = true ∧ s.running b = false ∧
        s.fbit F.GATE_STAT_OFFSEQ b = false ∧ s.valleyFrom b (max s.tick (max t0 s.lan.relAt + 2)) = some v ∧ s.cfgOk b = false) :=
  ⟨⟨sBr, one (byA 1), byA 1, 1, 0, (by decide +kernel : _ = false), lands_of (by decide +kernel), by decide +kernel⟩,
   ⟨sBr, one (byA 1), byA 1, 1, 3, (by decide +kernel : _ = false), lands_of (by decide +kernel), by decide +kernel⟩,
   ⟨sBr, one (byA 1), byA 1, 1, 0, (by decide +kernel : _ = false), lands_of (by decide +kernel), by decide +kernel⟩,
   ⟨sRun, one (byA 0), byA 0, 0, 0, (by decide +kernel : _ = false), lands_of (by decide +kernel), by decide +kernel⟩,
   ⟨sAsked, 0, 5, 20000, (by decide +kernel : _ = false), by decide +kernel⟩,
   ⟨sAsked.wr .BR_MAP1 0x3F3F3F3F, 0, 5, 20000, (by decide +kernel : _ = false), by decide +kernel⟩⟩

theorem test_AxisAndFeedbackRegistersAct :
    (∃ (s : State) (a : Fin 4) (c : WCycle) (w : Write) (new : Word), Calm s ∧ Lands s .AX_T_LOAD a c w new) ∧
    (∃ (s : State) (a : Fin 4) (c : WCycle) (w : Write) (new : Word), Calm s ∧ Lands s .AX_PL_HOLD a c w new ∧ w.who.isHost = true ∧ bitOf
        new 17 = true) ∧
    (∃ (s : State) (a : Fin 4) (c : WCycle) (w : Write) (new : Word), Calm s ∧ Lands s .OBS_KE_CFG a c w new ∧ bitOf new 1 = true ∧ bitOf
        new 0 = false ∧ s.axSt a = aRUN) ∧
    (∃ (s : State) (a : Fin 4) (c : WCycle) (w : Write) (new : Word), Calm s ∧ Lands s .OBS_KE_CFG a c w new ∧ bitOf new 1 = true ∧ bitOf
        new 0 = false ∧ s.axSt a = aDISABLED) ∧
    (∃ (s : State) (a : Fin 4) (c : WCycle) (w : Write) (new : Word), Calm s ∧ Lands s .OBS_KE_REF a c w new) ∧
    (∃ (s : State) (a : Fin 4) (c : WCycle) (w : Write) (new : Word), Calm s ∧ Lands s .OBS_KE_CFG a c w new ∧ bitOf new 0 = true ∧
        w.who.mayRl = true ∧ bitOf new 1 = false) ∧
    (∃ (s : State) (a : Fin 4), Calm s ∧ (s.axis a).keMeas = true ∧ s.unclipped a = false) ∧
    (∃ (s : State) (a : Fin 4), Calm s ∧ (s.axis a).keMeas = true ∧ s.eightPeriods a = false) ∧
    (∃ (s : State) (a : Fin 4), Calm s ∧ (s.axis a).keMeas = true ∧ s.unclipped a = true ∧ s.eightPeriods a = true ∧ s.atVmin a
        (s.catchSpeed a).1 = true) ∧
    (∃ (s : State) (ch : Fin 4) (c : WCycle) (w : Write) (new : Word), Calm s ∧ Lands s .EN_POS ch c w new) ∧
    (∃ (s : State) (ch : Fin 4) (c : WCycle) (w : Write) (new : Word), Calm s ∧ Lands s .EN_CFG ch c w new ∧ bitsOf (s.rd .EN_CFG ch) 4 0 ≠
        bitsOf new 4 0) ∧
    (∃ (s : State) (ch : Fin 4) (c : WCycle) (w : Write) (new : Word), Calm s ∧ Lands s .EN_CPR ch c w new ∧ s.rd .EN_CPR ch ≠ new) ∧
    (∃ (s : State) (ch : Fin 4) (c : WCycle) (w : Write) (new : Word), Calm s ∧ Lands s .CMP_RANGE ch c w new ∧ bitOf new 31 = true ∧ s.rd
        .CMP_RANGE ch ≠ new ∧ (((s.elapse c.dt).wr .CMP_RANGE new ch).setF F.CMP_RANGE_ARM 0 ch).rangeOk ch (bitsOf new 9 0) (bitsOf new 25
        16) = true) :=
  ⟨⟨(sBr.setF F.AX_CFG_PROG 1 2).setF F.AX_CFG_OE 1 2, 2, one ⟨.oe 1, .plain, 7, 0⟩, ⟨.oe 1, .plain, 7, 0⟩, 7, (by decide +kernel : _ = false),
      lands_of (by decide +kernel)⟩,
   ⟨(sBr.wr .AX_PL_HOLD 0x10005 2), 2, one ⟨.host .maker, .plain, 0x20005, 0⟩, ⟨.host .maker, .plain, 0x20005, 0⟩, 0x30005,
      (by decide +kernel : _ = false), lands_of (by decide +kernel), by decide +kernel⟩,
   ⟨((sKe.setF F.AX_STAT_STATE aRUN 2).wr .AX_SPEED 0x400000 2), 2, one ⟨.host .maker, .plain, 0x2, 0⟩, ⟨.host .maker, .plain, 2, 0⟩, 2,
      (by decide +kernel : _ = false), lands_of (by decide +kernel), by decide +kernel⟩,
   ⟨sKe, 2, one ⟨.host .maker, .plain, 0x2, 0⟩, ⟨.host .maker, .plain, 2, 0⟩, 2, (by decide +kernel : _ = false),
      lands_of (by decide +kernel), by decide +kernel⟩,
   ⟨sBr, 2, one ⟨.host .maker, .plain, 0x2, 0⟩, ⟨.host .maker, .plain, 2, 0⟩, 2, (by decide +kernel : _ = false),
      lands_of (by decide +kernel)⟩,
   ⟨sBr, 2, one ⟨.host .maker, .plain, 0x1, 0⟩, ⟨.host .maker, .plain, 1, 0⟩, 1, (by decide +kernel : _ = false),
      lands_of (by decide +kernel), by decide +kernel⟩,
   ⟨sMeas (fun c => { c with clipped := true }) 0, 2, (by decide +kernel : _ = false), by decide +kernel⟩,
   ⟨sMeas id 0, 2, (by decide +kernel : _ = false), by decide +kernel⟩,
   ⟨sMeas (fun c => { c with turned := -2 ^ 35, sumV := 4000000, sumW := 50000000, n := 1 }) (2 ^ 40), 2, (by decide +kernel : _ = false),
      by decide +kernel⟩,
   ⟨sBr, 2, one (byH 99), byH 99, 99, (by decide +kernel : _ = false), lands_of (by decide +kernel)⟩,
   ⟨sBr, 2, one (byH 0x11), byH 0x11, 0x11, (by decide +kernel : _ = false), lands_of (by decide +kernel), by decide +kernel⟩,
   ⟨sBr, 2, one (byH 4000), byH 4000, 4000, (by decide +kernel : _ = false), lands_of (by decide +kernel), by decide +kernel⟩,
   ⟨sBr, 2, one (byH 0x80010000), byH 0x80010000, 0x80010000, (by decide +kernel : _ = false), lands_of (by decide +kernel),
      by decide +kernel⟩⟩

theorem test_EngineAndUnitRegistersAct :
    (∃ (s : State) (e : Fin 10) (c : WCycle) (w : Write) (new : Word), Calm s ∧ Lands s .LE_CTRL e c w new ∧ w.who.engine? = none ∧ bitOf
        new 1 = true ∧ bitOf new 0 = bitOf (s.rd .LE_CTRL e) 0) ∧
    (∃ (s : State) (e : Fin 10) (t0 : Nat), Calm s ∧ (s.engine e).checking = some t0) ∧
    (∃ (s : State) (e : Fin 10) (c : WCycle) (w : Write) (new : Word), Calm s ∧ Lands s .LE_CTRL e c w new ∧ w.who.engine? = none ∧ bitOf
        new 1 = false ∧ bitOf new 0 = true ∧ s.fld F.LE_CTRL_RUN e = 0 ∧ (s.engine e).dead = false ∧ s.on F.LE_STAT_PROG_OK e = true ∧
        s.deadlinesOk e = true ∧ s.scheduleFits e (fun j => s.budgetEff (4 * e + j)) = true) ∧
    (∃ (s : State) (e : Fin 10) (c : WCycle) (w : Write) (new : Word), Calm s ∧ Lands s .LE_CTRL e c w new ∧ w.who.engine? = none ∧ bitOf
        new 1 = false ∧ bitOf new 0 = false ∧ s.fld F.LE_CTRL_RUN e = 1) ∧
    (∃ (s : State) (e : Fin 10), Calm s ∧ s.fld F.LE_MADDR_ADDR e < (if s.on F.LE_MADDR_SPACE e = true then State.progSize e else
        State.dataSize e)) ∧
    (∃ (s : State) (e : Fin 10) (w : Write) (new : Word) (dt : Nat), Calm s ∧ Lands (s.elapse dt) .LE_MDATA e ⟨0, [w], 0⟩ w new ∧
        w.who.engine? = none ∧ s.fld F.LE_MADDR_ADDR e < State.dataSize e ∧ s.on F.LE_MADDR_SPACE e = false ∧ s.on F.LE_CTRL_RUN e = false) ∧
    (∃ (s : State) (c : WCycle) (w : Write) (new : Word), Calm s ∧ Lands s .SYS_UNIT 0 c w new) ∧
    (∃ (s : State) (c : WCycle) (w : Write) (new : Word), Calm s ∧ Lands s .SYS_SPLIT 0 c w new) ∧
    (∃ (s : State) (c : WCycle) (w : Write) (new : Word) (me : Fin 2), Calm s ∧ Lands s .ME_POS me c w new ∧ w.who.mayRl = false) ∧
    (∃ (s : State) (c : WCycle) (w : Write) (new : Word) (me : Fin 2), Calm s ∧ Lands s .ME_POS me c w new ∧ w.who.mayRl = true) ∧
    (∃ (s : State) (c : WCycle) (w : Write) (new : Word), Calm s ∧ Lands s .CDL_CTRL 0 c w new ∧ bitOf new 0 = true) ∧
    (∃ (s : State) (c : WCycle) (w : Write) (new : Word), Calm s ∧ Lands s .LAN_SBC 0 c w new) ∧
    (∃ (s : State) (c : WCycle) (w : Write) (new : Word), Calm s ∧ Lands s .FIO_DO 0 c w new) :=
  ⟨⟨sBr, 3, one (byA 2), byA 2, 2, (by decide +kernel : _ = false), lands_of (by decide +kernel), by decide +kernel⟩,
   ⟨(sBr.updEng 8 fun g => { g with checking := some 3 }).setF F.LE_TASK_CFG_EN 1 32, 8, 3, (by decide +kernel : _ = false),
      by decide +kernel⟩,
   ⟨sBr.setF F.LE_STAT_PROG_OK 1 3, 3, one (byA 1), byA 1, 1, (by decide +kernel : _ = false), lands_of (by decide +kernel),
      by decide +kernel⟩,
   ⟨(sBr.setF F.LE_CTRL_RUN 1 9).setF F.LE_STAT_RUNNING 1 9, 9, one (byA 0), byA 0, 0, (by decide +kernel : _ = false),
      lands_of (by decide +kernel), by decide +kernel⟩,
   ⟨sBr.setF F.LE_MADDR_ADDR 8191 8 |>.setF F.LE_MADDR_SPACE 1 8, 8, (by decide +kernel : _ = false), by decide +kernel⟩,
   ⟨sBr.setF F.LE_MADDR_ADDR 511 8, 8, byA 99, 99, 4, (by decide +kernel : _ = false), lands_of (by decide +kernel), by decide +kernel⟩,
   ⟨sBr, one (byH 99), byH 99, 99, (by decide +kernel : _ = false), lands_of (by decide +kernel)⟩,
   ⟨sSafe, one (byH 3), byH 3, 3, (by decide +kernel : _ = false), lands_of (by decide +kernel)⟩,
   ⟨sBr, one (byA 0), byA 0, 0, 1, (by decide +kernel : _ = false), lands_of (by decide +kernel), by decide +kernel⟩,
   ⟨sBr, one (byH 99), byH 99, 99, 1, (by decide +kernel : _ = false), lands_of (by decide +kernel), by decide +kernel⟩,
   ⟨sBr, one (byH 1), byH 1, 1, (by decide +kernel : _ = false), lands_of (by decide +kernel), by decide +kernel⟩,
   ⟨sBr, one (byH 1), byH 1, 1, (by decide +kernel : _ = false), lands_of (by decide +kernel)⟩,
   ⟨sBr, one (byH 0xFFFF), byH 0xFFFF, 0xFFFF, (by decide +kernel : _ = false), lands_of (by decide +kernel)⟩⟩

theorem test_MeridianAndCanRegistersAct :
    (∃ (s : State) (c : WCycle) (w : Write) (new : Word), Calm s ∧ Lands s .MER_SET_HI 0 c w new ∧ s.fld F.MER_CFG_SRC = 0) ∧
    (∃ (s : State) (c : WCycle) (w : Write) (new : Word), Calm s ∧ Lands s .MER_SET_HI 0 c w new ∧ s.fld F.MER_CFG_SRC ≠ 0) ∧
    (∃ (s : State) (x : _) (t0 : _), Calm s ∧ s.mer.set = some (x, t0)) ∧
    (∃ (s : State) (n : Fin 2) (c : WCycle) (w : Write) (new : Word), Calm s ∧ Lands s .CAN_CTRL n c w new ∧ bitOf new 0 = true ∧
        bitOf (s.rd .CAN_CTRL n) 0 = false ∧ (s.canR n).attempt = none) ∧
    (∃ (s : State) (n : Fin 2) (c : WCycle) (w : Write) (new : Word) (x : _), Calm s ∧ Lands s .CAN_CTRL n c w new ∧ bitOf new 0 = true ∧
        bitOf (s.rd .CAN_CTRL n) 0 = false ∧ (s.canR n).attempt = some x) ∧
    (∃ (s : State) (n : Fin 2) (c : WCycle) (w : Write) (new : Word), Calm s ∧ Lands s .CAN_CTRL n c w new ∧ bitOf new 0 = false ∧
        bitOf (s.rd .CAN_CTRL n) 0 = true) ∧
    (∃ (s : State) (n : Fin 2), Calm s ∧ (s.canR n).joinAsk = true) ∧
    (∃ (s : State) (n : Fin 2) (c : WCycle) (w : Write) (k : Fin 64), Calm s ∧ c.ws = [w] ∧ c.hwSet = 0 ∧ w.kind = .set ∧
        State.failsOf w = 0 ∧ w.value = 1#32 <<< (k.val % 32) ∧ s.mbPending n k = false ∧ s.mbCode n k = 2 ∧ s.mb0 n k 18 18 = 0) ∧
    (∃ (s : State) (n : Fin 2) (c : WCycle) (w : Write) (k : Fin 64), Calm s ∧ c.ws = [w] ∧ c.hwSet = 0 ∧ w.kind = .clr ∧
        State.failsOf w = 0 ∧ w.value = 1#32 <<< (k.val % 32) ∧ s.mbPending n k = true ∧ (s.canR n).attempt = none) ∧
    (∃ (s : State) (n : Fin 2) (c : WCycle) (w : Write) (k : Fin 64) (x : _), Calm s ∧ c.ws = [w] ∧ c.hwSet = 0 ∧ w.kind = .clr ∧
        State.failsOf w = 0 ∧ w.value = 1#32 <<< (k.val % 32) ∧ s.mbPending n k = true ∧ (s.canR n).attempt = some x ∧ x.mb = k.val) ∧
    (∃ (s : State) (n : Fin 2) (k : Fin 64) (by_ : Initiator), Calm s ∧ ((∀ l ∈ s.hst.latches,
        l.by_ = by_ → l.addr ≠ RegId.CAN_MB.addr (State.mbIx n k 0))) ∧ s.mbCode n k = 1 ∧ s.mb0 n k 2 2 = 1 ∧ s.mbLocked n k = false) ∧
    (∃ (s : State) (n : Fin 2) (k : Fin 64) (by_ : Initiator), Calm s ∧ ((∀ l ∈ s.hst.latches,
        l.by_ = by_ → l.addr ≠ RegId.CAN_MB.addr (State.mbIx n k (s.mb0 n k 28 24)))) ∧ s.mbCode n k = 1 ∧ s.mbLocked n k = true ∧
        0 < s.mb0 n k 28 24 ∧ s.mb0 n k 28 24 < 24) ∧
    (∃ (s : State) (n : Fin 2) (k : Fin 64) (t0 : _), Calm s ∧ nth (s.canR n).locks k = some t0) :=
  ⟨⟨sBr, one (byH 99), byH 99, 99, (by decide +kernel : _ = false), lands_of (by decide +kernel), by decide +kernel⟩,
   ⟨sBr.setF F.MER_CFG_SRC 2, one (byH 99), byH 99, 99, (by decide +kernel : _ = false), lands_of (by decide +kernel), by decide +kernel⟩,
   ⟨{ sBr with mer := { sBr.mer with set := some (99, 5) } }, 99, 5, (by decide +kernel : _ = false), by decide +kernel⟩,
   ⟨sBr.setF F.CAN_CTRL_INIT 0 1, 1, one (byH 0x11), byH 0x11, 0x11, (by decide +kernel : _ = false), lands_of (by decide +kernel),
       by decide +kernel⟩,
   ⟨(sBr.setF F.CAN_CTRL_INIT 0 1).updCan 1 fun r => { r with attempt := some ⟨5, 0, false⟩ }, 1, one (byH 0x11), byH 0x11, 0x11, ⟨5, 0,
       false⟩, (by decide +kernel : _ = false), lands_of (by decide +kernel), by decide +kernel⟩,
   ⟨sBr.setF F.CAN_CTRL_INIT 1 1, 1, one (byH 0x10), byH 0x10, 0x10, (by decide +kernel : _ = false), lands_of (by decide +kernel),
       by decide +kernel⟩,
   ⟨(sBr.setF F.CAN_CTRL_INIT 0 1).updCan 1 fun r => { r with joinAsk := true }, 1, (by decide +kernel : _ = false), by decide +kernel⟩,
   ⟨sBr.wr .CAN_MB 2 (State.mbIx 1 63 0), 1, one { byA 0x80000000 with kind := .set }, { byA 0x80000000 with kind := .set }, 63,
       (by decide +kernel : _ = false), by decide +kernel⟩,
   ⟨sBr.wr .CAN_MB 0x802 (State.mbIx 1 63 0), 1, one { byA 0x80000000 with kind := .clr }, { byA 0x80000000 with kind := .clr }, 63,
       (by decide +kernel : _ = false), by decide +kernel⟩,
   ⟨(sBr.wr .CAN_MB 0x802 (State.mbIx 1 63 0)).updCan 1 fun r => { r with attempt := some ⟨63, 0, false⟩ }, 1,
       one { byA 0x80000000 with kind := .clr }, { byA 0x80000000 with kind := .clr }, 63, ⟨63, 0, false⟩,
       (by decide +kernel : _ = false), by decide +kernel⟩,
   ⟨sBr.wr .CAN_MB 5 (State.mbIx 1 63 0), 1, 63, .pairA, (by decide +kernel : _ = false), by decide +kernel⟩,
   ⟨sBr.wr .CAN_MB 0x0400000D (State.mbIx 1 63 0), 1, 63, .pairA, (by decide +kernel : _ = false), by decide +kernel⟩,
   ⟨(sBr.wr .CAN_MB 0x0400000D (State.mbIx 1 63 0)).updCan 1 fun r => { r with locks := r.locks.set 63 (some 3) }, 1, 63, 3,
       (by decide +kernel : _ = false), by decide +kernel⟩⟩

theorem test_AxisValuesWrite :
    (∃ (s : State) (p : Pkt) (role : Role) (r : _) (off : _) (v : _), Calm s ∧ Carried s cmdAxisConfig p role ∧ s.axSt (axisOf p) =
        aDISABLED ∧ r ∈ plainRegs ∧ p.payload.drop 1 = [off, v] ∧ State.axisReg (axisOf p) off.toNat = some r) ∧
    (∃ (s : State) (p : Pkt) (role : Role) (r : RegId) (r' : RegId) (off : _) (v : _) (off' : _) (v' : _), Calm s ∧ Carried s cmdAxisConfig
        p role ∧ s.axSt (axisOf p) = aDISABLED ∧ r ∈ plainRegs ∧ r' ∈ plainRegs ∧ r ≠ r' ∧ p.payload.drop 1 = [off, v, off', v'] ∧
        State.axisReg (axisOf p) off.toNat = some r ∧ State.axisReg (axisOf p) off'.toNat = some r') ∧
    (∃ (s : State) (p : Pkt) (role : Role) (r : _) (off : _) (w : _) (new : _), Calm s ∧ Carried s cmdAxisConfig p role ∧ s.axSt (axisOf p)
        = aDISABLED ∧ p.payload.drop 1 = [off, nth p.payload 2] ∧ State.axisReg (axisOf p) off.toNat = some r ∧ r ∉ actingRegs ∧ w = ⟨.host
        role, .plain, nth p.payload 2, 0⟩ ∧ Lands (at_ s p) r (axisOf p) ⟨0, [w], 0⟩ w new) ∧
    (∃ (s : State) (p : Pkt) (role : Role), Calm s ∧ Carried s cmdAxisSetpoint p role ∧ p.rivals = [] ∧ s.fld F.AX_CTRL_MODE (axisOf p) =
        bitsOf (nth p.payload 0) 11 8 ∧ bitsOf (nth p.payload 0) 11 8 ≤ 3 ∧ (at_ s p).beyondEnv .AX_SP_HOST (axisOf p) (nth p.payload 1) =
        false) ∧
    (∃ (s : State) (p : Pkt) (role : Role) (r : _), Calm s ∧ Carried s cmdAxisSetpoint p role ∧ p.rivals = [] ∧ State.quantityReg (bitsOf
        (nth p.payload 0) 11 8) = some (r, false) ∧ s.heldAt r (axisOf p) = none ∧ (at_ s p).beyondEnv r (axisOf p) (nth p.payload 1) =
        false) ∧
    (∃ (s : State) (p : Pkt) (role : Role), Calm s ∧ Carried s cmdAxisMode p role ∧ p.rivals = [] ∧ (at_ s p).modeOk (axisOf p) (nth
        p.payload 1) = true) :=
  ⟨⟨sBr, pkt 0x0300 [0, 0x90, 77], .maker, .AX_RAMP_ACC, 0x90, 77, (by decide +kernel : _ = false), carried_of (by decide +kernel),
      by decide +kernel⟩,
   ⟨sBr, pkt 0x0300 [0, 0x90, 77, 0x94, 78], .maker, .AX_RAMP_ACC, .AX_RAMP_DEC, 0x90, 77, 0x94, 78, (by decide +kernel : _ = false),
      carried_of (by decide +kernel), by decide +kernel⟩,
   ⟨sBr, pkt 0x0300 [0, 0x30, 77], .maker, (State.axisReg 0 0x30).getD .SYS_ID, 0x30, ⟨.host .maker, .plain, 77, 0⟩, 77,
      (by decide +kernel : _ = false), carried_of (by decide +kernel), by decide +kernel, by decide +kernel, by decide +kernel,
      by decide +kernel, by decide +kernel, lands_of (by decide +kernel)⟩,
   ⟨sAx aRUN, pkt 0x0303 [0x100, 77], .maker, (by decide +kernel : _ = false), carried_of (by decide +kernel), by decide +kernel⟩,
   ⟨sAx aRUN, pkt 0x0303 [0x700, 0], .maker, .AX_TLIM_N, (by decide +kernel : _ = false), carried_of (by decide +kernel), by decide +kernel⟩,
   ⟨sAx aDISABLED, pkt 0x0304 [0, 0x31], .maker, (by decide +kernel : _ = false), carried_of (by decide +kernel), by decide +kernel⟩⟩

theorem test_AxisStatusRepliesBlock :
    (∃ (s : State) (p : Pkt) (role : Role), Calm s ∧ Carried s cmdAxisStatus p role) :=
  ⟨sAx aRUN, pkt 0x0305 [0], .maker, (by decide +kernel : _ = false), carried_of (by decide +kernel)⟩

theorem test_AxesEnableDisableAndModes :
    (∃ (s : State) (p : Pkt) (role : Role), Calm s ∧ Carried s cmdAxisEnable p role ∧ (s.pmsm (axisOf p) = false ∨ s.on F.AX_CFG_CATCH_DIS
        (axisOf p) = true ∨ s.on F.OBS_CFG_VT_EN (axisOf p) = true) ∧ s.axSt (axisOf p) = aRUN) ∧
    (∃ (s : State) (p : Pkt) (role : Role), Calm s ∧ Carried s cmdAxisEnable p role ∧ (s.pmsm (axisOf p) = false ∨ s.on F.AX_CFG_CATCH_DIS
        (axisOf p) = true ∨ s.on F.OBS_CFG_VT_EN (axisOf p) = true) ∧ s.axSt (axisOf p) ≠ aRUN ∧ (at_ s p).followOk (axisOf p) = false) ∧
    (∃ (s : State) (p : Pkt) (role : Role), Calm s ∧ Carried s cmdAxisEnable p role ∧ (s.pmsm (axisOf p) = false ∨ s.on F.AX_CFG_CATCH_DIS
        (axisOf p) = true ∨ s.on F.OBS_CFG_VT_EN (axisOf p) = true) ∧ s.axSt (axisOf p) = aSTOPPING ∧ (s.axis (axisOf p)).queued = false ∧
        (at_ s p).followOk (axisOf p) = true) ∧
    (∃ (s : State) (p : Pkt) (role : Role), Calm s ∧ Carried s cmdAxisEnable p role ∧ (s.pmsm (axisOf p) = false ∨ s.on F.AX_CFG_CATCH_DIS
        (axisOf p) = true ∨ s.on F.OBS_CFG_VT_EN (axisOf p) = true) ∧ s.axSt (axisOf p) = aDISABLED ∧ (s.dev = dARMED ∨ s.dev = dRUN) ∧
        (s.axis (axisOf p)).keMeas = false ∧ s.engineBusy (axisOf p) = false ∧ (s.on F.AX_CFG_PROG (axisOf p) = false ∨ (s.axis (axisOf
        p)).progLoaded = true) ∧ s.on F.AX_CFG_CATCH_DIS (axisOf p) = false ∧ (at_ s p).followOk (axisOf p) = true ∧ (s.induction (axisOf p)
        = false ∨ s.on F.OBS_CFG_VT_EN (axisOf p) = true ∨ s.bridgesOf (axisOf p) ≠ [] ∧ (∀ b ∈ s.bridgesOf (axisOf p), s.cfgOk b = true))) ∧
    (∃ (s : State) (p : Pkt) (role : Role), Calm s ∧ Carried s cmdAxisEnable p role ∧ (s.pmsm (axisOf p) = false ∨ s.on F.AX_CFG_CATCH_DIS
        (axisOf p) = true ∨ s.on F.OBS_CFG_VT_EN (axisOf p) = true) ∧ s.axSt (axisOf p) = aDISABLED ∧ (s.dev = dARMED ∨ s.dev = dRUN) ∧
        (s.axis (axisOf p)).keMeas = false ∧ s.engineBusy (axisOf p) = false ∧ (s.on F.AX_CFG_PROG (axisOf p) = false ∨ (s.axis (axisOf
        p)).progLoaded = true) ∧ s.on F.AX_CFG_CATCH_DIS (axisOf p) = true ∧ (at_ s p).followOk (axisOf p) = true ∧ s.pmsm (axisOf p) = true
        ∧ s.angleKnown (axisOf p) = false ∧ s.bridgesOk (axisOf p) = true) ∧
    (∃ (s : State) (p : Pkt) (role : Role), Calm s ∧ Carried s cmdAxisEnable p role ∧ (s.pmsm (axisOf p) = false ∨ s.on F.AX_CFG_CATCH_DIS
        (axisOf p) = true ∨ s.on F.OBS_CFG_VT_EN (axisOf p) = true) ∧ s.axSt (axisOf p) = aDISABLED ∧ (s.dev = dARMED ∨ s.dev = dRUN) ∧
        (s.axis (axisOf p)).keMeas = false ∧ s.engineBusy (axisOf p) = false ∧ (s.on F.AX_CFG_PROG (axisOf p) = false ∨ (s.axis (axisOf
        p)).progLoaded = true) ∧ s.on F.AX_CFG_CATCH_DIS (axisOf p) = true ∧ (at_ s p).followOk (axisOf p) = true ∧ (s.pmsm (axisOf p) =
        false ∨ s.angleKnown (axisOf p) = true) ∧ s.bridgesOk (axisOf p) = true ∧ s.emAny (axisOf p) = false ∧ (s.ob (axisOf p)).relock =
        none) ∧
    (∃ (s : State) (p : Pkt) (role : Role), Calm s ∧ Carried s cmdAxisDisable p role ∧ s.axSt (axisOf p) = aDISABLED) ∧
    (∃ (s : State) (p : Pkt) (role : Role), Calm s ∧ Carried s cmdAxisDisable p role ∧ (s.axSt (axisOf p) = aCATCH ∨ s.axSt (axisOf p) =
        aALIGN)) ∧
    (∃ (s : State) (p : Pkt) (role : Role), Calm s ∧ Carried s cmdAxisDisable p role ∧ s.axSt (axisOf p) = aRUN ∧ (∀ f ∈ s.hst.flight,
        ¬(f.opcode = 0x0306 ∧ f.target = axisOf p))) ∧
    (∃ (s : State) (p : Pkt) (role : Role), Calm s ∧ Carried s cmdAxisDisable p role ∧ s.axSt (axisOf p) = aSTOPPING ∧ (s.axis (axisOf
        p)).queued = false) ∧
    (∃ (s : State) (p : Pkt) (role : Role) (m : _), Calm s ∧ (m = 3 ∨ m = 5) ∧ Carried s cmdAxisEmergency p role ∧ nth p.payload 1 = wd m ∧
        s.emAdmitted (axisOf p) m = true ∧ s.axSt (axisOf p) ≠ aDISABLED ∧ s.axSt (axisOf p) ≠ aFAULTED ∧ s.fld F.AX_EM_STAT_OPMODE (axisOf
        p) = 0) ∧
    (∃ (s : State) (p : Pkt) (role : Role), Calm s ∧ Carried s cmdAxisEmergency p role ∧ nth p.payload 1 = 0x101 ∧ s.emAdmitted (axisOf p) 1
        = true ∧ s.axSt (axisOf p) = aEMERGENCY ∧ s.on F.AX_EM_STAT_LIMP (axisOf p) = true) :=
  ⟨⟨(sAx aRUN).setF F.OBS_CFG_VT_EN 1, pkt 0x0301 [0], .maker, (by decide +kernel : _ = false), carried_of (by decide +kernel),
      by decide +kernel⟩,
   ⟨((sAx aDISABLED).setF F.OBS_CFG_VT_EN 1).setF F.AX_SH_CFG_MODE 1, pkt 0x0301 [0], .maker, (by decide +kernel : _ = false),
      carried_of (by decide +kernel), by decide +kernel⟩,
   ⟨(sAx aSTOPPING).setF F.AX_CFG_CATCH_DIS 1, pkt 0x0301 [0], .maker, (by decide +kernel : _ = false), carried_of (by decide +kernel),
      by decide +kernel⟩,
   ⟨(sAx aDISABLED).setF F.OBS_CFG_VT_EN 1, pkt 0x0301 [0], .maker, (by decide +kernel : _ = false), carried_of (by decide +kernel),
      by decide +kernel⟩,
   ⟨(sAx aDISABLED).setF F.AX_CFG_CATCH_DIS 1, pkt 0x0301 [0], .maker, (by decide +kernel : _ = false), carried_of (by decide +kernel),
      by decide +kernel⟩,
   ⟨((sAx aDISABLED).setF F.AX_CFG_CATCH_DIS 1).setF F.EN_STAT_REFERENCED 1, pkt 0x0301 [0], .maker, (by decide +kernel : _ = false),
      carried_of (by decide +kernel), by decide +kernel⟩,
   ⟨sAx aDISABLED, pkt 0x0302 [0], .maker, (by decide +kernel : _ = false), carried_of (by decide +kernel), by decide +kernel⟩,
   ⟨sAx aCATCH, pkt 0x0302 [0], .maker, (by decide +kernel : _ = false), carried_of (by decide +kernel), by decide +kernel⟩,
   ⟨sAx aRUN, pkt 0x0302 [0], .maker, (by decide +kernel : _ = false), carried_of (by decide +kernel), by decide +kernel⟩,
   ⟨sAx aSTOPPING, pkt 0x0302 [0], .maker, (by decide +kernel : _ = false), carried_of (by decide +kernel), by decide +kernel⟩,
   ⟨(sAx aRUN).setF F.AX_EM_ADMIT_MODES 63, pkt 0x0306 [0, 3], .maker, 3, (by decide +kernel : _ = false), by decide +kernel,
      carried_of (by decide +kernel), by decide +kernel⟩,
   ⟨((sAx aEMERGENCY).setF F.AX_EM_ADMIT_MODES 63).setF F.AX_EM_STAT_LIMP 1, pkt 0x0306 [0, 0x101], .maker, (by decide +kernel : _ = false),
      carried_of (by decide +kernel), by decide +kernel⟩⟩

theorem test_CatchAlignRelockEnd :
    (∃ (s : State) (a : Fin 4), Calm s ∧ s.axSt a = aCATCH ∧ (s.ob a).relock = none ∧ (s.ob a).search = false ∧ s.encValid a = false ∧ (s.ob
        a).catch_.early = false ∧ (s.ob a).catch_.v < s.sg .OBS_CATCH_VMIN a ∧ (s.induction a = false ∨ s.on F.OBS_CFG_SS_EN a = false) ∧
        s.bridgesOk a = true ∧ s.emAny a = false) ∧
    (∃ (s : State) (a : Fin 4) (w : _) (v : _) (th : _), Calm s ∧ s.axSt a = aCATCH ∧ (s.ob a).relock = none ∧ (s.ob a).search = true ∧
        (s.ob a).catch_.found = some (.found w v th) ∧ s.bridgesOk a = true ∧ s.emAny a = false) ∧
    (∃ (s : State) (a : Fin 4), Calm s ∧ s.axSt a = aCATCH ∧ (s.ob a).relock = none ∧ (s.ob a).search = true ∧ (s.ob a).catch_.found = some
        .negative) ∧
    (∃ (s : State) (a : Fin 4) (ip : Int) (in_ : Int), Calm s ∧ s.axSt a = aALIGN ∧ (s.ob a).peakP = some ip ∧ (s.ob a).peakN = some in_ ∧
        s.sg .OBS_POL_MIN a ≤ (ip - in_).natAbs ∧ s.bridgesOk a = true ∧ s.emAny a = false ∧ (s.ob a).relock = none ∧ (s.onObserver a = true
        ∨ s.on F.EN_STAT_REFERENCED (s.encOf a) = false)) ∧
    (∃ (s : State) (a : Fin 4) (dt : Nat) (ip : Int) (in_ : Int) (d : Word), Calm s ∧ s.axSt a = aALIGN ∧ (s.ob a).peakP = some ip ∧ (s.ob
        a).peakN = some in_ ∧ s.sg .OBS_POL_MIN a ≤ (ip - in_).natAbs ∧ s.bridgesOk a = true ∧ s.emAny a = false ∧ (s.ob a).relock = none ∧
        s.onObserver a = false ∧ s.on F.EN_STAT_REFERENCED (s.encOf a) = true ∧ (∀ b, b < 4 → b ≠ a.val → (s.ob b).aligned = none) ∧ d =
        (s.elapse dt).encAngle a - ((s.ob a).thInj + (if ip < in_ then 0x80000000 else 0)) ∧ d.toInt.natAbs ≤ s.plausAng a) ∧
    (∃ (s : State) (a : Fin 4) (ip : Int) (in_ : Int), Calm s ∧ s.axSt a = aALIGN ∧ (s.ob a).peakP = some ip ∧ (s.ob a).peakN = some in_ ∧
        (ip - in_).natAbs < s.sg .OBS_POL_MIN a ∧ (s.ob a).alignTry < 2) ∧
    (∃ (s : State) (a : Fin 4) (k : Relock), Calm s ∧ s.axSt a = aCATCH ∧ (s.ob a).relock = some k ∧ (s.ob a).search = false ∧ (s.ob
        a).catch_.decayAt = none ∧ s.fld F.OBS_STAT_RELOCK_FAIL a < 2) ∧
    (∃ (s : State) (a : Fin 4) (k : Relock), Calm s ∧ s.axSt a = aCATCH ∧ (s.ob a).relock = some k ∧ (s.ob a).search = false ∧ (s.ob
        a).catch_.decayAt = none ∧ 2 ≤ s.fld F.OBS_STAT_RELOCK_FAIL a) ∧
    (∃ (s : State) (a : Fin 4) (k : Relock), Calm s ∧ s.axSt a = aCATCH ∧ (s.ob a).relock = some k ∧ (s.ob a).search = false ∧ (s.ob
        a).catch_.decayAt = some (s.ob a).entered ∧ (s.ob a).catch_.v < s.sg .OBS_CATCH_VMIN a ∧ (s.induction a = false ∨ s.on
        F.OBS_CFG_SS_EN a = false) ∧ s.bridgesOk a = true ∧ s.emAny a = false ∧ (s.pmsm a = false ∨ s.angleKnown a = true) ∧ k.heldFr2 =
        none) ∧
    (∃ (s : State) (a : Fin 4) (t0 : Nat), Calm s ∧ (s.ob a).rampAt = some t0) :=
  ⟨⟨((sAx aCATCH).wr .OBS_CATCH_VMIN 0x1000).updOb 0 fun o => { o with catch_ := { o.catch_ with v := 0xFFF } }, 0,
      (by decide +kernel : _ = false), by decide +kernel⟩,
   ⟨(sAx aCATCH).updOb 0 fun o => { o with search := true, catch_ := { o.catch_ with found := some (.found 9 8 7) } }, 0, 9, 8, 7,
      (by decide +kernel : _ = false), by decide +kernel⟩,
   ⟨(sAx aCATCH).updOb 0 fun o => { o with search := true, catch_ := { o.catch_ with found := some .negative } }, 0,
      (by decide +kernel : _ = false), by decide +kernel⟩,
   ⟨(((sAx aALIGN).wr .OBS_POL_MIN 0x1000).setF F.AX_CFG_ANGLE_SRC 1).updOb 0 fun o => { o with peakP := some 0x100, peakN := some 0x1100 },
      0, 0x100, 0x1100, (by decide +kernel : _ = false), by decide +kernel⟩,
   ⟨(((sAx aALIGN).wr .OBS_POL_MIN 0x1000).setF F.EN_STAT_REFERENCED 1).updOb 0 fun o =>
      { o with peakP := some 0x1100, peakN := some 0x100 }, 0, 5, 0x1100, 0x100, 0, (by decide +kernel : _ = false), by decide +kernel⟩,
   ⟨((sAx aALIGN).wr .OBS_POL_MIN 0x1000).updOb 0 fun o => { o with peakP := some 0x100, peakN := some 0x10FF }, 0, 0x100, 0x10FF,
      (by decide +kernel : _ = false), by decide +kernel⟩,
   ⟨(((sAx aCATCH).setF F.OBS_STAT_RELOCK_FAIL 1).setF F.OBS_CFG_VT_EN 1).updOb 0 fun o => { o with relock := some ⟨0, none, false⟩ }, 0,
      ⟨0, none, false⟩, (by decide +kernel : _ = false), by decide +kernel⟩,
   ⟨((sAx aCATCH).setF F.OBS_STAT_RELOCK_FAIL 2).updOb 0 fun o => { o with relock := some ⟨0, none, false⟩ }, 0, ⟨0, none, false⟩,
      (by decide +kernel : _ = false), by decide +kernel⟩,
   ⟨(((sAx aCATCH).wr .OBS_CATCH_VMIN 0x1000).setF F.EN_STAT_REFERENCED 1).updOb 0 fun o =>
      { o with relock := some ⟨5, none, false⟩, catch_ := { o.catch_ with v := 0xFFF, decayAt := some o.entered } }, 0, ⟨5, none, false⟩,
      (by decide +kernel : _ = false), by decide +kernel⟩,
   ⟨((sAx aRUN).setF F.OBS_STAT_RELOCK_FAIL 2).updOb 0 fun o => { o with rampAt := some 5 }, 0, 5, (by decide +kernel : _ = false),
      by decide +kernel⟩⟩

theorem test_StopsAndEmergenciesEnd :
    (∃ (s : State) (a : Fin 4) (t0 : Nat), Calm s ∧ s.axSt a = aSTOPPING ∧ (s.axis a).lowSince = some t0 ∧ (¬(s.sbcPresent = true ∧ s.braked
        = false)) ∧ ((s.axis a).stop = .none ∨ (s.axis a).stop = .disable ∨ (s.axis a).stop = .demand) ∧ (s.axis a).queued = false) ∧
    (∃ (s : State) (a : Fin 4) (t0 : Nat) (c : Nat), Calm s ∧ s.axSt a = aSTOPPING ∧ (s.axis a).lowSince = some t0 ∧ (¬(s.sbcPresent = true
        ∧ s.braked = false)) ∧ (s.axis a).stop = .fr2 c) ∧
    (∃ (s : State) (a : Fin 4) (t0 : Nat), Calm s ∧ (s.emr a).proveFor = some true ∧ (s.emr a).proveAt = some t0 ∧ (s.emr a).proveOk = true) ∧
    (∃ (s : State) (a : Fin 4) (t0 : Nat), Calm s ∧ (s.emr a).proveFor = some false ∧ s.opMode a = 5 ∧ (s.emr a).proveAt = some t0 ∧ (s.emr
        a).proveOk = true) ∧
    (∃ (s : State) (a : Fin 4) (t0 : Nat) (b : _), Calm s ∧ (s.emr a).proveFor = some b ∧ (s.emr a).proveAt = some t0 ∧ (s.emr a).proveOk =
        false) ∧
    (∃ (s : State) (a : Fin 4) (t0 : Nat), Calm s ∧ (s.emr a).recSince = some t0 ∧ s.opMode a = 6 ∧ (s.emr a).fr2 = none) ∧
    (∃ (s : State) (a : Fin 4) (t0 : Nat) (c : Nat), Calm s ∧ (s.emr a).recSince = some t0 ∧ s.opMode a = 6 ∧ (s.emr a).fr2 = some c) :=
  ⟨⟨(sAx aSTOPPING).updAxis 0 fun x => { x with lowSince := some 5, stop := .disable }, 0, 5, (by decide +kernel : _ = false),
      by decide +kernel⟩,
   ⟨(sAx aSTOPPING).updAxis 0 fun x => { x with lowSince := some 5, stop := .fr2 0x3012 }, 0, 5, 0x3012, (by decide +kernel : _ = false),
      by decide +kernel⟩,
   ⟨emWith (fun e => { e with proveFor := some true, proveAt := some 5, proveOk := true }) (sEm 5), 0, 5, (by decide +kernel : _ = false),
      by decide +kernel⟩,
   ⟨emWith (fun e => { e with proveFor := some false, proveAt := some 5, proveOk := true }) (sEm 5), 0, 5, (by decide +kernel : _ = false),
      by decide +kernel⟩,
   ⟨emWith (fun e => { e with proveFor := some false, proveAt := some 5, proveOk := false }) (sEm 5), 0, 5, false,
      (by decide +kernel : _ = false), by decide +kernel⟩,
   ⟨emWith (fun e => { e with recSince := some 5, modeSrc := (3, 0) }) (sEm 6), 0, 5, (by decide +kernel : _ = false), by decide +kernel⟩,
   ⟨emWith (fun e => { e with recSince := some 5, fr2 := some 0x3012 }) (sEm 6), 0, 5, 0x3012, (by decide +kernel : _ = false),
      by decide +kernel⟩⟩

theorem test_SourcesAndSharingEvents :
    (∃ (s : State) (a : Fin 4) (t0 : _), Calm s ∧ (s.axis a).lostAt = some t0) ∧
    (∃ (s : State) (a : Fin 4), Calm s ∧ s.axSt a = aRUN ∧ s.on F.AX_EM_CFG_LEVER_AUTO a = true ∧
        ((s.axis a).act.2 = 0 ∨ (s.axis a).act.2 = 3) ∧ s.emAdmitted a 3 = true) ∧
    (∃ (s : State) (a : Fin 4) (t0 : _), Calm s ∧ (s.shr a).clipSince = some t0 ∧ s.on F.AX_SH_STAT_IMB a = false) ∧
    (∃ (s : State) (a : Fin 4), Calm s ∧ s.on F.AX_SH_STAT_DROOP a = true ∧ s.fld F.AX_SH_TMO_RESTORE a ≤ (s.shr a).absent ∧
        (s.shr a).wasFollow = false) ∧
    (∃ (s : State) (a : Fin 4), Calm s ∧ s.on F.AX_SH_STAT_DROOP a = true ∧ s.fld F.AX_SH_TMO_RESTORE a ≤ (s.shr a).absent ∧
        (s.shr a).wasFollow = true) ∧
    (∃ (s : State) (a : Fin 4) (t0 : _), Calm s ∧ (s.axis a).circSince = some t0) :=
  ⟨⟨(sAx aRUN).updAxis 0 fun x => { x with lostAt := some 5, raw := 9 }, 0, 5, (by decide +kernel : _ = false), by decide +kernel⟩,
   ⟨((sAx aRUN).setF F.AX_EM_ADMIT_MODES 63).setF F.AX_EM_CFG_LEVER_AUTO 1, 0, (by decide +kernel : _ = false), by decide +kernel⟩,
   ⟨(sAx aRUN).updShr 0 fun x => { x with clipSince := some 5 }, 0, 5, (by decide +kernel : _ = false), by decide +kernel⟩,
   ⟨((sAx aRUN).setF F.AX_SH_STAT_DROOP 1).updShr 0 fun x => { x with absent := 99999 }, 0, (by decide +kernel : _ = false),
       by decide +kernel⟩,
   ⟨((sAx aRUN).setF F.AX_SH_STAT_DROOP 1).updShr 0 fun x => { x with absent := 99999, wasFollow := true }, 0,
       (by decide +kernel : _ = false), by decide +kernel⟩,
   ⟨(sAx aRUN).updAxis 0 fun x => { x with circSince := some 5 }, 0, 5, (by decide +kernel : _ = false), by decide +kernel⟩⟩

theorem test_MotionCommandsAct :
    (∃ (s : State) (p : Pkt) (role : Role), Calm s ∧ Carried s cmdMotionMove p role ∧ s.motionOk = true ∧ s.reiniting 3 (engineOf p) = false
        ∧ (s.me (engineOf p)).dead = false ∧ s.on F.ME_STAT_AT_REST (engineOf p) = true ∧ s.unsure (engineOf p) = false ∧ nth p.payload 2 ≠
        0 ∧ (nth p.payload 2).toNat ≤ (s.rd .ME_VMAX (engineOf p)).toNat ∧ nth p.payload 3 ≠ 0 ∧ s.sg .ME_POS (engineOf p) ≠ (nth p.payload
        1).toInt ∧ s.meLimit (engineOf p) (s.sg .ME_POS (engineOf p) < (nth p.payload 1).toInt) = false) ∧
    (∃ (s : State) (p : Pkt) (role : Role), Calm s ∧ Carried s cmdMotionMove p role ∧ s.motionOk = true ∧ s.reiniting 3 (engineOf p) = false
        ∧ (s.me (engineOf p)).dead = false ∧ s.on F.ME_STAT_AT_REST (engineOf p) = true ∧ s.unsure (engineOf p) = false ∧ nth p.payload 2 ≠
        0 ∧ (nth p.payload 2).toNat ≤ (s.rd .ME_VMAX (engineOf p)).toNat ∧ nth p.payload 3 ≠ 0 ∧ s.sg .ME_POS (engineOf p) = (nth p.payload
        1).toInt ∧ s.mot.me.length = 2) ∧
    (∃ (s : State) (p : Pkt) (role : Role), Calm s ∧ Carried s cmdMotionStop p role ∧ s.on F.ME_STAT_AT_REST (engineOf p) = true) ∧
    (∃ (s : State) (p : Pkt) (role : Role), Calm s ∧ Carried s cmdMotionStop p role ∧ s.on F.ME_STAT_AT_REST (engineOf p) = false ∧
        s.meArrived (engineOf p) = false) ∧
    (∃ (s : State) (p : Pkt) (role : Role), Calm s ∧ Carried s cmdMotionHome p role ∧ s.motionRefusal (engineOf p) none = none ∧ stray
        0xFFFF0001 (nth p.payload 1) = false ∧ bitsOf (nth p.payload 1) 31 16 ≠ 0 ∧ bitsOf (nth p.payload 1) 31 16 ≤ s.fld
        F.AUX_I_LEVELS_I_RUN ∧ s.rd .ME_HOME_V (engineOf p) ≠ 0 ∧ (s.rd .ME_HOME_V (engineOf p)).toNat ≤ (s.rd .ME_VMAX (engineOf p)).toNat) ∧
    (∃ (s : State) (p : Pkt) (role : Role), Calm s ∧ Carried s cmdMotionHome p role ∧ s.motionOk = true ∧ stray 0xFFFF0001 (nth p.payload 1)
        = false ∧ bitsOf (nth p.payload 1) 31 16 ≠ 0 ∧ bitsOf (nth p.payload 1) 31 16 ≤ s.fld F.AUX_I_LEVELS_I_RUN ∧ (s.rd .ME_HOME_V
        (engineOf p) = 0 ∨ (s.rd .ME_VMAX (engineOf p)).toNat < (s.rd .ME_HOME_V (engineOf p)).toNat)) ∧
    (∃ (s : State) (p : Pkt) (role : Role), Calm s ∧ Carried s cmdGearConfig p role ∧ stray 0xFFFF3F87 (nth p.payload 1) = false ∧ bitsOf
        (nth p.payload 1) 2 0 < 5 ∧ 1 ≤ bitsOf (nth p.payload 1) 13 8 ∧ bitsOf (nth p.payload 1) 13 8 ≤ 32 ∧ gearBad p (bitsOf (nth
        p.payload 1) 13 8) (bitsOf (nth p.payload 1) 31 16) = none ∧ bitOf (nth p.payload 1) 7 = false ∧ s.on F.ME_STAT_GEARED (engineOf p)
        = false) ∧
    (∃ (s : State) (p : Pkt) (role : Role), Calm s ∧ Carried s cmdGearConfig p role ∧ stray 0xFFFF3F87 (nth p.payload 1) = false ∧ bitsOf
        (nth p.payload 1) 2 0 < 5 ∧ 1 ≤ bitsOf (nth p.payload 1) 13 8 ∧ bitsOf (nth p.payload 1) 13 8 ≤ 32 ∧ gearBad p (bitsOf (nth
        p.payload 1) 13 8) (bitsOf (nth p.payload 1) 31 16) = none ∧ bitOf (nth p.payload 1) 7 = true ∧ s.motionRefusal (engineOf p) none =
        none ∧ s.unsure (engineOf p) = false ∧ (bitsOf (nth p.payload 1) 2 0 < 4 → s.on F.EN_STAT_VALID (bitsOf (nth p.payload 1) 2 0) =
        true)) :=
  ⟨⟨sMe, pkt 0x0400 [1, 77, 1000, 5], .maker, (by decide +kernel : _ = false), carried_of (by decide +kernel), by decide +kernel⟩,
   ⟨sMe, pkt 0x0400 [1, 0, 1000, 5], .maker, (by decide +kernel : _ = false), carried_of (by decide +kernel), by decide +kernel⟩,
   ⟨sMe, pkt 0x0401 [1], .maker, (by decide +kernel : _ = false), carried_of (by decide +kernel), by decide +kernel⟩,
   ⟨sMoving (fun m => { m with move := some .profile, target := 50, speed := 5 }), pkt 0x0401 [1], .maker, (by decide +kernel : _ = false),
      carried_of (by decide +kernel), by decide +kernel⟩,
   ⟨(sMe.setF F.AUX_I_LEVELS_I_RUN 500).wr .ME_HOME_V 1000 1, pkt 0x0402 [1, 0x01F40001], .maker, (by decide +kernel : _ = false),
      carried_of (by decide +kernel), by decide +kernel⟩,
   ⟨(sMe.setF F.AUX_I_LEVELS_I_RUN 500).wr .ME_HOME_V 1001 1, pkt 0x0402 [1, 0x01F40001], .maker, (by decide +kernel : _ = false),
      carried_of (by decide +kernel), by decide +kernel⟩,
   ⟨sMe, pkt 0x0403 [1, 0x00000204, 0, 3, 4, 100, 5, 6], .maker, (by decide +kernel : _ = false), carried_of (by decide +kernel),
      by decide +kernel⟩,
   ⟨sMe, pkt 0x0403 [1, 0x00000284, 0, 3, 4, 100, 5, 6], .maker, (by decide +kernel : _ = false), carried_of (by decide +kernel),
      by decide +kernel⟩⟩

theorem test_MotionEventsAct :
    (∃ (s : State) (me : Fin 2), Calm s ∧ s.meArrived me = true) ∧
    (∃ (s : State) (me : Fin 2), Calm s ∧ (s.me me).move = some .homeBack ∧ s.mePos me = s.backTarget me) ∧
    (∃ (s : State), Calm s ∧ s.auxDriver = none ∧ s.on F.ME_STAT_AT_REST 0 = true ∧ s.on F.ME_STAT_AT_REST 1 = true) ∧
    (∃ (s : State) (xcs : List Int), Calm s ∧ s.auxDriver = none ∧ s.fld F.AUX_SHUNT_R ≠ 0 ∧ (∀ h ∈ s.gate.halves, h.pulseAt = none) ∧ (∀ k,
        k < 3 → 10 * nth xcs k % (s.fld F.AUX_SHUNT_R : Int) = 0)) :=
  ⟨⟨sMoving (fun m => { m with move := some .profile, target := 0 }), 1, (by decide +kernel : _ = false), by decide +kernel⟩,
   ⟨(sMoving (fun m => { m with move := some .homeBack, stallPos := 655360 })) |> fun s => s.wr .ME_POS (wi (s.backTarget 1 / 65536)) 1, 1,
      (by decide +kernel : _ = false), by decide +kernel⟩,
   ⟨sMe, (by decide +kernel : _ = false), by decide +kernel⟩,
   ⟨sMe.setF F.AUX_SHUNT_R 10, [5, -7, 9], (by decide +kernel : _ = false), by decide +kernel⟩⟩

theorem test_CancelsByStatus :
    (∃ (s : State) (p : Pkt) (role : Role) (i : Nat), Calm s ∧ Carried s cmdActionCancel p role ∧ i = (nth p.payload 0).toNat ∧ i < 2048 ∧
        s.tatStatus i = tPENDING ∧ (at_ s p).launchReached i = false) ∧
    (∃ (s : State) (p : Pkt) (role : Role) (i : Nat), Calm s ∧ Carried s cmdActionCancel p role ∧ i = (nth p.payload 0).toNat ∧ i < 2048 ∧
        (s.tatStatus i = tLAUNCHED ∨ s.tatStatus i = tLATE ∨ s.tatStatus i = tPENDING ∧ (at_ s p).launchReached i = true)) ∧
    (∃ (s : State) (p : Pkt) (role : Role) (i : Nat), Calm s ∧ Carried s cmdActionCancel p role ∧ i = (nth p.payload 0).toNat ∧ i < 2048 ∧
        s.tatStatus i ∈ [tPREEMPTED, tEXPIRED, tWITHHELD, tREFUSED, tSTALE, tCANCELLED]) ∧
    (∃ (s : State) (p : Pkt) (role : Role) (i : Nat), Calm s ∧ Carried s cmdActionCancel p role ∧ i = (nth p.payload 0).toNat ∧ (2048 ≤ i ∨
        s.tatStatus i = 0)) :=
  ⟨⟨sTat, pkt 0x0501 [2047], .maker, 2047, (by decide +kernel : _ = false), carried_of (by decide +kernel), by decide +kernel⟩,
   ⟨(let s := sTat; { s with lamp := { s.lamp with late := [2047] } }), pkt 0x0501 [2047], .maker, 2047, (by decide +kernel : _ = false),
      carried_of (by decide +kernel), by decide +kernel⟩,
   ⟨sTat.setStatus 2047 tCANCELLED, pkt 0x0501 [2047], .maker, 2047, (by decide +kernel : _ = false), carried_of (by decide +kernel),
      by decide +kernel⟩,
   ⟨sTat, pkt 0x0501 [2048], .maker, 2048, (by decide +kernel : _ = false), carried_of (by decide +kernel), by decide +kernel⟩⟩

theorem test_ActionsPostLaunchExpire :
    (∃ (s : State) (p : Pkt) (role : Role) (i : _), Calm s ∧ Carried s cmdActionPost p role ∧ State.postReserved p.payload = none ∧ (at_ s
        p).postAddress p.payload role = none ∧ (at_ s p).postSource p.payload = none ∧ (at_ s p).meridian.toNat + 1000 * s.fld
        F.LAMP_CFG_LEAD ≤ (mk64 (nth p.payload 1) (nth p.payload 0)).toNat ∧ s.tatFree = some i ∧ (s.tatPending.filter fun j => (at_ s
        p).ticksTo (s.tatLaunch j) == (at_ s p).ticksTo (mk64 (nth p.payload 1) (nth p.payload 0)).toNat).length < 32) ∧
    (∃ (s : State) (p : Pkt) (role : Role) (first : _) (n : Nat), Calm s ∧ first = (nth p.payload 0).toNat ∧ n = (nth p.payload 1).toNat ∧
        Carried s cmdActionList p role ∧ first < 2048 ∧ first + n ≤ 2048 ∧ 8 * n + 1 ≤ maxLength p.via) ∧
    (∃ (s : State) (u : State) (i : Nat) (r : RegId) (k : Nat) (w : Write) (new : Word), Calm s ∧ s.sys.pwmClk.lost = false ∧ k < 65536 ∧
        s.tatStatus i = tPENDING ∧ s.tatStale i = false ∧ s.refusing = false ∧ s.lockUnmet i = false ∧ s.posterRole i = .operator ∧ locate
        (wd (baseOf (s.tatWord i 2))) = .at_ (.reg r k) .plain ∧ aliasOf (s.tatWord i 2) = .plain ∧ r ∉ actingRegs ∧ w = ⟨.lamplighter,
        .plain, s.tatWord i 3, 0⟩ ∧ Lands u r k ⟨0, [w], 0⟩ w new ∧ s.tatNext = some i ∧ s.lamp.late = [] ∧ u = s.elapse (s.ticksTo
        (s.tatLaunch i)).toNat ∧ u.tatDue = [i]) ∧
    (∃ (s : State) (u : State) (i : Nat) (r : RegId) (k : Nat) (w : Write) (new : Word), Calm s ∧ s.sys.pwmClk.lost = false ∧ k < 65536 ∧
        s.tatStatus i = tPENDING ∧ s.tatStale i = false ∧ s.refusing = false ∧ s.lockUnmet i = false ∧ s.posterRole i = .operator ∧ locate
        (wd (baseOf (s.tatWord i 2))) = .at_ (.reg r k) .plain ∧ aliasOf (s.tatWord i 2) = .plain ∧ r ∉ actingRegs ∧ w = ⟨.lamplighter,
        .plain, s.tatWord i 3, 0⟩ ∧ Lands u r k ⟨0, [w], 0⟩ w new ∧ s.lamp.late = [i] ∧ u = s.elapseTo s.lamp.lateAt ∧ u.tatDue = []) ∧
    (∃ (s : State) (i : _) (t0 : Nat) (rest : _), Calm s ∧ s.lamp.done = (i, t0) :: rest) ∧
    (∃ (s : State) (a : Fin 4) (t0 : Nat), Calm s ∧ nth s.lamp.holds a = (some t0, none) ∧ s.fld F.AX_PL_HOLD_TIME a ≠ 0) :=
  ⟨⟨sAx aDISABLED, pkt 0x0500 tatWords, .maker, 0, (by decide +kernel : _ = false), carried_of (by decide +kernel), by decide +kernel⟩,
   ⟨sTat, pkt 0x0502 [2000, 3], .maker, 2000, 3, (by decide +kernel : _ = false), by decide +kernel, by decide +kernel,
      carried_of (by decide +kernel), by decide +kernel⟩,
   ⟨sTat, sTat.elapse (sTat.ticksTo (sTat.tatLaunch 2047)).toNat, 2047, .AX_RAMP_ACC, 0, ⟨.lamplighter, .plain, 77, 0⟩, 77,
      (by decide +kernel : _ = false), by decide +kernel, by decide, by decide +kernel, by decide +kernel, by decide +kernel,
      by decide +kernel, by decide +kernel, by decide +kernel, by decide +kernel, by decide +kernel, by decide +kernel,
      lands_of (by decide +kernel), by decide +kernel⟩,
   ⟨{ sTat with lamp := { sTat.lamp with late := [2047], lateAt := 3 } }, State.elapseTo
      { sTat with lamp := { sTat.lamp with late := [2047], lateAt := 3 } } 3, 2047, .AX_RAMP_ACC, 0, ⟨.lamplighter, .plain, 77, 0⟩, 77,
      (by decide +kernel : _ = false), by decide +kernel, by decide, by decide +kernel, by decide +kernel, by decide +kernel,
      by decide +kernel, by decide +kernel, by decide +kernel, by decide +kernel, by decide +kernel, by decide +kernel,
      lands_of (by decide +kernel), by decide +kernel⟩,
   ⟨(let s := sTat.setTat 2047 7 3; { s with lamp := { s.lamp with done := [(2047, 9)] } }), 2047, 9, [], (by decide +kernel : _ = false),
      by decide +kernel⟩,
   ⟨(let s := (sAx aRUN).wr .AX_PL_HOLD 0x10005 3; { s with lamp := { s.lamp with holds := s.lamp.holds.set 3 (some 6, none) } }), 3, 6,
      (by decide +kernel : _ = false), by decide +kernel⟩⟩

theorem test_MembersJoin :
    (∃ (s : State) (p : Pkt) (role : Role) (id : _) (e : _), Calm s ∧ Carried s cmdMemberJoin p role ∧ id = (nth p.payload 0).toNat ∧
        id ≤ 0x3FFF ∧ nth p.payload 1 = 0 ∧ (s.dev = dSAFE ∨ s.dev = dREADY) ∧ s.nv.role = some (id, e) ∧ s.on F.MEM_CFG_EN = true ∧
        s.reiniting 0x21 0 = false ∧ s.mem.join = none) ∧
    (∃ (s : State) (p : Pkt) (role : Role) (id : _), Calm s ∧ Carried s cmdMemberJoin p role ∧ id = (nth p.payload 0).toNat ∧
        id ≤ 0x3FFF ∧ nth p.payload 1 = 1 ∧ (s.dev = dSAFE ∨ s.dev = dREADY ∨ s.dev = dQUARANTINE) ∧ ((∀ q,
        s.peer id = some q → q.live = false)) ∧ s.on F.MEM_CFG_EN = true ∧ s.reiniting 0x21 0 = false ∧ s.mem.join = none) ∧
    (∃ (s : State) (p : Pkt) (role : Role), Calm s ∧ Carried s cmdMemberJoin p role ∧ nth p.payload 0 = 0xFFFF ∧ nth p.payload 1 = 0 ∧
        (s.dev = dSAFE ∨ s.dev = dREADY) ∧ s.on F.MEM_CFG_EN = true ∧ s.reiniting 0x21 0 = false ∧ s.mem.join = none) ∧
    (∃ (s : State) (p : Pkt) (role : Role), Calm s ∧ Carried s cmdMemberStatus p role ∧ s.member ≠ 0 ∧ p.length = 0) ∧
    (∃ (s : State) (j : Joining), Calm s ∧ s.mem.join = some j ∧ j.lost = none ∧ j.spare = false ∧ j.role ≤ 0x3FFF) ∧
    (∃ (s : State) (j : Joining) (a : _), Calm s ∧ s.mem.join = some j ∧ j.lost = some a ∧ j.prev < 8) :=
  ⟨⟨(let s := (sMem dSAFE).setF F.MEM_STAT_STATE 0; { s with nv := { s.nv with role := some (0x3FFF, 5) } }), pkt 0x0503 [0x3FFF, 0],
      .maker, 0x3FFF, 5, (by decide +kernel : _ = false), carried_of (by decide +kernel), by decide +kernel⟩,
   ⟨(sMem dQUARANTINE).setF F.MEM_STAT_STATE 0, pkt 0x0503 [5, 1], .maker, 5, (by decide +kernel : _ = false),
       carried_of (by decide +kernel), by decide +kernel⟩,
   ⟨sMem dREADY, pkt 0x0503 [0xFFFF, 0], .maker, (by decide +kernel : _ = false), carried_of (by decide +kernel), by decide +kernel⟩,
   ⟨sMem dREADY, pkt 0x0504 [], .maker, (by decide +kernel : _ = false), carried_of (by decide +kernel), by decide +kernel⟩,
   ⟨sJoin ⟨0x3FFF, 5, 0, false, true, 9, none, false⟩, ⟨0x3FFF, 5, 0, false, true, 9, none, false⟩, (by decide +kernel : _ = false),
       by decide +kernel⟩,
   ⟨sJoin ⟨5, 5, 4, true, false, 9, some (ans cBUSY 3), false⟩, ⟨5, 5, 4, true, false, 9, some (ans cBUSY 3), false⟩, ans cBUSY 3,
       (by decide +kernel : _ = false), by decide +kernel⟩⟩

theorem test_FramesOfTheDomain :
    (∃ (s : State), Calm s ∧ s.holdsRole = true ∧ s.on F.MEM_CFG_EN = true ∧ s.dev ≠ dQUARANTINE) ∧
    (∃ (s : State) (dt : _) (e : _) (f : _) (q : _), Calm s ∧ HeardFrame s dt e f ∧ f.type = 1 ∧ f.payload.length = 3 ∧ f.leaving = false ∧
        s.ownRole f.unit = false ∧ s.mem.join = none ∧ s.peer f.unit = some q ∧ q.serial = BitVec.ofNat 16 (bitsOf (nth f.payload 0) 15 0)) ∧
    (∃ (s : State) (dt : _) (e : _) (f : _) (q : _) (id : _) (ws : _), Calm s ∧ HeardFrame s dt e f ∧ f.type = 2 ∧ s.dev ≠ dQUARANTINE ∧
        s.peer f.unit = some q ∧ q.heard.isSome = true ∧ cyclicRecords f.payload.length f.payload = [(id, 2, ws)]) ∧
    (∃ (s : State) (dt : _) (e : _) (f : _) (q : _) (i : _), Calm s ∧ HeardFrame s dt e f ∧ f.type = 3 ∧ s.dev ≠ dQUARANTINE ∧ s.peer f.unit
        = some q ∧ q.heard.isSome = true ∧ f.payload.length = 7 ∧ e.post = 0 ∧ s.addressed (bitsOf (nth f.payload 0) 15 0) = true ∧
        ((s.elapse dt).seqSeen f).post ((f.payload.drop 1).take 6 ++ [wd (f.unit + 2 ^ 16 * f.epoch.toNat), 0]) .operator = (ok [wd i],
        (((s.elapse dt).seqSeen f).post ((f.payload.drop 1).take 6 ++ [wd (f.unit + 2 ^ 16 * f.epoch.toNat), 0]) .operator).2) ∧ s.tatFree =
        some i) ∧
    (∃ (s : State) (role : Fin 16384) (q : _), Calm s ∧ s.peer role = some q ∧ q.live = true) ∧
    (∃ (s : State) (dt : Nat) (e : EthFrame) (f : ConFrame), Calm s ∧ HeardFrame s dt e f ∧ f.type = 1 ∧ f.payload.length = 3 ∧ s.ownRole
        f.unit = true ∧ s.mem.join = none ∧ mk64 (nth f.payload 1) (nth f.payload 0) < mk64 (s.rd .SYS_SERIAL_HI) (s.rd .SYS_SERIAL_LO) ∧
        [dSAFE, dREADY, dARMED, dRUN, dFAULT].contains s.dev = true ∧ s.halted = false) :=
  ⟨⟨sMem dREADY, (by decide +kernel : _ = false), by decide +kernel⟩,
   ⟨sMem dREADY, 4, sent8 1 [9, 0, 0x00140000], ((sMem dREADY).parseFrame (sent8 1 [9, 0, 0x00140000]).words).1.getD default, ⟨8, 6, 9,
      true, false, some 6, some 0, 10, 0, some 41, false⟩, (by decide +kernel : _ = false), heard_of (by decide +kernel), by decide +kernel⟩,
   ⟨sMem dREADY, 4, sent8 2 [0x02020033, 1, 2], ((sMem dREADY).parseFrame (sent8 2 [0x02020033, 1, 2]).words).1.getD default, ⟨8, 6, 9,
      true, false, some 6, some 0, 10, 0, some 41, false⟩, 0x33, [1, 2], (by decide +kernel : _ = false), heard_of (by decide +kernel),
      by decide +kernel⟩,
   ⟨sMem dREADY, 4, sent8 3 (7 :: tatWords.take 6), ((sMem dREADY).parseFrame (sent8 3 (7 :: tatWords.take 6)).words).1.getD default, ⟨8, 6,
      9, true, false, some 6, some 0, 10, 0, some 41, false⟩, 0, (by decide +kernel : _ = false), heard_of (by decide +kernel),
      by decide +kernel⟩,
   ⟨sMem dREADY, 8, ⟨8, 6, 9, true, false, some 6, some 0, 10, 0, some 41, false⟩, (by decide +kernel : _ = false), by decide +kernel⟩,
   ⟨sMem dREADY, 4, sent7 [4, 6, 0], ((sMem dREADY).parseFrame (sent7 [4, 6, 0]).words).1.getD default, (by decide +kernel : _ = false),
      heard_of (by decide +kernel), by decide +kernel⟩⟩

theorem test_TransportEventsAct :
    (∃ (s : State), Calm s ∧ s.linked = true ∧ s.reiniting 0x11 0 = false ∧ s.reiniting 0x11 1 = false) ∧
    (∃ (s : State) (port : Fin 2), Calm s ∧ s.netUp = true ∧ s.reiniting 0x11 port = false) ∧
    (∃ (s : State), Calm s ∧ s.netUp = true) ∧
    (∃ (s : State), Calm s) ∧
    (∃ (s : State), Calm s) ∧
    (∃ (s : State) (r : _) (p : _) (l : _), Calm s ∧ s.hst.spiWaiting = (r, p) :: l ∧ 4 * (spiFill s + r.size) ≤ 65536) ∧
    (∃ (s : State) (c : Fin 2) (a : _), Calm s ∧ s.assembly c = some a) ∧
    (∃ (s : State) (opcode : _) (p : _), Calm s ∧ commandOf opcode = none ∧ (s.elapse p.dt).hears p = true ∧ p.moved = ⟨0, 0⟩ ∧ p.out = ⟨0,
        0⟩ ∧ p.errs = [] ∧ p.hcrc = crcWords (headWords opcode p) ∧ (s.elapse p.dt).addressed p.unit.toNat = true ∧ p.flags &&& 0xFD = 0 ∧
        grouped p = false ∧ p.length.toNat ≤ maxLength p.via ∧ p.payload.length = p.length.toNat ∧ (p.via = .spi ∨ p.frame = packetSize
        p.length.toNat) ∧ (p.length.toNat = 0 ∨ p.pcrc = crcWords p.payload) ∧ (s.elapse p.dt).tagRule opcode p = none ∧ s.flights < 256) ∧
    (∃ (s : State) (func : _) (inst : _) (r : _), Calm s ∧ (s.sys.reinit.find? fun x => x.func == func && x.inst == inst) = some r) :=
  ⟨⟨sHost dREADY .maker |>.setF F.MER_CFG_P2P 1 |>.wr .MER_MPD 0xFFFFFFFE, (by decide +kernel : _ = false), by decide +kernel⟩,
   ⟨sHost dREADY .maker, 1, (by decide +kernel : _ = false), by decide +kernel⟩,
   ⟨sHost dREADY .maker, (by decide +kernel : _ = false), by decide +kernel⟩,
   ⟨sHost dREADY .maker |> withHst (fun h => { h with spiDiscard := true, spiQueue := [replyOf 5] }), (by decide +kernel : _ = false)⟩,
   ⟨sHost dREADY .maker |> withHst (fun h => { h with spiDiscard := true, spiQueue := [replyOf 5] }), (by decide +kernel : _ = false)⟩,
   ⟨sHost dREADY .maker |> withHst (fun h => { h with spiWaiting := [(replyOf 7, pkt 0x0100 [])] }), replyOf 7, pkt 0x0100 [], [],
      (by decide +kernel : _ = false), by decide +kernel⟩,
   ⟨sHost dREADY .maker |> withHst (fun h => { h with asm := h.asm.set 1 (some ⟨[1], 1, 5⟩) }), 1, ⟨[1], 1, 5⟩,
      (by decide +kernel : _ = false), by decide +kernel⟩,
   ⟨sHost dREADY .maker, 0x0F00, pkt 0x0F00 [], (by decide +kernel : _ = false), by decide +kernel⟩,
   ⟨(let s := sHost dREADY .maker; { s with sys := { s.sys with reinit := [⟨3, 1, 5, false⟩] } }), 3, 1, ⟨3, 1, 5, false⟩,
      (by decide +kernel : _ = false), by decide +kernel⟩⟩

theorem test_SafetyRecordsLoad :
    (∃ (s : State) (p : Pkt) (role : Role), Calm s ∧ Carried s cmdSafetyStatus p role) ∧
    (∃ (s : State) (p : Pkt) (role : Role), Calm s ∧ Carried s cmdSafetyParamLoad p role ∧ (at_ s p).recRefused 1 p.payload = none) ∧
    (∃ (s : State) (p : Pkt) (role : Role), Calm s ∧ Carried s cmdEnvelopeLoad p role ∧ (at_ s p).recRefused 2 p.payload = none) ∧
    (∃ (s : State) (l : _), Calm s ∧ s.lan.loading = some (1, l) ∧ l.length = 85 ∧ nth l 0 ≠ 0) ∧
    (∃ (s : State) (l : _), Calm s ∧ s.lan.loading = some (2, l) ∧ l.length = 77 ∧ nth l 0 ≠ 0) :=
  ⟨⟨sHost dREADY .maker, pkt 0x0600 [], .maker, (by decide +kernel : _ = false), carried_of (by decide +kernel)⟩,
   ⟨sRec, pkt 0x0601 recPar, .installer, (by decide +kernel : _ = false), carried_of ⟨by decide +kernel, by decide +kernel, by decide +kernel,
       by decide +kernel, by decide +kernel, by decide +kernel, by decide +kernel, by decide +kernel, Or.inr rfl, by decide +kernel⟩, by decide +kernel⟩,
   ⟨sRec, pkt 0x0602 recEnv, .installer, (by decide +kernel : _ = false), carried_of ⟨by decide +kernel, by decide +kernel, by decide +kernel,
       by decide +kernel, by decide +kernel, by decide +kernel, by decide +kernel, by decide +kernel, Or.inr rfl, by decide +kernel⟩, by decide +kernel⟩,
   ⟨loadingOf 1 recPar sRec, recPar, (by decide +kernel : _ = false), by decide +kernel⟩,
   ⟨loadingOf 2 recEnv sRec, recEnv, (by decide +kernel : _ = false), by decide +kernel⟩⟩

theorem test_LogsAndFaultAck :
    (∃ (s : State) (p : Pkt) (role : Role) (l : _), Calm s ∧ Carried s cmdLogRead p role ∧
        (l = (s.flt.log.reverse.filter fun r => (nth p.payload 0).toNat ≤ r.seq.toNat).take (nth p.payload 1).toNat) ∧
        nth p.payload 1 ≠ 0 ∧ 16 * l.length + 1 ≤ maxLength p.via) ∧
    (∃ (s : State) (p : Pkt) (role : Role) (l : _), Calm s ∧ Carried s cmdAuditRead p role ∧
        (l = (s.flt.audit.reverse.filter fun r => (nth p.payload 0).toNat ≤ r.seq.toNat).take (nth p.payload 1).toNat) ∧
        nth p.payload 1 ≠ 0 ∧ 16 * l.length + 1 ≤ maxLength p.via) ∧
    (∃ (s : State) (p : Pkt) (role : Role), Calm s ∧ Carried s cmdLogRead p role ∧ nth p.payload 1 = 0) ∧
    (∃ (s : State) (p : Pkt) (role : Role), Calm s ∧ Carried s cmdAuditRead p role ∧ nth p.payload 1 = 0) ∧
    (∃ (s : State) (p : Pkt) (role : Role), Calm s ∧ Carried s cmdFaultAck p role ∧ nth p.payload 0 = 0 ∧ s.flt.alertAt ≠ s.tick + p.dt) ∧
    (∃ (s : State) (p : Pkt) (role : Role), Calm s ∧ Carried s cmdFaultAck p role ∧ nth p.payload 0 = 1 ∧ s.dev = dFAULT ∧
        ((∀ f ∈ s.flt.latched, f.at_ < s.tick + p.dt)) ∧ (at_ s p).devAckOk = true ∧ ((∀ b ∈ s.lan.sbcPin, b = false)) ∧ ((∀ c,
        c < 8 → s.fld F.LAN_CONN_STAT_STATE c ≠ 1)) ∧ s.flt.alertAt ≠ s.tick + p.dt) ∧
    (∃ (s : State) (p : Pkt) (role : Role) (a : _), Calm s ∧ a < 4 ∧ Carried s cmdFaultAck p role ∧ nth p.payload 0 = wd (2 ^ (4 + a)) ∧
        s.axSt a = aFAULTED ∧ (at_ s p).axisAckOk a = true ∧ s.lostEncs a = []) :=
  ⟨⟨(let s := sHost dREADY .maker; { s with flt := { s.flt with log := [⟨2, 0, 1, 1, 7, 1, false, 0, []⟩, ⟨1, 0, 1, 1, 7, 1, false, 0, []⟩, ⟨0, 0, 1, 1, 7, 1, false, 0, []⟩] } }), pkt 0x0800 [1, 1], .maker, [⟨1, 0, 1, 1, 7, 1, false, 0, []⟩], (by decide +kernel : _ = false), carried_of (by decide +kernel), by decide +kernel⟩,
   ⟨sHost dREADY .maker, pkt 0x0801 [1, 1], .maker, [], (by decide +kernel : _ = false), carried_of (by decide +kernel),
       by decide +kernel⟩,
   ⟨sHost dREADY .maker, pkt 0x0800 [1, 0], .maker, (by decide +kernel : _ = false), carried_of (by decide +kernel), by decide +kernel⟩,
   ⟨sHost dREADY .maker, pkt 0x0801 [1, 0], .maker, (by decide +kernel : _ = false), carried_of (by decide +kernel), by decide +kernel⟩,
   ⟨(let s := sHost dREADY .maker; { s with flt := { s.flt with unacked := true } }), pkt 0x0802 [0], .maker,
       (by decide +kernel : _ = false), carried_of (by decide +kernel), by decide +kernel⟩,
   ⟨(let s := sHost dFAULT .maker; { s with flt := { s.flt with unacked := true } }), pkt 0x0802 [1], .maker,
       (by decide +kernel : _ = false), carried_of (by decide +kernel), by decide +kernel⟩,
   ⟨(sHost dREADY .maker).setF F.AX_STAT_STATE aFAULTED 3, pkt 0x0802 [128], .maker, 3, (by decide +kernel : _ = false),
       by decide +kernel, carried_of (by decide +kernel), by decide +kernel⟩⟩

theorem test_LongRepliesRefused :
    (∃ (s : State) (p : Pkt) (role : Role) (n : Nat), Calm s ∧ n = (nth p.payload 1).toNat ∧ Carried s cmdBlockRead p role ∧ maxLength p.via
        < n + 1) ∧
    (∃ (s : State) (p : Pkt) (role : Role) (n : Nat), Calm s ∧ n = (nth p.payload 1).toNat ∧ Carried s cmdActionList p role ∧ maxLength
        p.via < 8 * n + 1) ∧
    (∃ (s : State) (p : Pkt) (role : Role) (n : Nat), Calm s ∧ n = (nth p.payload 1).toNat ∧ Carried s cmdNvRead p role ∧ maxLength p.via <
        n + 1) ∧
    (∃ (s : State) (p : Pkt) (role : Role) (n : Nat) (l : _), Calm s ∧ n = (nth p.payload 1).toNat ∧ Carried s cmdLogRead p role ∧ l =
        (s.flt.log.reverse.filter fun r => (nth p.payload 0).toNat ≤ r.seq.toNat).take n ∧ maxLength p.via < 16 * l.length + 1) ∧
    (∃ (s : State) (p : Pkt) (role : Role) (n : Nat) (l : _), Calm s ∧ n = (nth p.payload 1).toNat ∧ Carried s cmdAuditRead p role ∧ l =
        (s.flt.audit.reverse.filter fun r => (nth p.payload 0).toNat ≤ r.seq.toNat).take n ∧ maxLength p.via < 16 * l.length + 1) :=
  ⟨⟨sHost dREADY .maker, pkt 0x0203 [0x8000, 1024], .maker, 1024, (by decide +kernel : _ = false), by decide +kernel,
      carried_of (by decide +kernel), by decide +kernel⟩,
   ⟨sHost dREADY .maker, pkt 0x0502 [2048, 128], .maker, 128, (by decide +kernel : _ = false), by decide +kernel,
      carried_of (by decide +kernel), by decide +kernel⟩,
   ⟨sHost dREADY .maker, pkt 0x0A00 [3, 1024], .maker, 1024, (by decide +kernel : _ = false), by decide +kernel,
      carried_of (by decide +kernel), by decide +kernel⟩,
   ⟨(let s := sHost dREADY .maker; { s with flt := { s.flt with log := List.replicate 64 ⟨2, 0, 1, 1, 7, 1, false, 0, []⟩ } }), pkt 0x0800
      [1, 64], .maker, 64, List.replicate 64 ⟨2, 0, 1, 1, 7, 1, false, 0, []⟩, (by decide +kernel : _ = false), by decide +kernel,
      carried_of (by decide +kernel), by decide +kernel⟩,
   ⟨(let s := sHost dREADY .maker; { s with flt := { s.flt with audit := List.replicate 64 ⟨2, 0, 1, 1, 0, 0, 0, 0, 0, 0, 0⟩ } }), pkt
      0x0801 [1, 65], .maker, 65, List.replicate 64 ⟨2, 0, 1, 1, 0, 0, 0, 0, 0, 0, 0⟩, (by decide +kernel : _ = false), by decide +kernel,
      carried_of (by decide +kernel), by decide +kernel⟩⟩

theorem test_NvStoreAndFirmware :
    (∃ (s : State) (p : Pkt) (role : Role) (a : Nat) (n : Nat), Calm s ∧ a = (nth p.payload 0).toNat ∧ a % 4 = 0 ∧ Carried s cmdNvRead p
        role ∧ n = (nth p.payload 1).toNat ∧ n + 1 ≤ maxLength p.via ∧ 0x80000 ≤ a ∧ a + 4 * n ≤ 0x100000) ∧
    (∃ (s : State) (p : Pkt) (role : Role) (a : Nat) (n : Nat), Calm s ∧ a = (nth p.payload 0).toNat ∧ a % 4 = 0 ∧ Carried s cmdNvRead p
        role ∧ n = (nth p.payload 1).toNat ∧ n + 1 ≤ maxLength p.via ∧ 0x1000 ≤ a ∧ a + 4 * n ≤ 0x2000) ∧
    (∃ (s : State) (p : Pkt) (role : Role) (a : Nat), Calm s ∧ a = (nth p.payload 0).toNat ∧ a % 4 = 0 ∧ Carried s cmdNvWrite p role ∧
        0x80000 ≤ a ∧ a + 4 * (p.payload.length - 1) ≤ 0x100000) ∧
    (∃ (s : State) (p : Pkt) (role : Role) (a : Nat), Calm s ∧ a = (nth p.payload 0).toNat ∧ a % 4 = 0 ∧ Carried s cmdNvWrite p role ∧ role
        ≠ .operator ∧ 0x5000 ≤ a ∧ a + 4 * (p.payload.length - 1) ≤ 0x40000) ∧
    (∃ (s : State) (p : Pkt) (role : Role) (a : Nat), Calm s ∧ a = (nth p.payload 0).toNat ∧ a % 4 = 0 ∧ Carried s cmdNvWrite p role ∧ role
        ≠ .operator ∧ p.via = .spi ∧ a = 0x1000 ∧ p.payload.length = 9) ∧
    (∃ (s : State) (p : Pkt) (role : Role) (a : Nat) (q : _), Calm s ∧ a = (nth p.payload 0).toNat ∧ a % 4 = 0 ∧ Carried s cmdNvWrite q role
        ∧ p = { q with nvFails := true } ∧ role ≠ .operator ∧ 0x5000 ≤ a ∧ a + 4 * (p.payload.length - 1) ≤ 0x40000 ∧ 2 ≤ p.payload.length) ∧
    (∃ (s : State) (p : Pkt) (role : Role) (a : Nat), Calm s ∧ Carried s cmdFwLoad p role ∧ a = (nth p.payload 1).toNat ∧ s.fwMay = true ∧
        s.noneEnabled = true ∧ s.nv.verifying = none ∧ bitOf (nth p.payload 0) 0 = !s.nv.bootB ∧ (a = 0 ∨ s.nv.loadNext = some a) ∧ a + 4 *
        (p.payload.length - 2) ≤ 8 * 2 ^ 20) ∧
    (∃ (s : State) (t0 : Nat), Calm s ∧ s.nv.verifying = some t0) ∧
    (∃ (s : State) (p : Pkt) (role : Role), Calm s ∧ Carried s cmdFwActivate p role ∧ s.fwMay = true ∧ s.allDisabled = true ∧ (bitOf (nth
        p.payload 0) 0 = s.nv.bootB ∨ nth s.nv.verified (b2n (bitOf (nth p.payload 0) 0)) = true)) :=
  ⟨⟨sHost dREADY .maker, pkt 0x0A00 [0xFFFF8, 2], .maker, 0xFFFF8, 2, (by decide +kernel : _ = false), by decide +kernel, by decide +kernel,
      carried_of (by decide +kernel), by decide +kernel⟩,
   ⟨sHost dREADY .maker, pkt 0x0A00 [0x1FF8, 2], .maker, 0x1FF8, 2, (by decide +kernel : _ = false), by decide +kernel, by decide +kernel,
      carried_of (by decide +kernel), by decide +kernel⟩,
   ⟨sHost dREADY .maker, pkt 0x0A01 [0x80000, 2], .maker, 0x80000, (by decide +kernel : _ = false), by decide +kernel, by decide +kernel,
      carried_of (by decide +kernel), by decide +kernel⟩,
   ⟨sHost dREADY .maker, pkt 0x0A01 [0x3FFF8, 2, 3], .maker, 0x3FFF8, (by decide +kernel : _ = false), by decide +kernel, by decide +kernel,
      carried_of (by decide +kernel), by decide +kernel⟩,
   ⟨sHost dREADY .maker, pkt 0x0A01 [0x1000, 1, 2, 3, 4, 5, 6, 7, 8], .maker, 0x1000, (by decide +kernel : _ = false), by decide +kernel,
      by decide +kernel, carried_of (by decide +kernel), by decide +kernel⟩,
   ⟨sHost dREADY .maker, { pkt 0x0A01 [0x3FFF8, 2, 3] with nvFails := true }, .maker, 0x3FFF8, pkt 0x0A01 [0x3FFF8, 2, 3],
      (by decide +kernel : _ = false), by decide +kernel, by decide +kernel, carried_of (by decide +kernel), by decide +kernel⟩,
   ⟨sHost dSAFE .maker, pkt 0x0A02 [0x101, 0, 5, 6], .maker, 0, (by decide +kernel : _ = false), carried_of (by decide +kernel),
      by decide +kernel⟩,
   ⟨(let s := sHost dUPDATE .maker; { s with nv := { s.nv with verifying := some 5 } }), 5, (by decide +kernel : _ = false),
      by decide +kernel⟩,
   ⟨sHost dUPDATE .maker, pkt 0x0A03 [0], .maker, (by decide +kernel : _ = false), carried_of (by decide +kernel), by decide +kernel⟩⟩

theorem test_CapturesAndStreamRun :
    (∃ (s : State) (p : Pkt) (role : Role) (w : _) (new : _), Calm s ∧ Carried s cmdStreamConfig p role ∧ p.rivals = [] ∧ s.reiniting 0x14 0
        = false ∧ w = ⟨.host role, .plain, nth p.payload 0, 0⟩ ∧ Lands (at_ s p) .STR_CTRL 0 ⟨0, [w], 0⟩ w new ∧ (bitOf (s.rd .STR_CTRL) 4 =
        false ∨ bitOf new 4 = true)) ∧
    (∃ (s : State) (p : Pkt) (role : Role), Calm s ∧ Carried s cmdCaptureArm p role ∧ captureBad p.payload = none ∧ s.fld F.STR_STAT_CAPTURE
        = 0 ∧ s.reiniting 0x14 0 = false) ∧
    (∃ (s : State) (c : _) (f : _), Calm s ∧ s.str.cap = some c ∧ c.ended = true ∧ (∀ r ∈ s.str.series, r.source ≠ 1) ∧ s.str.cur = some f ∧
        f.source = 1 ∧ f.last = true) ∧
    (∃ (s : State), Calm s ∧ s.str.clk = true) ∧
    (∃ (s : State) (dt : Nat), Calm s ∧ s.str.clk = true ∧ s.str.linkAt ≠ some (s.tick + dt)) ∧
    (∃ (s : State), Calm s ∧ s.str.linkAt = some s.tick) ∧
    (∃ (s : State), Calm s ∧ s.str.linkAt = some s.tick ∧ s.str.cur = none) ∧
    (∃ (s : State), Calm s ∧ s.str.clk = true) ∧
    (∃ (s : State) (k : _) (r : _), Calm s ∧ s.str.cur = none ∧ s.nextSeries = some k ∧ s.str.series[k]? = some r ∧ s.str.clk = true ∧ s.fld
        F.STR_STAT_LINK = 1 ∧ s.fld F.STR_CTRL_EN = 1 ∧ (r.words.take s.maxLen).length + 2 ≤ s.fld F.STR_CREDIT_WORDS) ∧
    (∃ (s : State) (k : _) (r : _), Calm s ∧ s.str.cur = none ∧ s.nextSeries = some k ∧ s.str.series[k]? = some r ∧ (s.fld
        F.STR_CREDIT_WORDS < (r.words.take s.maxLen).length + 2 ∨ s.fld F.STR_STAT_LINK = 0)) ∧
    (∃ (s : State) (dt : Nat) (value : BitVec 12) (k : _) (f : _), Calm s ∧ s.str.clk = true ∧ s.str.linkAt ≠ some (s.tick + dt) ∧ s.str.cur
        = none ∧ (s.str.sent.findIdx? fun g => g.seq == value.toNat) = some k ∧ s.str.sent[k]? = some f ∧ s.sinceSof k 0 ≤ 64 ∧ f.replays <
        2) ∧
    (∃ (s : State) (dt : Nat) (value : BitVec 12) (k : _) (f : _), Calm s ∧ s.str.clk = true ∧ s.str.linkAt ≠ some (s.tick + dt) ∧ s.str.cur
        = none ∧ (s.str.sent.findIdx? fun g => g.seq == value.toNat) = some k ∧ s.str.sent[k]? = some f ∧ (64 < s.sinceSof k 0 ∨ 2 ≤
        f.replays)) ∧
    (∃ (s : State), Calm s ∧ s.str.clk = true) ∧
    (∃ (s : State), Calm s ∧ s.str.clk = false) :=
  ⟨⟨sStr, pkt 0x0900 [0x1E31], .maker, ⟨.host .maker, .plain, 0x1E31, 0⟩, 0x1E31, (by decide +kernel : _ = false),
      carried_of (by decide +kernel), by decide +kernel, by decide +kernel, by decide +kernel, lands_of (by decide +kernel),
      by decide +kernel⟩,
   ⟨sStr, pkt 0x0901 [0x00040100, 4, 5, 0, 0, 0x20000], .maker, (by decide +kernel : _ = false), carried_of (by decide +kernel),
      by decide +kernel⟩,
   ⟨strWith (fun x => { x with cap := some ⟨[], 0, [], none, 0, none, true⟩, cur := some lastFrame }), ⟨[], 0, [], none, 0, none, true⟩,
      lastFrame, (by decide +kernel : _ = false), by decide +kernel⟩,
   ⟨strWith (fun x => { x with cur := some lastFrame }), (by decide +kernel : _ = false), by decide +kernel⟩,
   ⟨sStr, 2, (by decide +kernel : _ = false), by decide +kernel⟩,
   ⟨strWith (fun x => { x with linkAt := some sStr.tick }), (by decide +kernel : _ = false), by decide +kernel⟩,
   ⟨strWith (fun x => { x with linkAt := some sStr.tick }), (by decide +kernel : _ = false), by decide +kernel⟩,
   ⟨strWith (fun x => { x with cur := some lastFrame }), (by decide +kernel : _ = false), by decide +kernel⟩,
   ⟨sStr.wr .STR_CREDIT 5, 0, ⟨2, [4, 5, 6], false, true⟩, (by decide +kernel : _ = false), by decide +kernel⟩,
   ⟨sStr.wr .STR_CREDIT 4, 0, ⟨2, [4, 5, 6], false, true⟩, (by decide +kernel : _ = false), by decide +kernel⟩,
   ⟨sStr, 2, 6, 0, ⟨6, 2, true, true, [1, 2], [], false, 1⟩, (by decide +kernel : _ = false), by decide +kernel⟩,
   ⟨strWith (fun x => { x with sent := [⟨6, 2, true, true, [1, 2], [], false, 2⟩] }), 2, 6, 0, ⟨6, 2, true, true, [1, 2], [], false, 2⟩,
      (by decide +kernel : _ = false), by decide +kernel⟩,
   ⟨strWith (fun x => { x with cur := some lastFrame }), (by decide +kernel : _ = false), by decide +kernel⟩,
   ⟨strWith (fun x => { x with clk := false }), (by decide +kernel : _ = false), by decide +kernel⟩⟩

theorem test_CandleMeasuresAndPlans :
    (∃ (s : State) (p : Pkt) (role : Role) (ws : _), Calm s ∧ Carried s cmdCandleReport p role ∧
        (at_ s p).report (nth p.payload 0).toNat = some ws) ∧
    (∃ (s : State) (p : Pkt) (role : Role), Calm s ∧ Carried s cmdMarginReplan p role ∧ s.reiniting 0x30 0 = false ∧ s.cdl.run = none ∧
        s.replanWaits = false) ∧
    (∃ (s : State) (p : Pkt) (role : Role) (t0 : _), Calm s ∧ Carried s cmdMarginReplan p role ∧ s.reiniting 0x30 0 = false ∧
        s.cdl.run = some t0) ∧
    (∃ (s : State), Calm s ∧ s.fld F.CDL_CTRL_PERIODIC = 1 ∧ s.cdl.run = none ∧ s.replanWaits = false) ∧
    (∃ (s : State), Calm s ∧ s.replanWaits = true) ∧
    (∃ (s : State) (t0 : _), Calm s ∧ s.cdl.run = some t0 ∧ s.cdl.rebase = false) ∧
    (∃ (s : State), Calm s) ∧
    (∃ (s : State), Calm s ∧ s.sys.phase ≠ .unpowered) :=
  ⟨⟨sHost dREADY .maker, pkt 0x0C00 [0x17], .maker, ((at_ (sHost dREADY .maker) (pkt 0x0C00 [0x17])).report 0x17).getD [],
      (by decide +kernel : _ = false), carried_of (by decide +kernel), by decide +kernel⟩,
   ⟨sHost dREADY .maker, pkt 0x0C01 [], .maker, (by decide +kernel : _ = false), carried_of (by decide +kernel), by decide +kernel⟩,
   ⟨cdlWith (fun c => { c with run := some 5 }), pkt 0x0C01 [], .maker, 5, (by decide +kernel : _ = false),
       carried_of (by decide +kernel), by decide +kernel⟩,
   ⟨(sHost dREADY .maker).setF F.CDL_CTRL_PERIODIC 1, (by decide +kernel : _ = false), by decide +kernel⟩,
   ⟨(sHost dUPDATE .maker).setF F.CDL_CTRL_PERIODIC 1, (by decide +kernel : _ = false), by decide +kernel⟩,
   ⟨cdlWith (fun c => { c with run := some 5 }), 5, (by decide +kernel : _ = false), by decide +kernel⟩,
   ⟨cdlWith (fun c => { c with wear := c.wear.set 7 { nth c.wear 7 with n := 11, pred := 1, sumI := 11 * 2 ^ 23, swTicks := 9 } }),
       (by decide +kernel : _ = false)⟩,
   ⟨sHost dREADY .maker, (by decide +kernel : _ = false), by decide +kernel⟩⟩

theorem test_EngineArithmeticComputes :
    (∃ (s : State) (u : Issue), Calm s ∧ u.prog = 0 ∧ u.data = 0) ∧
    (∃ (s : State) (u : Issue), Calm s ∧ u.prog = 0 ∧ u.data = 0) ∧
    (∃ (s : State) (u : Issue), Calm s ∧ u.prog = 0 ∧ u.data = 0) ∧
    (∃ (s : State) (u : Issue), Calm s ∧ u.prog = 0 ∧ u.data = 0) ∧
    (∃ (s : State) (u : Issue), Calm s ∧ u.prog = 0 ∧ u.data = 0) ∧
    (∃ (s : State) (u : Issue), Calm s ∧ u.prog = 0 ∧ u.data = 0) ∧
    (∃ (s : State) (u : Issue), Calm s ∧ u.prog = 0 ∧ u.data = 0) ∧
    (∃ (s : State) (u : Issue), Calm s ∧ u.prog = 0 ∧ u.data = 0) ∧
    (∃ (s : State) (u : Issue), Calm s ∧ u.prog = 0 ∧ u.data = 0) ∧
    (∃ (s : State) (u : Issue), Calm s ∧ u.prog = 0 ∧ u.data = 0) ∧
    (∃ (s : State) (u : Issue), Calm s ∧ u.prog = 0 ∧ u.data = 0) ∧
    (∃ (s : State) (u : Issue), Calm s ∧ u.prog = 0 ∧ u.data = 0) ∧
    (∃ (s : State) (u : Issue), Calm s ∧ u.prog = 0 ∧ u.data = 0) ∧
    (∃ (s : State) (u : Issue), Calm s ∧ u.prog = 0 ∧ u.data = 0) ∧
    (∃ (s : State) (u : Issue), Calm s ∧ u.prog = 0 ∧ u.data = 0) ∧
    (∃ (s : State) (u : Issue), Calm s ∧ u.prog = 0 ∧ u.data = 0) ∧
    (∃ (s : State) (u : Issue), Calm s ∧ u.prog = 0 ∧ u.data = 0) ∧
    (∃ (s : State) (u : Issue), Calm s ∧ u.prog = 0 ∧ u.data = 0) ∧
    (∃ (s : State) (u : Issue), Calm s ∧ u.prog = 0 ∧ u.data = 0) ∧
    (∃ (s : State) (u : Issue) (a : Fin 16) (b : Fin 16) (y : _), Calm s ∧ u.prog = 0 ∧ u.data = 0 ∧ y = s.xInt u.e a - s.xInt u.e b) ∧
    (∃ (s : State) (u : Issue) (a : Fin 16) (k : Fin 512) (y : _), Calm s ∧ u.prog = 0 ∧ u.data = 0 ∧
        bitsOf (s.dataWord u.e (2 * k + 1)) 31 5 = 0 ∧ y = roundShift (s.xInt u.e a * (s.dataWord u.e (2 * k)).toInt) (bitsOf (s.dataWord u.e (2 * k + 1)) 4 0)) ∧
    (∃ (s : State) (u : Issue) (a : Fin 16) (k : Fin 512) (y : _) (n : Fin 4) (w : _) (p : _) (z : _), Calm s ∧ u.prog = 0 ∧ u.data = 0 ∧
        bitsOf (s.dataWord u.e (2 * k + 1)) 31 5 = 0 ∧ y = roundShift (s.xInt u.e a * (s.dataWord u.e (2 * k)).toInt) (bitsOf (s.dataWord u.e (2 * k + 1)) 4 0) ∧ (w = (if u.e.val < 8 then 48 else 64)) ∧ p = fit w y ∧ z = s.accReg u.e n + p) ∧
    (∃ (s : State) (u : Issue) (a : Fin 16) (b : Fin 16) (y : _), Calm s ∧ u.prog = 0 ∧ u.data = 0 ∧
        y = roundShift (s.xInt u.e a * s.xInt u.e b) 24) ∧
    (∃ (s : State) (u : Issue), Calm s ∧ u.prog = 0 ∧ u.data = 0) ∧
    (∃ (s : State) (u : Issue) (n : Fin 4) (sh : Fin 32) (y : _), Calm s ∧ u.prog = 0 ∧ u.data = 0 ∧ y = roundShift (s.accReg u.e n) sh) ∧
    (∃ (s : State) (u : Issue), Calm s ∧ u.prog = 0 ∧ u.data = 0) ∧
    (∃ (s : State) (u : Issue), Calm s ∧ u.prog = 0 ∧ u.data = 0) ∧
    (∃ (s : State) (u : Issue), Calm s ∧ u.prog = 0 ∧ u.data = 0) ∧
    (∃ (s : State) (u : Issue) (a : Fin 16) (b : Fin 16) (y : _), Calm s ∧ u.prog = 0 ∧ u.data = 0 ∧ s.xInt u.e b ≠ 0 ∧
        y = roundDiv (s.xInt u.e a * 2 ^ 24) (s.xInt u.e b)) ∧
    (∃ (s : State) (u : Issue) (b : Fin 16), Calm s ∧ u.prog = 0 ∧ u.data = 0 ∧ s.xInt u.e b = 0) ∧
    (∃ (s : State) (u : Issue) (a : Fin 16), Calm s ∧ u.prog = 0 ∧ u.data = 0 ∧ 0 ≤ s.xInt u.e a) ∧
    (∃ (s : State) (u : Issue) (a : Fin 16), Calm s ∧ u.prog = 0 ∧ u.data = 0 ∧ s.xInt u.e a < 0) :=
  ⟨⟨sEng, ⟨9, 0, 0, ⟨0, 0⟩⟩, (by decide +kernel : _ = false), by decide +kernel⟩,
   ⟨sEng, ⟨9, 0, 0, ⟨0, 0⟩⟩, (by decide +kernel : _ = false), by decide +kernel⟩,
   ⟨sEng, ⟨9, 0, 0, ⟨0, 0⟩⟩, (by decide +kernel : _ = false), by decide +kernel⟩,
   ⟨sEng, ⟨9, 0, 0, ⟨0, 0⟩⟩, (by decide +kernel : _ = false), by decide +kernel⟩,
   ⟨sEng, ⟨9, 0, 0, ⟨0, 0⟩⟩, (by decide +kernel : _ = false), by decide +kernel⟩,
   ⟨sEng, ⟨9, 0, 0, ⟨0, 0⟩⟩, (by decide +kernel : _ = false), by decide +kernel⟩,
   ⟨sEng, ⟨9, 0, 0, ⟨0, 0⟩⟩, (by decide +kernel : _ = false), by decide +kernel⟩,
   ⟨sEng, ⟨9, 0, 0, ⟨0, 0⟩⟩, (by decide +kernel : _ = false), by decide +kernel⟩,
   ⟨sEng, ⟨9, 0, 0, ⟨0, 0⟩⟩, (by decide +kernel : _ = false), by decide +kernel⟩,
   ⟨sEng, ⟨9, 0, 0, ⟨0, 0⟩⟩, (by decide +kernel : _ = false), by decide +kernel⟩,
   ⟨sEng, ⟨9, 0, 0, ⟨0, 0⟩⟩, (by decide +kernel : _ = false), by decide +kernel⟩,
   ⟨sEng, ⟨9, 0, 0, ⟨0, 0⟩⟩, (by decide +kernel : _ = false), by decide +kernel⟩,
   ⟨sEng, ⟨9, 0, 0, ⟨0, 0⟩⟩, (by decide +kernel : _ = false), by decide +kernel⟩,
   ⟨sEng, ⟨9, 0, 0, ⟨0, 0⟩⟩, (by decide +kernel : _ = false), by decide +kernel⟩,
   ⟨sEng, ⟨9, 0, 0, ⟨0, 0⟩⟩, (by decide +kernel : _ = false), by decide +kernel⟩,
   ⟨sEng, ⟨9, 0, 0, ⟨0, 0⟩⟩, (by decide +kernel : _ = false), by decide +kernel⟩,
   ⟨sEng, ⟨9, 0, 0, ⟨0, 0⟩⟩, (by decide +kernel : _ = false), by decide +kernel⟩,
   ⟨sEng, ⟨9, 0, 0, ⟨0, 0⟩⟩, (by decide +kernel : _ = false), by decide +kernel⟩,
   ⟨sEng, ⟨9, 0, 0, ⟨0, 0⟩⟩, (by decide +kernel : _ = false), by decide +kernel⟩,
   ⟨sEng, ⟨9, 0, 0, ⟨0, 0⟩⟩, 3, 2, -2147483649, (by decide +kernel : _ = false), by decide +kernel⟩,
   ⟨sEng, ⟨9, 0, 0, ⟨0, 0⟩⟩, 3, 0, roundShift (-2147483648 * 0x40000000) 3, (by decide +kernel : _ = false), by decide +kernel⟩,
   ⟨sEng, ⟨9, 0, 0, ⟨0, 0⟩⟩, 1, 0, roundShift (2147483647 * 0x40000000) 3, 0, 64, fit 64 (roundShift (2147483647 * 0x40000000) 3),
       2 ^ 63 - 1 + fit 64 (roundShift (2147483647 * 0x40000000) 3), (by decide +kernel : _ = false), by decide +kernel⟩,
   ⟨sEng, ⟨9, 0, 0, ⟨0, 0⟩⟩, 3, 4, roundShift (-2147483648 * -5) 24, (by decide +kernel : _ = false), by decide +kernel⟩,
   ⟨sEng, ⟨9, 0, 0, ⟨0, 0⟩⟩, (by decide +kernel : _ = false), by decide +kernel⟩,
   ⟨sEng, ⟨9, 0, 0, ⟨0, 0⟩⟩, 0, 31, roundShift (2 ^ 63 - 1) 31, (by decide +kernel : _ = false), by decide +kernel⟩,
   ⟨sEng, ⟨9, 0, 0, ⟨0, 0⟩⟩, (by decide +kernel : _ = false), by decide +kernel⟩,
   ⟨sEng, ⟨9, 0, 0, ⟨0, 0⟩⟩, (by decide +kernel : _ = false), by decide +kernel⟩,
   ⟨sEng, ⟨9, 0, 0, ⟨0, 0⟩⟩, (by decide +kernel : _ = false), by decide +kernel⟩,
   ⟨sEng, ⟨9, 0, 0, ⟨0, 0⟩⟩, 3, 4, roundDiv (-2147483648 * 2 ^ 24) (-5), (by decide +kernel : _ = false), by decide +kernel⟩,
   ⟨sEng, ⟨9, 0, 0, ⟨0, 0⟩⟩, 0, (by decide +kernel : _ = false), by decide +kernel⟩,
   ⟨sEng, ⟨9, 0, 0, ⟨0, 0⟩⟩, 1, (by decide +kernel : _ = false), by decide +kernel⟩,
   ⟨sEng, ⟨9, 0, 0, ⟨0, 0⟩⟩, 3, (by decide +kernel : _ = false), by decide +kernel⟩⟩

theorem test_EngineMemoryAccesses :
    (∃ (s : State) (u : Issue) (a : Fin 16) (off : Fin 16384) (k : _), Calm s ∧ u.prog = 0 ∧ u.data = 0 ∧ k = (s.xReg u.e a).toNat + off.val
        ∧ k < (if u.e.val < 8 then 2048 else 8192)) ∧
    (∃ (s : State) (u : Issue) (a : Fin 16) (off : Fin 16384) (k : _), Calm s ∧ u.prog = 0 ∧ u.data = 0 ∧ k = (s.xReg u.e a).toNat + off.val
        ∧ k < (if u.e.val < 8 then 2048 else 8192) ∧ s.inWindow u.e k = true) ∧
    (∃ (s : State) (u : Issue) (a : Fin 16) (off : Fin 16384) (k : _), Calm s ∧ u.prog = 0 ∧ u.data = 0 ∧ k = (s.xReg u.e a).toNat + off.val
        ∧ k < (if u.e.val < 8 then 2048 else 8192) ∧ s.inWindow u.e k = false) ∧
    (∃ (s : State) (u : Issue) (a : Fin 16) (off : Fin 16384) (addr : _) (r : _) (i : _) (k : _), Calm s ∧ u.prog = 0 ∧ u.data = 0 ∧ addr =
        s.xReg u.e a + wd (4 * off.val) ∧ baseOf addr / 65536 ∈ inBlocks ∧ locate addr = .at_ (.reg r i) k ∧ Quiet s (.engine u.e) r i) ∧
    (∃ (s : State) (u : Issue) (d : Fin 16) (a : Fin 16) (off : Fin 16384) (addr : _) (r : _) (i : _) (w : _) (new : _), Calm s ∧ u.prog = 0
        ∧ u.data = 0 ∧ addr = s.xReg u.e a + wd (4 * off.val) ∧ baseOf addr / 65536 ∈ outBlocks ∧ locate addr = .at_ (.reg r i) .plain ∧
        locate (wd (baseOf addr)) = .at_ (.reg r i) .plain ∧ i < 65536 ∧ r ∉ actingRegs ∧ w.who.engine? = some u.e.val ∧ w.value = s.xReg
        u.e d ∧ Lands (s.elapseTo (s.engine u.e).ready) r i ⟨0, [w], 0⟩ w new) ∧
    (∃ (s : State) (u : Issue) (w : _) (rest : _), Calm s ∧ u.prog = 0 ∧ u.data = 0 ∧ u.mail = ⟨0, 0⟩ ∧ s.fld F.LE_MBX_IPTR_RD u.e = s.fld
        F.LE_MBX_IPTR_WR u.e ∧ (s.engine u.e).outFifo = [] ∧ (s.engine u.e).inFifo = w :: rest) ∧
    (∃ (s : State) (u : Issue), Calm s ∧ u.prog = 0 ∧ u.data = 0 ∧ u.mail = ⟨0, 0⟩ ∧ s.fld F.LE_MBX_IPTR_RD u.e = s.fld F.LE_MBX_IPTR_WR u.e
        ∧ (s.engine u.e).outFifo = [] ∧ (s.engine u.e).inFifo = []) ∧
    (∃ (s : State) (u : Issue), Calm s ∧ u.prog = 0 ∧ u.data = 0 ∧ u.mail = ⟨0, 0⟩ ∧ s.fld F.LE_MBX_IPTR_RD u.e = s.fld F.LE_MBX_IPTR_WR u.e
        ∧ (s.engine u.e).outFifo = [] ∧ (s.fld F.LE_MBX_OPTR_WR u.e + 1) % 256 ≠ s.fld F.LE_MBX_OPTR_RD u.e ∧ u.e.val < s.eng.length) :=
  ⟨⟨sEng, ⟨9, 0, 0, ⟨0, 0⟩⟩, 0, 8191, 8191, (by decide +kernel : _ = false), by decide +kernel⟩,
   ⟨sRel, ⟨9, 0, 0, ⟨0, 0⟩⟩, 0, 8191, 8191, (by decide +kernel : _ = false), by decide +kernel⟩,
   ⟨sRel, ⟨9, 0, 0, ⟨0, 0⟩⟩, 0, 8189, 8189, (by decide +kernel : _ = false), by decide +kernel⟩,
   ⟨sReg .AX_RAMP_ACC 0 id, ⟨9, 0, 0, ⟨0, 0⟩⟩, 6, 0, wd (RegId.AX_RAMP_ACC.addr 0), .AX_RAMP_ACC, 0, .plain,
      (by decide +kernel : _ = false), by decide +kernel, by decide +kernel, by decide +kernel, by decide +kernel, by decide +kernel,
      quiet_of (by decide +kernel)⟩,
   ⟨sReg .AX_RAMP_ACC 0 id, ⟨9, 0, 0, ⟨0, 0⟩⟩, 5, 6, 0, wd (RegId.AX_RAMP_ACC.addr 0), .AX_RAMP_ACC, 0, ⟨.oe 1, .plain, 7, 0⟩, 7,
      (by decide +kernel : _ = false), rfl, rfl, by decide +kernel, by decide +kernel, by decide +kernel,
      by decide +kernel, by decide +kernel, by decide +kernel, by decide +kernel, by decide +kernel, lands_of (by decide +kernel)⟩,
   ⟨sReg .AX_RAMP_ACC 0 fun g => { g with inFifo := [8, 9] }, ⟨9, 0, 0, ⟨0, 0⟩⟩, 8, [9], (by decide +kernel : _ = false), by decide +kernel⟩,
   ⟨sReg .AX_RAMP_ACC 0 id, ⟨9, 0, 0, ⟨0, 0⟩⟩, (by decide +kernel : _ = false), by decide +kernel⟩,
   ⟨sReg .AX_RAMP_ACC 0 id, ⟨9, 0, 0, ⟨0, 0⟩⟩, (by decide +kernel : _ = false), by decide +kernel⟩⟩

theorem test_MailboxesNeverWait :
    (∃ (s : State) (u : Issue), Calm s ∧ u.prog = 0 ∧ u.data = 0 ∧ u.mail = ⟨0, 0⟩ ∧ s.fld F.LE_MBX_IPTR_RD u.e = s.fld F.LE_MBX_IPTR_WR u.e
        ∧ (s.engine u.e).inFifo = []) ∧
    (∃ (s : State) (u : Issue), Calm s ∧ u.prog = 0 ∧ u.data = 0 ∧ u.mail = ⟨0, 0⟩ ∧ (s.fld F.LE_MBX_IPTR_RD u.e ≠ s.fld F.LE_MBX_IPTR_WR
        u.e ∨ (s.engine u.e).inFifo ≠ [])) ∧
    (∃ (s : State) (u : Issue), Calm s ∧ u.prog = 0 ∧ u.data = 0 ∧ u.mail = ⟨0, 0⟩ ∧ 64 ≤ (s.engine u.e).outFifo.length ∧ (s.fld
        F.LE_MBX_OPTR_WR u.e + 1) % 256 = s.fld F.LE_MBX_OPTR_RD u.e) :=
  ⟨⟨sReg .AX_RAMP_ACC 0 id, ⟨9, 0, 0, ⟨0, 0⟩⟩, (by decide +kernel : _ = false), by decide +kernel⟩,
   ⟨(sReg .AX_RAMP_ACC 0 id).setF F.LE_MBX_IPTR_WR 255 9, ⟨9, 0, 0, ⟨0, 0⟩⟩, (by decide +kernel : _ = false), by decide +kernel⟩,
   ⟨(sReg .AX_RAMP_ACC 0 fun g => { g with outFifo := List.replicate 64 1 }).setF F.LE_MBX_OPTR_WR 255 9, ⟨9, 0, 0, ⟨0, 0⟩⟩,
      (by decide +kernel : _ = false), by decide +kernel⟩⟩

theorem test_EngineTasksAndExceptions :
    (∃ (s : State) (u : Issue), Calm s ∧ u.prog = 0 ∧ u.data = 0) ∧
    (∃ (s : State) (u : Issue), Calm s ∧ u.prog = 0 ∧ u.data = 0) ∧
    (∃ (s : State) (u : Issue) (r : _), Calm s ∧ u.prog = 0 ∧ u.data = 0 ∧ (s.engine u.e).run = some r ∧ r.slot < 4) ∧
    (∃ (s : State) (u : Issue) (e : Fin 10) (slot : Fin 4) (r : _), Calm s ∧ u.prog = 0 ∧ u.data = 0 ∧ State.nextDue (s.engine e).due slot =
        some r) ∧
    (∃ (s : State) (u : Issue) (e : Fin 10) (r : Rel), Calm s ∧ u.prog = 0 ∧ u.data = 0 ∧ ((upTo 4).findSome? fun k => (s.engine
        e).waiting.find? fun r => r.slot == k) = some r ∧ (s.engine e).run = none ∧ s.fld F.LE_CTRL_RUN e = 1) ∧
    (∃ (s : State) (u : Issue) (e : Fin 10) (slot : Fin 4) (r : Rel), Calm s ∧ u.prog = 0 ∧ u.data = 0 ∧ (s.engine e).run = some r ∧ r.slot
        = slot) ∧
    (∃ (s : State) (u : Issue) (e : Fin 10) (slot : Fin 4) (r : Rel), Calm s ∧ u.prog = 0 ∧ u.data = 0 ∧ (s.engine e).run = none ∧
        ((s.engine e).waiting.find? fun r => r.slot == slot.val) = some r) ∧
    (∃ (s : State) (u : Issue) (e : Fin 10) (slot : Fin 4) (r : Rel), Calm s ∧ u.prog = 0 ∧ u.data = 0 ∧ (∀ q, (s.engine e).run = some q →
        q.slot ≠ slot) ∧ ((s.engine e).waiting.find? fun r => r.slot == slot.val) = none ∧ State.nextDue (s.engine e).due slot = some r) ∧
    (∃ (s : State) (u : Issue) (d : Fin 16) (a : Fin 16) (off : Fin 16384) (k : Fin 512) (i : Instr) (c : _), Calm s ∧ (((i = .mulc u d a k
        ∨ ∃ n, i = .mac u a k n) ∧ c = 4 ∧ bitsOf (s.dataWord u.e (2 * k.val + 1)) 31 5 ≠ 0) ∨ ((i = .ld u d a off ∨ i = .st u d a off) ∧ c
        = 1 ∧ (if u.e.val < 8 then 2048 else 8192) ≤ (s.xReg u.e a).toNat + off.val) ∨ (i = .inReg u d a off ∧ c = 2 ∧ baseOf (s.xReg u.e a
        + wd (4 * off.val)) / 65536 ∉ inBlocks) ∨ (i = .outReg u d a off [] ∧ c = 3 ∧ baseOf (s.xReg u.e a + wd (4 * off.val)) / 65536 ∉
        outBlocks)) ∧ u.prog = 0 ∧ u.data = 0) ∧
    (∃ (s : State) (u : Issue), Calm s ∧ 1 ≤ u.prog ∧ u.prog ≤ 3 ∧ u.data = 0) ∧
    (∃ (s : State) (u : Issue), Calm s ∧ 3 < u.prog) :=
  ⟨⟨sEng, ⟨9, 0, 0, ⟨0, 0⟩⟩, (by decide +kernel : _ = false), by decide +kernel⟩,
   ⟨sEng, ⟨9, 0, 0, ⟨0, 0⟩⟩, (by decide +kernel : _ = false), by decide +kernel⟩,
   ⟨sRel, ⟨9, 0, 0, ⟨0, 0⟩⟩, rel9, (by decide +kernel : _ = false), by decide +kernel⟩,
   ⟨sEng.updEng 9 fun g => { g with due := [rel9] }, ⟨9, 0, 0, ⟨0, 0⟩⟩, 9, 3, rel9, (by decide +kernel : _ = false), by decide +kernel⟩,
   ⟨(sEng.setF F.LE_CTRL_RUN 1 9).updEng 9 fun g => { g with waiting := [rel9] }, ⟨9, 0, 0, ⟨0, 0⟩⟩, 9, rel9,
      (by decide +kernel : _ = false), by decide +kernel⟩,
   ⟨sRel, ⟨9, 0, 0, ⟨0, 0⟩⟩, 9, 3, rel9, (by decide +kernel : _ = false), by decide +kernel⟩,
   ⟨(sEng.setF F.LE_CTRL_RUN 1 9).updEng 9 fun g => { g with waiting := [rel9] }, ⟨9, 0, 0, ⟨0, 0⟩⟩, 9, 3, rel9,
      (by decide +kernel : _ = false), by decide +kernel⟩,
   ⟨((sReg .AX_RAMP_ACC 0 id).updEng 9 fun g => { g with run := none, waiting := [], due := [rel9] }), ⟨9, 0, 0, ⟨0, 0⟩⟩, 9, 3, rel9,
      (by decide +kernel : _ = false), by decide +kernel, by decide +kernel, (by decide +kernel : ∀ q ∈ (((sReg .AX_RAMP_ACC 0 id).updEng 9
      fun g => { g with run := none, waiting := [], due := [rel9] }).engine 9).run, q.slot ≠ 3), by decide +kernel⟩,
   ⟨sExc, ⟨9, 0, 0, ⟨0, 0⟩⟩, 4, 0, 8192, 0, .ld ⟨9, 0, 0, ⟨0, 0⟩⟩ 4 0 8192, 1, (by decide +kernel : _ = false), by decide +kernel⟩,
   ⟨sRel, ⟨9, 3, 0, ⟨0, 0⟩⟩, (by decide +kernel : _ = false), by decide +kernel⟩,
   ⟨sRel, ⟨9, 4, 0, ⟨0, 0⟩⟩, (by decide +kernel : _ = false), by decide +kernel⟩⟩

theorem test_EncoderEdgesCount :
    (∃ (s : State) (c : Fin 4) (held : _), Calm s ∧ held < s.encDelay c) ∧
    (∃ (s : State) (dt : Nat) (c : Fin 4) (a : _) (b : _) (held : _) (up : _), Calm s ∧ s.encMode c = 1 ∧ s.fld F.EN_STAT_VALID c = 1 ∧
        s.encDelay c ≤ held ∧ (s.enc c).presetAt ≠ some (s.tick + dt) ∧ (a != (s.enc c).a) = !(b != (s.enc c).b) ∧ up = ((if a != (s.enc
        c).a then a != b else a == b) != s.on F.EN_CFG_INVERT_DIR c)) ∧
    (∃ (s : State) (dt : Nat) (c : Fin 4) (a : _) (b : _) (held : _), Calm s ∧ s.encMode c = 1 ∧ s.fld F.EN_STAT_VALID c = 1 ∧ s.encDelay c
        ≤ held ∧ (s.enc c).presetAt = some (s.tick + dt) ∧ (a != (s.enc c).a) = !(b != (s.enc c).b)) ∧
    (∃ (s : State) (c : Fin 4) (a : _) (b : _) (held : _), Calm s ∧ s.encMode c = 1 ∧ s.fld F.EN_STAT_VALID c = 1 ∧ s.encDelay c ≤ held ∧ a
        ≠ (s.enc c).a ∧ b ≠ (s.enc c).b ∧ (s.enc c).illegal.length < 2) ∧
    (∃ (s : State) (dt : Nat) (c : Fin 4) (held : _) (since : _), Calm s ∧ s.encMode c = 3 ∧ s.fld F.EN_STAT_VALID c = 1 ∧ s.encDelay c ≤
        held ∧ since < s.fld F.EN_FILT_PD_SETUP c ∧ (s.enc c).presetAt ≠ some (s.tick + dt)) ∧
    (∃ (s : State) (dt : Nat) (c : Fin 4) (b : _) (held : _) (since : _) (up : _), Calm s ∧ s.encMode c = 3 ∧ s.fld F.EN_STAT_VALID c = 1 ∧
        s.encDelay c ≤ held ∧ s.fld F.EN_FILT_PD_SETUP c ≤ since ∧ (s.enc c).presetAt ≠ some (s.tick + dt) ∧ up = (!b != s.on
        F.EN_CFG_INVERT_DIR c)) ∧
    (∃ (s : State) (t0 : _), Calm s ∧ (s.feed.pulses.map Prod.snd).min? = some t0) ∧
    (∃ (s : State) (dt : Nat) (c : Fin 4) (raw : Word) (v : Nat) (data : Nat) (due : Nat) (err : _), Calm s ∧ s.encMode c = 2 ∧ s.fld
        F.EN_SSI_CFG_PARITY c = 0 ∧ v = raw.toNat % 2 ^ s.fld F.EN_SSI_CFG_BITS c ∧ due = max (s.tick + dt) (((s.elapse dt).ssiDue c).getD
        0) ∧ (s.fld F.EN_STAT_REFERENCED c = 1 ∨ ∀ a, a < 4 → (s.ob a).aligned = none) ∧ data = (if s.fld F.EN_SSI_CFG_CODE c = 0 then v
        else State.ungray (s.fld F.EN_SSI_CFG_BITS c) v) ∧ (s.fld F.EN_SSI_CFG_ERRBIT c = 0 ∨ err ≠ s.on F.EN_SSI_CFG_ERRPOL c) ∧ (∀ o,
        (s.enc c).ssiLast = some o → (((data - o : Int) + 2 ^ s.fld F.EN_SSI_CFG_BITS c / 2) % 2 ^ s.fld F.EN_SSI_CFG_BITS c - 2 ^ s.fld
        F.EN_SSI_CFG_BITS c / 2).natAbs ≤ s.fld F.EN_SSI_CFG_MAX_STEP c)) ∧
    (∃ (s : State) (dt : Nat) (c : Fin 4) (raw : Word) (v : Nat) (data : Nat) (due : Nat) (err : _), Calm s ∧ s.encMode c = 2 ∧ s.fld
        F.EN_SSI_CFG_PARITY c = 0 ∧ v = raw.toNat % 2 ^ s.fld F.EN_SSI_CFG_BITS c ∧ due = max (s.tick + dt) (((s.elapse dt).ssiDue c).getD
        0) ∧ (s.fld F.EN_STAT_REFERENCED c = 1 ∨ ∀ a, a < 4 → (s.ob a).aligned = none) ∧ data = (if s.fld F.EN_SSI_CFG_CODE c = 0 then v
        else State.ungray (s.fld F.EN_SSI_CFG_BITS c) v) ∧ s.fld F.EN_SSI_CFG_ERRBIT c = 1 ∧ err = s.on F.EN_SSI_CFG_ERRPOL c ∧ (s.enc
        c).ssiBad < 2) :=
  ⟨⟨sEnc 1 |>.setF F.EN_FILT_FILT 4 3, 3, 3, (by decide +kernel : _ = false), by decide +kernel⟩,
   ⟨sEnc 1, 2, 3, false, true, 4, true, (by decide +kernel : _ = false), by decide +kernel⟩,
   ⟨sEnc 1 fun e => { e with presetAt := some 7 }, 7, 3, false, true, 4, (by decide +kernel : _ = false), by decide +kernel⟩,
   ⟨sEnc 1, 3, false, false, 4, (by decide +kernel : _ = false), by decide +kernel⟩,
   ⟨(sEnc 3).setF F.EN_FILT_PD_SETUP 9 3, 2, 3, 4, 8, (by decide +kernel : _ = false), by decide +kernel⟩,
   ⟨(sEnc 3).setF F.EN_FILT_PD_SETUP 9 3, 2, 3, false, 4, 9, true, (by decide +kernel : _ = false), by decide +kernel⟩,
   ⟨(let s := sEnc 1; { s with feed := { s.feed with pulses := [(3, 40), (5, 50)] } }), 40, (by decide +kernel : _ = false),
      by decide +kernel⟩,
   ⟨(sEnc 2 fun e => { e with ssiLast := some 0xFFF }).wr .EN_SSI_CFG (0x00010000 + 12) 3, 2, 3, 0xF000, 0, 0, 2, true,
      (by decide +kernel : _ = false), by decide +kernel⟩,
   ⟨(sEnc 2 fun e => { e with ssiLast := some 0xFFF, ssiBad := 1 }).wr .EN_SSI_CFG (0x00010600 + 12) 3, 2, 3, 0xF000, 0, 0, 2, true,
      (by decide +kernel : _ = false), by decide +kernel⟩⟩

theorem test_EncoderSpeedIndexAndLoss :
    (∃ (s : State) (dt : Nat) (c : Fin 4) (k : _) (u : _), Calm s ∧ s.fld F.EN_STAT_VALID c = 1 ∧ s.encMode c ≠ 0 ∧ 4 ≤ s.owner c ∧ (s.enc
        c).newest = some k ∧ s.fld F.EN_STAT_STANDSTILL c = 0 ∧ u = s.elapseFrom dt ((s.enc c).spdAt + 100 * ticksPerUs) ∧ s.fld
        F.EN_SPD_CFG_TIMEOUT c * ticksPerMs < (u.nowStamp - k.ts).toNat) ∧
    (∃ (s : State) (dt : Nat) (c : Fin 4) (k : _) (u : _) (r : _), Calm s ∧ s.fld F.EN_STAT_VALID c = 1 ∧ s.encMode c ≠ 0 ∧ 4 ≤ s.owner c ∧
        (s.enc c).newest = some k ∧ s.fld F.EN_STAT_STANDSTILL c = 0 ∧ u = s.elapseFrom dt ((s.enc c).spdAt + 100 * ticksPerUs) ∧
        (u.nowStamp - k.ts).toNat ≤ s.fld F.EN_SPD_CFG_TIMEOUT c * ticksPerMs ∧ (s.enc c).reversed = false ∧ (s.enc c).fresh = true ∧
        ((s.enc c).refs.getD (s.fld F.EN_SPD_CFG_WIN c) none).or (s.enc c).anchor = some r ∧ r.ts ≠ k.ts) ∧
    (∃ (s : State) (c : Fin 4) (held : _), Calm s ∧ s.fld F.EN_STAT_VALID c = 1 ∧ held < s.encDelay c) ∧
    (∃ (s : State) (dt : Nat) (c : Fin 4) (held : _), Calm s ∧ s.fld F.EN_STAT_VALID c = 1 ∧ s.encDelay c ≤ held ∧ (s.encMode c = 1 ∨
        s.encMode c = 3) ∧ s.fld F.EN_IDX_CFG_EDGE c = 0 ∧ s.fld F.EN_IDX_CFG_GATE c = 0 ∧ s.fld F.EN_IDX_CFG_POLICY c ≠ 0 ∧ s.fld
        F.EN_CPR_CPR c ≠ 0 ∧ (s.enc c).illAt ≠ some (s.tick + dt) ∧ (s.enc c).agreed = none ∧ (s.enc c).presetAt ≠ some (s.tick + dt) ∧
        s.fld F.EN_STAT_REFERENCED c = 0 ∧ (∀ a, a < 4 → (s.ob a).aligned = none)) ∧
    (∃ (s : State) (dt : Nat) (c : Fin 4) (held : _), Calm s ∧ s.fld F.EN_STAT_VALID c = 1 ∧ s.encDelay c ≤ held ∧ (s.encMode c = 1 ∨
        s.encMode c = 3) ∧ s.fld F.EN_IDX_CFG_EDGE c = 0 ∧ s.fld F.EN_IDX_CFG_GATE c = 0 ∧ s.fld F.EN_IDX_CFG_POLICY c ≠ 0 ∧ s.fld
        F.EN_CPR_CPR c ≠ 0 ∧ (s.enc c).illAt ≠ some (s.tick + dt) ∧ (s.enc c).agreed = none ∧ (s.enc c).presetAt ≠ some (s.tick + dt) ∧
        s.fld F.EN_STAT_REFERENCED c = 1 ∧ (s.indexDev c).natAbs ≤ s.fld F.EN_IDX_CFG_WIN c) ∧
    (∃ (s : State) (dt : Nat) (c : Fin 4) (held : _), Calm s ∧ s.fld F.EN_STAT_VALID c = 1 ∧ s.encDelay c ≤ held ∧ (s.encMode c = 1 ∨
        s.encMode c = 3) ∧ s.fld F.EN_IDX_CFG_EDGE c = 0 ∧ s.fld F.EN_IDX_CFG_GATE c = 0 ∧ s.fld F.EN_IDX_CFG_POLICY c ≠ 0 ∧ s.fld
        F.EN_CPR_CPR c ≠ 0 ∧ (s.enc c).illAt ≠ some (s.tick + dt) ∧ (s.enc c).agreed = none ∧ (s.enc c).presetAt ≠ some (s.tick + dt) ∧
        s.fld F.EN_STAT_REFERENCED c = 1 ∧ s.fld F.EN_IDX_CFG_WIN c < (s.indexDev c).natAbs) ∧
    (∃ (s : State) (c : Fin 4) (line : Fin 3), Calm s ∧ (s.encMode c = 1 ∨ s.encMode c = 3) ∧ (4 ≤ s.owner c ∨ s.fld F.EN_CFG_FALLBACK c = 0
        ∧ s.fld F.EN_STAT_VALID c = 1) ∧ line.val ≠ 2) ∧
    (∃ (s : State) (c : Fin 4), Calm s ∧ (s.encMode c = 1 ∨ s.encMode c = 3) ∧ (4 ≤ s.owner c ∨ s.fld F.EN_CFG_FALLBACK c = 0 ∧ s.fld
        F.EN_STAT_VALID c = 1)) ∧
    (∃ (s : State) (c : Fin 4), Calm s ∧ (s.encMode c = 1 ∨ s.encMode c = 3) ∧ (s.enc c).supply = true) ∧
    (∃ (s : State) (c : Fin 4), Calm s ∧ (s.encMode c = 1 ∨ s.encMode c = 3)) :=
  ⟨⟨(sEnc 1 (fun e => { e with newest := some ⟨5, 5⟩ })).setF F.EN_SPD_CFG_TIMEOUT 0 3, 30, 3, ⟨5, 5⟩, _, (by decide +kernel : _ = false),
      by decide +kernel, by decide +kernel, by decide +kernel, by decide +kernel, by decide +kernel, rfl, by decide +kernel⟩,
   ⟨(sEnc 1 (fun e => { e with newest := some ⟨5, 5⟩, anchor := some ⟨1, 3⟩, fresh := true })).setF F.EN_SPD_CFG_TIMEOUT 1 3, 30, 3, ⟨5, 5⟩,
      _, ⟨1, 3⟩, (by decide +kernel : _ = false), by decide +kernel, by decide +kernel, by decide +kernel, by decide +kernel,
      by decide +kernel, rfl, by decide +kernel⟩,
   ⟨sEnc 1, 3, 3, (by decide +kernel : _ = false), by decide +kernel⟩,
   ⟨sEnc 1, 7, 3, 4, (by decide +kernel : _ = false), by decide +kernel⟩,
   ⟨((sEnc 1).setF F.EN_STAT_REFERENCED 1 3).setF F.EN_IDX_CFG_WIN 9 3 |>.wr .EN_POS 9 3, 7, 3, 4, (by decide +kernel : _ = false),
      by decide +kernel⟩,
   ⟨((sEnc 1).setF F.EN_STAT_REFERENCED 1 3).setF F.EN_IDX_CFG_WIN 9 3 |>.wr .EN_POS 10 3, 7, 3, 4, (by decide +kernel : _ = false),
      by decide +kernel⟩,
   ⟨sEnc 1, 3, 1, (by decide +kernel : _ = false), by decide +kernel⟩,
   ⟨sEnc 3, 3, (by decide +kernel : _ = false), by decide +kernel⟩,
   ⟨sEnc 3 fun e => { e with supply := true, supplyAt := 5, lost := true }, 3, (by decide +kernel : _ = false), by decide +kernel⟩,
   ⟨sEnc 3 fun e => { e with line := true, lost := true }, 3, (by decide +kernel : _ = false), by decide +kernel⟩⟩

theorem test_HallsAndAnalogsRead :
    (∃ (s : State) (h : Fin 8) (held : Nat), Calm s ∧ held < s.hallDelay h) ∧
    (∃ (s : State) (h : Fin 8) (level : Bool) (held : Nat) (raw : Nat) (act : Nat) (code : Nat), Calm s ∧ s.hallDelay h ≤ held ∧ s.fbit
        F.H_STATE_RAW h ≠ level ∧ raw = s.fld F.H_STATE_RAW ^^^ 2 ^ h.val ∧ act = raw ^^^ s.fld F.H_CFG_POL ∧ code = act / 2 ^ s.fld
        F.H_CFG_SECT_BASE % 8 ∧ (s.fld F.H_CFG_SECT_EN = 0 ∨ code = s.fld F.H_STATE_CODE)) ∧
    (∃ (s : State) (h : Fin 8) (level : Bool) (held : Nat) (raw : Nat) (act : Nat) (code : Nat) (o : Nat) (n : Nat), Calm s ∧ s.hallDelay h
        ≤ held ∧ s.fbit F.H_STATE_RAW h ≠ level ∧ raw = s.fld F.H_STATE_RAW ^^^ 2 ^ h.val ∧ act = raw ^^^ s.fld F.H_CFG_POL ∧ code = act / 2
        ^ s.fld F.H_CFG_SECT_BASE % 8 ∧ s.fld F.H_CFG_SECT_EN = 1 ∧ code ≠ s.fld F.H_STATE_CODE ∧ s.feed.sector = some o ∧ State.sectorOf
        code = some n ∧ ((o + 1) % 6 = n ∨ (n + 1) % 6 = o) ∧ o ≠ n) ∧
    (∃ (s : State) (h : Fin 8) (level : Bool) (held : Nat) (raw : Nat) (act : Nat) (code : Nat), Calm s ∧ s.hallDelay h ≤ held ∧ s.fbit
        F.H_STATE_RAW h ≠ level ∧ raw = s.fld F.H_STATE_RAW ^^^ 2 ^ h.val ∧ act = raw ^^^ s.fld F.H_CFG_POL ∧ code = act / 2 ^ s.fld
        F.H_CFG_SECT_BASE % 8 ∧ s.fld F.H_CFG_SECT_EN = 1 ∧ code ≠ s.fld F.H_STATE_CODE ∧ State.sectorOf code = none) ∧
    (∃ (s : State) (n : Fin 8) (code : BitVec 16) (x : Int), Calm s ∧ s.fld F.AI_CFG_EN n = 1 ∧ s.fld F.AI_CFG_FILT n = 0 ∧ x = code.toInt *
        65536) ∧
    (∃ (s : State) (ch : Fin 16) (bits : List Bool), Calm s ∧ (s.fld F.SD_CFG_EN ch = 0 ∨ bits = [])) ∧
    (∃ (s : State) (ch : Fin 16) (bits : List Bool), Calm s ∧ (s.fld F.SD_CFG_EN ch = 0 ∨ bits = [])) ∧
    (∃ (s : State) (dt : Nat) (ch : Fin 16) (b : Bool) (n : Nat) (x : State) (v : Int) (high : Bool), Calm s ∧ s.fld F.SD_CFG_EN ch = 1 ∧
        s.sdClocked ch = true ∧ n = s.sdCount ch (s.sd ch).at_ ∧ n < s.sdCount ch (s.tick + dt) ∧ x =
        { s.elapse dt with pwm := { s.pwm with sd := upd s.pwm.sd ch fun y => ⟨(b :: y.bits).take 16384, 10 * n + s.sdPlace ch⟩ } } ∧
        (x.fastValue ch).1 = some v ∧ s.fld F.SD_CFG_ROLE ch ≠ 0 ∧ s.pwm.fastOut.getLsbD ch = false ∧ (if high = true then s.sg .SD_OC_HI ch
        < v else v < s.sg .SD_OC_LO ch ∧ v ≤ s.sg .SD_OC_HI ch)) ∧
    (∃ (s : State) (dt : Nat) (ch : Fin 16) (b : Bool) (n : Nat) (x : State), Calm s ∧ s.fld F.SD_CFG_EN ch = 1 ∧ s.sdClocked ch = true ∧ n
        = s.sdCount ch (s.sd ch).at_ ∧ n < s.sdCount ch (s.tick + dt) ∧ x =
        { s.elapse dt with pwm := { s.pwm with sd := upd s.pwm.sd ch fun y => ⟨(b :: y.bits).take 16384, 10 * n + s.sdPlace ch⟩ } } ∧ (b ::
        (s.sd ch).bits).take 64 = List.replicate 64 b ∧ s.pwm.stuck.getLsbD ch = false ∧ ch.val < s.pwm.sd.length) :=
  ⟨⟨sBr.wr .H_FILT 0x10000000, 7, 199, (by decide +kernel : _ = false), by decide +kernel⟩,
   ⟨sBr.setF F.H_STATE_RAW 0, 7, true, 0, 128, 128, 0, (by decide +kernel : _ = false), by decide +kernel⟩,
   ⟨(let s := ((sBr.setF F.H_CFG_SECT_EN 1).setF F.H_STATE_RAW 1).setF F.H_STATE_CODE 1;
      { s with feed := { s.feed with sector := some ((State.sectorOf 1).getD 9) } }), 1, true, 0, 3, 3, 3, (State.sectorOf 1).getD 9,
      (State.sectorOf 3).getD 9, (by decide +kernel : _ = false), by decide +kernel⟩,
   ⟨(let s := ((sBr.setF F.H_CFG_SECT_EN 1).setF F.H_STATE_RAW 1).setF F.H_STATE_CODE 1;
      { s with feed := { s.feed with sector := some ((State.sectorOf 1).getD 9) } }), 0, false, 0, 0, 0, 0, (by decide +kernel : _ = false),
      by decide +kernel⟩,
   ⟨sBr.setF F.AI_CFG_EN 1 7, 7, 0x8000, -2147483648, (by decide +kernel : _ = false), by decide +kernel⟩,
   ⟨sBr, 15, [true], (by decide +kernel : _ = false), by decide +kernel⟩,
   ⟨sBr, 15, [true], (by decide +kernel : _ = false), by decide +kernel⟩,
   ⟨sSd (List.replicate 63 true), 19, 1, true, 1, _, 0x1000000, true, (by decide +kernel : _ = false), by decide +kernel, by decide +kernel,
      (sdCount_nine _ 1 0).symm, Nat.lt_of_lt_of_eq (by decide : 1 < 2) (sdCount_nine _ 1 1).symm, rfl, by decide +kernel⟩,
   ⟨sSd (List.replicate 63 true), 19, 1, true, 1, _, (by decide +kernel : _ = false), by decide +kernel, by decide +kernel, (sdCount_nine _
      1 0).symm, Nat.lt_of_lt_of_eq (by decide : 1 < 2) (sdCount_nine _ 1 1).symm, rfl, by decide +kernel⟩⟩

/-- The 46 bits around the sample instant are here. -/
theorem sWindow_bits : (sWindow.elapseTo 247).sdWindow 1 5 = some (List.replicate 46 true) := by
  have h : ((sWindow.elapseTo 247).sd 1).at_ = 10 * 22 + 9 := by decide +kernel
  have o : (sWindow.elapseTo 247).fld F.SD_CFG_OSR 1 = 16 := by decide +kernel
  have b : ((sWindow.elapseTo 247).sd 1).bits = List.replicate 46 true := by decide +kernel
  unfold State.sdWindow
  rw [h, o, b, show 5 + 4 = 10 * 0 + 9 from rfl, sdCount_nine, sdCount_nine]
  decide +kernel

theorem test_SamplesTaken :
    (∃ (s : State) (a : Fin 4) (t0 : Nat), Calm s ∧ (s.axis a).grid = some t0 ∧ s.axSt a = aDISABLED ∧ (∀ b ∈ s.bridgesOf a, s.running b =
        false) ∧ s.opMode a = 0 ∧ (s.emr a).proveFor = none ∧ (s.ob a).aligned = none ∧ (s.axis a).waits = false ∧ s.fld F.AX_SH_CFG_MODE a
        = 0 ∧ s.awaits a (s.sampleChans a true) = true) ∧
    (∃ (s : State) (ch : Fin 16) (bits : List Bool), Calm s ∧ (∀ b h, b < 4 → (s.axis b).shot = some h → ch.val ∉ h.left) ∧ (s.fld
        F.SD_CFG_EN ch = 0 ∨ bits = [])) ∧
    (∃ (s : State) (a : Fin 4) (ch : Fin 16) (bits : List Bool) (h : Shot) (u : State) (l : List Bool) (sum : Int), Calm s ∧ (s.axis a).shot
        = some h ∧ ch.val ∈ h.left ∧ (∀ b k, b < 4 → b ≠ a.val → (s.axis b).shot = some k → ch.val ∉ k.left) ∧ u = (s.elapseTo (h.inst +
        (max 0 h.shift).toNat + 15 * s.fld F.SD_CFG_OSR ch + 2)).sdFeed ch bits ∧ Calm u ∧ (u.axis a).shot = some h ∧ u.awaits a
        (h.left.erase ch.val) = true ∧ 16 ≤ s.fld F.SD_CFG_OSR ch ∧ u.sdWindow ch ((h.inst : Int) + h.shift).toNat = some l ∧ sum = sinc
        (s.fld F.SD_CFG_OSR ch) 3 (l.map State.bitWorth)) :=
  ⟨⟨sGrid, 0, 9, (by decide +kernel : _ = false), by decide +kernel⟩,
   ⟨sGrid, 15, [true], (by decide +kernel : _ = false), fun b h l e => (by decide +kernel : ∀ b, b < 4 → ∀ h ∈ (sGrid.axis b).shot, 15 ∉
      h.left) b l h e, by decide +kernel⟩,
   ⟨sWindow, 0, 1, [], ⟨5, 0, 0, false, [0, 1]⟩, sWindow.elapseTo 247, List.replicate 46 true, 4096, (by decide +kernel : _ = false),
      by decide +kernel, by decide +kernel, fun b h l o e => (by decide +kernel : ∀ b, b < 4 → b ≠ 0 → ∀ h ∈ (sWindow.axis b).shot, 1 ∉
      h.left) b l o h e, (congrArg sWindow.elapseTo (by decide +kernel : 247 = _)).trans (sdFeed_nil _ 1).symm,
      (by decide +kernel : _ = false), by decide +kernel, by decide +kernel, by decide +kernel, sWindow_bits, by decide +kernel⟩⟩

theorem test_StatusLinesJudged :
    (∃ (s : State) (held : Nat) (levels : Lines), Calm s ∧ (∀ h, h < 48 → levels.getLsbD h ≠ s.gate.gs.getLsbD h → held < s.fld
        F.GC_CFG_FILT h)) ∧
    (∃ (s : State) (held : Nat) (levels : Lines), Calm s ∧ (∀ h, h < 48 → s.fld F.GC_CFG_FILT h ≤ held) ∧ (∀ h, h < 48 → levels.getLsbD h ≠
        s.gate.gs.getLsbD h → s.assigned h = false ∨ s.fld F.GC_CFG_MODE h = 0)) ∧
    (∃ (s : State) (dt : Nat) (held : Nat) (g : Fin 48) (lv : Bool) (levels : Lines), Calm s ∧ lv ≠ s.gate.gs.getLsbD g ∧ levels = s.gate.gs
        ^^^ 1#48 <<< g.val ∧ s.assigned g = true ∧ s.fld F.GC_CFG_MODE g = 1 ∧ s.fld F.GC_CFG_FILT g ≤ held ∧ lv ≠ s.gate.gc.getLsbD g ∧ (∀
        w ∈ (nth s.gate.chans g).wins, w.start + s.fld F.GC_CFG_BLANK g ≤ s.tick + dt)) ∧
    (∃ (s : State) (dt : Nat) (held : Nat) (g : Fin 48) (lv : Bool) (levels : Lines) (w : Win) (rt : _), Calm s ∧ lv ≠ s.gate.gs.getLsbD g ∧
        levels = s.gate.gs ^^^ 1#48 <<< g.val ∧ s.assigned g = true ∧ s.fld F.GC_CFG_MODE g = 1 ∧ s.fld F.GC_CFG_FILT g ≤ held ∧ (nth
        s.gate.chans g).wins = [w] ∧ s.tick + dt < w.start + s.fld F.GC_CFG_BLANK g ∧ w.acked = false ∧ w.on = lv ∧ lv = true ∧ (nth
        s.gate.chans g).onSeen = false ∧ rt = min (4 * (s.tick + dt - 2 - s.fld F.GC_CFG_FILT g) + 2 - w.edge) 65535 ∧ rt ≤ s.fld
        F.GATE_RT_LIM_LIM) ∧
    (∃ (s : State) (g : Fin 48) (w : Win) (rest : _), Calm s ∧ (nth s.gate.chans g).wins = w :: rest ∧ (s.assigned g = false ∨ s.fld
        F.GC_CFG_MODE g = 0)) ∧
    (∃ (s : State) (g : Fin 48) (w : Win) (rest : _), Calm s ∧ (nth s.gate.chans g).wins = w :: rest ∧ s.assigned g = true ∧ s.fld
        F.GC_CFG_MODE g = 1 ∧ w.acked = true ∧ w.latch = none ∧ s.gate.gs.getLsbD g = s.gate.gc.getLsbD g) ∧
    (∃ (s : State) (g : Fin 48) (w : Win) (rest : _) (lv : Bool) (ts : _), Calm s ∧ (nth s.gate.chans g).wins = w :: rest ∧ s.assigned g =
        true ∧ s.fld F.GC_CFG_MODE g = 1 ∧ w.acked = true ∧ w.latch = some (lv, ts) ∧ (s.gate.gs.getLsbD g ≠ lv ∨ lv = s.gate.gc.getLsbD g)) ∧
    (∃ (s : State) (g : Fin 48) (w : Win) (rest : _), Calm s ∧ (nth s.gate.chans g).wins = w :: rest ∧ s.assigned g = true ∧ s.fld
        F.GC_CFG_MODE g = 1 ∧ w.acked = false) :=
  ⟨⟨sGate 1 0 [], 1, 0x800000000000, (by decide +kernel : _ = false), by decide +kernel⟩,
   ⟨sGate 1 0 [], 2, 0x800000000000, (by decide +kernel : _ = false), by decide +kernel⟩,
   ⟨sGate 1 1 [], 7, 2, 0, false, 0, (by decide +kernel : _ = false), by decide +kernel⟩,
   ⟨{ sGate 1 0 [win false none] with tick := 100 }, 7, 2, 0, true, 1, win false none, 4 * (105 - sBr.fld F.GC_CFG_FILT 0) + 2 - 12,
      (by decide +kernel : _ = false), by decide +kernel⟩,
   ⟨(sGate 1 0 [win false none]).setF F.GC_CFG_MODE 0 0, 0, win false none, [], (by decide +kernel : _ = false), by decide +kernel⟩,
   ⟨sGate 1 1 [win true none], 0, win true none, [], (by decide +kernel : _ = false), by decide +kernel⟩,
   ⟨sGate 1 1 [win true (some (false, 9))], 0, win true (some (false, 9)), [], false, 9, (by decide +kernel : _ = false), by decide +kernel⟩,
   ⟨sGate 1 0 [win false none], 0, win false none, [], (by decide +kernel : _ = false), by decide +kernel⟩⟩

theorem test_CommandEdgesChecked :
    (∃ (s : State) (e : _) (rest : _) (k : _) (combo : _), Calm s ∧ s.pwm.edges = e :: rest ∧ k = s.slotOf e.br e.g ∧
        (combo = (s.phaseSlots e.br k).map (fun j => if j = k then e.on else s.gate.gc.getLsbD (s.slot e.br j))) ∧
        ((e.on = true → s.released e.br = true)) ∧ State.comboOk (s.fld F.BR_CFG_TYPE e.br) combo = true ∧ ((∀ off,
        (nth s.gate.chans (s.slot e.br (s.complement e.br k))).offAt = some off → e.on = true → off + s.dtMin e.br ≤ e.at_))) ∧
    (∃ (s : State) (e : _) (rest : _) (k : _) (combo : _), Calm s ∧ s.pwm.edges = e :: rest ∧ k = s.slotOf e.br e.g ∧
        (combo = (s.phaseSlots e.br k).map (fun j => if j = k then e.on else s.gate.gc.getLsbD (s.slot e.br j))) ∧ (e.on = true ∧
        s.released e.br = false ∨ State.comboOk (s.fld F.BR_CFG_TYPE e.br) combo = false)) ∧
    (∃ (s : State) (e : _) (rest : _) (k : _) (combo : _) (off : _), Calm s ∧ s.pwm.edges = e :: rest ∧ k = s.slotOf e.br e.g ∧
        (combo = (s.phaseSlots e.br k).map (fun j => if j = k then e.on else s.gate.gc.getLsbD (s.slot e.br j))) ∧ e.on = true ∧
        s.released e.br = true ∧ State.comboOk (s.fld F.BR_CFG_TYPE e.br) combo = true ∧
        (nth s.gate.chans (s.slot e.br (s.complement e.br k))).offAt = some off ∧ e.at_ < off + s.dtMin e.br) ∧
    (∃ (s : State) (t0 : _), Calm s ∧ (s.gate.offDue.filterMap id).min? = some t0) :=
  ⟨⟨sEdge true (some 100) sAsked, ⟨0, 500, true, 0⟩, [], 0, [true, false], (by decide +kernel : _ = false), by decide +kernel⟩,
   ⟨sEdge true (some 100) sBr, ⟨0, 500, true, 0⟩, [], 0, [true, false], (by decide +kernel : _ = false), by decide +kernel⟩,
   ⟨sEdge true (some 101) sAsked, ⟨0, 500, true, 0⟩, [], 0, [true, false], 101, (by decide +kernel : _ = false), by decide +kernel⟩,
   ⟨(let s := sBr.setF F.GATE_STAT_OFFSEQ 1; { s with gate := { s.gate with gc := 0x3F, offDue := s.gate.offDue.set 0 (some 77) } }), 77,
       (by decide +kernel : _ = false), by decide +kernel⟩⟩

theorem test_ChoppersAndDriverSupplies :
    (∃ (s : State) (u : State) (dt : Nat) (k : Fin 8) (bits : List (List Bool)), u = (s.elapse dt).sdFeedAll bits ∧ Calm u ∧ PacedOnce s dt
        k bits ∧ u.fld F.CHOP_CFG_ASSIGNED k = 1 ∧ (∀ j : Fin 8, j ≠ k → u.fld F.CHOP_CFG_ASSIGNED j = 0) ∧ u.fld F.CHOP_DUTY_MAX k = 100 ∧
        u.fld F.CHOP_CFG_CH k < 48 ∧ (nth u.gate.chops k).on = false ∧ u.chopReleased = true ∧ u.sg .CHOP_OFF k < u.sg .CHOP_ON k ∧ (∀ f, ∃
        v, (({ u with free := f } : State).fastLink (u.fld F.CHOP_CFG_BRIDGE k)).1 = some v ∧ u.inForce .CHOP_ON k ≤ v) ∧ u.fld
        F.CHOP_TIM_MIN_OFF k ≤ u.tick - (nth u.gate.chops k).since) ∧
    (∃ (s : State) (u : State) (dt : Nat) (k : Fin 8) (bits : List (List Bool)), u = (s.elapse dt).sdFeedAll bits ∧ Calm u ∧ PacedOnce s dt
        k bits ∧ u.fld F.CHOP_CFG_ASSIGNED k = 1 ∧ (∀ j : Fin 8, j ≠ k → u.fld F.CHOP_CFG_ASSIGNED j = 0) ∧ u.fld F.CHOP_DUTY_MAX k = 100 ∧
        u.fld F.CHOP_CFG_CH k < 48 ∧ (nth u.gate.chops k).on = true ∧ (u.chopReleased = false ∨ (∀ f, ∃ v, (({ u with free := f } :
        State).fastLink (u.fld F.CHOP_CFG_BRIDGE k)).1 = some v ∧ v ≤ u.sg .CHOP_OFF k) ∧ u.fld F.CHOP_TIM_MIN_ON k ≤ u.tick - (nth
        u.gate.chops k).since)) ∧
    (∃ (s : State), Calm s) ∧
    (∃ (s : State), Calm s) ∧
    (∃ (s : State) (mv : List Int) (held : Nat), Calm s ∧ (held < 20 ∨ (∀ n, n < 4 → (nth mv n).natAbs ≤ s.fld F.GATE_AUX_OC_LIM))) ∧
    (∃ (s : State) (mv : List Int) (held : Nat) (n : Nat), Calm s ∧ n < 4 ∧ s.fld F.GATE_AUX_OC_LIM < (nth mv n).natAbs ∧ 20 ≤ held) ∧
    (∃ (s : State) (dt : Nat), Calm s ∧ (∀ u, s.gate.auxUv = some u → u + ticksPerS < s.tick + dt)) ∧
    (∃ (s : State) (dt : Nat) (u : _), Calm s ∧ s.gate.auxUv = some u ∧ s.tick + dt ≤ u + ticksPerS) ∧
    (∃ (s : State) (b : Fin 8) (t0 : Nat), Calm s ∧ (s.bridge b).npSince = some t0) :=
  ⟨⟨sChopLate false, (sChopLate false).elapse 0, 0, 7, [], (sdFeedAll_nil _).symm, (by decide +kernel : _ = false), paced_now (d := 3)
      (by decide +kernel) (by decide +kernel), by decide +kernel, by decide +kernel, by decide +kernel, by decide +kernel,
      by decide +kernel, by decide +kernel, by decide +kernel, fun f => ⟨0x1000000, fastLink_exact ((sChopLate false).elapse 0) _ 0 3 8
      (0x1000000) (by decide +kernel) (by decide +kernel) (by decide +kernel) (by decide +kernel) (by decide) (by decide +kernel)
      (by decide +kernel) f, by decide +kernel⟩, by decide +kernel⟩,
   ⟨(sChopLate true).wr .CHOP_OFF 0x1000000 7, ((sChopLate true).wr .CHOP_OFF 0x1000000 7).elapse 0, 0, 7, [], (sdFeedAll_nil _).symm,
      (by decide +kernel : _ = false), paced_now (d := 3) (by decide +kernel) (by decide +kernel), by decide +kernel, by decide +kernel,
      by decide +kernel, by decide +kernel, by decide +kernel, Or.inr ⟨fun f => ⟨0x1000000, fastLink_exact (((sChopLate true).wr .CHOP_OFF
      0x1000000 7).elapse 0) _ 0 3 8 (0x1000000) (by decide +kernel) (by decide +kernel) (by decide +kernel) (by decide +kernel) (by decide)
      (by decide +kernel) (by decide +kernel) f, by decide +kernel⟩, by decide +kernel⟩⟩,
   ⟨sAsked, (by decide +kernel : _ = false)⟩,
   ⟨sAsked, (by decide +kernel : _ = false)⟩,
   ⟨sAsked, [201, 0, 0, 0], 19, (by decide +kernel : _ = false), by decide +kernel⟩,
   ⟨sAsked, [0, -201, 0, 0], 20, 1, (by decide +kernel : _ = false), by decide +kernel⟩,
   ⟨sAsked, 7, (by decide +kernel : _ = false), by decide +kernel⟩,
   ⟨(let s := sAsked; { s with gate := { s.gate with auxUv := some 0 } }), 7, 0, (by decide +kernel : _ = false), by decide +kernel⟩,
   ⟨sAsked.updBridge 0 fun r => { r with npSince := some 4 }, 0, 4, (by decide +kernel : _ = false), by decide +kernel⟩⟩

theorem test_TimeMessagesMeasured :
    (∃ (s : State) (h : PtpHead), Calm s ∧ s.fromMaster h = true ∧ h.moved = ⟨0, 0⟩) ∧
    (∃ (s : State) (h : PtpHead), Calm s ∧ s.fromMaster h = true ∧ h.moved = ⟨0, 0⟩) ∧
    (∃ (s : State) (h : PtpHead) (rx : Int) (c : Int), Calm s ∧ s.fromMaster h = true ∧ h.moved = ⟨0, 0⟩ ∧ s.mer.ptp.sync = some
        (h.seq.toNat, rx, c)) ∧
    (∃ (s : State) (h : PtpHead) (t3 : Int) (d : Int), Calm s ∧ s.fromMaster h = true ∧ h.moved = ⟨0, 0⟩ ∧ s.fld F.MER_CFG_P2P = 0 ∧
        s.mer.ptp.delay = some (h.port.val, h.seq.toNat, t3) ∧ s.mer.ptp.diff = some d) ∧
    (∃ (s : State) (port : Fin 2), Calm s ∧ s.sys.merClk.lost = false ∧ s.linked = true ∧ s.usesPtp = true ∧ (s.fld F.MER_CFG_PTP_PORT = 0 ∨
        s.fld F.MER_CFG_PTP_PORT = port.val + 1)) ∧
    (∃ (s : State) (h : PtpHead), Calm s ∧ s.sys.merClk.lost = false ∧ s.linked = true ∧ h.moved = ⟨0, 0⟩ ∧ s.fld F.MER_CFG_P2P = 1 ∧ s.on
        F.MER_CFG_TRANSPORT = h.udp ∧ s.fld F.MER_CFG_PTP_DOMAIN = h.domain.toNat) ∧
    (∃ (s : State) (h : PtpHead) (t1 : Int), Calm s ∧ s.sys.merClk.lost = false ∧ s.linked = true ∧ h.moved = ⟨0, 0⟩ ∧ s.usesPtp = true ∧
        s.ptpFor h = true ∧ s.fld F.MER_CFG_P2P = 1 ∧ s.mer.ptp.delay = some (h.port.val, h.seq.toNat, t1)) ∧
    (∃ (s : State) (h : PtpHead) (t1 : Int), Calm s ∧ s.sys.merClk.lost = false ∧ s.linked = true ∧ h.moved = ⟨0, 0⟩ ∧ s.usesPtp = true ∧
        s.ptpFor h = true ∧ s.fld F.MER_CFG_P2P = 1 ∧ s.mer.ptp.delay = some (h.port.val, h.seq.toNat, t1)) ∧
    (∃ (s : State) (h : PtpHead) (t1 : Int) (t4 : Int) (t2 : Int) (c : Int), Calm s ∧ s.sys.merClk.lost = false ∧ s.linked = true ∧ h.moved
        = ⟨0, 0⟩ ∧ s.usesPtp = true ∧ s.ptpFor h = true ∧ s.fld F.MER_CFG_P2P = 1 ∧ s.mer.ptp.delay = some (h.port.val, h.seq.toNat, t1) ∧
        s.mer.ptp.pdelay = some (h.seq.toNat, t4, t2, c)) :=
  ⟨⟨sMer 1 2, ptpHead, (by decide +kernel : _ = false), by decide +kernel⟩,
   ⟨sMer 1 2, ptpHead, (by decide +kernel : _ = false), by decide +kernel⟩,
   ⟨sMer 1 2 (fun m => { m with ptp := { m.ptp with sync := some (9, 5000000600, 3) } }), ptpHead, 5000000600, 3,
      (by decide +kernel : _ = false), by decide +kernel⟩,
   ⟨sMer 3 2 (fun m => { m with ptp := { m.ptp with delay := some (0, 9, 5000000100), diff := some 50 } }), ptpHead, 5000000100, 50,
      (by decide +kernel : _ = false), by decide +kernel⟩,
   ⟨sMer 1 2, 1, (by decide +kernel : _ = false), by decide +kernel⟩,
   ⟨(sMer 1 2).setF F.MER_CFG_P2P 1, ptpHead, (by decide +kernel : _ = false), by decide +kernel⟩,
   ⟨(sMer 1 2 (fun m => { m with ptp := { m.ptp with delay := some (0, 9, 5000000100) } })).setF F.MER_CFG_P2P 1, ptpHead, 5000000100,
      (by decide +kernel : _ = false), by decide +kernel⟩,
   ⟨(sMer 1 2 (fun m => { m with ptp := { m.ptp with delay := some (0, 9, 5000000100) } })).setF F.MER_CFG_P2P 1, ptpHead, 5000000100,
      (by decide +kernel : _ = false), by decide +kernel⟩,
   ⟨(sMer 1 2 (fun m =>
      { m with ptp := { m.ptp with delay := some (0, 9, 5000000100), pdelay := some (9, 5000000400, 5000000200, 4) } })).setF F.MER_CFG_P2P
      1, ptpHead, 5000000100, 5000000400, 5000000200, 4, (by decide +kernel : _ = false), by decide +kernel⟩⟩

theorem test_MeridianKeepsTime :
    (∃ (s : State) (dt : Nat) (h : PtpHead) (rank : List Nat) (interval : Nat) (fresh : _), Calm s ∧ s.usesPtp = true ∧ s.ptpFor h = true ∧
        h.moved = ⟨0, 0⟩ ∧ fresh = Transmitter.mk h.id h.port.val (rank ++ [h.port.val]) (s.tick + dt) (interval * 1562500) ∧ (∀ b,
        s.mer.best = some b → (b.id = h.id ∧ b.port = h.port.val) ∨ lexLess fresh.rank b.rank = true ∨ b.heard + 3 * b.interval ≤ s.tick +
        dt)) ∧
    (∃ (s : State) (x : _) (t0 : Nat), Calm s ∧ s.sys.merClk.lost = false ∧ s.fld F.MER_CFG_SRC = 2 ∧ s.mer.set = some (x, t0)) ∧
    (∃ (s : State), Calm s ∧ s.sys.merClk.lost = false ∧ s.fld F.MER_CFG_SRC = 2 ∧ s.mer.set = none) ∧
    (∃ (s : State), Calm s ∧ (s.mst = mLOCKED ∨ s.mst = mACQUIRING)) ∧
    (∃ (s : State), Calm s ∧ s.mst = mHOLDOVER) ∧
    (∃ (s : State) (sec : _), Calm s ∧ s.sys.merClk.lost = false ∧ s.fld F.MER_CFG_PPS_OUT_EN = 1 ∧ (s.mst = mLOCKED ∨ s.mst = mHOLDOVER) ∧
        sec = (s.merTime.toNat + nsPerS - 1) / nsPerS ∧ sec ≠ s.mer.ppsSec) :=
  ⟨⟨sMer 1 0, 7, { ptpHead with id := 78 }, [1, 1], 64, ⟨78, 0, [1, 1, 0], 7, 100000000⟩, (by decide +kernel : _ = false), by decide +kernel⟩,
   ⟨sMer 2 2 (fun m => { m with set := some (99, 5) }), 99, 5, (by decide +kernel : _ = false), by decide +kernel⟩,
   ⟨sMer 2 2, (by decide +kernel : _ = false), by decide +kernel⟩,
   ⟨sMer 1 2 (fun m => { m with last := 9 }), (by decide +kernel : _ = false), by decide +kernel⟩,
   ⟨sMer 1 3 (fun m => { m with held := 9 }), (by decide +kernel : _ = false), by decide +kernel⟩,
   ⟨(sMer 1 2).setF F.MER_CFG_PPS_OUT_EN 1, 6, (by decide +kernel : _ = false), by decide +kernel⟩⟩

theorem test_CanFramesReceivedAndSent :
    (∃ (s : State) (n : Fin 2) (id : BitVec 29) (ide : Bool) (rtr : Bool) (fdf : Bool) (brs : Bool) (esi : Bool) (dlc : Fin 16) (data : List Byte) (f : State.BusFrame), Calm s ∧ f = ⟨id.toNat, ide, rtr, fdf, brs, esi, dlc, data⟩ ∧ s.canOn n = true ∧ s.fld F.CAN_CTRL_MODE n ≠ 2 ∧ (s.canR n).attempt = none ∧ (s.canR n).recOver = false ∧ s.isReference n f = false ∧ s.isRequest n f = false ∧ ((∀ k, k < 64 → s.mbMatch n k f = false))) ∧
    (∃ (s : State) (n : Fin 2) (id : BitVec 29) (ide : Bool) (rtr : Bool) (fdf : Bool) (brs : Bool) (esi : Bool) (dlc : Fin 16) (data : List Byte) (f : State.BusFrame) (k : Fin 64) (len : _) (ws : _), Calm s ∧ f = ⟨id.toNat, ide, rtr, fdf, brs, esi, dlc, data⟩ ∧ s.canOn n = true ∧ s.fld F.CAN_CTRL_MODE n ≠ 2 ∧ (s.canR n).attempt = none ∧ (s.canR n).recOver = false ∧ s.isReference n f = false ∧ s.isRequest n f = false ∧ (s.canCmd n = false ∨ k.val < 62) ∧ s.mbMatch n k f = true ∧ s.mbLocked n k = false ∧ (s.mb0 n k 2 2 = 0 ∨ s.mb0 n k 5 5 = 1) ∧ ((∀ j, j < k.val → s.mbMatch n j f = true → s.mbLocked n j = true ∨ s.mb0 n j 2 2 = 1 ∧ s.mb0 n j 5 5 = 0)) ∧ (len = (if rtr = true then 0 else State.dlcBytes fdf dlc)) ∧ ws = wordsOf 16 (data.take len)) ∧
    (∃ (s : State) (n : Fin 2) (id : BitVec 29) (ide : Bool) (rtr : Bool) (fdf : Bool) (brs : Bool) (esi : Bool) (dlc : Fin 16) (data : List Byte) (f : State.BusFrame) (k : Fin 64), Calm s ∧ f = ⟨id.toNat, ide, rtr, fdf, brs, esi, dlc, data⟩ ∧ s.canOn n = true ∧ s.fld F.CAN_CTRL_MODE n ≠ 2 ∧ (s.canR n).attempt = none ∧ (s.canR n).recOver = false ∧ s.isReference n f = false ∧ s.isRequest n f = false ∧ (s.canCmd n = false ∨ k.val < 62) ∧ s.mbMatch n k f = true ∧ ((∀ j, j < k.val → s.mbMatch n j f = false)) ∧ ((∀ j, j < 64 → s.mbMatch n j f = true → s.mbLocked n j = true ∨ s.mb0 n j 2 2 = 1 ∧ s.mb0 n j 5 5 = 0))) ∧
    (∃ (s : State) (n : Fin 2) (k : Fin 64), Calm s ∧ s.canOn n = true ∧ (s.canR n).attempt = none ∧ s.fld F.CAN_CTRL_MODE n ≠ 1 ∧
        s.fld F.CAN_CTRL_TT_EN n = 0 ∧ s.canCmd n = false ∧ s.mbPending n k = true ∧ ((∀ j,
        j < 64 → s.mbPending n j = true → State.idKey (s.offerId n k).1 (s.offerId n k).2 < State.idKey (s.offerId n j).1 (s.offerId n j).2 ∨ State.idKey (s.offerId n k).1 (s.offerId n k).2 = State.idKey (s.offerId n j).1 (s.offerId n j).2 ∧ k.val ≤ j))) ∧
    (∃ (s : State) (n : Fin 2) (x : _), Calm s ∧ (s.canR n).attempt = some x ∧ x.mb < 64 ∧ x.cancel = false) ∧
    (∃ (s : State) (n : Fin 2) (x : _), Calm s ∧ (s.canR n).attempt = some x ∧ x.mb < 64 ∧ x.cancel = true) ∧
    (∃ (s : State) (n : Fin 2) (x : _), Calm s ∧ (s.canR n).attempt = some x ∧ x.mb < 64 ∧ (s.canCmd n = false ∨ x.mb ≠ 63) ∧
        s.fld F.CAN_CTRL_SELF_RX n = 0 ∧ s.fld F.CAN_CTRL_MODE n ≠ 2) :=
  ⟨⟨sBuf 9 1 0 (sCan) |>.wr .CAN_MB 5 (State.mbIx 1 9 20) |>.wr .CAN_MB 0x1FFFFFFF (State.mbIx 1 9 21), 1, 6, false, false, false, false,
      false, 8, [1, 2, 3, 4, 5, 6, 7, 8], ⟨6, false, false, false, false, false, 8, [1, 2, 3, 4, 5, 6, 7, 8]⟩,
      (by decide +kernel : _ = false), by decide +kernel⟩,
   ⟨sBuf 9 1 0 (sCan) |>.wr .CAN_MB 5 (State.mbIx 1 9 20) |>.wr .CAN_MB 0x1FFFFFFF (State.mbIx 1 9 21), 1, 5, false, false, true, false,
       false, 9, [1, 2, 3, 4, 5, 6, 7, 8, 9, 10, 11, 12], ⟨5, false, false, true, false, false, 9, [1, 2, 3, 4, 5, 6, 7, 8, 9, 10, 11,
       12]⟩, 9, 12, wordsOf 16 [1, 2, 3, 4, 5, 6, 7, 8, 9, 10, 11, 12], (by decide +kernel : _ = false), by decide +kernel⟩,
   ⟨sBuf 9 5 0 (sCan) |>.wr .CAN_MB 5 (State.mbIx 1 9 20) |>.wr .CAN_MB 0x1FFFFFFF (State.mbIx 1 9 21), 1, 5, false, false, false, false,
       false, 8, [1, 2, 3, 4, 5, 6, 7, 8], ⟨5, false, false, false, false, false, 8, [1, 2, 3, 4, 5, 6, 7, 8]⟩, 9,
       (by decide +kernel : _ = false), by decide +kernel⟩,
   ⟨sBuf 63 0x10802 5 (sBuf 62 0x10802 6 sCan), 1, 63, (by decide +kernel : _ = false), by decide +kernel⟩,
   ⟨sBuf 63 0x802 5 (sCan fun c => { c with attempt := some ⟨63, 9, false⟩ }), 1, ⟨63, 9, false⟩, (by decide +kernel : _ = false),
       by decide +kernel⟩,
   ⟨sBuf 63 0x802 5 (sCan fun c => { c with attempt := some ⟨63, 9, true⟩ }), 1, ⟨63, 9, true⟩, (by decide +kernel : _ = false),
       by decide +kernel⟩,
   ⟨sBuf 31 0x8802 5 (sCan fun c => { c with attempt := some ⟨31, 9, true⟩ }), 1, ⟨31, 9, true⟩, (by decide +kernel : _ = false),
       by decide +kernel⟩⟩

theorem test_ErrorsConfine :
    (∃ (s : State) (n : Fin 2) (dom : Bool) (rec_ : _), Calm s ∧ s.canOn n = true ∧ (s.canR n).initAsk = false ∧
        (s.canR n).recOver = false ∧ (s.canR n).attempt = none ∧ s.fld F.CAN_CTRL_MODE n ≠ 1 ∧ s.fld F.CAN_ERRCNT_TEC n ≤ 255 ∧
        (rec_ = s.fld F.CAN_ERRCNT_REC n + (if dom = true then 8 else 1))) ∧
    (∃ (s : State) (n : Fin 2) (x : _), Calm s ∧ s.canOn n = true ∧ (s.canR n).initAsk = false ∧ (s.canR n).recOver = false ∧
        (s.canR n).attempt = some x ∧ x.mb < 64 ∧ x.cancel = false) ∧
    (∃ (s : State) (n : Fin 2), Calm s ∧ s.canOn n = true ∧ ((∀ x, (s.canR n).attempt = some x → x.cancel = false))) ∧
    (∃ (s : State) (n : Fin 2), Calm s ∧ s.fld F.CAN_STAT_STATE n = 2 ∧ s.fld F.CAN_CTRL_AUTO_REC n = 1) ∧
    (∃ (s : State) (n : Fin 2), Calm s ∧ s.fld F.CAN_STAT_STATE n = 2 ∧ s.fld F.CAN_CTRL_AUTO_REC n = 0) :=
  ⟨⟨(sCan).setF F.CAN_ERRCNT_REC 120 1, 1, true, 128, (by decide +kernel : _ = false), by decide +kernel⟩,
   ⟨(sBuf 31 0x8802 5 (sCan fun c => { c with attempt := some ⟨31, 9, false⟩ })).setF F.CAN_ERRCNT_TEC 248 1, 1, ⟨31, 9, false⟩,
       (by decide +kernel : _ = false), by decide +kernel⟩,
   ⟨sCan, 1, (by decide +kernel : _ = false), by decide +kernel⟩,
   ⟨sCan.setF F.CAN_STAT_STATE 2 1, 1, (by decide +kernel : _ = false), by decide +kernel⟩,
   ⟨(sCan.setF F.CAN_STAT_STATE 2 1).setF F.CAN_CTRL_AUTO_REC 0 1, 1, (by decide +kernel : _ = false), by decide +kernel⟩⟩

theorem test_ScheduleRuns :
    (∃ (s : State) (n : Fin 2) (len : _) (ph : _) (now : _), Calm s ∧ s.fld F.CAN_CTRL_TT_EN n = 1 ∧ s.canInit n = false ∧
        len = 1000 * s.fld F.CAN_TT_CFG_CYC_LEN n ∧ ph = 1000 * s.fld F.CAN_TT_PHASE_PHASE n ∧ now = s.meridian.toNat ∧ len ≠ 0 ∧
        ph ≤ now ∧ s.fld F.CAN_TT_CFG_REF n ≠ 1 ∧ s.mst ≠ mFREE) ∧
    (∃ (s : State) (n : Fin 2), Calm s ∧ s.fld F.CAN_CTRL_TT_EN n = 1 ∧ s.canInit n = false ∧ s.fld F.CAN_TT_CFG_CYC_LEN n ≠ 0 ∧
        s.fld F.CAN_TT_CFG_REF n = 1 ∧ s.fld F.CAN_TT_STAT_SYNC n = 1) ∧
    (∃ (s : State) (n : Fin 2) (k : Fin 16), Calm s ∧ s.fld F.CAN_CTRL_TT_EN n = 1 ∧ s.canInit n = false ∧
        s.fld F.CAN_TT_STAT_SYNC n = 1 ∧ (s.canR n).next ≤ k.val ∧ s.ttUsed n k = true ∧ ((∀ j,
        j < k.val → (s.canR n).next ≤ j → s.ttUsed n j = false))) ∧
    (∃ (s : State) (n : Fin 2) (k : _) (e : _) (b : _), Calm s ∧ s.fld F.CAN_CTRL_TT_EN n = 1 ∧ s.canInit n = false ∧
        (s.canR n).col = some k ∧ s.ttEntry n (s.fld F.CAN_TT_STAT_CYCLE n) k = (e, b) ∧ e = 1 ∧ s.mbPending n b = true ∧
        (s.canR n).tried.contains b = false) ∧
    (∃ (s : State) (n : Fin 2) (k : _) (e : _) (b : _), Calm s ∧ s.fld F.CAN_CTRL_TT_EN n = 1 ∧ s.canInit n = false ∧
        (s.canR n).col = some k ∧ s.ttEntry n (s.fld F.CAN_TT_STAT_CYCLE n) k = (e, b) ∧
        (e ≠ 1 ∨ s.mbPending n b = false ∨ (s.canR n).tried.contains b = true)) :=
  ⟨⟨sTt 0, 1, 1000000, 0, 1500000, (by decide +kernel : _ = false), by decide +kernel⟩,
   ⟨(sTt 1).setF F.CAN_TT_STAT_SYNC 1 1, 1, (by decide +kernel : _ = false), by decide +kernel⟩,
   ⟨(sTt 0).setF F.CAN_TT_STAT_SYNC 1 1, 1, 15, (by decide +kernel : _ = false), by decide +kernel⟩,
   ⟨sBuf 5 0x802 5 ((sTt 0 (fun c => { c with col := some 15 })).wr .CAN_TT_MTX 0x45000000 259), 1, 15, 1, 5,
       (by decide +kernel : _ = false), by decide +kernel⟩,
   ⟨sTt 0 (fun c => { c with col := some 15 }), 1, 15, 0, 0, (by decide +kernel : _ = false), by decide +kernel⟩⟩

theorem test_IoCommandsAct :
    (∃ (s : State) (p : Pkt) (role : Role), Calm s ∧ Carried s cmdIoRead p role) ∧
    (∃ (s : State) (p : Pkt) (role : Role) (mask : _) (v : _), Calm s ∧ Carried s cmdIoWrite p role ∧ mask = nth p.payload 0 ∧
        v = nth p.payload 1 ∧ p.rivals = [] ∧ mask &&& wd (s.fld F.CMP_OUT_SEL_DO_MASK) = 0 ∧ v &&& 0xFFFF0000 = 0 ∧
        s.reiniting 0x15 0 = false) ∧
    (∃ (s : State) (p : Pkt) (role : Role), Calm s ∧ Carried s cmdIoRestore p role ∧ s.fio.vfLow = false ∧ s.reiniting 0x15 0 = false) :=
  ⟨⟨sFio, pkt 0x0700 [], .maker, (by decide +kernel : _ = false), carried_of (by decide +kernel)⟩,
   ⟨sFio, pkt 0x0701 [0x8001, 1], .maker, 0x8001, 1, (by decide +kernel : _ = false), carried_of (by decide +kernel), by decide +kernel⟩,
   ⟨sFio, pkt 0x0702 [0x8001], .maker, (by decide +kernel : _ = false), carried_of (by decide +kernel), by decide +kernel⟩⟩

theorem test_FieldFramesAct :
    (∃ (s : State) (dt : Nat) (at_ : Nat) (own : BitVec 16) (levels : BitVec 16) (settings : FieldSet) (o : FieldOut), Calm s ∧ s.linked =
        true ∧ at_ = max (s.tick + dt) (s.fio.outAt + 100 * ticksPerUs) ∧ settings = ⟨s.rd .FIO_SAFE, s.rd .FIO_CFG, [s.rd .FIO_DI_FILT 0,
        s.rd .FIO_DI_FILT 1, s.rd .FIO_DI_FILT 2], s.rd .FIO_DI_WB⟩ ∧ own = BitVec.ofNat 16 (s.fld F.CMP_OUT_SEL_DO_MASK) ∧ levels =
        (s.fio.cmpLv &&& own) ||| (BitVec.ofNat 16 (s.fld F.FIO_DO_CMD) &&& ~~~own) ∧ s.fio.sent = some o) ∧
    (∃ (s : State) (dt : Nat) (at_ : Nat) (own : BitVec 16) (levels : BitVec 16) (settings : FieldSet) (o : FieldOut), Calm s ∧ s.linked =
        true ∧ at_ = max (s.tick + dt) (s.fio.outAt + 100 * ticksPerUs) ∧ settings = ⟨s.rd .FIO_SAFE, s.rd .FIO_CFG, [s.rd .FIO_DI_FILT 0,
        s.rd .FIO_DI_FILT 1, s.rd .FIO_DI_FILT 2], s.rd .FIO_DI_WB⟩ ∧ own = BitVec.ofNat 16 (s.fld F.CMP_OUT_SEL_DO_MASK) ∧ levels =
        (s.fio.cmpLv &&& own) ||| (BitVec.ofNat 16 (s.fld F.FIO_DO_CMD) &&& ~~~own) ∧ s.fio.sent = some o) ∧
    (∃ (s : State) (dt : Nat) (at_ : Nat) (own : BitVec 16) (levels : BitVec 16) (settings : FieldSet), Calm s ∧ s.linked = true ∧ at_ = max
        (s.tick + dt) (s.fio.outAt + 100 * ticksPerUs) ∧ settings = ⟨s.rd .FIO_SAFE, s.rd .FIO_CFG, [s.rd .FIO_DI_FILT 0, s.rd .FIO_DI_FILT
        1, s.rd .FIO_DI_FILT 2], s.rd .FIO_DI_WB⟩ ∧ own = BitVec.ofNat 16 (s.fld F.CMP_OUT_SEL_DO_MASK) ∧ levels = (s.fio.cmpLv &&& own) |||
        (BitVec.ofNat 16 (s.fld F.FIO_DO_CMD) &&& ~~~own) ∧ s.fio.sent = none) ∧
    (∃ (s : State) (dt : Nat) (at_ : _), Calm s ∧ s.sys.phase ≠ .unpowered ∧ s.linked = true ∧ at_ = max (s.tick + dt) (s.fio.inAt + 100 *
        ticksPerUs) ∧ s.fio.back = none) ∧
    (∃ (s : State) (dt : Nat) (at_ : _) (b : FieldIn), Calm s ∧ s.sys.phase ≠ .unpowered ∧ s.linked = true ∧ at_ = max (s.tick + dt)
        (s.fio.inAt + 100 * ticksPerUs) ∧ s.fio.back = some b ∧ s.fld F.FIO_STAT_LINK = 1 ∧ b.fault = false) ∧
    (∃ (s : State) (dt : Nat) (at_ : _) (b : FieldIn), Calm s ∧ s.sys.phase ≠ .unpowered ∧ s.linked = true ∧ at_ = max (s.tick + dt)
        (s.fio.inAt + 100 * ticksPerUs) ∧ s.fio.back = some b ∧ b.fault = true ∧ s.fld F.FIO_STAT_FIO_FAULT = 0) ∧
    (∃ (s : State) (dt : Nat) (at_ : _) (b : FieldIn), Calm s ∧ s.sys.phase ≠ .unpowered ∧ s.linked = true ∧ at_ = max (s.tick + dt)
        (s.fio.inAt + 100 * ticksPerUs) ∧ s.fio.back = some b ∧ s.fld F.FIO_STAT_LINK = 0 ∧ b.fault = false) ∧
    (∃ (s : State) (dt : Nat) (at_ : _) (b : FieldIn), Calm s ∧ s.sys.phase ≠ .unpowered ∧ s.linked = true ∧ at_ = max (s.tick + dt)
        (s.fio.inAt + 100 * ticksPerUs) ∧ s.fio.back = some b) ∧
    (∃ (s : State), Calm s ∧ s.sys.phase ≠ .unpowered) :=
  ⟨⟨(sFio fun f => { f with restore := 2, wake := 1, safe := 0xFF, heldOff := 0xF }).setF F.FIO_DO_CMD 5, 7, _, 0, 5, _, ⟨3, 4, 8, fieldOfSet⟩,
      (by decide +kernel : _ = false), by decide +kernel, rfl, rfl, by decide +kernel⟩,
   ⟨(sFio fun f => { f with restore := 2, wake := 1, safe := 0xFF, heldOff := 0xF }).setF F.FIO_DO_CMD 5, 7, _, 0, 5, _, ⟨3, 4, 8,
      fieldOfSet⟩, (by decide +kernel : _ = false), by decide +kernel, rfl, rfl, by decide +kernel⟩,
   ⟨(sFio fun f => { f with sent := none }).setF F.FIO_DO_CMD 5, 7, _, 0, 5, _, (by decide +kernel : _ = false), by decide +kernel, rfl,
      rfl, by decide +kernel⟩,
   ⟨sFio fun f => { f with back := none }, 7, _, (by decide +kernel : _ = false), by decide +kernel, by decide +kernel, rfl,
      by decide +kernel⟩,
   ⟨sFio, 7, _, ⟨0xF, 0x1, false⟩, (by decide +kernel : _ = false), by decide +kernel, by decide +kernel, rfl, by decide +kernel⟩,
   ⟨sFio fun f => { f with back := some ⟨0xF, 0x1, true⟩ }, 7, _, ⟨0xF, 0x1, true⟩, (by decide +kernel : _ = false), by decide +kernel,
      by decide +kernel, rfl, by decide +kernel⟩,
   ⟨sFio.setF F.FIO_STAT_LINK 0, 7, _, ⟨0xF, 0x1, false⟩, (by decide +kernel : _ = false), by decide +kernel, by decide +kernel, rfl,
      by decide +kernel⟩,
   ⟨sFio, 7, _, ⟨0xF, 0x1, false⟩, (by decide +kernel : _ = false), by decide +kernel, by decide +kernel, rfl, by decide +kernel⟩,
   ⟨sFio.setF F.FIO_DI_WB_EN 0xFFF000, (by decide +kernel : _ = false), by decide +kernel⟩⟩

theorem test_FieldLimitsAct :
    (∃ (s : State) (ma : List Nat) (held : Nat) (hot : BitVec 16) (heavy : Nat → Bool), Calm s ∧ s.sys.phase ≠ .unpowered ∧ (∀ n, n < 16 →
        heavy n = (s.doLevel n && (hot.getLsbD n || decide (10 * ticksPerMs < held) && (decide (1200 ≤ nth ma n) || decide (1500 < ((ma.drop
        (4 * (n / 4))).take 4).sum))))) ∧ (∀ n, n < 16 → heavy n = false)) ∧
    (∃ (s : State) (ma : List Nat) (held : Nat) (hot : BitVec 16) (heavy : Nat → Bool), Calm s ∧ s.sys.phase ≠ .unpowered ∧ (∀ n, n < 16 →
        heavy n = (s.doLevel n && (hot.getLsbD n || decide (10 * ticksPerMs < held) && (decide (1200 ≤ nth ma n) || decide (1500 < ((ma.drop
        (4 * (n / 4))).take 4).sum))))) ∧ (∃ n, n < 16 ∧ heavy n = true)) ∧
    (∃ (s : State), Calm s ∧ s.sys.phase ≠ .unpowered) ∧
    (∃ (s : State) (mv : Nat) (held : Nat), Calm s ∧ s.sys.phase ≠ .unpowered ∧ mv < 18000 ∧ ticksPerMs < held) ∧
    (∃ (s : State) (mv : Nat) (held : Nat), Calm s ∧ s.sys.phase ≠ .unpowered ∧ (18000 ≤ mv ∨ held ≤ ticksPerMs)) ∧
    (∃ (s : State) (mv : Nat) (held : Nat), Calm s ∧ s.sys.phase ≠ .unpowered ∧ s.fio.vfLow = true ∧ 19500 < mv ∧ 10 * ticksPerMs ≤ held) ∧
    (∃ (s : State) (mv : Nat) (held : Nat), Calm s ∧ s.sys.phase ≠ .unpowered ∧ (mv ≤ 19500 ∨ held < 10 * ticksPerMs)) ∧
    (∃ (s : State), Calm s ∧ s.sys.phase ≠ .unpowered ∧ s.sys.phase = .up ∧ s.fio.silent = false) ∧
    (∃ (s : State), Calm s ∧ s.sys.phase ≠ .unpowered ∧ s.linked = true ∧ s.fio.lost = false) :=
  ⟨⟨sFio fun f => { f with cmd := 3, safe := 0 }, 1200 :: List.replicate 15 0, 2000000, 0, fun _ => false, (by decide +kernel : _ = false),
      by decide +kernel⟩,
   ⟨sFio fun f => { f with cmd := 3, safe := 0 }, 1200 :: List.replicate 15 0, 2000001, 2, fun n => decide (n < 2),
      (by decide +kernel : _ = false), by decide +kernel⟩,
   ⟨sFio, (by decide +kernel : _ = false), by decide +kernel⟩,
   ⟨sFio, 17999, 200001, (by decide +kernel : _ = false), by decide +kernel⟩,
   ⟨sFio, 17999, 200000, (by decide +kernel : _ = false), by decide +kernel⟩,
   ⟨sFio fun f => { f with vfLow := true, heldOff := 0xFFFF, set := { f.set with cfg := 0x80010000 } }, 19501, 2000000,
      (by decide +kernel : _ = false), by decide +kernel⟩,
   ⟨sFio fun f => { f with vfLow := true }, 19501, 1999999, (by decide +kernel : _ = false), by decide +kernel⟩,
   ⟨(sFio fun f => { f with fieldAt := 3, cmd := 0xFF00 }).wr .FIO_SAFE 0x9999, (by decide +kernel : _ = false), by decide +kernel⟩,
   ⟨sFio, (by decide +kernel : _ = false), by decide +kernel⟩⟩

theorem test_StoInputsAndDemandsEnd :
    (∃ (s : State) (held : Nat), Calm s ∧ held < s.stoLowTime) ∧
    (∃ (s : State) (held : Nat) (chB : Bool), Calm s ∧ s.stoLowTime ≤ held ∧ s.fbit F.LAN_STO_IN_REL (b2n chB) = false) ∧
    (∃ (s : State) (held : Nat) (chB : Bool), Calm s ∧ s.stoLowTime ≤ held ∧ s.fbit F.LAN_STO_IN_REL (b2n chB) = true ∧ s.stoOn = false ∧
        (s.inputFunc = false ∨ s.hasFunc 1 = false)) ∧
    (∃ (s : State) (held : Nat) (chB : Bool), Calm s ∧ s.stoLowTime ≤ held ∧ s.fbit F.LAN_STO_IN_REL (b2n chB) = true ∧ s.stoOn = false ∧
        s.inputFunc = true ∧ s.hasFunc 1 = true ∧ s.lan.ss1 = none) ∧
    (∃ (s : State) (held : Nat) (chB : Bool), Calm s ∧ s.stoLowTime ≤ held ∧ s.fbit F.LAN_STO_IN_REL (b2n chB) = true ∧ s.stoOn = true) ∧
    (∃ (s : State) (held : Nat), Calm s ∧ held < 10 * ticksPerMs) ∧
    (∃ (s : State) (held : Nat), Calm s ∧ 10 * ticksPerMs ≤ held) ∧
    (∃ (s : State) (t0 : _), Calm s ∧ s.lan.diffSince = some t0 ∧ s.nonsafe = false ∧ s.fld F.LAN_STAT_DISC = 0) ∧
    (∃ (s : State) (q : _), s.stoOn = false ∧ s.lan.ss1 = some q ∧ (∀ n, n < 4 → nth q.axes n = true → ∃ v, s.safeOf n = some v ∧ (v.natAbs
        : Int) ≤ (s.par 7).toInt)) ∧
    (∃ (s : State) (q : _), s.stoOn = false ∧ s.lan.ss1 = some q ∧ (∃ n, n < 4 ∧ nth q.axes n = true ∧ ∀ v, s.safeOf n = some v → (s.par
        7).toInt < v.natAbs)) ∧
    (∃ (s : State) (t0 : _), s.lan.doneWait = true ∧ s.stoOn = true ∧ (s.gate.offDue.filterMap id).min? = some t0 ∧ (∀ b, b < 8 → s.fbit
        F.GATE_STAT_OFFSEQ b = true → s.gate.offDue[b]? = some (some t0)) ∧ (s.dev = dARMED ∨ s.dev = dRUN)) :=
  ⟨⟨sLan connWords, 3999, (by decide +kernel : _ = false), by decide +kernel⟩,
   ⟨sLan connWords |>.setF F.LAN_STO_IN_REL 1, 4000, true, (by decide +kernel : _ = false), by decide +kernel⟩,
   ⟨(sLan [(5, 0x00320000)]), 4000, true, (by decide +kernel : _ = false), by decide +kernel⟩,
   ⟨sLan connWords, 4000, true, (by decide +kernel : _ = false), by decide +kernel⟩,
   ⟨(sLan connWords).setF F.LAN_STAT_STO_ACTIVE 1, 4000, true, (by decide +kernel : _ = false), by decide +kernel⟩,
   ⟨(sLan connWords).setF F.LAN_STO_IN_REL 0, 1999999, (by decide +kernel : _ = false), by decide +kernel⟩,
   ⟨(sLan connWords).setF F.LAN_STO_IN_REL 0, 2000000, (by decide +kernel : _ = false), by decide +kernel⟩,
   ⟨sLan connWords fun l => { l with diffSince := some 5 }, 5, (by decide +kernel : _ = false), by decide +kernel⟩,
   ⟨sDem 0 0xFFFFFF9C, demand, by decide +kernel, by decide +kernel, fun n h e => (by decide +kernel : ∀ n, n < 4 → nth demand.axes n = true
      → ∃ v ∈ (sDem 0 0xFFFFFF9C).safeOf n, (v.natAbs : Int) ≤ ((sDem 0 0xFFFFFF9C).par 7).toInt) n h e⟩,
   ⟨sDem 1 0, demand, by decide +kernel, by decide +kernel, ⟨0, by decide, by decide, fun v e => (by decide +kernel : ∀ v ∈ (sDem 1
      0).safeOf 0, ((sDem 1 0).par 7).toInt < v.natAbs) v e⟩⟩,
   ⟨(let s := ((sLan connWords fun l => { l with doneWait := true }).setF F.LAN_STAT_STO_ACTIVE 1).setF F.GATE_STAT_OFFSEQ 1; { s with gate
      := { s.gate with offDue := s.gate.offDue.set 0 (some 9) } }), 9, by decide +kernel⟩⟩

theorem test_SafeSpeedsAndBrakes :
    (∃ (s : State), Calm s ∧ (∀ b, b < 8 → s.running b = false) ∧ (∀ n, n < 4 → bitOf (s.parAx n 0) 2 = false)) ∧
    (∃ (s : State) (n : Fin 4) (ch : _) (c : _) (old : _), Calm s ∧ (∀ b, b < 8 → s.running b = false) ∧ bitOf (s.parAx n 0) 2 = true ∧ ch =
        bitsOf (s.parAx n 0) 1 0 ∧ s.fld F.EN_STAT_VALID ch = 1 ∧ (s.parAx n 1).toNat * (s.parAx n 2).toNat ≠ 0 ∧ c = s.counter ch ∧ old =
        (nth s.lan.ax n).counts.getLastD c) ∧
    (∃ (s : State) (dt : Nat) (bits : List (List Bool)) (u : State), Calm s ∧ u = (s.elapseFrom dt (s.lan.cmpAt + ticksPerMs)).sdFeedAll
        bits ∧ Calm u ∧ (∀ b, b < 8 → u.running b = true → u.envValid = true → ∀ f v, (({ u with free := f } : State).fastLink b).1 = some v
        → u.sg .LAN_ENV_VDC_LO b ≤ v)) ∧
    (∃ (s : State) (dt : Nat) (bits : List (List Bool)) (u : State) (b : Fin 8), Calm s ∧ u = (s.elapseFrom dt (s.lan.cmpAt +
        ticksPerMs)).sdFeedAll bits ∧ Calm u ∧ u.running b = true ∧ u.envValid = true ∧ (∀ f, ∃ v, (({ u with free := f } : State).fastLink
        b).1 = some v ∧ v < u.sg .LAN_ENV_VDC_LO b) ∧ nth u.lan.vdcLow b = 9 ∧ (∀ c, c < 8 → c ≠ b.val → u.running c = false)) ∧
    (∃ (s : State), Calm s ∧ s.fld F.LAN_SBC_ON = 3 ∧ s.brakeCond = true ∧ s.nonsafe = false) ∧
    (∃ (s : State), Calm s ∧ s.fld F.LAN_SBC_ON = 3 ∧ s.brakeCond = true ∧ s.nonsafe = false) ∧
    (∃ (s : State) (outB : Bool) (energised : Bool), Calm s ∧ (s.brakeCond = true ∧ s.fld F.LAN_SBC_ON = 3 ∨ nth s.lan.sbcPin (b2n outB) =
        energised)) ∧
    (∃ (s : State) (outB : Bool), Calm s ∧ s.brakeCond = false ∧ nth s.lan.sbcPin (b2n outB) = true) ∧
    (∃ (s : State) (outB : Bool), Calm s ∧ s.brakeCond = false ∧ nth s.lan.sbcPin (b2n outB) = false) :=
  ⟨⟨sLan [(5, 1)], (by decide +kernel : _ = false), by decide +kernel⟩,
   ⟨(sLan [(5, 1), (37, 7), (38, 3000), (39, 4000)]).setF F.EN_STAT_VALID 1 3 |>.wr .EN_POS 40 3, 3, 3, 40, 40,
      (by decide +kernel : _ = false), by decide +kernel⟩,
   ⟨sLan [(5, 1)], 0, [], _, (by decide +kernel : _ = false), (sdFeedAll_nil _).symm, (by decide +kernel : _ = false), fun b h r => nomatch
      r.symm.trans ((by decide +kernel : ∀ b, b < 8 → ((sLan [(5, 1)]).elapseFrom 0 ticksPerMs).running b = false) b h)⟩,
   ⟨((((sLan [(5, 1)] fun l => { l with vdcLow := l.vdcLow.set 0 9 }).setBit F.BR_STAT_RUNNING 0 true).setF F.LAN_STAT_ENV_VALID 1).wr
      .LAN_ENV_VDC_LO 100 |> fun s => { s with pwm := { s.pwm with sd := s.pwm.sd.set 3 ⟨List.replicate 15 false, 0⟩ } }), 0, [], _, 0,
      (by decide +kernel : _ = false), (sdFeedAll_nil _).symm, (by decide +kernel : _ = false), by decide +kernel, by decide +kernel, fun f
      => ⟨-0x1000000, fastLink_exact _ _ 0 3 8 (-0x1000000) (by decide +kernel) (by decide +kernel) (by decide +kernel) (by decide +kernel) (by decide)
      (by decide +kernel) (by decide +kernel) f, by decide +kernel⟩, by decide +kernel⟩,
   ⟨(((sLan [(5, 1), (9, 1)]).setF F.LAN_SBC_REQ 1).setBit F.BR_STAT_RUNNING 0 true).setF F.LAN_SBC_ON 3 |>.wr .PWM_CTRL 1,
      (by decide +kernel : _ = false), by decide +kernel⟩,
   ⟨(((sLan [(5, 1), (9, 1)]).setF F.LAN_SBC_REQ 1).setBit F.BR_STAT_RUNNING 0 true).setF F.LAN_SBC_ON 3 |>.wr .PWM_CTRL 1,
      (by decide +kernel : _ = false), by decide +kernel⟩,
   ⟨sLan [(5, 1)], true, false, (by decide +kernel : _ = false), by decide +kernel⟩,
   ⟨sLan [(5, 1)] fun l => { l with sbcPin := [false, true] }, true, (by decide +kernel : _ = false), by decide +kernel⟩,
   ⟨sLan [(5, 1)], true, (by decide +kernel : _ = false), by decide +kernel⟩⟩

theorem test_SafetyPdusExchanged :
    (∃ (s : State) (c : Fin 8), Calm s ∧ s.linked = true ∧ (s.dev = dQUARANTINE ∨ s.on F.MEM_CFG_EN = false) ∧ s.pduVia c = 0) ∧
    (∃ (s : State) (c : Fin 8), Calm s ∧ s.linked = true ∧ s.produces c = true ∧ (s.dev ≠ dQUARANTINE ∧ s.on F.MEM_CFG_EN = true ∨ s.pduVia
        c ≠ 0)) ∧
    (∃ (s : State) (dt : Nat) (c : Fin 8) (src : _) (pdu : _), Calm s ∧ s.linked = true ∧ s.hearsPdu src = true ∧ ((s.consuming.filter fun c
        => s.fromPeer c src).find? fun d => s.parConn d 0 == nth pdu 0) = some c.val ∧ s.fld F.LAN_CONN_STAT_STATE c = 2 ∧ s.tick + dt ≤
        (s.conn c).lastAt + s.connWd c * ticksPerMs ∧ bitsOf (nth pdu 1) 31 16 = s.connWd c ∧ bitOf (nth pdu 2) 17 = false ∧ pdu.length = 6
        ∧ nth pdu 5 = lanCrc (s.parConn c 0) (pdu.take 5) ∧ bitsOf (nth pdu 2) 31 18 = 0 ∧ bitsOf (nth pdu 2) 15 0 = 0 ∧ nth pdu 4 = 0 ∧
        bitsOf (nth pdu 1) 15 0 = (s.fld F.LAN_CONN_STAT_RX_SEQ c + 1) % 65536 ∧ bitOf (nth pdu 2) 16 = false ∧ bitOf (nth pdu 3) 0 = true ∧
        bitOf (nth pdu 3) 2 = true ∧ (∀ d ∈ s.consuming, d ≠ c.val → bitOf (s.rd .LAN_CONN_DATA d) 0 = true ∧ bitOf (s.rd .LAN_CONN_DATA d)
        2 = true)) ∧
    (∃ (s : State) (dt : Nat) (c : Fin 8) (src : _) (pdu : _), Calm s ∧ s.linked = true ∧ s.hearsPdu src = true ∧ ((s.consuming.filter fun c
        => s.fromPeer c src).find? fun d => s.parConn d 0 == nth pdu 0) = some c.val ∧ s.fld F.LAN_CONN_STAT_STATE c = 2 ∧ s.tick + dt ≤
        (s.conn c).lastAt + s.connWd c * ticksPerMs ∧ bitsOf (nth pdu 1) 31 16 = s.connWd c ∧ bitOf (nth pdu 2) 17 = false ∧ pdu.length = 6
        ∧ nth pdu 5 = lanCrc (s.parConn c 0) (pdu.take 5) ∧ bitsOf (nth pdu 2) 31 18 = 0 ∧ bitsOf (nth pdu 2) 15 0 = 0 ∧ nth pdu 4 = 0 ∧
        bitsOf (nth pdu 1) 15 0 = (s.fld F.LAN_CONN_STAT_RX_SEQ c + 1) % 65536 ∧ bitOf (nth pdu 2) 16 = false ∧ bitOf (nth pdu 3) 2 = false
        ∧ s.stoOn = false) ∧
    (∃ (s : State) (dt : Nat) (c : Fin 8) (src : _) (pdu : _), Calm s ∧ s.linked = true ∧ s.hearsPdu src = true ∧ ((s.consuming.filter fun c
        => s.fromPeer c src).find? fun d => s.parConn d 0 == nth pdu 0) = some c.val ∧ s.fld F.LAN_CONN_STAT_STATE c = 2 ∧ s.tick + dt ≤
        (s.conn c).lastAt + s.connWd c * ticksPerMs ∧ bitsOf (nth pdu 1) 31 16 = s.connWd c ∧ bitOf (nth pdu 2) 17 = false ∧ (pdu.length ≠ 6
        ∨ nth pdu 5 ≠ lanCrc (s.parConn c 0) (pdu.take 5) ∨ bitsOf (nth pdu 1) 15 0 ≠ (s.fld F.LAN_CONN_STAT_RX_SEQ c + 1) % 65536) ∧
        (s.conn c).refused < 2) ∧
    (∃ (s : State) (c : Fin 8), Calm s ∧ s.linked = true ∧ s.fld F.LAN_CONN_STAT_STATE c = 2 ∧ c.val ∈ s.consuming ∧ s.stoOn = false) :=
  ⟨⟨(sLan [(5, 1), (73, 99), (74, 0x8), (76, 20)]).setF F.SYS_STATE_STATE dQUARANTINE, 7, (by decide +kernel : _ = false), by decide +kernel⟩,
   ⟨(sLan [(5, 1), (73, 99), (74, 0x8), (76, 20)]).setF F.MEM_CFG_EN 1, 7, (by decide +kernel : _ = false), by decide +kernel⟩,
   ⟨sConn, 2, 7, .constellation 8, pduOf 0 0x1F, (by decide +kernel : _ = false), by decide +kernel⟩,
   ⟨sConn, 2, 7, .constellation 8, pduOf 0 0x1B, (by decide +kernel : _ = false), by decide +kernel⟩,
   ⟨sConn, 2, 7, .constellation 8, (pduOf 0 0x1F).take 5, (by decide +kernel : _ = false), by decide +kernel⟩,
   ⟨sConn, 7, (by decide +kernel : _ = false), by decide +kernel⟩⟩

theorem test_LockstepSupervised :
    (∃ (s : State) (dt : Nat) (pairB : Bool) (k : Nat) (at_ : Nat), Calm s ∧ k = b2n pairB ∧ at_ = max (s.tick + dt) (nth s.lan.digestAt k +
        (10 * ticksPerMs - 40 * ticksPerUs)) ∧ (s.splitPair pairB = true ∨ nth s.lan.resync k = true)) ∧
    (∃ (s : State) (dt : Nat) (pairB : Bool) (k : Nat) (at_ : Nat), Calm s ∧ k = b2n pairB ∧ at_ = max (s.tick + dt) (nth s.lan.digestAt k +
        (10 * ticksPerMs - 40 * ticksPerUs)) ∧ s.splitPair pairB = true) ∧
    (∃ (s : State) (dt : Nat) (pairB : Bool) (k : Nat) (at_ : Nat), Calm s ∧ k = b2n pairB ∧ at_ = max (s.tick + dt) (nth s.lan.digestAt k +
        (10 * ticksPerMs - 40 * ticksPerUs)) ∧ s.splitPair pairB = false ∧ nth s.lan.resync k = false) ∧
    (∃ (s : State) (dt : Nat) (pairB : Bool) (k : Nat) (at_ : Nat), Calm s ∧ k = b2n pairB ∧ at_ = max (s.tick + dt) (nth s.lan.digestAt k +
        (10 * ticksPerMs - 40 * ticksPerUs)) ∧ s.splitPair pairB = false ∧ nth s.lan.resync k = false ∧ (∀ u, (if pairB = true then
        s.lan.latentB else s.lan.latentA) = some u → u + ticksPerS < at_) ∧ s.cdl.run = none) ∧
    (∃ (s : State) (dt : Nat) (pairB : Bool) (k : Nat) (at_ : Nat) (u : _), Calm s ∧ k = b2n pairB ∧ at_ = max (s.tick + dt) (nth
        s.lan.digestAt k + (10 * ticksPerMs - 40 * ticksPerUs)) ∧ s.splitPair pairB = false ∧ nth s.lan.resync k = false ∧ (if pairB = true
        then s.lan.latentB else s.lan.latentA) = some u ∧ at_ ≤ u + ticksPerS) ∧
    (∃ (s : State) (dt : Nat) (pairB : Bool) (k : Nat) (at_ : Nat), Calm s ∧ k = b2n pairB ∧ at_ = max (s.tick + dt) (nth s.lan.digestAt k +
        (10 * ticksPerMs - 40 * ticksPerUs)) ∧ s.splitPair pairB = false) ∧
    (∃ (s : State) (dt : Nat) (pairB : Bool) (k : Nat) (at_ : Nat) (u : _), Calm s ∧ k = b2n pairB ∧ at_ = max (s.tick + dt) (nth
        s.lan.digestAt k + (10 * ticksPerMs - 40 * ticksPerUs)) ∧ nth s.lan.resync k = true ∧ (if pairB = true then s.lan.latentB else
        s.lan.latentA) = some u ∧ s.cdl.again = false) :=
  ⟨⟨(sLan []).setF F.SYS_STATE_SPLIT_B 1, 7, true, 1, _, (by decide +kernel : _ = false), by decide +kernel, rfl, by decide +kernel⟩,
   ⟨(sLan []).setF F.SYS_STATE_SPLIT_B 1, 7, true, 1, _, (by decide +kernel : _ = false), by decide +kernel, rfl, by decide +kernel⟩,
   ⟨sLan [], 7, true, 1, _, (by decide +kernel : _ = false), by decide +kernel, rfl, by decide +kernel⟩,
   ⟨sLan [], 7, true, 1, _, (by decide +kernel : _ = false), by decide +kernel, rfl, by decide +kernel⟩,
   ⟨sLan [] fun l => { l with latentB := some 0 }, 7, true, 1, _, 0, (by decide +kernel : _ = false), by decide +kernel, rfl,
      by decide +kernel⟩,
   ⟨sLan [], 7, true, 1, _, (by decide +kernel : _ = false), by decide +kernel, rfl, by decide +kernel⟩,
   ⟨sLan [] fun l => { l with latentB := some 0, resync := [false, true] }, 7, true, 1, _, 0, (by decide +kernel : _ = false),
      by decide +kernel, rfl, by decide +kernel⟩⟩

/-- An issue on an engine with nothing going wrong. -/
def issueOn (e : Fin 10) : Issue := ⟨e, 0, 0, ⟨0, 0⟩⟩

/-- One word of each format of R185, its fields laid out by hand, and three that break their format. -/
theorem test_words : (
    -- ADD R1, R2, R3: 000100 0001 0010 0011 00000 0000 00000
    engineInstr 0x1048C000 (issueOn 0) [] = some (.add (issueOn 0) 1 2 3) ∧
    -- SHL R1, R2, 31: 001110 0001 0010 0000 0000 00000 11111
    engineInstr 0x3848001F (issueOn 0) [] = some (.shl (issueOn 0) 1 2 31) ∧
    -- LD R4, [R5 + 0x123]: 100000 0100 0101 0000 00000100100011
    engineInstr 0x81140123 (issueOn 0) [] = some (.ld (issueOn 0) 4 5 0x123) ∧
    -- ACCR R2, accumulator 1, 7, on OE0: 010110 0010 0000 000000000 01 00 00111
    engineInstr 0x58800087 (issueOn 8) [] = some (.accr (issueOn 8) 2 1 7) ∧
    -- LIH R15, 0xBEEF: 000011 1111 0000 00 1011111011101111
    engineInstr 0x0FC0BEEF (issueOn 9) [] = some (.lih (issueOn 9) 15 0xBEEF) ∧
    -- BR NOT Z to 0x1FFF: 110000 0010 0000 00000 1111111111111
    engineInstr 0xC0801FFF (issueOn 8) [] = some (.branch (issueOn 8) 2 0x1FFF) ∧
    -- LOOP of 256 passes over 64 words: 110001 0000 11111111 111111 00000000
    engineInstr 0xC43FFF00 (issueOn 0) [] = some (.loop (issueOn 0) 255 63) ∧
    -- ACCR with accumulator 1 on a loop engine, ADD with bit 5 set, opcode 0x1C
    engineInstr 0x58800087 (issueOn 0) [] = none ∧ engineInstr 0x1048C020 (issueOn 0) [] = none ∧
    engineInstr 0x70000000 (issueOn 0) [] = none) := by decide +kernel

end Sys2Proof.Tests
end

section
/-! Proofs of the scope family, first part: time, addresses, and one write that lands. -/
open Sys2Proof Sys2Proof.Machine

namespace Sys2Proof.Machine

/-! ## Time -/

theorem State.elapse_zero (s : State) : s.elapse 0 = s := by
  unfold State.elapse
  split <;> split <;> simp

/-- Settles O2: the step of an empty queue is one tick of `State.elapse`. -/
theorem emptyQueueTicks : Obligations.EmptyQueueTicks := by
  intro s hq
  refine ⟨s.elapse 1, ?_, rfl, rfl, rfl, rfl, rfl, rfl, rfl, Kept.elapse s 1⟩
  unfold step
  rw [hq]

/-! ## Addresses (R32, R110) -/

/-- The index that an offset falls on stays below the number of copies. -/
theorem flatIndex_lt {ds : List (Nat × Nat)} {off acc i : Nat} (h : flatIndex ds off acc = some i) :
    i < (acc + 1) * (ds.map Prod.fst).prod := by
  induction ds generalizing off acc with
  | nil =>
    simp only [flatIndex, Option.ite_none_right_eq_some, Option.some.injEq] at h
    simp [h.2]
  | cons d ds ih =>
    obtain ⟨n, st⟩ := d
    simp only [flatIndex, Option.ite_none_right_eq_some] at h
    obtain ⟨hk, h⟩ := h
    have hle : acc * n + off / st + 1 ≤ (acc + 1) * n := by rw [Nat.add_mul]; omega
    calc i < (acc * n + off / st + 1) * (ds.map Prod.fst).prod := ih h
      _ ≤ (acc + 1) * n * (ds.map Prod.fst).prod := Nat.mul_le_mul_right _ hle
      _ = (acc + 1) * (((n, st) :: ds).map Prod.fst).prod := by simp [Nat.mul_assoc]

/-- A register found at an address is found within its copies. -/
theorem regAt_lt {a : Nat} {r : RegId} {i : Nat} (h : regAt a = some (r, i)) : i < (r.dims.map Prod.fst).prod := by
  unfold regAt at h
  split at h
  · cases h
  · obtain ⟨x, _, hx⟩ := List.exists_of_findSome?_eq_some h
    split at hx
    · rename_i j hj
      cases hx
      simp only [RegId.at?, Option.ite_none_right_eq_some] at hj
      simpa using flatIndex_lt hj.2
    · cases hx

/-- An address that names a register does so by its own kind and through the map of base addresses. -/
theorem locate_reg {a : Word} {r : RegId} {i : Nat} {k : WKind} (h : locate a = .at_ (.reg r i) k) :
    aliasOf a = k ∧ placeAt (baseOf a) = some (.reg r i) := by
  unfold locate at h
  dsimp only at h
  split at h
  · cases h
  · split at h
    · cases h
    · split at h
      · cases h
      · rename_i hp
        split at h
        · cases h
        · cases h; exact ⟨rfl, hp⟩
      · cases h
        rename_i hn hp
        exact absurd rfl (hn _ _)

theorem locate_lt {a : Word} {r : RegId} {i : Nat} {k : WKind} (h : locate a = .at_ (.reg r i) k) :
    i < (r.dims.map Prod.fst).prod := by
  have hp := (locate_reg h).2
  unfold placeAt at hp
  split at hp
  · cases hp
  · split at hp
    · cases hp
    · split at hp
      · cases hp
      · obtain ⟨x, hx, he⟩ := Option.map_eq_some_iff.1 hp
        cases he
        exact regAt_lt hx

/-- A plain address is its own base address. -/
theorem wd_baseOf {a : Word} (h : aliasOf a = .plain) : wd (baseOf a) = a := by
  have hb : a.getLsbD 30 = false ∧ a.getLsbD 31 = false := by
    unfold aliasOf at h
    cases h30 : a.getLsbD 30 <;> cases h31 : a.getLsbD 31 <;> simp_all
  unfold wd baseOf
  apply BitVec.eq_of_getLsbD_eq
  intro n hn
  rw [BitVec.getLsbD_ofNat, Nat.testBit_mod_two_pow, ← BitVec.getLsbD]
  by_cases h30 : n < 30
  · simp [hn, h30]
  · have : n = 30 ∨ n = 31 := by omega
    rcases this with rfl | rfl
    · rw [hb.1]; rfl
    · rw [hb.2]; rfl

end Sys2Proof.Machine
end

section
/-! Proofs of the scope family, second part: one write that lands. -/
open Sys2Proof Sys2Proof.Machine

namespace Sys2Proof.Machine

/-! ## One write that lands (R30, R115 to R117) -/

/-- A plain request meets no refusal at a register whose write has no effect of its own: what `Lands` says of an operand, for a
request with any hardware event beside it that sets no bit there. -/
structure Accepts (s : State) (r : RegId) (i : Nat) (q : Req) (hwSet new : Word) : Prop where
  idle : r ∉ actingRegs
  plain : q.kind = .plain
  calm : hwSet &&& State.w1cMask r = 0
  right : (s.early r i q).2 = none
  word : new = s.compose r i q.who q.rl q.value
  value : s.badValue r i q new = false
  rule : s.changeRule r i q new = none
  within : s.beyondEnv r i new = false
  allowed : q.who.inside = false ∨ (q.value ^^^ s.rd r i) &&& State.rlMask r = 0
  unheld : s.heldAt r i = none

theorem Lands.accepts {s : State} {r : RegId} {i : Nat} {c : WCycle} {w : Write} {new : Word} (h : Lands s r i c w new)
    (hr : r ∉ actingRegs) : Accepts (s.elapse c.dt) r i (reqOf w) c.hwSet new :=
  ⟨hr, h.plain.1, by rw [h.alone.2]; exact BitVec.zero_and, h.right, h.word, h.value, h.rule, h.within, by rw [State.rd_elapse]; exact h.allowed, h.unheld⟩

/-- What a write that lands leaves: the word, the audit record of a host's RL change, the writer's retry flag clear. -/
def landed (s : State) (r : RegId) (i : Nat) (q : Req) (new : Word) (opt : WOpt) : State :=
  ((s.wr r new i).auditRl (if q.rl then opt.by_ else none) r i (s.rd r i) new).won q.who

/-- A write to a register outside `actingRegs` has no effect beside its word. -/
theorem effect_of_idle {r : RegId} (h : r ∉ actingRegs) (s : State) (i : Nat) (q : Req) (old new : Word) :
    s.effect r i q old new = s := by
  unfold State.effect
  split
  rotate_right
  · rfl
  all_goals exact absurd (by decide) h

/-- The checks before the register that refuse nothing change nothing. -/
theorem early_none {s : State} {r : RegId} {i : Nat} {q : Req} (h : (s.early r i q).2 = none) : s.early r i q = (s, none) := by
  refine Prod.ext ?_ h
  unfold State.early at h ⊢
  dsimp only at h ⊢
  split
  · rename_i hb; simp [hb, State.badParam] at h
  · split
    · rename_i hb hk; simp [hb, hk, State.badParam] at h
    · repeat' split
      all_goals rfl

/-- With no losers nothing is recorded. -/
theorem recordLosses_nil (s : State) (f : Req → Nat) (a : Nat) : s.recordLosses [] f a = s := rfl

/-- An accepted write is applied: its word, its audit record, no effect. -/
theorem applyWrite_accepted {s : State} {r : RegId} {i : Nat} {q : Req} {hwSet new sets clrs : Word} (opt : WOpt)
    (h : Accepts s r i q hwSet new) :
    s.applyWrite r i q q.value sets clrs hwSet opt =
      ((s.wr r new i).auditRl (if q.rl then opt.by_ else none) r i (s.rd r i) new, .applied false) := by
  have htx : (r == .CAN_TXREQ_LO || r == .CAN_TXREQ_HI) = false := by
    have h1 : r ≠ .CAN_TXREQ_LO := fun e => h.idle (by rw [e]; decide)
    have h2 : r ≠ .CAN_TXREQ_HI := fun e => h.idle (by rw [e]; decide)
    simp [h1, h2]
  have hdeny : (q.who.inside && !q.rl && (q.value ^^^ s.rd r i) &&& State.rlMask r != 0) = false := by
    rcases h.allowed with e | e <;> simp [e]
  have hset : new ||| (hwSet &&& State.w1cMask r) = new := by rw [h.calm]; exact BitVec.or_zero
  unfold State.applyWrite
  simp only [htx, hdeny, ← h.word, h.value, h.rule, h.within, hset, effect_of_idle h.idle, Bool.false_and, Bool.false_eq_true,
    if_false]

/-- An accepted write that is alone at its register meets no other and lands. -/
theorem meet_alone {s : State} {r : RegId} {i : Nat} {q : Req} {hwSet new : Word} (opt : WOpt) (h : Accepts s r i q hwSet new) :
    s.meet r i [q] hwSet opt = (landed s r i q new opt, [.applied false]) := by
  unfold State.meet landed
  simp [h.unheld, State.topOf, h.plain, recordLosses_nil, applyWrite_accepted opt h]

/-- One accepted write whose transfer succeeds makes up its cycle. -/
theorem cycle_alone {s : State} {r : RegId} {i : Nat} {q : Req} {hwSet new : Word} (opt : WOpt) (h : Accepts s r i q hwSet new) :
    s.cycle r i [(q, 0)] hwSet opt = (landed s r i q new opt, [.applied false]) := by
  have hreplay : ∀ a, s.replays q.who.code? a 0 = s := fun _ => rfl
  unfold State.cycle
  simp [hreplay, early_none h.right, upTo, List.range_succ, nth, meet_alone opt h]

/-! ## What such a write leaves alone -/

theorem auditRl_keeps (s : State) (b : Option By) (r : RegId) (i : Nat) (old new : Word) :
    Kept [.logs] [] s (s.auditRl b r i old new) ∧ SameClocks s (s.auditRl b r i old new) ∧ (s.auditRl b r i old new).lan = s.lan ∧
      (s.auditRl b r i old new).hst = s.hst ∧ (s.auditRl b r i old new).regs = s.regs := by
  have haudit : ∀ e o, Kept [.logs] [] s (s.audit (b.getD byDevice) e o old new) := fun e o =>
    ⟨fun p hp => by cases p <;> simp_all [Part.same, State.audit], fun _ _ _ _ => rfl⟩
  unfold State.auditRl
  split
  · exact ⟨Kept.refl _ _ _, ⟨rfl, rfl, rfl⟩, rfl, rfl, rfl⟩
  · split
    · exact ⟨haudit _ _, ⟨rfl, rfl, rfl⟩, rfl, rfl, rfl⟩
    · split
      · exact ⟨Kept.refl _ _ _, ⟨rfl, rfl, rfl⟩, rfl, rfl, rfl⟩
      · exact ⟨haudit _ _, ⟨rfl, rfl, rfl⟩, rfl, rfl, rfl⟩

/-- A write that changes no RL field leaves no audit record, but at ME_POS. -/
theorem auditRl_of_free (s : State) (b : Option By) {r : RegId} (i : Nat) (old new : Word) (hr : r ≠ .ME_POS)
    (hm : State.rlMask r = 0) : s.auditRl b r i old new = s := by
  have hz : ((old ^^^ new) &&& State.rlMask r == 0) = true := by rw [hm]; simp
  unfold State.auditRl
  split
  · rfl
  · rw [if_neg (by simpa using hr), if_pos hz]

/-- The retry flag of a winning engine is all that a win changes. -/
theorem won_keeps (s : State) (w : Writer) :
    Kept (writerParts w) [] s (s.won w) ∧ SameClocks s (s.won w) ∧ (s.won w).lan = s.lan ∧ (s.won w).hst = s.hst ∧
      (s.won w).regs = s.regs := by
  have hme : ∀ n f, Kept [.mot] [] s (s.updMe n f) := fun n f =>
    ⟨fun p hp => by cases p <;> simp_all [Part.same, State.updMe], fun _ _ _ _ => rfl⟩
  cases w <;> refine ⟨?_, ⟨rfl, rfl, rfl⟩, rfl, rfl, rfl⟩
  case le n => exact Kept.updEng s _ _
  case oe n => exact Kept.updEng s _ _
  case me n => exact hme _ _
  all_goals exact Kept.refl _ _ _

/-- A write that lands leaves its word and the writer's traces, and changes nothing else. -/
theorem landed_keeps (s : State) (r : RegId) (i : Nat) (q : Req) (new : Word) (opt : WOpt) (hi : i < 65536)
    (hq : q.rl = q.who.mayRl) :
    Kept (writerParts q.who) [(r, i)] s (landed s r i q new opt) := by
  have hw := Kept.wr s r new i hi
  have hwon := (won_keeps ((s.wr r new i).auditRl (if q.rl then opt.by_ else none) r i (s.rd r i) new) q.who).1
  have haud : Kept (writerParts q.who) [] (s.wr r new i)
      ((s.wr r new i).auditRl (if q.rl then opt.by_ else none) r i (s.rd r i) new) := by
    cases hwho : q.who
    case host role => exact (auditRl_keeps _ _ _ _ _ _).1
    all_goals
      rw [hq, hwho]
      exact Kept.refl _ _ _
  exact ((hw.trans haud).trans hwon).mono (by simp) (by simp)

/-- The word, the clocks and what a command's end looks at after a write that lands. -/
theorem landed_state (s : State) (r : RegId) (i : Nat) (q : Req) (new : Word) (opt : WOpt) :
    (landed s r i q new opt).rd r i = new ∧ SameClocks s (landed s r i q new opt) ∧ (landed s r i q new opt).lan = s.lan ∧
      (landed s r i q new opt).hst = s.hst := by
  obtain ⟨_, ac, al, ah, ar⟩ := auditRl_keeps (s.wr r new i) (if q.rl then opt.by_ else none) r i (s.rd r i) new
  obtain ⟨_, wc, wl, wh, wr⟩ := won_keeps ((s.wr r new i).auditRl (if q.rl then opt.by_ else none) r i (s.rd r i) new) q.who
  refine ⟨?_, ⟨wc.1.trans ac.1, wc.2.1.trans ac.2.1, wc.2.2.trans ac.2.2⟩, wl.trans al, wh.trans ah⟩
  have hregs : (landed s r i q new opt).regs = (s.wr r new i).regs := wr.trans ar
  calc (landed s r i q new opt).rd r i = (s.wr r new i).rd r i := by unfold State.rd; rw [hregs]
    _ = new := State.rd_wr_same s r new i

end Sys2Proof.Machine
end

section
/-! Proofs of the scope family, third part: the accesses of the interpreter. -/
open Sys2Proof Sys2Proof.Machine

namespace Sys2Proof.Machine

/-! ## Accesses of the interpreter that nothing disturbs -/

/-- The writes at an address of a register are that register's cycle. -/
theorem writeAddr_reg {a : Word} {r : RegId} {i : Nat} {k : WKind} (h : locate (wd (baseOf a)) = .at_ (.reg r i) k) (s : State)
    (l : List (Req × Nat)) (hwSet : Word) (opt : WOpt) : s.writeAddr a l hwSet opt = s.cycle r i l hwSet opt := by
  unfold State.writeAddr
  simp only [h]

/-- The request of a role's REG_WRITE or REG_MODIFY at a plain address. -/
def hostReq (role : Role) (v : Word) : Req := ⟨.host role, role.mayRl, .plain, v⟩

/-- A host write that is accepted, alone in its cycle and not barred by a reinitialisation, lands. -/
theorem hostWrite_alone {s : State} {role : Role} {p : Pkt} {a v new : Word} {r : RegId} {i : Nat} (word : Nat)
    (hl : locate (wd (baseOf a)) = .at_ (.reg r i) .plain) (hk : aliasOf a = .plain) (hp : p.rivals = [])
    (hn : s.writeNeeds a = false) (ha : Accepts s r i (hostReq role v) 0 new) :
    s.hostWrite role p 0 a v word =
      (landed s r i (hostReq role v) new ⟨some (byPkt role p), false, word⟩, .applied false) := by
  have hcyc := cycle_alone ⟨some (byPkt role p), false, word⟩ ha
  unfold hostReq at hcyc ⊢
  unfold State.hostWrite
  simp only [hp, hk, hn, writeAddr_reg hl, hcyc, List.filter_nil, List.map_nil, nth, List.getD_cons_zero]

/-- Every transfer of a packet that comes through at once has failed 0 times. -/
theorem nth_eq_zero {l : List Nat} (h : ∀ n ∈ l, n = 0) (k : Nat) : nth l k = 0 := by
  unfold nth List.getD
  cases hk : l[k]? with
  | none => rfl
  | some n => exact h n (List.mem_of_getElem? hk)

/-- A transfer that succeeds at once takes no time. -/
theorem fetch_clean (s : State) (b : Initiator) (a : Nat) : s.fetch ⟨b, 0⟩ a = (s, true) :=
  congrArg (·, true) (State.elapse_zero s)

/-- Without memory errors a read of a register meets none. -/
theorem meetErrs_nil {a : Word} {r : RegId} {i : Nat} {k : WKind} (h : locate a = .at_ (.reg r i) k) (s : State) :
    s.meetErrs [] a = (s, none) := by
  unfold State.meetErrs
  rw [h]
  split
  · rename_i e; cases e
  · rfl
  · rfl

/-- A register without RC fields loses nothing by being read. -/
theorem clearRc_of_no_rc (s : State) {r : RegId} (i : Nat) (h : ∀ f ∈ r.fields, f.acc ≠ .rc) : s.clearRc r i = s := by
  have hfold : ∀ (l : List Fld), (∀ f ∈ l, f.acc ≠ .rc) → ∀ w : Word,
      l.foldl (fun w f => if f.acc == .rc then w ||| maskOf f.hi f.lo else w) w = w := by
    intro l
    induction l with
    | nil => exact fun _ _ => rfl
    | cons f l ih =>
      intro hl w
      rw [List.foldl_cons, if_neg (by simpa using hl f (by simp))]
      exact ih (fun g hg => hl g (by simp [hg])) w
  unfold State.clearRc
  rw [hfold r.fields h 0]
  rfl

/-- A quiet read gives the present word and has no effect. -/
theorem readReg_quiet {s : State} {b : Initiator} {r : RegId} {i : Nat} (h : Quiet s b r i) : s.readReg b r i = (s.view r i, s) := by
  obtain ⟨⟨hhigh, hmb, hmd, hrc⟩, hlatch⟩ := h
  have hnone : (s.hst.latches.find? fun l => l.by_ == b && l.addr == r.addr i) = none := by
    rw [List.find?_eq_none]
    intro l hl
    by_cases hb : l.by_ = b
    · simp [hlatch l hl hb]
    · simp [hb]
  unfold State.readReg
  simp [hmd, hmb, hhigh, hnone, clearRc_of_no_rc s i hrc]

theorem readAddr_quiet {s : State} {b : Initiator} {a : Word} {r : RegId} {i : Nat} {k : WKind}
    (hl : locate a = .at_ (.reg r i) k) (h : Quiet s b r i) : s.readAddr b a = (some (s.view r i), s) := by
  unfold State.readAddr State.readPlace
  simp [hl, readReg_quiet h]

/-! ## The bodies of REG_WRITE and REG_MODIFY (R97, R99, R115) -/

theorem regWrite_lands {s : State} {role : Role} {p : Pkt} {new : Word} {r : RegId} {i : Nat} (hf : ∀ n ∈ p.fails, n = 0)
    (hl : locate (wd (baseOf (nth p.payload 0))) = .at_ (.reg r i) .plain) (hk : aliasOf (nth p.payload 0) = .plain)
    (hp : p.rivals = []) (hn : s.writeNeeds (nth p.payload 0) = false)
    (ha : Accepts s r i (hostReq role (nth p.payload 1)) 0 new) :
    s.regWrite role p = (landed s r i (hostReq role (nth p.payload 1)) new ⟨some (byPkt role p), false, 1⟩, some (ok)) := by
  unfold State.regWrite
  rw [nth_eq_zero hf, hostWrite_alone 1 hl hk hp hn ha]

/-- The word that REG_MODIFY writes (R99). -/
def modified (old : Word) (p : Pkt) : Word := (old &&& ~~~(nth p.payload 1)) ||| (nth p.payload 2 &&& nth p.payload 1)

theorem regModify_lands {s : State} {role : Role} {p : Pkt} {new : Word} {r : RegId} {i : Nat} (hf : ∀ n ∈ p.fails, n = 0)
    (he : p.errs = []) (hl : locate (nth p.payload 0) = .at_ (.reg r i) .plain) (hp : p.rivals = [])
    (hn : s.writeNeeds (nth p.payload 0) = false) (hq : Quiet s .interp r i)
    (ha : Accepts s r i (hostReq role (modified (s.view r i) p)) 0 new) :
    s.regModify role p = (landed s r i (hostReq role (modified (s.view r i) p)) new ⟨some (byPkt role p), false, 2⟩,
      some (ok [s.view r i, (landed s r i (hostReq role (modified (s.view r i) p)) new
        ⟨some (byPkt role p), false, 2⟩).peek (nth p.payload 0)])) := by
  have hk := (locate_reg hl).1
  have hb : locate (wd (baseOf (nth p.payload 0))) = .at_ (.reg r i) .plain := by rw [wd_baseOf hk]; exact hl
  have hw := hostWrite_alone (p := p) 2 hb hk hp hn ha
  unfold modified at hw ⊢
  unfold State.regModify
  simp only [nth_eq_zero hf, fetch_clean, he, meetErrs_nil hl, readAddr_quiet hl hq, hw, Bool.not_true, Bool.false_eq_true, if_false]

/-! ## Commands that end in one write that lands -/

theorem exec_registerWrite_alone {s : State} {addr : Word} {c : WCycle} {w : Write} {r : RegId} {i : Nat} {new : Word}
    (hc : Calm s) (hi : i < 65536) (hl : locate (wd (baseOf addr)) = .at_ (.reg r i) .plain) (hw : c.ws = [w])
    (hf : State.failsOf w = 0) (ha : Accepts (s.elapse c.dt) r i (reqOf w) c.hwSet new) :
    Ends (.registerWrite addr c) s fun t =>
      t.rd r i &&& ~~~pinBits r = new &&& ~~~pinBits r ∧ t.tick = s.tick + c.dt ∧ Kept (writerParts w.who) [(r, i)] s t := by
  let opt : WOpt := ⟨((c.ws.filterMap fun w => match w.who with | .host r => some r | _ => none).head?).map byRole, false, 1⟩
  have he : exec (.registerWrite addr c) s = endWith (landed (s.elapse c.dt) r i (reqOf w) new opt) := by
    have hcyc := cycle_alone opt ha
    show endWith ((s.elapse c.dt).writeAddr addr (c.ws.map fun w => (reqOf w, State.failsOf w)) c.hwSet opt).1 = _
    rw [writeAddr_reg hl, hw, List.map_singleton, hf, hcyc]
  obtain ⟨hrd, hcl, hlan, _⟩ := landed_state (s.elapse c.dt) r i (reqOf w) new opt
  have hk := (Kept.elapse s c.dt).trans (landed_keeps (s.elapse c.dt) r i (reqOf w) new opt hi rfl)
  refine ends_over he (by unfold Calm; rw [hlan]; exact hc) fun t ht hct => ⟨?_, hct.1.trans hcl.1, ?_⟩
  · rw [ht.2 r i hi (by simp), hrd]
  · exact (hk.trans ht).mono (by simp [reqOf]) (by simp)

/-- A packet whose body is one host write that lands and an answer. -/
theorem carried_landed {ins : Instr} {s : State} {c : Cmd} {p : Pkt} {role : Role} {r : RegId} {i : Nat} {v new : Word} {opt : WOpt}
    {a : Answer} {ps : List Part} {P : State → Prop} (he : exec ins s = endWith (s.command c p)) (h : Carried s c p role) (hc : Calm s)
    (hi : i < 65536) (hcan : r ≠ .CAN_CMD_REQ) (hunit : r ≠ .SYS_UNIT)
    (hb : c.body role p (at_ s p) = (landed (at_ s p) r i (hostReq role v) new opt, some a))
    (hk : Kept ps [(r, i)] (at_ s p) (landed (at_ s p) r i (hostReq role v) new opt)) (hps : ∀ x ∈ ps, x = Part.logs)
    (hP : ∀ t, Answered s t c p a → t.rd r i &&& ~~~pinBits r = new &&& ~~~pinBits r → t.tick = s.tick + p.dt →
      Kept (ps ++ replyParts) [(r, i)] s t → P t) : Ends ins s P := by
  obtain ⟨hrd, hcl, hlan, hhst⟩ := landed_state (at_ s p) r i (hostReq role v) new opt
  have hout : ∀ x, x ≠ Part.logs → x ∉ ps := fun x hx hm => hx (hps x hm)
  refine carried_ends he h hb hk (by unfold Calm; rw [hlan]; exact hc) (by rw [hhst]; exact h.idle.1) (by rw [hhst]; exact h.idle.2)
    ⟨hout _ (by decide), hout _ (by decide), hout _ (by decide), hout _ (by decide), hout _ (by decide)⟩
    ⟨by simpa using fun e => absurd e.symm hunit, fun j _ => by simpa using fun e => absurd e.symm hcan⟩ fun t hans hkt hct => hP t hans ?_ ?_ ?_
  · rw [hkt.2 r i hi (by simp), hrd]
  · exact hct.1.trans hcl.1
  · exact (((Kept.at_ s p).trans hk).trans hkt).mono (by simp) (by simp)

end Sys2Proof.Machine
end

section
/-! Proofs of the scope family, fourth part: the registers that take any word, and the writes of a host. -/
open Sys2Proof Sys2Proof.Machine

namespace Sys2Proof.Machine

/-! ## The registers that take any word -/

/-- No bit is held by an empty mask. -/
theorem and_not_zero (v : Word) : v &&& ~~~(0 : Word) = v := BitVec.and_allOnes

/-- Replacing a whole word leaves the word put. -/
theorem putBits_whole (w v : Word) : putBits w 31 0 (bitsOf v 31 0) = v := by
  apply BitVec.eq_of_getLsbD_eq
  intro n hn
  rw [getLsbD_putBits _ _ _ _ _ hn, testBit_bitsOf, if_pos (by omega)]
  simp [hn]

/-- The one field of a register of `plainRegs`. -/
theorem plain_fields : ∀ r ∈ plainRegs, ∃ f : Fld, r.fields = [f] ∧ f.hi = 31 ∧ f.lo = 0 ∧ f.acc = .rw ∧ f.legal = [] := by
  have h : ∀ r ∈ plainRegs, r.fields = [r.fields.headD default] ∧ (r.fields.headD default).hi = 31 ∧
      (r.fields.headD default).lo = 0 ∧ (r.fields.headD default).acc = .rw ∧ (r.fields.headD default).legal = [] := by decide
  exact fun r hr => ⟨_, h r hr⟩

theorem plain_idle : ∀ r ∈ plainRegs, r ∉ actingRegs := by decide

theorem plain_masks : ∀ r ∈ plainRegs, State.rlMask r = 0 ∧ State.w1cMask r = 0 ∧ pinBits r = 0 := by decide

/-- A register of `plainRegs` is none of those that an access treats in a way of its own. -/
theorem plain_ordinary : ∀ r ∈ plainRegs, r ∉ [RegId.CAN_MB, .LE_MDATA, .SYS_SPLIT, .SYS_UNIT, .CAN_CMD_REQ, .ME_POS] := by decide

/-- Few copies, all away from the CAN controllers. -/
theorem plain_places : ∀ r ∈ plainRegs, (r.dims.map Prod.fst).prod ≤ 8 ∧ ∀ i < 8, r.addr i / 65536 ≠ 0xB := by decide

/-- No rule of a block speaks of a register of `plainRegs`. -/
theorem plain_unruled {r : RegId} (hr : r ∈ plainRegs) (s : State) (i : Nat) (q : Req) (w : Word) :
    s.heldBits r i = 0 ∧ s.valueOk r i w = true ∧ s.changeRule r i q w = none ∧ s.envBound r i = none ∧ s.heldAt r i = none ∧
      highOf r i = none ∧ s.view r i = r.fields.foldl (fun w f => if f.acc == .wo then putBits w f.hi f.lo 0 else w) (s.rd r i) := by
  have henv : ∀ o : Option EnvBound, o = none → (if (!s.envValid) = true then none else o) = none := by
    intro o ho
    split
    · rfl
    · exact ho
  simp only [plainRegs, List.mem_cons, List.not_mem_nil, or_false] at hr
  rcases hr with rfl | rfl | rfl | rfl | rfl | rfl | rfl | rfl | rfl | rfl | rfl | rfl | rfl
  all_goals exact ⟨rfl, rfl, rfl, henv _ rfl, rfl, rfl, rfl⟩

theorem plain_compose {r : RegId} (hr : r ∈ plainRegs) (s : State) (i : Nat) (who : Writer) (rl : Bool) (v : Word) :
    s.compose r i who rl v = v := by
  obtain ⟨f, hf, hhi, hlo, hacc, _⟩ := plain_fields r hr
  have hmb : (r == .CAN_MB) = false := by
    have := plain_ordinary r hr
    simp_all
  have ht : s.takes r i who rl f = true := by unfold State.takes; rw [hacc]
  have hh := (plain_unruled hr s i ⟨who, rl, .plain, v⟩ v).1
  unfold State.compose
  simp only [hmb, hf, ht, hhi, hlo, putBits_whole, hh, and_not_zero, List.foldl_cons, List.foldl_nil, Bool.false_eq_true, if_false,
    if_true]
  exact (congrArg (· ||| v) BitVec.and_zero).trans BitVec.zero_or

/-- Any plain write is accepted by a register of `plainRegs`, which takes its word. -/
theorem plain_accepts {r : RegId} (hr : r ∈ plainRegs) (s : State) (i : Nat) {q : Req} (hwSet : Word) (hk : q.kind = .plain) :
    Accepts s r i q hwSet q.value := by
  obtain ⟨f, hf, hhi, hlo, hacc, hlegal⟩ := plain_fields r hr
  obtain ⟨hrl, hw1c, _⟩ := plain_masks r hr
  obtain ⟨_, hval, hrule, henv, hheld, _⟩ := plain_unruled hr s i q q.value
  refine ⟨plain_idle r hr, hk, by rw [hw1c]; exact BitVec.and_zero, ?_, (plain_compose hr s i _ _ _).symm, ?_, hrule, ?_, ?_, hheld⟩
  · have hsplit : r ≠ .SYS_SPLIT := by
      have := plain_ordinary r hr
      simp_all
    have hwr : State.writable r q.rl = true := by simp [State.writable, hf, hacc]
    unfold State.early
    simp [hk, hsplit, hwr, hrl]
  · unfold State.badValue
    simp [hf, hval, State.legal, hlegal]
  · unfold State.beyondEnv
    rw [henv]
  · right
    rw [hrl]
    exact BitVec.and_zero

/-- The interpreter finds the register's own word there. -/
theorem plain_view {r : RegId} (hr : r ∈ plainRegs) (s : State) (i : Nat) : s.view r i = s.rd r i := by
  obtain ⟨f, hf, _, _, hacc, _⟩ := plain_fields r hr
  obtain ⟨_, _, _, _, _, _, hview⟩ := plain_unruled hr s i ⟨.lantern, false, .plain, 0⟩ 0
  rw [hview, hf]
  simp [hacc]

/-- Without a latch of the interpreter's, a read there is quiet. -/
theorem plain_quiet {r : RegId} (hr : r ∈ plainRegs) {s : State} {i : Nat}
    (hl : ∀ l ∈ s.hst.latches, l.by_ = .interp → l.addr ≠ r.addr i) : Quiet s .interp r i := by
  obtain ⟨f, hf, _, _, hacc, _⟩ := plain_fields r hr
  obtain ⟨_, _, _, _, _, hhigh, _⟩ := plain_unruled hr s i ⟨.lantern, false, .plain, 0⟩ 0
  have hord := plain_ordinary r hr
  simp only [List.mem_cons, not_or] at hord
  refine ⟨⟨hhigh, hord.1, hord.2.1, ?_⟩, hl⟩
  simp [hf, hacc]

/-- No reinitialisation bars a host write to it (R475). -/
theorem plain_needs {r : RegId} (hr : r ∈ plainRegs) {a : Word} {i : Nat} (hl : locate (wd (baseOf a)) = .at_ (.reg r i) .plain)
    (s : State) : s.writeNeeds a = false := by
  obtain ⟨hcnt, haddr⟩ := plain_places r hr
  have hb := haddr i (Nat.lt_of_lt_of_le (locate_lt hl) hcnt)
  have hrest : (r == .LE_CTRL || r == .LE_MDATA) = false ∧ (r == .STR_CTRL) = false ∧ (r == .ME_POS) = false := by
    have : ∀ r ∈ plainRegs, (r == .LE_CTRL || r == .LE_MDATA) = false ∧ (r == .STR_CTRL) = false ∧ (r == .ME_POS) = false := by decide
    exact this r hr
  unfold State.writeNeeds
  simp [hl, hb, hrest]

/-- A host write to it leaves the word alone: no audit record. -/
theorem plain_landed {r : RegId} (hr : r ∈ plainRegs) (s : State) (i : Nat) (role : Role) (v new : Word) (opt : WOpt) :
    landed s r i (hostReq role v) new opt = s.wr r new i := by
  have hme : r ≠ .ME_POS := by
    have := plain_ordinary r hr
    simp_all
  unfold landed
  rw [auditRl_of_free _ _ _ _ _ hme (plain_masks r hr).1]
  rfl

/-- What is left outside no pin bit is the word. -/
theorem eq_of_masked {r : RegId} (hr : pinBits r = 0) {v w : Word} (h : v &&& ~~~pinBits r = w &&& ~~~pinBits r) : v = w := by
  rwa [hr, and_not_zero, and_not_zero] at h

/-! ## The obligation -/

/-- Any word written at a register of `plainRegs`: REGISTER_WRITE. -/
theorem plain_registerWrite {s : State} {r : RegId} {i : Nat} (hc : Calm s) (hr : r ∈ plainRegs) {addr : Word} {c : WCycle}
    {w : Write} (hw : c.ws = [w]) (hk : w.kind = .plain) (hf : State.failsOf w = 0)
    (hl : locate (wd (baseOf addr)) = .at_ (.reg r i) .plain) :
    Ends (.registerWrite addr c) s fun t => t.rd r i = w.value ∧ t.tick = s.tick + c.dt ∧ Kept (writerParts w.who) [(r, i)] s t := by
  have hi : i < 65536 := Nat.lt_of_lt_of_le (locate_lt hl) (Nat.le_trans (plain_places r hr).1 (by decide))
  obtain ⟨t, he, hrd, ht⟩ := exec_registerWrite_alone hc hi hl hw hf (plain_accepts hr (s.elapse c.dt) i c.hwSet hk)
  exact ⟨t, he, eq_of_masked (plain_masks r hr).2.2 hrd, ht⟩

/-- A host command whose body is one write at a register of `plainRegs`. -/
theorem plain_carried {ins : Instr} {s : State} {c : Cmd} {p : Pkt} {role : Role} {r : RegId} {i : Nat} {v : Word} {opt : WOpt}
    {a : Answer} {P : State → Prop} (he : exec ins s = endWith (s.command c p)) (h : Carried s c p role) (hc : Calm s)
    (hr : r ∈ plainRegs) (hi : i < 65536) (hb : c.body role p (at_ s p) = (landed (at_ s p) r i (hostReq role v) v opt, some a))
    (hP : ∀ t, Answered s t c p a → t.rd r i = v → t.tick = s.tick + p.dt → Kept replyParts [(r, i)] s t → P t) : Ends ins s P := by
  have hord := plain_ordinary r hr
  simp only [List.mem_cons, not_or] at hord
  obtain ⟨_, _, _, hunit, hcan, _⟩ := hord
  have hk : Kept [] [(r, i)] (at_ s p) (landed (at_ s p) r i (hostReq role v) v opt) := by
    rw [plain_landed hr]
    exact Kept.wr _ _ _ _ hi
  exact carried_landed he h hc hi hcan hunit hb hk (by simp) fun t hans hrd htick hkt =>
    hP t hans (eq_of_masked (plain_masks r hr).2.2 hrd) htick hkt

/-- Settles O12: the model's `cycle` of one write that no check refuses is that write (`cycle_alone`), for REGISTER_WRITE and for the
bodies of REG_WRITE and REG_MODIFY. -/
theorem registerWritesLand : Obligations.RegisterWritesLand := by
  unfold Obligations.RegisterWritesLand
  refine ⟨fun s r i hc hr => ⟨fun addr c w hw hk hf hl => plain_registerWrite hc hr hw hk hf hl, ?_, ?_⟩,
    fun s r i w new hc hi hr => ⟨fun addr c hl h => ?_, ?_, ?_⟩⟩
  · intro p role h hp hl
    have hk := (locate_reg hl).1
    have hb : locate (wd (baseOf (nth p.payload 0))) = .at_ (.reg r i) .plain := by rw [wd_baseOf hk]; exact hl
    exact plain_carried rfl h hc hr (Nat.lt_of_lt_of_le (locate_lt hl) (Nat.le_trans (plain_places r hr).1 (by decide)))
      (regWrite_lands h.came.2.1 hb hk hp (plain_needs hr hb _) (plain_accepts hr _ i 0 rfl))
      fun t hans hrd htick hkt => ⟨hans, hrd, htick, hkt⟩
  · intro p role new h hp hl hlatch hnew
    have hb : locate (wd (baseOf (nth p.payload 0))) = .at_ (.reg r i) .plain := by rw [wd_baseOf (locate_reg hl).1]; exact hl
    have hbody := regModify_lands (role := role) h.came.2.1 h.came.2.2.2.2 hl hp (plain_needs hr hb (at_ s p))
      (plain_quiet hr hlatch) (plain_accepts hr _ i 0 rfl)
    have hpeek : ∀ u : State, u.peek (nth p.payload 0) = u.rd r i := fun u => by
      unfold State.peek
      rw [(locate_reg hl).2]
      exact plain_view hr u i
    have hold : (at_ s p).view r i = s.rd r i := plain_view hr _ i
    have hval : (hostReq role (modified (s.rd r i) p)).value = new := hnew.symm
    rw [hpeek, hold, (landed_state _ _ _ _ _ _).1, hval] at hbody
    have hmod : modified (s.rd r i) p = new := hnew.symm
    rw [hmod] at hbody
    exact plain_carried rfl h hc hr (Nat.lt_of_lt_of_le (locate_lt hl) (Nat.le_trans (plain_places r hr).1 (by decide))) hbody
      fun t hans hrd htick hkt => ⟨hans, hrd, htick, hkt⟩
  · exact exec_registerWrite_alone hc hi hl h.alone.1 h.plain.2 (h.accepts hr)
  · intro p role h hp hn hl hk hcan hunit hw hlands
    subst hw
    have ha := hlands.accepts hr
    rw [State.elapse_zero] at ha
    exact carried_landed rfl h hc hi hcan hunit (regWrite_lands h.came.2.1 hl hk hp hn ha)
      (landed_keeps _ _ _ _ _ _ hi rfl) (by simp [hostReq, writerParts]) fun t hans hrd _ hkt => ⟨hans, hrd, hkt⟩
  · intro p role h hp hn hl hq hcan hunit hw hlands
    subst hw
    have ha := hlands.accepts hr
    rw [State.elapse_zero] at ha
    exact carried_landed rfl h hc hi hcan hunit
      (regModify_lands h.came.2.1 h.came.2.2.2.2 hl hp hn ⟨hq.still, hq.unlatched⟩ ha)
      (landed_keeps _ _ _ _ _ _ hi rfl) (by simp [hostReq, writerParts]) fun t hans hrd _ hkt => ⟨⟨_, hans⟩, hrd, hkt⟩

end Sys2Proof.Machine
end

section
/-! Proofs of the scope family, fifth part: the commit of a safety record, and the reaction to a fault of class 4. -/
open Sys2Proof Sys2Proof.Machine

namespace Sys2Proof.Machine

/-! ## The commit of a safety record (R411 to R413) -/

/-- What the commit of a safety record and the reaction to a fault leave alone alike: the clocks, the queue, the supplies, a waiting
demand, the own role; and none of them starts a commit. -/
structure Commits (s t : State) : Prop where
  clocks : SameClocks s t
  queue : Part.queue.same s t
  sys : Part.sys.same s t
  waits : t.lan.doneWait = s.lan.doneWait
  role : t.nv.role = s.nv.role
  loads : s.lan.loading = none → t.lan.loading = none

namespace Commits

theorem refl (s : State) : Commits s s := ⟨⟨rfl, rfl, rfl⟩, Part.same_refl _ s, Part.same_refl _ s, rfl, rfl, id⟩

theorem trans {s t u : State} (h : Commits s t) (h' : Commits t u) : Commits s u :=
  ⟨⟨h'.clocks.1.trans h.clocks.1, h'.clocks.2.1.trans h.clocks.2.1, h'.clocks.2.2.trans h.clocks.2.2⟩,
    Part.same_trans h.queue h'.queue, Part.same_trans h.sys h'.sys, h'.waits.trans h.waits, h'.role.trans h.role,
    fun e => h'.loads (h.loads e)⟩

theorem calm {s t : State} (h : Commits s t) (hc : Calm s) : Calm t := h.waits.trans hc

/-- A step that changes neither the queue, the supplies, the clocks, the waiting demand nor the role. -/
theorem of_same {s t : State} (hc : SameClocks s t) (hq : t.pending = s.pending) (hs : t.sys = s.sys)
    (hw : t.lan.doneWait = s.lan.doneWait) (hr : t.nv.role = s.nv.role) (hl : s.lan.loading = none → t.lan.loading = none) :
    Commits s t :=
  ⟨hc, hq, ⟨by rw [hs], by rw [hs]; exact id, .inl (by rw [hs])⟩, hw, hr, hl⟩

theorem regs (s : State) (m : Store) : Commits s { s with regs := m } :=
  of_same ⟨rfl, rfl, rfl⟩ rfl rfl rfl rfl id

theorem wr (s : State) (r : RegId) (w : Word) (i : Nat) : Commits s (s.wr r w i) := regs s _

theorem setF (s : State) (f : Fld) (v i : Nat) : Commits s (s.setF f v i) := regs s _

theorem of_handled {l : List Part} {s t : State} (h : Handled l s t) (hl : ∀ p ∈ l, p ∈ [Part.logs, .latched])
    (hn : t.lan.loading = s.lan.loading) : Commits s t := by
  have hout : ∀ p, p ∉ [Part.logs, .latched] → p ∉ l := fun p hp hm => hp (hl p hm)
  exact ⟨h.clocks, h.parts .queue (hout _ (by decide)) (by decide) (by decide), h.parts .sys (hout _ (by decide)) (by decide) (by decide),
    h.waits, congrArg Nv.role (h.parts .nv (hout _ (by decide)) (by decide) (by decide)), hn.trans⟩

theorem of_steady {s t : State} (h : Steady [.logs] stateRegs s t) : Commits s t :=
  of_handled (Handled.of h) (by simp) (congrArg Lan.loading h.lan)

theorem foldl {α : Type} (l : List α) (f : State → α → State) (h : ∀ s a, Commits s (f s a)) (s : State) : Commits s (l.foldl f s) := by
  induction l generalizing s with
  | nil => exact refl s
  | cons a l ih => exact (h s a).trans (ih _)

theorem forN (s : State) (n : Nat) (f : Nat → State → State) (h : ∀ k u, Commits u (f k u)) : Commits s (s.forN n f) :=
  foldl _ _ (fun u k => h k u) s

theorem forL {α : Type} (s : State) (l : List α) (f : α → State → State) (h : ∀ a u, Commits u (f a u)) : Commits s (s.forL l f) :=
  foldl _ _ (fun u a => h a u) s

theorem clipReg (s : State) (r : RegId) (i : Nat) : Commits s (s.clipReg r i) := by
  have hmark : ∀ u : State, Commits u (u.markClip r i) := fun u => by
    unfold State.markClip
    split
    · split
      · exact setF _ _ _ _
      · exact setF _ _ _ _
    · exact refl u
  unfold State.clipReg
  split
  · exact (wr _ _ _ _).trans (hmark _)
  · exact refl s

theorem setLan (s : State) (l : Lan) (h : l.doneWait = s.lan.doneWait) (hl : s.lan.loading = none → l.loading = none) :
    Commits s { s with lan := l } := of_same ⟨rfl, rfl, rfl⟩ rfl rfl h rfl hl

theorem connStart (s : State) : Commits s s.connStart := by
  unfold State.connStart State.showNet
  dsimp only
  refine Commits.trans ?_ (setF _ _ _ _)
  refine Commits.trans ?_ (forN _ 8 _ fun c u => (wr _ _ _ _).trans (wr _ _ _ _))
  exact setLan s _ rfl id

theorem applyParam (s : State) (body : List Word) : Commits s (s.applyParam body) := by
  unfold State.applyParam
  dsimp only
  refine Commits.trans ?_ (connStart _)
  split
  · exact setLan s _ rfl id
  · refine Commits.trans ?_ (setF _ _ _ _)
    exact setLan s _ rfl id

theorem applyEnvelope (s : State) (body : List Word) : Commits s (s.applyEnvelope body) := by
  have hclip : ∀ u : State, Commits u u.clipAll := fun u =>
    ((forN u 4 _ fun a v => forL v _ _ fun r w => clipReg w r a).trans
      (forN _ 16 _ fun c v => (clipReg v _ c).trans (clipReg _ _ c))).trans (forN _ 8 _ fun k v => clipReg v _ k)
  unfold State.applyEnvelope
  dsimp only
  refine (Commits.trans ?_ (setF _ _ _ _)).trans (hclip _)
  refine Commits.trans ?_ (forN _ 4 _ fun n u => setF u _ _ _)
  refine Commits.trans ?_ (forN _ 8 _ fun b u => forN u 4 _ fun k v => wr v _ _ _)
  exact forN s 4 _ fun n u => forN u 6 _ fun k v => wr v _ _ _

theorem finish (s : State) (o : BitVec 16) (n : Nat) (a : Answer) : Commits s (s.finish o n a) := of_steady (Steady.finish s o n a)

theorem recCommit (s : State) (kind : Nat) (r : List Word) : Commits s (s.recCommit kind r) := by
  have hmem : ∀ m : Store, Commits s { s with nv := { s.nv with mem := m } } := fun _ => of_same ⟨rfl, rfl, rfl⟩ rfl rfl rfl rfl id
  have happly : ∀ u, Commits s u → Commits s (if kind == 1 then u.applyParam (u.recBody 1) else u.applyEnvelope (u.recBody 2)) :=
    fun u h => by
      split
      · exact h.trans (applyParam u _)
      · exact h.trans (applyEnvelope u _)
  have hshow : ∀ u, Commits s u → Commits s u.showSafety := fun u h =>
    h.trans (((setF u _ _ _).trans (setF _ _ _ _)).trans (wr _ _ _ _))
  have haudit : ∀ u b e o w v, Commits s u → Commits s (u.audit b e o w v) := fun u _ _ _ _ _ h =>
    h.trans (of_same ⟨rfl, rfl, rfl⟩ rfl rfl rfl rfl id)
  exact haudit _ _ _ _ _ _ (hshow _ (happly _ (hmem _)))

/-- A commit that ends well leaves the same alone. -/
theorem loadEnd (s : State) : Commits s (s.loadEnd true) := by
  have hload : ∀ u : State, Commits u { u with lan := { u.lan with loading := none } } := fun u => of_same ⟨rfl, rfl, rfl⟩ rfl rfl rfl rfl fun _ => rfl
  unfold State.loadEnd
  split
  · exact refl s
  · rw [if_pos rfl]
    exact ((hload s).trans (recCommit _ _ _)).trans (finish _ _ _ _)

/-- After it no commit is under way. -/
theorem loadEnd_done (s : State) : (s.loadEnd true).lan.loading = none := by
  unfold State.loadEnd
  split
  · assumption
  · rw [if_pos rfl]
    exact ((recCommit _ _ _).trans (finish _ _ _ _)).loads rfl

end Commits

/-! ## The reaction to an FR4 starts no commit -/

theorem note_lan (s : State) (code axis : Nat) (d : List Word) : (s.note code axis d).lan = s.lan := by
  have hlog := (Steady.logFault (W := stateRegs) s code axis d false).lan
  unfold State.note
  dsimp only
  repeat' split
  all_goals exact hlog

theorem stoTake_loading (s : State) : s.stoTake.lan.loading = s.lan.loading := by
  unfold State.stoTake
  split
  · rfl
  · have k1 : ∀ u : State, ((u.setF F.LAN_STAT_STO_ACTIVE 1).setF F.LAN_STAT_SS1_RUN 0).lan = u.lan := fun _ => rfl
    have k2 : ∀ u : State, (u.offAll.forN 8 fun k s => s.driveChop k false).lan = u.lan := fun u =>
      ((Steady.offAll (L := []) (W := []) u).trans (Steady.forN _ 8 _ fun k _ s => Steady.driveChop s k false)).lan
    have k3 : ∀ u : State, ((u.setF F.LAN_SBC_ON 0).setF F.LAN_STAT_SBC_APPLIED 1).lan = u.lan := fun _ => rfl
    refine (congrArg Lan.loading ((Steady.forN (L := []) (W := stateRegs) _ 4 _ fun a ha s => ?_).lan.trans
      ((k3 _).trans ((k2 _).trans (k1 _))))).trans rfl
    have ha' : a < 65536 := by omega
    split
    · exact (Steady.finish _ _ _ _).trans (Steady.toDisabled _ a ha')
    · exact (Steady.finish _ _ _ _).trans (Steady.toDisabled _ a ha')
    · exact Steady.toStopping _ a _ ha'
    · exact Steady.toStopping _ a _ ha'
    · exact (Steady.runBitsOff _ _).trans (Steady.updAxis _ _ _)
    · exact Steady.refl _

/-- What react4 does to the axes one by one. -/
theorem react4_axes_steady (s : State) (code : Nat) : Steady [] stateRegs s (s.forN 4 fun a s =>
    if s.axSt a == aDISABLED && !s.justLeft a then s
    else if s.axSt a == aFAULTED then (s.runBitsOff a).updAxis a fun x => { x with rampDown := false }
    else s.toFaulted a code false) := by
  refine Steady.forN _ 4 _ fun a ha s => ?_
  split
  · exact Steady.refl _
  · split
    · exact (Steady.runBitsOff _ _).trans (Steady.updAxis _ _ _)
    · exact Steady.toFaulted _ a _ _ (by omega)

theorem react4_loading (s : State) (code : Nat) : (s.react4 code).lan.loading = s.lan.loading := by
  have hdev : ∀ u : State, (if u.dev == dREADY || u.dev == dARMED || u.dev == dRUN then u.setDev dFAULT code else u).lan = u.lan :=
    fun u => by
      split
      · exact (Steady.setDev _ _ _ _).lan
      · rfl
  have hoff := (Steady.offAll (L := []) (W := []) s).lan
  unfold State.react4
  dsimp only
  rw [stoTake_loading, (react4_axes_steady _ code).lan, hdev, hoff]

theorem raise_eq_react4 (s : State) {code : Nat} (h : faultClass code = 4) : s.raise code = (s.note code 7 []).react4 code := by
  unfold State.raise State.react
  rw [h]
  rfl

/-- A raised FR4 is a reaction that commits nothing. -/
theorem Commits.raise4 (s : State) {code : Nat} (h : faultClass code = 4) : Commits s (s.raise code) := by
  refine Commits.of_handled (Handled.raise s code 7 [] _ (by simp)) (by simp) ?_
  rw [raise_eq_react4 s h, react4_loading, note_lan]

end Sys2Proof.Machine
end

section
/-! Proofs of the scope family, sixth part: the record of a fault stays in the log. -/
open Sys2Proof Sys2Proof.Machine

namespace Sys2Proof.Machine

/-! ## A record stays in the fault log through a reaction (R453, R454) -/

/-- A record of a code stands among the newest n of the fault log. -/
def Logged (code n : Nat) (s : State) : Prop := code ∈ (s.flt.log.map FaultRec.code).take n

namespace Logged

variable {code n : Nat} {s t : State}

theorem of_log (h : Logged code n s) (hl : t.flt.log = s.flt.log) : Logged code n t := by
  unfold Logged
  rw [hl]
  exact h

theorem of_steady {W : List RegId} (h : Logged code n s) (hs : Steady [] W s t) : Logged code n t :=
  h.of_log (hs.parts .logs (by simp) (by decide)).1

theorem mono {m : Nat} (h : Logged code n s) (hm : n ≤ m) : Logged code m s :=
  (List.take_sublist_take_left hm).subset h

theorem mem (h : Logged code n s) : ∃ r ∈ s.flt.log, r.code = code := by
  simpa using List.mem_of_mem_take h

/-- A new record, or one more of the newest, moves a record back by one place at most. -/
theorem logFault (h : Logged code n s) (hn : n < 8192) (c a : Nat) (d : List Word) (b : Bool) :
    Logged code (n + 1) (s.logFault c a d b) := by
  have hpush : ∀ r : FaultRec, code ∈ (((r :: s.flt.log).take 8192).map FaultRec.code).take (n + 1) := fun r => by
    rw [List.map_take, List.take_take, Nat.min_eq_left (by omega), List.map_cons, List.take_succ_cons]
    exact List.mem_cons_of_mem _ h
  have hflt : ((s.setF F.SYS_FAULT_LAST_CODE c).setF F.SYS_FAULT_LAST_CLASS (faultClass c)).flt = s.flt := rfl
  unfold State.logFault Logged
  dsimp only
  rw [hflt]
  split
  · rename_i r rest hlog
    split
    · have hmem := h.mono (Nat.le_succ n)
      unfold Logged at hmem
      rw [hlog] at hmem
      exact hmem
    · exact hpush _
  · exact hpush _

/-- A fault of class FR2 or higher is logged as the newest. -/
theorem logFault_new (s : State) {c : Nat} (hc : 2 ≤ faultClass c) (a : Nat) (d : List Word) (b : Bool) :
    Logged c 1 (s.logFault c a d b) := by
  have hcls : decide (faultClass c < 2) = false := decide_eq_false (by omega)
  unfold State.logFault Logged
  dsimp only
  split
  · rw [hcls]
    simp
  · simp

theorem note (s : State) {c : Nat} (hc : 2 ≤ faultClass c) (a : Nat) (d : List Word) : Logged c 1 (s.note c a d) := by
  have hlog := logFault_new s hc a d false
  unfold State.note
  dsimp only
  repeat' split
  all_goals exact hlog.of_log rfl

theorem meStop (h : Logged code n s) (hn : n < 8192) (k : Nat) (a : Answer) (hk : k < 65536) : Logged code (n + 1) (s.meStop k a) := by
  unfold State.meStop
  split
  · exact (h.mono (Nat.le_succ n)).of_steady (W := []) ((Steady.meRest s k false hk).trans (Steady.finish _ _ _ _))
  · dsimp only
    have hrest : ∀ (u : State) b, Logged code (n + 1) u →
        Logged code (n + 1) (((u.meRest k b).finish 0x0400 k a).finish 0x0402 k a) := fun u b hu =>
      hu.of_steady (W := []) (((Steady.meRest u k b hk).trans (Steady.finish _ _ _ _)).trans (Steady.finish _ _ _ _))
    refine hrest _ _ ?_
    split
    · exact (h.of_log (t := (s.setF F.ME_STAT_UNCERTAIN 1 k).bump F.ME_UNC_CNT_COUNT k) rfl).logFault hn _ _ _ _
    · exact h.mono (Nat.le_succ n)

theorem auxStop (h : Logged code n s) (hn : n + 1 < 8192) (c : Nat) (all : Bool) : Logged code (n + 2) (s.auxStop c all) := by
  have hstop : ∀ (m k : Nat) (u : State) (p : Prop) [Decidable p], k < 65536 → m < 8192 → Logged code m u →
      Logged code (m + 1) (if p then u.meStop k (ans cINTERNAL c) else u) := fun m k u p _ hk hm hu => by
    split
    · exact hu.meStop hm k _ hk
    · exact hu.mono (Nat.le_succ m)
  exact hstop (n + 1) 1 _ _ (by decide) hn (hstop n 0 _ _ (by decide) (by omega) (h.of_steady (Steady.auxHiZ (W := []) s)))

theorem setDev (h : Logged code n s) (hn : n + 1 < 8192) (d c : Nat) (e : Bool) : Logged code (n + 2) (s.setDev d c e) := by
  unfold State.setDev
  dsimp only
  split
  · exact h.mono (by omega)
  · have k1 : ∀ u, Logged code n u → Logged code n (if e = true then { u with sys := { u.sys with lastTrans := some u.tick } } else u) :=
      fun u hu => by split <;> exact hu
    have k2 : ∀ (c : Bool) u, Logged code n u → Logged code n (if c = true then { u with mot := { u.mot with hiz := false } } else u) :=
      fun c u hu => by split <;> exact hu
    have k3 : ∀ (b : Bool) u, Logged code n u → Logged code (n + 2) (if b = true then u.auxStop c true else u) := fun b u hu => by
      split
      · exact hu.auxStop hn c true
      · exact hu.mono (by omega)
    have k4 : ∀ (c : Bool) u, Logged code (n + 2) u →
        Logged code (n + 2) (if c = true then u else u.forN 8 fun k s => s.driveChop k false) := fun c u hu => by
      split
      · exact hu
      · exact hu.of_steady (W := []) (Steady.forN _ 8 _ fun k _ s => Steady.driveChop s k false)
    have k5 : ∀ (c : Bool) u, Logged code (n + 2) u → Logged code (n + 2) (if c = true then u.doSafe else u) := fun c u hu => by
      split
      · exact hu.of_steady (W := []) (Steady.fio _ _)
      · exact hu
    refine k5 _ _ (of_steady (W := []) (k4 _ _ (k3 _ _ (k2 _ _ (k1 _ ?_)))) (Steady.wickFrom _ _))
    exact h.of_log rfl

end Logged

end Sys2Proof.Machine
end

section
/-! Proofs of the scope family, seventh part: the logic supply leaves its range. -/
open Sys2Proof Sys2Proof.Machine

namespace Sys2Proof.Machine

/-! ## The supply leaves its range (R66 to R68, R468) -/

theorem Logged.raise4 (s : State) {code : Nat} (h : faultClass code = 4) : Logged code 3 (s.raise code) := by
  have hnote := Logged.note s (by omega : 2 ≤ faultClass code) 7 []
  have hdev : ∀ u : State, Logged code 1 u →
      Logged code 3 (if u.dev == dREADY || u.dev == dARMED || u.dev == dRUN then u.setDev dFAULT code else u) := fun u hu => by
    split
    · exact hu.setDev (by decide) _ _ _
    · exact hu.mono (by decide)
  rw [raise_eq_react4 s h]
  unfold State.react4
  dsimp only
  refine Logged.of_log ?_ ((Handled.stoTake (L := []) _).parts .logs (by simp) (by decide) (by decide)).1
  exact (hdev _ (hnote.of_steady (Steady.offAll (W := []) _))).of_steady (react4_axes_steady _ code)

/-- A run of steps that only add to the registers kept in the NV store only does that. -/
theorem forN_kept {f : Nat → State → State} (h : ∀ k u, ∃ m, f k u = { u with nv := { u.nv with kept := m } }) (s : State) (n : Nat) :
    ∃ m, s.forN n f = { s with nv := { s.nv with kept := m } } := by
  have hl : ∀ (l : List Nat) (s : State), ∃ m, l.foldl (fun s k => f k s) s = { s with nv := { s.nv with kept := m } } := by
    intro l
    induction l with
    | nil => exact fun s => ⟨s.nv.kept, rfl⟩
    | cons k l ih =>
      intro s
      obtain ⟨m, hm⟩ := h k s
      obtain ⟨m', hm'⟩ := ih (f k s)
      exact ⟨m', by rw [List.foldl_cons, hm', hm]⟩
  exact hl _ s

/-- Saving the lifetime counters changes the kept registers of the NV store alone (R468). -/
theorem saveCounters_kept (s : State) : ∃ m, s.saveCounters = { s with nv := { s.nv with kept := m } } := by
  obtain ⟨m, hm⟩ := forN_kept (f := fun b s => (s.keep .CDL_HOURS_SW b).keep .CDL_CYCLES b) (fun _ _ => ⟨_, rfl⟩) (s.keep .CDL_HOURS_ON) 8
  obtain ⟨m', hm'⟩ := forN_kept (f := fun a s => (s.keep .CDL_ENERGY_MOT a).keep .CDL_ENERGY_GEN a) (fun _ _ => ⟨_, rfl⟩)
    ((s.keep .CDL_HOURS_ON).forN 8 fun b s => (s.keep .CDL_HOURS_SW b).keep .CDL_CYCLES b) 4
  exact ⟨m', hm'.trans (by rw [hm]; rfl)⟩

theorem Commits.saveCounters (s : State) : Commits s s.saveCounters := by
  obtain ⟨m, hm⟩ := saveCounters_kept s
  rw [hm]
  exact of_same ⟨rfl, rfl, rfl⟩ rfl rfl rfl rfl id

theorem Kept.saveCounters (s : State) : Kept [.nv] [] s s.saveCounters := by
  obtain ⟨m, hm⟩ := saveCounters_kept s
  rw [hm]
  exact ⟨fun p hp => by cases p <;> simp_all [Part.same], fun _ _ _ _ => rfl⟩

/-- Without a commit under way none ends. -/
theorem loadEnd_idle {s : State} (h : s.lan.loading = none) (ok : Bool) : s.loadEnd ok = s := by
  unfold State.loadEnd
  rw [h]

/-- The gates and the auxiliary bridge off. -/
theorem gatesOff_steady (s : State) (code : Nat) : Steady [.logs] stateRegs s (s.offAll.auxStop code true) :=
  (Steady.offAll s).trans (Steady.auxStop _ _ _)

theorem supplyOff_commits (s : State) {code : Nat} (h : faultClass code = 4) : Commits s (s.supplyOff code) :=
  (((Commits.of_steady (gatesOff_steady s code)).trans (Commits.loadEnd _)).trans (Commits.saveCounters _)).trans (Commits.raise4 _ h)

theorem supplyOff_done (s : State) {code : Nat} (h : faultClass code = 4) : (s.supplyOff code).lan.loading = none :=
  ((Commits.saveCounters _).trans (Commits.raise4 _ h)).loads (Commits.loadEnd_done _)

/-- With no commit under way it spares all but the NV store. -/
theorem supplyOff_spared {s : State} (hl : s.lan.loading = none) (code : Nat) : Spared [.nv] [] s (s.supplyOff code) := by
  have hgates := gatesOff_steady s code
  have hidle : (s.offAll.auxStop code true).loadEnd true = s.offAll.auxStop code true :=
    loadEnd_idle ((congrArg Lan.loading hgates.lan).trans hl) true
  unfold State.supplyOff
  rw [hidle]
  exact (((Handled.of hgates).spared (by simp)).trans (Kept.saveCounters _).spared).trans
    ((Handled.raise _ code 7 [] _ (by simp)).spared (by simp))

theorem Spared.mono {ps qs : List Part} {rs ws : List RegId} {s t : State} (h : Spared ps rs s t) (hp : ∀ p ∈ ps, p ∈ qs)
    (hr : ∀ r ∈ rs, r ∈ ws) : Spared qs ws s t :=
  ⟨fun p hq => h.1 p fun hm => hq (hp p hm), fun r i hi hw => h.2 r i hi fun hm => hw (hr r hm)⟩

/-- What stands in `sys` of the supply goes on standing there. -/
theorem sys_same_supply {s t : State} (h : Part.sys.same s t) :
    t.sys.supplyLow = s.sys.supplyLow ∧ t.sys.lowAt = s.sys.lowAt ∧ t.sys.supplyHigh = s.sys.supplyHigh := by
  have hlow := congrArg Sys.supplyLow h.1
  have hat := congrArg Sys.lowAt h.1
  have hhigh := congrArg Sys.supplyHigh h.1
  exact ⟨hlow, hat, hhigh⟩

theorem lan_same_loading {s t : State} (h : Part.lan.same s t) : t.lan.loading = s.lan.loading := by
  unfold Part.same at h
  have hl := congrArg Lan.loading h
  exact hl

/-- A command that ends in the supply having left its range. -/
theorem ends_supplyOff {c : Instr} {s u : State} {code : Nat} {P : State → Prop} (he : exec c s = endWith (u.supplyOff code))
    (hc : Calm u) (h4 : faultClass code = 4)
    (hp : ∀ t, Raised t code 7 → t.fld F.LAN_STAT_STO_ACTIVE ≠ 0 → t.lan.loading = none → SameClocks u t → Part.sys.same u t →
      (u.lan.loading = none → Spared [.nv] [] u t) → P t) : Ends c s P := by
  have hoff := supplyOff_commits u h4
  refine ends_over he (hoff.calm hc) fun t ht hct => hp t ?_ ?_ ?_ ?_ ?_ fun hl => ?_
  · exact (raise_raised _ code 7 [] _ (by simp)).kept ht (by simp) (by simp)
  · rw [ht.fld F.LAN_STAT_STO_ACTIVE 0 (by decide) (by simp) (by decide)]
    exact raise4_sto _ code 7 [] _ h4
  · exact (lan_same_loading (ht.1 .lan (by simp))).trans (supplyOff_done u h4)
  · exact ⟨hct.1.trans hoff.clocks.1, hct.2.1.trans hoff.clocks.2.1, hct.2.2.trans hoff.clocks.2.2⟩
  · exact Part.same_trans hoff.sys (ht.1 .sys (by simp))
  · exact (supplyOff_spared hl code).trans ht.spared

/-- Only the supplies, clocks and switches change. -/
theorem Kept.sys (s : State) (y : Sys) (h : y.phase = s.sys.phase ∧ y.lastTrans = s.sys.lastTrans) : Kept [.sys] [] s { s with sys := y } :=
  ⟨fun p hp => by cases p <;> simp_all [Part.same], fun _ _ _ _ => rfl⟩

/-- The state in which the supply is found low. -/
def lowState (s : State) (dt : Nat) : State :=
  { s.elapse dt with sys := { (s.elapse dt).sys with supplyLow := true, lowAt := (s.elapse dt).tick } }

/-- The state in which the supply is found high. -/
def highState (s : State) (dt : Nat) : State := { s.elapse dt with sys := { (s.elapse dt).sys with supplyHigh := true } }

theorem supplyFalls_low {s : State} (h : s.sys.supplyLow = true) : s.supplyFalls = s := by
  unfold State.supplyFalls
  rw [if_pos h]

theorem supplyFalls_good {s : State} {dt : Nat} (h : s.sys.supplyLow = false) :
    (s.elapse dt).supplyFalls = (lowState s dt).supplyOff 0x7030 := by
  unfold State.supplyFalls
  rw [if_neg (by simp [h])]
  rfl

theorem logicSupplyLow_ends {s : State} (dt : Nat) (hc : Calm s) (hph : s.sys.phase ≠ .unpowered) (hlow : s.sys.supplyLow = false) :
    Ends (.logicSupplyLow dt) s fun t =>
      t.sys.supplyLow = true ∧ t.sys.lowAt = t.tick ∧ Raised t 0x7030 7 ∧ t.fld F.LAN_STAT_STO_ACTIVE ≠ 0 ∧ t.lan.loading = none ∧
        t.tick = s.tick + dt ∧ (s.lan.loading = none → Spared [.nv, .sys] [] s t) := by
  have he : exec (.logicSupplyLow dt) s = endWith ((lowState s dt).supplyOff 0x7030) := by
    show endWith (if (s.elapse dt).sys.phase == .unpowered then s.elapse dt else (s.elapse dt).supplyFalls) = _
    rw [if_neg (by simpa using hph), supplyFalls_good hlow]
  have hk : Kept [.sys] [] s (lowState s dt) := (Kept.elapse s dt).trans (Kept.sys _ _ ⟨rfl, rfl⟩)
  refine ends_supplyOff he hc (by decide) fun t hr hsto hl hct hsys hsp => ⟨?_, ?_, hr, hsto, hl, hct.1, fun h => ?_⟩
  · exact (sys_same_supply hsys).1
  · exact (sys_same_supply hsys).2.1.trans hct.1.symm
  · exact (hk.spared.trans (hsp h)).mono (by simp) (by simp)

theorem logicSupplyHigh_ends {s : State} (dt : Nat) (hc : Calm s) (hph : s.sys.phase ≠ .unpowered) (hhigh : s.sys.supplyHigh = false) :
    Ends (.logicSupplyHigh dt) s fun t =>
      t.sys.supplyHigh = true ∧ Raised t 0x7032 7 ∧ t.fld F.LAN_STAT_STO_ACTIVE ≠ 0 ∧ t.lan.loading = none ∧ t.tick = s.tick + dt ∧
        (s.lan.loading = none → Spared [.nv, .sys] [] s t) := by
  have he : exec (.logicSupplyHigh dt) s = endWith ((highState s dt).supplyOff 0x7032) := by
    show endWith (if (s.elapse dt).sys.phase == .unpowered || (s.elapse dt).sys.supplyHigh then s.elapse dt
      else (highState s dt).supplyOff 0x7032) = _
    rw [if_neg (by simp [hph, hhigh])]
  have hk : Kept [.sys] [] s (highState s dt) := (Kept.elapse s dt).trans (Kept.sys _ _ ⟨rfl, rfl⟩)
  refine ends_supplyOff he hc (by decide) fun t hr hsto hl hct hsys hsp => ⟨?_, hr, hsto, hl, hct.1, fun h => ?_⟩
  · exact (sys_same_supply hsys).2.2
  · exact (hk.spared.trans (hsp h)).mono (by simp) (by simp)

theorem logicSupplyHighGone_ends {s : State} (dt : Nat) (hc : Calm s) : Ends (.logicSupplyHighGone dt) s fun t =>
    t.sys.supplyHigh = false ∧ t.tick = s.tick + dt ∧ Kept [.sys] [] s t := by
  have hk := (Kept.elapse s dt).trans (Kept.sys (s.elapse dt) { (s.elapse dt).sys with supplyHigh := false } ⟨rfl, rfl⟩)
  exact ends_over rfl hc fun t ht hct => ⟨(sys_same_supply (ht.1 .sys (by simp))).2.2, hct.1, (hk.trans ht).mono (by simp) (by simp)⟩

/-! ## The off sequence run to its end, and the start of BOOT (R70, R73, R74) -/

theorem offInner_steady (s : State) (b : Nat) : Steady [] stateRegs s (s.offInner b) := by
  unfold State.offInner
  refine (Steady.trans ?_ (Steady.gate _ _)).trans (Steady.setBit _ F.GATE_STAT_OFFSEQ b false 0 (.inr (by decide)) (by decide))
  exact Steady.forL _ _ _ fun g _ u => Steady.drive u g false

/-- The off sequence run to its end changes only what reactions may, and takes its time. -/
theorem offNow_keeps (s : State) :
    (∀ p, p ∉ reactParts → p.same s s.offNow) ∧ s.tick ≤ s.offNow.tick ∧ s.offNow.lan = s.lan := by
  have hoff := Steady.offAll (L := []) (W := stateRegs) s
  have hend : ∀ u : State, Steady [] stateRegs u
      (u.forN 8 fun b s => if (nth s.gate.offDue b).isSome then s.offInner b else s) := fun u =>
    Steady.forN u 8 _ fun b _ v => Steady.step_if (Steady.refl v) _ fun w => offInner_steady w b
  have key : ∀ u d, Steady [] stateRegs s u →
      (∀ p, p ∉ reactParts → p.same s ((u.elapseTo d).forN 8 fun b s => if (nth s.gate.offDue b).isSome then s.offInner b else s)) ∧
        s.tick ≤ ((u.elapseTo d).forN 8 fun b s => if (nth s.gate.offDue b).isSome then s.offInner b else s).tick ∧
        ((u.elapseTo d).forN 8 fun b s => if (nth s.gate.offDue b).isSome then s.offInner b else s).lan = s.lan := fun u d hu => by
    have hv := hend (u.elapseTo d)
    refine ⟨fun p hp => ?_, ?_, hv.lan.trans hu.lan⟩
    · exact Part.same_trans (hu.parts p (by simp) hp)
        (Part.same_trans ((Kept.elapseTo u d).1 p (by simp)) (hv.parts p (by simp) hp))
    · rw [hv.clocks.1, State.elapseTo_tick, hu.clocks.1]
      exact Nat.le_max_left _ _
  exact key _ _ hoff

/-- Reading the boot record changes registers alone. -/
theorem bootRecord_regs (s : State) : ∃ m, s.bootRecord = { s with regs := m } := by
  have hset : ∀ (u : State) f v, (∃ m, u = { s with regs := m }) → ∃ m, u.setF f v = { s with regs := m } := by
    rintro _ f v ⟨m, rfl⟩
    exact ⟨_, rfl⟩
  have hwr : ∀ (u : State) r w, (∃ m, u = { s with regs := m }) → ∃ m, u.wr r w = { s with regs := m } := by
    rintro _ r w ⟨m, rfl⟩
    exact ⟨_, rfl⟩
  have hkept := hset _ F.SYS_STATE_ACTIVE_BANK (b2n s.nv.bootB)
    (hset _ F.SYS_CLK_STAT_SYSPLL_LOCK 1 ⟨_, (rfl : s.restoreKept (fun k => !State.isMargin k) = _)⟩)
  unfold State.bootRecord
  dsimp only
  split
  · exact hset _ _ _ (hwr _ _ _ hkept)
  · exact hkept

/-- BOOT starts with the boot record read and the rest left alone. -/
theorem beginBoot_keeps (s : State) :
    s.beginBoot.flt = s.flt ∧ s.beginBoot.nv = s.nv ∧ s.beginBoot.hst = s.hst ∧ s.beginBoot.lan = s.lan ∧
      s.beginBoot.sys = { s.sys with phase := .booting } ∧ SameClocks s s.beginBoot := by
  obtain ⟨m, hm⟩ := bootRecord_regs s
  unfold State.beginBoot
  rw [hm]
  exact ⟨rfl, rfl, rfl, rfl, rfl, rfl, rfl, rfl⟩

/-- BOOT starts in BOOT, and shows the bank it boots. -/
theorem beginBoot_shows (s : State) :
    s.beginBoot.dev = dBOOT ∧ s.beginBoot.fld F.SYS_STATE_ACTIVE_BANK = b2n s.nv.bootB := by
  have hstart : ∀ u : State, u.fld F.SYS_STATE_ACTIVE_BANK = b2n s.nv.bootB →
      (u.setF F.SYS_STATE_STATE dBOOT).dev = dBOOT ∧ (u.setF F.SYS_STATE_STATE dBOOT).fld F.SYS_STATE_ACTIVE_BANK = b2n s.nv.bootB :=
    fun u hu => by
      unfold State.dev
      rw [State.fld_setF_same _ _ _ _ (by decide), State.fld_setF_bits _ F.SYS_STATE_STATE F.SYS_STATE_ACTIVE_BANK _ _ rfl (by decide)]
      exact ⟨rfl, hu⟩
  have hbank : ∀ u : State, (u.setF F.SYS_STATE_ACTIVE_BANK (b2n s.nv.bootB)).fld F.SYS_STATE_ACTIVE_BANK = b2n s.nv.bootB := fun u => by
    rw [State.fld_setF_same _ _ _ _ (by decide)]
    exact b2n_mod _
  have hrole : ∀ (u : State) w e, ((u.wr .SYS_UNIT w).setF F.MEM_STAT_EPOCH e).fld F.SYS_STATE_ACTIVE_BANK = u.fld F.SYS_STATE_ACTIVE_BANK :=
    fun u w e => by
      rw [State.fld_setF_reg _ _ _ _ _ _ (by decide) (by decide) (.inl (by decide)),
        State.fld_wr_other _ _ _ _ _ _ (by decide) (by decide) (.inl (by decide))]
  refine hstart _ ?_
  unfold State.bootRecord
  dsimp only
  split
  · exact (hrole _ _ _).trans (hbank _)
  · exact hbank _

end Sys2Proof.Machine
end

section
/-! Proofs of the scope family, eighth part: the logic supply is lost, and comes back. -/
open Sys2Proof Sys2Proof.Machine

namespace Sys2Proof.Machine

/-! ## The supply is lost (R66 to R68, R74) -/

/-- The state at the time `d` from `u`, with the gates off and the commit under way ended (R67, R68). -/
def drained (u : State) (d : Nat) : State := (u.elapseTo d).offNow.loadEnd true

/-- The time passes, and with no commit under way the stores and the logs stay. -/
theorem drained_keeps (u : State) (d : Nat) :
    (drained u d).pending = u.pending ∧ (drained u d).nv.role = u.nv.role ∧ max u.tick d ≤ (drained u d).tick ∧
      (u.lan.loading = none → (drained u d).nv = u.nv ∧ Part.logs.same u (drained u d)) := by
  obtain ⟨hparts, htick, hlan⟩ := offNow_keeps (u.elapseTo d)
  have hend := Commits.loadEnd (u.elapseTo d).offNow
  have hnv : (u.elapseTo d).offNow.nv = u.nv := hparts .nv (by decide)
  refine ⟨hend.queue.trans (hparts .queue (by decide)), ?_, ?_, fun hl => ?_⟩
  · unfold drained
    rw [hend.role, hnv]
  · rw [State.elapseTo_tick] at htick
    exact Nat.le_trans htick (Nat.le_of_eq hend.clocks.1.symm)
  · have hload := congrArg Lan.loading hlan
    have hidle : drained u d = (u.elapseTo d).offNow := loadEnd_idle (hload.trans hl) true
    rw [hidle]
    exact ⟨hnv, Part.same_trans ((Kept.elapseTo u d).1 .logs (by simp)) (hparts .logs (by decide))⟩

/-- The state that the loss of the supply leaves of a drained one: the internal reset. -/
def powerless (z : State) : State :=
  { z.resetAll true with sys := { (z.resetAll true).sys with phase := .unpowered, powerLost := true } }

theorem exec_logicSupplyLost {s : State} (dt : Nat) (hph : s.sys.phase ≠ .unpowered) :
    exec (.logicSupplyLost dt) s =
      endWith (powerless (drained (s.elapse dt).supplyFalls ((s.elapse dt).supplyFalls.sys.lowAt + 2 * ticksPerMs))) := by
  have hup : ((s.elapse dt).sys.phase == .unpowered) = false := by simpa using hph
  unfold exec execLogicSupplyLost powerless drained
  dsimp only
  rw [hup, if_neg Bool.false_ne_true]

/-- The supply found low, on its way down or before: since when, and the time of the command. -/
theorem supplyFalls_keeps (s : State) (dt : Nat) :
    (s.elapse dt).supplyFalls.pending = s.pending ∧ (s.elapse dt).supplyFalls.nv.role = s.nv.role ∧
      (s.elapse dt).supplyFalls.tick = s.tick + dt ∧
      (s.elapse dt).supplyFalls.sys.lowAt = if s.sys.supplyLow = true then s.sys.lowAt else s.tick + dt := by
  by_cases h : s.sys.supplyLow = true
  · rw [supplyFalls_low (by simpa using h), if_pos h]
    exact ⟨rfl, rfl, rfl, rfl⟩
  · have hoff := supplyOff_commits (lowState s dt) (by decide : faultClass 0x7030 = 4)
    rw [supplyFalls_good (by simpa using h), if_neg h]
    exact ⟨hoff.queue, hoff.role, hoff.clocks.1, (sys_same_supply hoff.sys).2.1⟩

/-- Nothing but the stores, the logs, the queue and the time outlives the loss of the supply. -/
theorem ends_powerless {c : Instr} {s z : State} {P : State → Prop} (he : exec c s = endWith (powerless z))
    (hp : ∀ t : State, t.sys.phase = .unpowered → t.sys.powerLost = true → SameRegs [] State.reset t → t.hst.sessions = [] →
      t.hst.flight = [] → t.hst.cache = [] → t.flt.latched = [] → t.merTime = 0 → t.gate.gc = 0 →
      t.nv.role = z.nv.role → t.nv.mem = z.nv.mem → t.nv.kept = z.nv.kept → t.pending = z.pending → t.tick = z.tick →
      t.flt.log = z.flt.log → t.flt.audit = z.flt.audit → P t) : Ends c s P := by
  refine ends_over he rfl fun t ht hct => ?_
  have hlost : t.sys.powerLost = true := congrArg Sys.powerLost (ht.1 .sys (by simp)).1
  have hgc : t.gate.gc = 0 := congrArg Gate.gc (ht.1 .gate (by simp))
  have hlogs := ht.1 .logs (by simp)
  have hnv : t.nv = (powerless z).nv := ht.1 .nv (by simp)
  have hrole := congrArg Nv.role hnv
  have hmem := congrArg Nv.mem hnv
  have hkept := congrArg Nv.kept hnv
  exact hp t (ht.1 .trans (by simp)).1 hlost (fun r i hi hn => ht.2 r i hi hn) (ht.1 .sessions (by simp)).1
    (ht.1 .flight (by simp)) (ht.1 .cache (by simp)).1 (ht.1 .latched (by simp)).1 hct.2.1 hgc hrole hmem hkept
    (ht.1 .queue (by simp)) hct.1 hlogs.1 hlogs.2.2.1

theorem logicSupplyLost_ends {s : State} (dt : Nat) (hph : s.sys.phase ≠ .unpowered) : Ends (.logicSupplyLost dt) s fun t =>
      t.sys.phase = .unpowered ∧ t.sys.powerLost = true ∧ SameRegs [] State.reset t ∧ t.hst.sessions = [] ∧ t.hst.flight = [] ∧
        t.hst.cache = [] ∧ t.flt.latched = [] ∧ t.merTime = 0 ∧ t.gate.gc = 0 ∧ t.nv.role = s.nv.role ∧ t.pending = s.pending ∧
        s.tick + dt ≤ t.tick ∧ (if s.sys.supplyLow = true then s.sys.lowAt else s.tick + dt) + 2 * ticksPerMs ≤ t.tick ∧
        (if s.sys.supplyLow = true then s.lan.loading = none →
          t.nv.mem = s.nv.mem ∧ t.nv.kept = s.nv.kept ∧ t.flt.log = s.flt.log ∧ t.flt.audit = s.flt.audit
         else ∃ r ∈ t.flt.log, r.code = 0x7030) := by
  have hrun := exec_logicSupplyLost dt hph
  have hlows : s.sys.supplyLow = true → (s.elapse dt).supplyFalls = s.elapse dt := supplyFalls_low (s := s.elapse dt)
  have hfalls : s.sys.supplyLow = false → Logged 0x7030 3 (s.elapse dt).supplyFalls ∧ (s.elapse dt).supplyFalls.lan.loading = none :=
    fun h => by
      rw [supplyFalls_good h]
      exact ⟨Logged.raise4 _ (by decide), supplyOff_done _ (by decide)⟩
  obtain ⟨fqueue, frole, ftick, flow⟩ := supplyFalls_keeps s dt
  generalize (s.elapse dt).supplyFalls = u at hrun hlows hfalls fqueue frole ftick flow
  obtain ⟨dqueue, drole, dtick, dstore⟩ := drained_keeps u (u.sys.lowAt + 2 * ticksPerMs)
  generalize drained u (u.sys.lowAt + 2 * ticksPerMs) = z at hrun dqueue drole dtick dstore
  rw [ftick, flow] at dtick
  refine ends_powerless hrun
    fun t hphase hlost hregs hsess hflight hcache hlat hmer hgc hrole hmem hkept hqueue htick hlog haudit =>
      ⟨hphase, hlost, hregs, hsess, hflight, hcache, hlat, hmer, hgc, hrole.trans (drole.trans frole),
        hqueue.trans (dqueue.trans fqueue), ?_, ?_, ?_⟩
  · rw [htick]
    exact Nat.le_trans (Nat.le_max_left _ _) dtick
  · rw [htick]
    exact Nat.le_trans (Nat.le_max_right _ _) dtick
  · split
    · rename_i h
      intro hl
      rw [hlows h] at dstore
      obtain ⟨hstore, hrec⟩ := dstore hl
      rw [hmem, hkept, hlog, haudit, hstore]
      exact ⟨rfl, rfl, hrec.1, hrec.2.2.1⟩
    · rename_i h
      obtain ⟨hlogged, hdone⟩ := hfalls (by simpa using h)
      obtain ⟨-, hrec⟩ := dstore hdone
      exact (hlogged.of_log (hlog.trans hrec.1)).mem

/-! ## The supply comes back (R70, R71, R499) -/

/-- The state in which the supply is back after an internal reset. -/
def powered (s : State) : State :=
  let u := { s.resetAll true with merTime := 20000000, pwmTime := 20000000 }
  { u with sys := { u.sys with
    supplyAt := s.tick, supplyLow := false, rstAt := if s.gate.railLow then none else some (s.tick + 10 * ticksPerMs) } }

theorem exec_logicSupplyBack_off {s : State} (dt : Nat) (h : s.sys.phase = .unpowered) :
    exec (.logicSupplyBack dt) s = endWith (powered (s.elapse dt)).beginBoot := by
  show (if (s.elapse dt).sys.phase == .unpowered then endWith (powered (s.elapse dt)).beginBoot
    else endWith { s.elapse dt with sys := { (s.elapse dt).sys with supplyLow := false } }) = _
  rw [if_pos (by simpa using h)]

theorem logicSupplyBack_boots {s : State} (dt : Nat) (h : s.sys.phase = .unpowered) : Ends (.logicSupplyBack dt) s fun t =>
    t.sys.phase = .booting ∧ t.sys.supplyAt = s.tick + dt ∧ t.sys.supplyLow = false ∧
      t.sys.rstAt = (if s.gate.railLow = true then none else some (t.tick + 10 * ticksPerMs)) ∧ t.dev = dBOOT ∧ t.merTime = 20000000 ∧
      t.fld F.SYS_STATE_ACTIVE_BANK = b2n s.nv.bootB ∧ t.hst.sessions = [] ∧ t.flt.log = s.flt.log ∧ t.nv.mem = s.nv.mem ∧
      t.tick = s.tick + dt := by
  obtain ⟨bflt, bnv, bhst, blan, bsys, bclk⟩ := beginBoot_keeps (powered (s.elapse dt))
  obtain ⟨bdev, bbank⟩ := beginBoot_shows (powered (s.elapse dt))
  have hcalm : Calm (powered (s.elapse dt)).beginBoot := by
    unfold Calm
    rw [blan]
    rfl
  refine ends_over (exec_logicSupplyBack_off dt h) hcalm fun t ht hct => ?_
  have htick : t.tick = s.tick + dt := hct.1.trans bclk.1
  have hothers := (ht.1 .sys (by simp)).1
  rw [bsys] at hothers
  have hat := congrArg Sys.supplyAt hothers
  have hlow := congrArg Sys.supplyLow hothers
  have hrst := congrArg Sys.rstAt hothers
  have hphase := (ht.1 .trans (by simp)).1
  rw [bsys] at hphase
  refine ⟨hphase, hat, hlow, ?_, ?_, hct.2.1.trans bclk.2.1, ?_, ?_, ?_, ?_, htick⟩
  · rw [htick]
    exact hrst
  · exact (ht.fld F.SYS_STATE_STATE 0 (by decide) (by simp) (by decide)).trans bdev
  · exact (ht.fld F.SYS_STATE_ACTIVE_BANK 0 (by decide) (by simp) (by decide)).trans bbank
  · exact (ht.1 .sessions (by simp)).1.trans (congrArg Hst.sessions bhst)
  · have hlog := congrArg Faults.log bflt
    exact (ht.1 .logs (by simp)).1.trans hlog
  · have hmem := congrArg Nv.mem ((ht.1 .nv (by simp) : t.nv = _).trans bnv)
    exact hmem

theorem logicSupplyBack_ends {s : State} (dt : Nat) (hc : Calm s) (h : s.sys.phase ≠ .unpowered) : Ends (.logicSupplyBack dt) s fun t =>
    t.sys.supplyLow = false ∧ t.tick = s.tick + dt ∧ Kept [.sys] [] s t := by
  have he : exec (.logicSupplyBack dt) s =
      endWith { s.elapse dt with sys := { (s.elapse dt).sys with supplyLow := false } } := by
    show (if (s.elapse dt).sys.phase == .unpowered then endWith (powered (s.elapse dt)).beginBoot else _) = _
    rw [if_neg (by simpa using h)]
  have hk := (Kept.elapse s dt).trans (Kept.sys (s.elapse dt) { (s.elapse dt).sys with supplyLow := false } ⟨rfl, rfl⟩)
  exact ends_over he hc fun t ht hct => ⟨(sys_same_supply (ht.1 .sys (by simp))).1, hct.1, (hk.trans ht).mono (by simp) (by simp)⟩

/-- Settles O8: one lemma for each row of the supply, by what its state before the end of the command keeps. -/
theorem suppliesAct : Obligations.SuppliesAct := by
  unfold Obligations.SuppliesAct
  refine ⟨fun s dt hc => ⟨fun hph hlow => ?_, fun hph hhigh => ?_, ?_⟩, fun s dt hc => ⟨fun hph => ?_, fun hph => ?_, fun hph => ?_⟩⟩
  · exact logicSupplyLow_ends dt hc hph hlow
  · exact logicSupplyHigh_ends dt hc hph hhigh
  · exact logicSupplyHighGone_ends dt hc
  · exact logicSupplyLost_ends dt hph
  · exact logicSupplyBack_boots dt hph
  · exact logicSupplyBack_ends dt hc hph

end Sys2Proof.Machine
end

section
/-! Proofs of the clocks family, first part: what the reaction to a clock leaves to the reactions to the others. -/
open Sys2Proof Sys2Proof.Machine

namespace Sys2Proof.Machine

/-! ## The clocks of the supervision through a reaction (R10, R19) -/

theorem sys_same_clocks {s t : State} (h : Part.sys.same s t) :
    t.sys.pwmClk = s.sys.pwmClk ∧ t.sys.merClk = s.sys.merClk ∧ t.sys.sysClk = s.sys.sysClk ∧ t.sys.refClk = s.sys.refClk ∧
      t.sys.clkAt = s.sys.clkAt ∧ t.sys.timeAt = s.sys.timeAt := by
  have hpwm := congrArg Sys.pwmClk h.1
  have hmer := congrArg Sys.merClk h.1
  have hsys := congrArg Sys.sysClk h.1
  have href := congrArg Sys.refClk h.1
  have hclk := congrArg Sys.clkAt h.1
  have htime := congrArg Sys.timeAt h.1
  exact ⟨hpwm, hmer, hsys, href, hclk, htime⟩

/-- An FR3 ends no STO. -/
theorem react3_sto (s : State) (code : Nat) : (s.react3 code).fld F.LAN_STAT_STO_ACTIVE = s.fld F.LAN_STAT_STO_ACTIVE := by
  have hfld : ∀ {u v : State}, Steady [.logs] stateRegs u v → v.fld F.LAN_STAT_STO_ACTIVE = u.fld F.LAN_STAT_STO_ACTIVE :=
    fun h => h.fld _ 0 (by decide) (by decide) (by decide)
  have hss1 : ∀ u : State, (u.ss1Start code).fld F.LAN_STAT_STO_ACTIVE = u.fld F.LAN_STAT_STO_ACTIVE := fun u => by
    unfold State.ss1Start
    split
    · rfl
    · exact State.fld_setF_bits _ F.LAN_STAT_SS1_RUN F.LAN_STAT_STO_ACTIVE _ _ rfl (by decide)
  unfold State.react3
  refine (hss1 _).trans (hfld (.trans (.step_if (.refl s) _ fun u => .setDev u _ _ _) (.forN _ 4 _ fun a ha u => ?_)))
  split
  · exact .refl u
  · exact .toFaulted u a _ _ (by omega)

theorem note_steady (s : State) (code : Nat) (d : List Word) : Steady [.logs, .latched] [] s (s.note code 7 d) := by
  have hlog : Steady [.logs, .latched] [] s (s.logFault code 7 d) := (Steady.logFault (W := []) s code 7 d false).mono (by simp) (by simp)
  have hflt : ∀ (u : State) (f : Faults), Steady [.logs, .latched] [] u { u with flt := f } := fun u f =>
    .of_parts (fun p hl hp => by cases p <;> simp_all [Part.same]) rfl ⟨rfl, rfl, rfl⟩ rfl ⟨rfl, rfl⟩
  unfold State.note
  dsimp only
  rw [if_neg (by decide : ¬ 7 < 4)]
  split
  · exact hlog.trans (hflt _ _)
  · exact .step_if hlog _ fun u => hflt u _

/-- A fault that names no axis leaves STO in force. -/
theorem raise_sto (s : State) (code : Nat) (d : List Word) (h : s.fld F.LAN_STAT_STO_ACTIVE ≠ 0) :
    (s.raise code 7 d).fld F.LAN_STAT_STO_ACTIVE ≠ 0 := by
  have hnote : (s.note code 7 d).fld F.LAN_STAT_STO_ACTIVE ≠ 0 := by
    rwa [(note_steady s code d).fld _ 0 (by decide) (by decide) (by decide)]
  by_cases h4 : faultClass code = 4
  · exact raise4_sto s code 7 d _ h4
  · by_cases h5 : faultClass code = 5
    · exact (raise5_halts s code 7 d _ h5).1
    · unfold State.raise State.react
      split
      · exact hnote
      · rwa [react3_sto]
      · contradiction
      · contradiction
      · exact hnote

/-- No fault ends another's latch. -/
theorem raise_latched (s : State) (code : Nat) (d : List Word) : ∀ l ∈ s.flt.latched, l ∈ (s.raise code 7 d).flt.latched := by
  intro l hl
  have hlog : l ∈ (s.logFault code 7 d).flt.latched := by
    rwa [((Steady.logFault (W := []) s code 7 d false).parts .latched (by simp) (by decide)).1]
  unfold State.raise
  rw [((Handled.react (s.note code 7 d) code _ (by simp)).parts .latched (by simp) (by decide) (by decide)).1]
  unfold State.note
  dsimp only
  rw [if_neg (by decide : ¬ 7 < 4)]
  split
  · exact hlog
  · split
    · exact List.mem_cons_of_mem _ hlog
    · exact hlog

/-- What the reaction to one clock leaves to the reactions to the others: the clocks' records, the tick, the waiting demand, the latches, the
loss of PWM as SYS_CLK_STAT shows it, and STO. -/
structure Supervised (s t : State) : Prop where
  sys : Part.sys.same s t
  tick : t.tick = s.tick
  waits : t.lan.doneWait = s.lan.doneWait
  latched : ∀ l ∈ s.flt.latched, l ∈ t.flt.latched
  loss : s.fld F.SYS_CLK_STAT_PWM_LOSS ≠ 0 → t.fld F.SYS_CLK_STAT_PWM_LOSS ≠ 0
  sto : s.fld F.LAN_STAT_STO_ACTIVE ≠ 0 → t.fld F.LAN_STAT_STO_ACTIVE ≠ 0

namespace Supervised

variable {s t u : State}

theorem refl (s : State) : Supervised s s := ⟨Part.same_refl _ s, rfl, rfl, fun _ => id, id, id⟩

theorem trans (h : Supervised s t) (h' : Supervised t u) : Supervised s u :=
  ⟨Part.same_trans h.sys h'.sys, h'.tick.trans h.tick, h'.waits.trans h.waits, fun l hl => h'.latched l (h.latched l hl),
    fun e => h'.loss (h.loss e), fun e => h'.sto (h.sto e)⟩

theorem calm (h : Supervised s t) (hc : Calm s) : Calm t := h.waits.trans hc

theorem raised (h : Supervised s t) {code axis : Nat} (h3 : 3 ≤ faultClass code) (hr : Raised s code axis) : Raised t code axis := by
  unfold Raised at hr ⊢
  rw [if_pos h3] at hr ⊢
  obtain ⟨l, hl, hsame⟩ := hr
  exact ⟨l, h.latched l hl, hsame⟩

/-- A condition that takes such a step or none. -/
theorem step_if (p : Prop) [Decidable p] (h : Supervised s t) : Supervised s (if p then t else s) := by
  split
  · exact h
  · exact refl s

/-- A step that changes neither the registers, the supplies, the tick, Lantern nor the faults. -/
theorem of_same (hr : t.regs = s.regs) (hs : t.sys = s.sys) (ht : t.tick = s.tick) (hl : t.lan = s.lan) (hf : t.flt = s.flt) :
    Supervised s t := by
  have hfld : ∀ f, t.fld f = s.fld f := fun f => by
    unfold State.fld State.rd
    rw [hr]
  refine ⟨⟨by rw [hs], by rw [hs]; exact id, .inl (by rw [hs])⟩, ht, by rw [hl], by rw [hf]; exact fun _ => id, ?_, ?_⟩
  · rw [hfld]
    exact id
  · rw [hfld]
    exact id

/-- A field other than PWM_LOSS and those of LAN_STAT. -/
theorem setF (s : State) (f : Fld) (v i : Nat) (hi : i < 65536) (hlan : f.reg ≠ .LAN_STAT)
    (hloss : f.reg ≠ .SYS_CLK_STAT ∨ i = 0 ∧ (f.hi < 16 ∨ 16 < f.lo)) : Supervised s (s.setF f v i) := by
  have hkept : (s.setF f v i).fld F.SYS_CLK_STAT_PWM_LOSS = s.fld F.SYS_CLK_STAT_PWM_LOSS := by
    by_cases hr : f.reg = .SYS_CLK_STAT
    · obtain ⟨rfl, hbits⟩ := hloss.resolve_left (not_not_intro hr)
      exact State.fld_setF_bits s f _ v 0 hr.symm hbits
    · exact State.fld_setF_reg s f _ v i 0 hi (by decide) (.inl (Ne.symm hr))
  have hsto : (s.setF f v i).fld F.LAN_STAT_STO_ACTIVE = s.fld F.LAN_STAT_STO_ACTIVE :=
    State.fld_setF_reg s f _ v i 0 hi (by decide) (.inl (Ne.symm hlan))
  exact ⟨⟨rfl, id, .inl rfl⟩, rfl, rfl, fun _ => id, by rw [hkept]; exact id, by rw [hsto]; exact id⟩

theorem of_steady (h : Steady [.logs] stateRegs s t) : Supervised s t := by
  refine ⟨h.parts .sys (by decide) (by decide), h.clocks.1, congrArg Lan.doneWait h.lan, ?_, ?_, ?_⟩
  · rw [(h.parts .latched (by decide) (by decide)).1]
    exact fun _ => id
  · rw [h.fld _ 0 (by decide) (by decide) (by decide)]
    exact id
  · rw [h.fld _ 0 (by decide) (by decide) (by decide)]
    exact id

theorem forN (s : State) (n : Nat) (f : Nat → State → State) (h : ∀ k, k < n → ∀ u, Supervised u (f k u)) : Supervised s (s.forN n f) := by
  have hl : ∀ (l : List Nat), (∀ k ∈ l, k < n) → ∀ u, Supervised u (l.foldl (fun u k => f k u) u) := by
    intro l
    induction l with
    | nil => exact fun _ u => refl u
    | cons a l ih => exact fun hl u => (h a (hl a (by simp)) u).trans (ih (fun k hk => hl k (by simp [hk])) _)
  exact hl _ (fun k hk => by simpa [upTo] using hk) s

theorem raise (s : State) (code : Nat) (d : List Word) : Supervised s (s.raise code 7 d) := by
  have h := Handled.raise s code 7 d [] (by simp)
  refine ⟨h.parts .sys (by decide) (by decide) (by decide), h.clocks.1, h.waits, raise_latched s code d, ?_, raise_sto s code d⟩
  have hloss : (s.raise code 7 d).rd .SYS_CLK_STAT 0 = s.rd .SYS_CLK_STAT 0 := h.regs .SYS_CLK_STAT 0 (by decide) (by decide) (by decide)
  unfold State.fld
  rw [hloss]
  exact id

theorem ttLost (s : State) (c : Nat) (hc : c < 65536) : Supervised s (s.ttLost c) := by
  have hcan : ∀ (u : State) (g : Can → Can), Supervised u (u.updCan c g) := fun _ _ => of_same rfl rfl rfl rfl rfl
  unfold State.ttLost
  dsimp only
  split
  · exact hcan s _
  · exact (((hcan s _).trans (setF _ F.CAN_TT_STAT_SYNC 0 c hc (by decide) (.inl (by decide)))).trans (hcan _ _)).trans (raise _ _ _)

theorem merTo (s : State) (m : Nat) : Supervised s (s.merTo m) := by
  have hmer : ∀ (u : State) (x : Mer), Supervised u { u with mer := x } := fun _ _ => of_same rfl rfl rfl rfl rfl
  have hfree : ∀ u : State, Supervised u u.ttFree := fun u => forN u 2 _ fun c hc v => by
    split
    · exact refl v
    · exact ttLost v c (by omega)
  unfold State.merTo
  exact ((setF s F.MER_STAT_MSTATE m 0 (by decide) (by decide) (.inl (by decide))).trans (step_if _ (hfree _))).trans (hmer _ _)

theorem loadCopy (s : State) : Supervised s s.loadCopy := of_same rfl rfl rfl rfl rfl

theorem clockOff (s : State) (code : Nat) : Supervised s (s.clockOff code) := of_steady (gatesOff_steady s code)

theorem meridianLost (s : State) : Supervised s s.meridianLost := by
  have hshown : Supervised s (((s.setF F.SYS_CLK_STAT_MER_LOSS 1).setF F.SYS_CLK_STAT_PWM_ON_REF 1).setF F.LAMP_STAT_REFUSING 1) :=
    ((setF s F.SYS_CLK_STAT_MER_LOSS 1 0 (by decide) (by decide) (.inr (by decide))).trans
      (setF _ F.SYS_CLK_STAT_PWM_ON_REF 1 0 (by decide) (by decide) (.inr (by decide)))).trans
      (setF _ F.LAMP_STAT_REFUSING 1 0 (by decide) (by decide) (.inl (by decide)))
  have hfree : ∀ u : State, Supervised u u.merLost := fun u => (merTo u mFREE).trans (step_if _ (raise _ _ _))
  exact (hshown.trans (hfree _)).trans (raise _ _ _)

theorem pwmLoss_shown (s : State) : (s.setF F.SYS_CLK_STAT_PWM_LOSS 1).fld F.SYS_CLK_STAT_PWM_LOSS ≠ 0 := by
  rw [State.fld_setF_same _ _ _ _ (by decide)]
  decide

theorem setPwmLoss (s : State) : Supervised s (s.setF F.SYS_CLK_STAT_PWM_LOSS 1) := by
  have hsto : (s.setF F.SYS_CLK_STAT_PWM_LOSS 1).fld F.LAN_STAT_STO_ACTIVE = s.fld F.LAN_STAT_STO_ACTIVE :=
    State.fld_setF_reg s _ _ 1 0 0 (by decide) (by decide) (.inl (by decide))
  exact ⟨⟨rfl, id, .inl rfl⟩, rfl, rfl, fun _ => id, fun _ => pwmLoss_shown s, by rw [hsto]; exact id⟩

/-- The reaction to the loss of the PWM clock, once PWM_LOSS shows it. -/
theorem pwmLost_shown (s : State) : Supervised (s.setF F.SYS_CLK_STAT_PWM_LOSS 1) s.pwmLost :=
  ((setF _ F.SYS_CLK_STAT_PWMPLL_LOCK 0 0 (by decide) (by decide) (.inr (by decide))).trans (clockOff _ _)).trans (raise _ _ _)

theorem pwmLost (s : State) : Supervised s s.pwmLost := (setPwmLoss s).trans (pwmLost_shown s)

end Supervised

/-- The loss of the PWM clock shows, puts STO in force and raises its FR4 (R19). -/
theorem pwmLost_shows (s : State) :
    s.pwmLost.fld F.SYS_CLK_STAT_PWM_LOSS ≠ 0 ∧ s.pwmLost.fld F.LAN_STAT_STO_ACTIVE ≠ 0 ∧ Raised s.pwmLost 0x7012 7 :=
  ⟨(Supervised.pwmLost_shown s).loss (Supervised.pwmLoss_shown s), raise4_sto _ 0x7012 7 [] [] (by decide),
    raise_raised _ 0x7012 7 [] [] (by simp)⟩

end Sys2Proof.Machine
end

section
/-! Proofs of the clocks family, second part: the supervision of the clocks, and the PWM copy of Meridian time. -/
open Sys2Proof Sys2Proof.Machine

namespace Sys2Proof.Machine

/-! ## The supervision window (R19) -/

/-- The records of the four clocks after a window that ends at the tick `now`. -/
def judgedSys (y : Sys) (off : ClockWin) (now : Nat) : Sys :=
  { y with
    pwmClk := State.clockStep y.pwmClk off.pwm
    merClk := State.clockStep y.merClk off.meridian
    sysClk := if y.sysClk.lost then y.sysClk else State.clockStep y.sysClk off.system
    refClk := if y.refClk.lost then y.refClk else State.clockStep y.refClk off.reference
    clkAt := now }

/-- The state at the end of a window, the four clocks judged. -/
def judged (s : State) (dt : Nat) (off : ClockWin) : State :=
  let u := s.elapseFrom dt (s.sys.clkAt + 320)
  { u with sys := judgedSys u.sys off u.tick }

/-- What follows from clocks that are present again: `y` and `z` hold their records before and after the window. -/
def clocksBack (y z : Sys) (s : State) : State :=
  let s := if y.pwmClk.lost && !z.pwmClk.lost then (s.setF F.SYS_CLK_STAT_PWMPLL_LOCK 1).loadCopy else s
  if y.merClk.lost && !z.merClk.lost then { s with merTime := s.pwmTime } else s

/-- What follows from the loss of a clock other than PWM. -/
def othersLost (y z : Sys) (s : State) : State :=
  let s := if !y.merClk.lost && z.merClk.lost then s.meridianLost else s
  let s := if !y.refClk.lost && z.refClk.lost then ((s.setF F.SYS_CLK_STAT_REF_LOSS 1).clockOff 0x7015).raise 0x7015 else s
  if !y.sysClk.lost && z.sysClk.lost then (s.setF F.SYS_CLK_STAT_SYS_LOSS 1).raise 0x7014 else s

/-- What follows from what became lost or present again. -/
def clocksReact (y z : Sys) (s : State) : State :=
  let s := clocksBack y z s
  othersLost y z (if !y.pwmClk.lost && z.pwmClk.lost then s.pwmLost else s)

theorem exec_clockSupervisionWindow {s : State} (dt : Nat) (off : ClockWin) (hph : s.sys.phase ≠ .unpowered) :
    exec (.clockSupervisionWindow dt off) s =
      endWith (clocksReact s.sys (judged s dt off).sys (judged s dt off)) := by
  have hup : ((s.elapseFrom dt (s.sys.clkAt + 320)).sys.phase == .unpowered) = false := by simpa using hph
  unfold exec execClockSupervisionWindow
  dsimp only
  rw [hup, if_neg Bool.false_ne_true]
  rfl

theorem clocksBack_supervised (y z : Sys) (s : State) : Supervised s (clocksBack y z s) := by
  have hmer : ∀ (u : State) (x : Time), Supervised u { u with merTime := x } := fun _ _ => .of_same rfl rfl rfl rfl rfl
  unfold clocksBack
  exact (Supervised.step_if _ ((Supervised.setF s F.SYS_CLK_STAT_PWMPLL_LOCK 1 0 (by decide) (by decide) (.inr (by decide))).trans
    (.loadCopy _))).trans (.step_if _ (hmer _ _))

theorem othersLost_supervised (y z : Sys) (s : State) : Supervised s (othersLost y z s) := by
  have href : ∀ u : State, Supervised u (((u.setF F.SYS_CLK_STAT_REF_LOSS 1).clockOff 0x7015).raise 0x7015) := fun u =>
    ((Supervised.setF u F.SYS_CLK_STAT_REF_LOSS 1 0 (by decide) (by decide) (.inr (by decide))).trans (.clockOff _ _)).trans
      (.raise _ _ _)
  have hsys : ∀ u : State, Supervised u ((u.setF F.SYS_CLK_STAT_SYS_LOSS 1).raise 0x7014) := fun u =>
    (Supervised.setF u F.SYS_CLK_STAT_SYS_LOSS 1 0 (by decide) (by decide) (.inr (by decide))).trans (.raise _ _ _)
  unfold othersLost
  exact ((Supervised.step_if _ (.meridianLost s)).trans (.step_if _ (href _))).trans (.step_if _ (hsys _))

theorem clocksReact_supervised (y z : Sys) (s : State) : Supervised s (clocksReact y z s) :=
  ((clocksBack_supervised y z s).trans (.step_if _ (.pwmLost _))).trans (othersLost_supervised y z _)

/-- The loss of PWM stays shown through the reactions to the other clocks. -/
theorem clocksReact_shows {y z : Sys} (s : State) (hy : y.pwmClk.lost = false) (hz : z.pwmClk.lost = true) :
    (clocksReact y z s).fld F.SYS_CLK_STAT_PWM_LOSS ≠ 0 ∧ (clocksReact y z s).fld F.LAN_STAT_STO_ACTIVE ≠ 0 ∧
      Raised (clocksReact y z s) 0x7012 7 := by
  have hrun : clocksReact y z s = othersLost y z (clocksBack y z s).pwmLost := by
    unfold clocksReact
    dsimp only
    rw [hy, hz, if_pos (by decide)]
  obtain ⟨hloss, hsto, hraised⟩ := pwmLost_shows (clocksBack y z s)
  have hothers := othersLost_supervised y z (clocksBack y z s).pwmLost
  rw [hrun]
  exact ⟨hothers.loss hloss, hothers.sto hsto, hothers.raised (by decide) hraised⟩

/-- Where every clock is lost or not as before, nothing follows. -/
theorem clocksReact_none {y z : Sys} (s : State) (hpwm : z.pwmClk.lost = y.pwmClk.lost) (hmer : z.merClk.lost = y.merClk.lost)
    (hsys : z.sysClk.lost = y.sysClk.lost) (href : z.refClk.lost = y.refClk.lost) : clocksReact y z s = s := by
  simp [clocksReact, clocksBack, othersLost, hpwm, hmer, hsys, href]

/-- A window within its limits loses no clock. -/
theorem clockStep_within {c : ClockSup} (h : c.lost = false) : (State.clockStep c false).lost = false := by
  simp [State.clockStep, h]

/-- The second window in a row off nominal loses a clock. -/
theorem clockStep_second {c : ClockSup} (h : c.bad = 1) : (State.clockStep c true).lost = true := by
  simp [State.clockStep, h]

theorem judged_kept (s : State) (dt : Nat) (off : ClockWin) : Kept [.sys] [] s (judged s dt off) :=
  (Kept.elapseFrom s dt (s.sys.clkAt + 320)).trans (Kept.sys _ (judgedSys s.sys off (s.elapseFrom dt (s.sys.clkAt + 320)).tick) ⟨rfl, rfl⟩)

theorem window_judges {s : State} (dt : Nat) (off : ClockWin) (hc : Calm s) (hph : s.sys.phase ≠ .unpowered) :
    Ends (.clockSupervisionWindow dt off) s fun t =>
      t.sys.pwmClk = State.clockStep s.sys.pwmClk off.pwm ∧ t.sys.merClk = State.clockStep s.sys.merClk off.meridian ∧
        t.sys.sysClk = (if s.sys.sysClk.lost = true then s.sys.sysClk else State.clockStep s.sys.sysClk off.system) ∧
        t.sys.refClk = (if s.sys.refClk.lost = true then s.sys.refClk else State.clockStep s.sys.refClk off.reference) ∧
        t.tick = max (s.tick + dt) (s.sys.clkAt + 320) ∧ t.sys.clkAt = t.tick := by
  have hreact := clocksReact_supervised s.sys (judged s dt off).sys (judged s dt off)
  refine ends_over (exec_clockSupervisionWindow dt off hph) (hreact.calm hc) fun t ht hct => ?_
  obtain ⟨hpwm, hmer, hsys, href, hat, -⟩ := sys_same_clocks (Part.same_trans hreact.sys (ht.1 .sys (by simp)))
  have htick : t.tick = (s.elapseFrom dt (s.sys.clkAt + 320)).tick := hct.1.trans hreact.tick
  exact ⟨hpwm, hmer, hsys, href, htick.trans (State.elapseFrom_tick s _ _), hat.trans htick.symm⟩

theorem window_losesPwm {s : State} (dt : Nat) {off : ClockWin} (hc : Calm s) (hph : s.sys.phase ≠ .unpowered) (hoff : off.pwm = true)
    (hlost : s.sys.pwmClk.lost = false) (hbad : s.sys.pwmClk.bad = 1) : Ends (.clockSupervisionWindow dt off) s fun t =>
      Raised t 0x7012 7 ∧ t.fld F.LAN_STAT_STO_ACTIVE ≠ 0 ∧ t.fld F.SYS_CLK_STAT_PWM_LOSS ≠ 0 := by
  have hreact := clocksReact_supervised s.sys (judged s dt off).sys (judged s dt off)
  have hnow : (judged s dt off).sys.pwmClk.lost = true := by
    show (State.clockStep s.sys.pwmClk off.pwm).lost = true
    rw [hoff]
    exact clockStep_second hbad
  obtain ⟨hloss, hsto, hraised⟩ := clocksReact_shows (judged s dt off) hlost hnow
  refine ends_over (exec_clockSupervisionWindow dt off hph) (hreact.calm hc) fun t ht _ => ⟨?_, ?_, ?_⟩
  · exact hraised.kept ht (by simp) (by simp)
  · rwa [ht.fld F.LAN_STAT_STO_ACTIVE 0 (by decide) (by simp) (by decide)]
  · rwa [ht.fld F.SYS_CLK_STAT_PWM_LOSS 0 (by decide) (by simp) (by decide)]

theorem window_within {s : State} (dt : Nat) (hc : Calm s) (hph : s.sys.phase ≠ .unpowered) (hpwm : s.sys.pwmClk.lost = false)
    (hmer : s.sys.merClk.lost = false) :
    Ends (.clockSupervisionWindow dt ⟨false, false, false, false⟩) s fun t => Kept [.sys] [] s t := by
  have hkeep : ∀ c : ClockSup, (if c.lost = true then c else State.clockStep c false).lost = c.lost := fun c => by
    split
    · rfl
    · rename_i h
      have h' := Bool.eq_false_iff.2 h
      rw [clockStep_within h', h']
  have he := exec_clockSupervisionWindow dt ⟨false, false, false, false⟩ hph
  rw [clocksReact_none _ ((clockStep_within hpwm).trans hpwm.symm) ((clockStep_within hmer).trans hmer.symm) (hkeep s.sys.sysClk)
    (hkeep s.sys.refClk)] at he
  exact ends_over he hc fun t ht _ => ((judged_kept s dt _).trans ht).mono (by simp) (by simp)

/-! ## The PWM copy of Meridian time (R18, R496) -/

theorem Kept.loadCopy (s : State) : Kept [] [] s s.loadCopy := ⟨fun p _ => by cases p <;> simp [Part.same, State.loadCopy], fun _ _ _ _ => rfl⟩

theorem pwmRefReturn_ends {s : State} (dt : Nat) (hc : Calm s) (hmer : s.sys.merClk.lost = false)
    (href : s.fld F.SYS_CLK_STAT_PWM_ON_REF ≠ 0) (hrun : ∀ b, b < 8 → s.running b = false) : Ends (.pwmRefReturn dt) s fun t =>
      t.merTime = State.wholeTick (s.elapse dt).merTime ∧ t.pwmTime = t.merTime ∧ t.fld F.SYS_CLK_STAT_PWM_ON_REF = 0 ∧
        t.fld F.LAMP_STAT_REFUSING = 0 ∧ Kept [] [(.SYS_CLK_STAT, 0), (.LAMP_STAT, 0)] s t := by
  have hstill : (upTo 8).any (s.elapse dt).running = false := by
    simpa [upTo, State.running] using hrun
  have hon : (s.elapse dt).on F.SYS_CLK_STAT_PWM_ON_REF = true := by simpa [State.on] using href
  have hpresent : (s.elapse dt).sys.merClk.lost = false := hmer
  have he : exec (.pwmRefReturn dt) s =
      endWith (((s.elapse dt).loadCopy.setF F.SYS_CLK_STAT_PWM_ON_REF 0).setF F.LAMP_STAT_REFUSING 0) := by
    unfold exec execPwmRefReturn
    dsimp only
    rw [hon, hpresent, hstill]
    rfl
  have hk := (((Kept.elapse s dt).trans (Kept.loadCopy _)).trans (Kept.setF _ F.SYS_CLK_STAT_PWM_ON_REF 0 0 (by decide))).trans
    (Kept.setF _ F.LAMP_STAT_REFUSING 0 0 (by decide))
  refine ends_over he hc fun t ht hct => ⟨hct.2.1, hct.2.2.trans hct.2.1.symm, ?_, ?_, (hk.trans ht).mono (by simp) (by simp)⟩
  · rw [ht.fld F.SYS_CLK_STAT_PWM_ON_REF 0 (by decide) (by simp) (by decide),
      State.fld_setF_reg _ _ _ _ _ _ (by decide) (by decide) (.inl (by decide)), State.fld_setF_same _ _ _ _ (by decide)]
    rfl
  · rw [ht.fld F.LAMP_STAT_REFUSING 0 (by decide) (by simp) (by decide), State.fld_setF_same _ _ _ _ (by decide)]
    rfl

/-- The state in which the copy is compared, the slip come to it. -/
def compared (s : State) (dt : Nat) (slip : Int) : State :=
  let u := s.elapseFrom dt (s.sys.timeAt + 2048)
  { u with pwmTime := u.pwmTime + BitVec.ofInt 64 (5 * slip), sys := { u.sys with timeAt := u.tick } }

/-- The copy reloaded at the next tick, the slip counted. -/
def reloaded (u : State) : State := (u.elapse 1).loadCopy.bump F.SYS_TIME_SLIP_COUNT

theorem exec_pwmTimeCompare (s : State) (dt : Nat) (slip : Int) : exec (.pwmTimeCompare dt slip) s =
    if (compared s dt slip).sys.pwmClk.lost || (compared s dt slip).sys.merClk.lost ||
        (compared s dt slip).on F.SYS_CLK_STAT_PWM_ON_REF || (compared s dt slip).pwmTime == (compared s dt slip).merTime then
      endWith (compared s dt slip)
    else endWith ((reloaded (compared s dt slip)).raise 0x7011) := rfl

/-- While both clocks run, their counters go on together (R7, R18). -/
theorem compared_equal_iff {s : State} (dt : Nat) (slip : Int) (hpwm : s.sys.pwmClk.lost = false) (hmer : s.sys.merClk.lost = false) :
    (compared s dt slip).pwmTime = (compared s dt slip).merTime ↔ s.pwmTime + BitVec.ofInt 64 (5 * slip) = s.merTime := by
  simp only [compared, State.elapseFrom, State.elapseTo, State.elapse, hpwm, hmer, Bool.false_eq_true, if_false]
  rw [BitVec.add_assoc, BitVec.add_comm (BitVec.ofNat 64 _), ← BitVec.add_assoc, BitVec.add_left_inj]

theorem compared_kept (s : State) (dt : Nat) (slip : Int) : Kept [.sys] [] s (compared s dt slip) := by
  have hcopy : ∀ (u : State) (x : Time), Kept [] [] u { u with pwmTime := x } := fun _ _ =>
    ⟨fun p _ => by cases p <;> simp [Part.same], fun _ _ _ _ => rfl⟩
  have hcompare := (hcopy (s.elapseFrom dt (s.sys.timeAt + 2048)) (compared s dt slip).pwmTime).trans
    (Kept.sys _ (compared s dt slip).sys ⟨rfl, rfl⟩)
  exact (Kept.elapseFrom s dt (s.sys.timeAt + 2048)).trans hcompare

theorem reloaded_kept (u : State) : Kept [] [(.SYS_TIME_SLIP, 0)] u (reloaded u) :=
  ((Kept.elapse u 1).trans (Kept.loadCopy _)).trans (Kept.setF _ F.SYS_TIME_SLIP_COUNT _ 0 (by decide))

theorem reloaded_counts (u : State) : (reloaded u).fld F.SYS_TIME_SLIP_COUNT = min (u.fld F.SYS_TIME_SLIP_COUNT + 1) 0xFFFFFFFF :=
  State.fld_bump_same (u.elapse 1).loadCopy F.SYS_TIME_SLIP_COUNT 0 (by decide)

/-- An FR1 that names no axis changes only the logs, the alert and SYS_FAULT (R10, R82, R453). -/
theorem Kept.raise_alert (s : State) {code : Nat} (d : List Word) (h1 : faultClass code = 1) :
    Kept [.logs, .latched] [(.SYS_FAULT, 0)] s (s.raise code 7 d) := by
  have hflt : ∀ (u : State) (f : Faults), Kept [.logs, .latched] [] u { u with flt := f } := fun u f =>
    ⟨fun p hp => by cases p <;> simp_all [Part.same], fun _ _ _ _ => rfl⟩
  have hlog : Kept [.logs, .latched] [(.SYS_FAULT, 0)] s (s.logFault code 7 d) := by
    have hshown := (Kept.setF s F.SYS_FAULT_LAST_CODE code 0 (by decide)).trans
      (Kept.setF _ F.SYS_FAULT_LAST_CLASS (faultClass code) 0 (by decide))
    have hrec : ∀ f, Kept [.logs, .latched] [(.SYS_FAULT, 0)] s
        { (s.setF F.SYS_FAULT_LAST_CODE code).setF F.SYS_FAULT_LAST_CLASS (faultClass code) with flt := f } := fun f =>
      (hshown.trans (hflt _ f)).mono (by simp) (by simp)
    unfold State.logFault
    dsimp only
    split
    · split
      · exact hrec _
      · exact hrec _
    · exact hrec _
  unfold State.raise State.react State.note
  rw [h1]
  exact (hlog.trans (hflt _ _)).mono (by simp) (by simp)

theorem pwmTimeCompare_reloads {s : State} (dt : Nat) (slip : Int) (hc : Calm s) (hmer : s.sys.merClk.lost = false)
    (href : s.fld F.SYS_CLK_STAT_PWM_ON_REF = 0) (hpwm : s.sys.pwmClk.lost = false)
    (hdiff : s.pwmTime + BitVec.ofInt 64 (5 * slip) ≠ s.merTime) : Ends (.pwmTimeCompare dt slip) s fun t =>
      t.pwmTime = t.merTime ∧ t.fld F.SYS_TIME_SLIP_COUNT = min (s.fld F.SYS_TIME_SLIP_COUNT + 1) 0xFFFFFFFF ∧ Raised t 0x7011 7 ∧
        t.tick = max (s.tick + dt) (s.sys.timeAt + 2048) + 1 ∧
        Kept [.sys, .logs, .latched] [(.SYS_TIME_SLIP, 0), (.SYS_FAULT, 0)] s t := by
  have hkc := compared_kept s dt slip
  have htick : (compared s dt slip).tick = max (s.tick + dt) (s.sys.timeAt + 2048) := State.elapseFrom_tick s _ _
  have hoff : (compared s dt slip).on F.SYS_CLK_STAT_PWM_ON_REF = false := by
    simp [State.on, hkc.fld F.SYS_CLK_STAT_PWM_ON_REF 0 (by decide) (by simp) (by decide), href]
  have he : exec (.pwmTimeCompare dt slip) s = endWith ((reloaded (compared s dt slip)).raise 0x7011) := by
    rw [exec_pwmTimeCompare, if_neg]
    have hp : (compared s dt slip).sys.pwmClk.lost = false := hpwm
    have hm : (compared s dt slip).sys.merClk.lost = false := hmer
    simp [hp, hm, hoff, compared_equal_iff dt slip hpwm hmer, hdiff]
  have hcount : (reloaded (compared s dt slip)).fld F.SYS_TIME_SLIP_COUNT = min (s.fld F.SYS_TIME_SLIP_COUNT + 1) 0xFFFFFFFF := by
    rw [reloaded_counts, hkc.fld F.SYS_TIME_SLIP_COUNT 0 (by decide) (by simp) (by decide)]
  have hraise := Handled.raise (reloaded (compared s dt slip)) 0x7011 7 [] [] (by simp)
  have hkraise := Kept.raise_alert (reloaded (compared s dt slip)) [] (by decide : faultClass 0x7011 = 1)
  refine ends_over he (hraise.calm hc) fun t ht hct => ⟨?_, ?_, ?_, ?_, (((hkc.trans (reloaded_kept _)).trans hkraise).trans ht).mono (by simp) (by simp)⟩
  · exact (hct.2.2.trans hraise.clocks.2.2).trans (hct.2.1.trans hraise.clocks.2.1).symm
  · exact ((hkraise.trans ht).fld F.SYS_TIME_SLIP_COUNT 0 (by decide) (by simp) (by decide)).trans hcount
  · exact (raise_raised _ 0x7011 7 [] _ (by simp)).kept ht (by simp) (by simp)
  · exact (hct.1.trans hraise.clocks.1).trans (congrArg (· + 1) htick)

theorem pwmTimeCompare_agrees {s : State} (dt : Nat) (slip : Int) (hc : Calm s) (hmer : s.sys.merClk.lost = false)
    (hpwm : s.sys.pwmClk.lost = false) (hsame : s.pwmTime + BitVec.ofInt 64 (5 * slip) = s.merTime) :
    Ends (.pwmTimeCompare dt slip) s fun t =>
      t.pwmTime = t.merTime ∧ t.sys.timeAt = t.tick ∧ t.tick = max (s.tick + dt) (s.sys.timeAt + 2048) ∧ Kept [.sys] [] s t := by
  have hequal := (compared_equal_iff dt slip hpwm hmer).2 hsame
  have he : exec (.pwmTimeCompare dt slip) s = endWith (compared s dt slip) := by
    rw [exec_pwmTimeCompare, if_pos]
    simp [hequal]
  refine ends_over he hc fun t ht hct => ⟨?_, ?_, ?_, ((compared_kept s dt slip).trans ht).mono (by simp) (by simp)⟩
  · exact (hct.2.2.trans hequal).trans hct.2.1.symm
  · obtain ⟨-, -, -, -, -, hat⟩ := sys_same_clocks (ht.1 .sys (by simp))
    exact hat.trans hct.1.symm
  · exact hct.1.trans (State.elapseFrom_tick s _ _)

/-- Settles O10: the windows by what the reactions to the single clocks leave to each other, the copy by the one state that is compared. -/
theorem clocksSupervised : Obligations.ClocksSupervised := by
  unfold Obligations.ClocksSupervised
  refine ⟨fun s dt off hc hph => ⟨?_, fun hoff hlost hbad => ?_, ?_⟩,
    fun s dt hc hmer => ⟨fun href hrun => ?_, fun slip href hpwm hdiff => ?_, fun slip hpwm hsame => ?_⟩⟩
  · exact window_judges dt off hc hph
  · exact window_losesPwm dt hc hph hoff hlost hbad
  · rintro rfl hpwm hmer
    exact window_within dt hc hph hpwm hmer
  · exact pwmRefReturn_ends dt hc hmer href hrun
  · exact pwmTimeCompare_reloads dt slip hc hmer href hpwm hdiff
  · exact pwmTimeCompare_agrees dt slip hc hmer hpwm hsame

end Sys2Proof.Machine
end

section
/-! Proofs of the power family, first part: what the end of a command shows on the pins and the brake outputs. -/
open Sys2Proof Sys2Proof.Machine

namespace Sys2Proof.Machine

/-! ## What the end of a command shows (R82, R104, R421, R424) -/

/-- The last state of the end of a command, from the one in which SYS_FAULT shows the faults: the levels of the pins. -/
def levelled (s : State) : State :=
  let bypass := s.sys.jtagIr == .debug && !s.debugAllowed
  { s with
    sys := { s.sys with
      faultLow := s.faultPin, alertLow := s.flt.unacked, spiRdy := s.spiReady, spiIrqLow := spiFill s != 0
      debugOpen := s.sys.debugOpen && !bypass, jtagIr := if bypass then .bypass else s.sys.jtagIr }
    hst := { s.hst with keyClose := none, bootNext := false } }

/-- STO_FB and SYS_FAULT as they stand at the end of a command. -/
def displayed (s : State) : State :=
  let u := s.setF F.LAN_STAT_STO_FB (b2n s.stoFb)
  (u.setF F.SYS_FAULT_LATCHED (b2n u.faultPin)).setF F.SYS_FAULT_ALERT (b2n u.flt.unacked)

theorem settle_eq (s : State) : s.settle = levelled (displayed s.demandDone.brakeEval.slsTrack) := rfl

theorem Kept.displayed (s : State) : Kept [] [] s (displayed s) :=
  (((Kept.refl [] [] s).thenPin F.LAN_STAT_STO_FB _ (by decide)).thenPin F.SYS_FAULT_LATCHED _ (by decide)).thenPin F.SYS_FAULT_ALERT _
    (by decide)

theorem Kept.levelled (s : State) : Kept [] [] s (levelled s) := by
  refine Kept.pins s _ _ _ _ _ _ ?_ ?_
  · simp only [Bool.and_eq_true]
    exact fun h => h.1
  · split
    · exact .inr rfl
    · exact .inl rfl

theorem levelled_fld (s : State) (f : Fld) (i : Nat) : (levelled s).fld f i = s.fld f i := rfl

theorem levelled_alertLow (s : State) : (levelled s).sys.alertLow = s.flt.unacked := rfl

theorem levelled_faultLow (s : State) : (levelled s).sys.faultLow = s.faultPin := rfl

theorem levelled_faultPin (s : State) : (levelled s).faultPin = s.faultPin := rfl

theorem levelled_stoFb (s : State) : (levelled s).stoFb = s.stoFb := rfl

theorem levelled_spiRdy (s : State) : (levelled s).sys.spiRdy = (levelled s).spiReady := rfl

theorem levelled_spiIrqLow (s : State) : (levelled s).sys.spiIrqLow = (spiFill (levelled s) != 0) := rfl

theorem levelled_flt (s : State) : (levelled s).flt = s.flt := rfl

theorem levelled_idle (s : State) : (levelled s).hst.keyClose = none ∧ (levelled s).hst.bootNext = false := ⟨rfl, rfl⟩

theorem levelled_debug (s : State) (h : (levelled s).sys.jtagIr = .debug) : (levelled s).debugAllowed = true := by
  have hir : (if (s.sys.jtagIr == .debug && !s.debugAllowed) = true then JtagIns.bypass else s.sys.jtagIr) = .debug := h
  show s.debugAllowed = true
  split at hir
  · contradiction
  · rename_i hb
    simpa [hir] using hb

theorem Kept.on {ps : List Part} {rs : List (RegId × Nat)} {s t : State} (h : Kept ps rs s t) (f : Fld) (i : Nat)
    (hi : i < 65536) (hr : (f.reg, i) ∉ rs) (hp : maskOf f.hi f.lo &&& pinBits f.reg = 0) : t.on f i = s.on f i := by
  unfold State.on
  rw [h.fld f i hi hr hp]

/-- The bridges of an axis, and whether one switches, do not follow the pins. -/
theorem Kept.switching {s t : State} (h : Kept [] [] s t) (a : Nat) : t.switching a = s.switching a := by
  have hof : t.bridgesOf a = s.bridgesOf a := by
    refine List.filter_congr fun b hb => ?_
    have hb8 : b < 8 := by simpa [upTo] using hb
    rw [h.on F.BR_CFG_TYPE b (by omega) (by simp) (by decide), h.fld F.BR_CFG_AXIS b (by omega) (by simp) (by decide)]
  have hrun : ∀ b ∈ s.bridgesOf a, t.running b = s.running b := fun b hb => by
    have hb8 : b < 8 := by simpa [upTo] using (List.mem_filter.1 hb).1
    exact h.on F.BR_STAT_RUNNING b (by omega) (by simp) (by decide)
  unfold State.switching
  rw [hof]
  rw [Bool.eq_iff_iff, List.any_eq_true, List.any_eq_true]
  exact exists_congr fun b => and_congr_right fun hb => by rw [hrun b hb]

theorem lan_same_par {s t : State} (h : Part.lan.same s t) : t.lan.par = s.lan.par := by
  unfold Part.same at h
  have hpar := congrArg Lan.par h
  exact hpar

theorem Kept.par {s t : State} (h : Kept [] [] s t) (k : Nat) : t.par k = s.par k := by
  unfold State.par
  rw [lan_same_par (h.1 .lan (by simp))]

theorem Kept.sw {s t : State} (h : Kept [] [] s t) : t.sw = s.sw := h.fld F.SYS_SW1_ACCEPTED 0 (by decide) (by simp) (by decide)

theorem Kept.nonsafe {s t : State} (h : Kept [] [] s t) : t.nonsafe = s.nonsafe := by
  unfold State.nonsafe State.profile
  rw [h.sw, h.on F.SYS_STATE_SPLIT_A 0 (by decide) (by simp) (by decide)]

theorem Kept.permit {s t : State} (h : Kept [] [] s t) (bit : Nat) : t.permit bit = s.permit bit := by
  have hcons : t.consumes = s.consumes := by
    funext c
    unfold State.consumes State.parConn
    rw [h.par, h.par]
  have hof : t.consuming = s.consuming := by
    unfold State.consuming State.networked State.profile
    rw [hcons, h.nonsafe, h.sw]
  unfold State.permit
  rw [hof, Bool.eq_iff_iff, List.all_eq_true, List.all_eq_true]
  refine forall₂_congr fun c hc => ?_
  have hc8 : c < 8 := by
    unfold State.consuming at hc
    split at hc
    · simpa [upTo] using (List.mem_filter.1 hc).1
    · simp at hc
  rw [h.rd .LAN_CONN_DATA c (by omega) (by simp) rfl]

/-- What a released brake asks for does not follow the pins. -/
theorem Kept.brakeCond {s t : State} (h : Kept [] [] s t) : t.brakeCond = s.brakeCond := by
  have hax : t.sbcAxis = s.sbcAxis := by
    unfold State.sbcAxis
    rw [h.par]
  unfold State.brakeCond State.sbcPresent State.hasFunc State.profile State.stoOn
  rw [h.nonsafe, h.sw, hax, h.switching, h.permit, h.on F.LAN_STAT_STO_ACTIVE 0 (by decide) (by simp) (by decide),
    h.on F.LAN_STAT_SBC_FAULT 0 (by decide) (by simp) (by decide), h.on F.LAN_SBC_REQ 0 (by decide) (by simp) (by decide)]

theorem Kept.stoFb {s t : State} (h : Kept [] [] s t) : t.stoFb = s.stoFb := by
  have hgate : t.gate = s.gate := h.1 .gate (by simp)
  unfold State.stoFb State.stoOn State.dev
  rw [h.nonsafe, hgate, h.on F.LAN_STAT_STO_ACTIVE 0 (by decide) (by simp) (by decide),
    h.fld F.GATE_AUX_STAT_HIZ 0 (by decide) (by simp) (by decide), h.fld F.SYS_STATE_STATE 0 (by decide) (by simp) (by decide)]

theorem Kept.faultPin {s t : State} (h : Kept [] [] s t) : t.faultPin = s.faultPin := by
  have hlat := (h.1 .latched (by simp)).1
  unfold State.faultPin State.halted State.dev
  rw [hlat, h.on F.SYS_STATE_HALTED 0 (by decide) (by simp) (by decide), h.fld F.SYS_STATE_STATE 0 (by decide) (by simp) (by decide)]

/-- The brake outputs are both on or both off; on only under their conditions (R424). -/
theorem brakeEval_shows (s : State) : ∃ rel : Bool, (rel = true → s.brakeEval.brakeCond = true) ∧
    s.brakeEval.fld F.LAN_SBC_ON = (if rel = true then 3 else 0) ∧ s.brakeEval.fld F.LAN_STAT_SBC_APPLIED = b2n !rel := by
  rw [(Kept.brakeEval s).brakeCond]
  unfold State.brakeEval
  dsimp only
  generalize hrel : (s.brakeCond && _) = rel
  refine ⟨rel, fun h => (Bool.and_eq_true_iff.1 (hrel.trans h)).1, ?_, ?_⟩
  · rw [State.fld_setF_reg _ F.LAN_STAT_SBC_APPLIED F.LAN_SBC_ON _ _ _ (by decide) (by decide) (.inl (by decide)),
      State.fld_setF_same _ F.LAN_SBC_ON _ _ (by decide)]
    cases rel <;> rfl
  · rw [State.fld_setF_same _ F.LAN_STAT_SBC_APPLIED _ _ (by decide)]
    exact b2n_mod _

/-- What is shown at the end of a command: what the brake outputs follow, STO_FB, SYS_FAULT. -/
theorem displayed_shows (s : State) :
    (displayed s).fld F.LAN_SBC_ON = s.fld F.LAN_SBC_ON ∧ (displayed s).fld F.LAN_STAT_SBC_APPLIED = s.fld F.LAN_STAT_SBC_APPLIED ∧
      (displayed s).fld F.LAN_STAT_STO_FB = b2n (displayed s).stoFb ∧ (displayed s).fld F.SYS_FAULT_LATCHED = b2n (displayed s).faultPin ∧
      (displayed s).fld F.SYS_FAULT_ALERT = b2n (displayed s).flt.unacked := by
  have hother : ∀ f : Fld, f.reg ≠ .SYS_FAULT → (displayed s).fld f = (s.setF F.LAN_STAT_STO_FB (b2n s.stoFb)).fld f := fun f hf =>
    (State.fld_setF_reg _ F.SYS_FAULT_ALERT f _ _ _ (by decide) (by decide) (.inl hf)).trans
      (State.fld_setF_reg _ F.SYS_FAULT_LATCHED f _ _ _ (by decide) (by decide) (.inl hf))
  refine ⟨?_, ?_, ?_, ?_, ?_⟩
  · rw [hother _ (by decide), State.fld_setF_reg _ _ _ _ _ _ (by decide) (by decide) (.inl (by decide))]
  · rw [hother _ (by decide), State.fld_setF_bits s F.LAN_STAT_STO_FB F.LAN_STAT_SBC_APPLIED _ _ rfl (by decide)]
  · rw [hother _ (by decide), State.fld_setF_same _ _ _ _ (by decide), (Kept.displayed s).stoFb]
    exact b2n_mod _
  · rw [(Kept.displayed s).faultPin, ← (Kept.pin s F.LAN_STAT_STO_FB (b2n s.stoFb) 0 (by decide) (by decide)).faultPin]
    unfold displayed
    dsimp only
    rw [State.fld_setF_bits _ F.SYS_FAULT_ALERT F.SYS_FAULT_LATCHED _ _ rfl (by decide), State.fld_setF_same _ _ _ _ (by decide)]
    exact b2n_mod _
  · unfold displayed
    dsimp only
    rw [State.fld_setF_same _ _ _ _ (by decide)]
    exact b2n_mod _

theorem slsTrack_brake (s : State) :
    s.slsTrack.fld F.LAN_SBC_ON = s.fld F.LAN_SBC_ON ∧ s.slsTrack.fld F.LAN_STAT_SBC_APPLIED = s.fld F.LAN_STAT_SBC_APPLIED := by
  unfold State.slsTrack
  dsimp only
  rw [State.fld_setF_reg _ F.LAN_STAT_SLS_ACTIVE F.LAN_SBC_ON _ _ _ (by decide) (by decide) (.inl (by decide)),
    State.fld_setF_bits _ F.LAN_STAT_SLS_ACTIVE F.LAN_STAT_SBC_APPLIED _ _ rfl (by decide)]
  exact ⟨rfl, rfl⟩

/-- SYS_FAULT shows FAULT# and ALERT# at the end of every command (R82). -/
theorem settle_faults (s : State) :
    s.settle.fld F.SYS_FAULT_LATCHED = b2n s.settle.sys.faultLow ∧ s.settle.fld F.SYS_FAULT_ALERT = b2n s.settle.sys.alertLow := by
  obtain ⟨-, -, -, hlatched, halert⟩ := displayed_shows s.demandDone.brakeEval.slsTrack
  rw [settle_eq, levelled_fld, levelled_fld, levelled_faultLow, levelled_alertLow]
  exact ⟨hlatched, halert⟩

/-- The brake outputs at the end of a command (R424). -/
theorem settle_brake (s : State) : ∃ rel : Bool, (rel = true → s.settle.brakeCond = true) ∧
    s.settle.fld F.LAN_SBC_ON = (if rel = true then 3 else 0) ∧ s.settle.fld F.LAN_STAT_SBC_APPLIED = b2n !rel := by
  obtain ⟨rel, hcond, hon, happlied⟩ := brakeEval_shows s.demandDone
  obtain ⟨hon', happlied'⟩ := slsTrack_brake s.demandDone.brakeEval
  obtain ⟨hon'', happlied'', -⟩ := displayed_shows s.demandDone.brakeEval.slsTrack
  have hk := ((Kept.slsTrack s.demandDone.brakeEval).trans (Kept.displayed _)).trans (Kept.levelled _)
  refine ⟨rel, fun h => ?_, ?_, ?_⟩
  · rw [settle_eq, hk.brakeCond, hcond h]
  · rw [settle_eq, levelled_fld, hon'', hon', hon]
  · rw [settle_eq, levelled_fld, happlied'', happlied', happlied]

theorem settle_stoFb (s : State) : s.settle.fld F.LAN_STAT_STO_FB = b2n s.settle.stoFb := by
  obtain ⟨-, -, hfb, -, -⟩ := displayed_shows s.demandDone.brakeEval.slsTrack
  rw [settle_eq, levelled_fld, levelled_stoFb]
  exact hfb

theorem faultPin_iff (s : State) : s.faultPin = true ↔
    s.dev = dBOOT ∨ s.dev = dFAULT ∨ s.dev = dQUARANTINE ∨ s.fld F.SYS_STATE_HALTED ≠ 0 ∨ s.flt.latched ≠ [] := by
  simp [State.faultPin, State.halted, State.on, or_assoc]

theorem spiReady_iff (s : State) :
    s.spiReady = true ↔ s.sys.phase = .up ∧ s.cmdFill + 4116 ≤ 65536 ∧ ∀ r ∈ s.sys.reinit, r.func ≠ 0x13 := by
  simp [State.spiReady, and_assoc]

theorem brakeCond_needs {s : State} (h : s.brakeCond = true) :
    s.fld F.LAN_STAT_STO_ACTIVE = 0 ∧ s.fld F.LAN_STAT_SBC_FAULT = 0 ∧ s.fld F.LAN_SBC_REQ ≠ 0 ∧ s.permit 3 = true ∧
      s.switching s.sbcAxis = true := by
  simp only [State.brakeCond, State.stoOn, State.on, Bool.and_eq_true, Bool.not_eq_true', bne_iff_ne, bne_eq_false_iff_eq] at h
  obtain ⟨⟨⟨⟨⟨-, hsto⟩, hswitching⟩, hpermit⟩, hfault⟩, hreq⟩ := h
  exact ⟨hsto, hfault, hreq, hpermit, hswitching⟩

theorem stoFb_needs {s : State} (h : s.stoFb = true) :
    s.fld F.LAN_STAT_STO_ACTIVE ≠ 0 ∧ s.gate.gc = 0 ∧ s.fld F.GATE_AUX_STAT_HIZ = 15 ∧ s.dev ≠ dBOOT := by
  simp only [State.stoFb, State.stoOn, State.on, Bool.and_eq_true, bne_iff_ne, beq_iff_eq] at h
  obtain ⟨⟨⟨⟨hsto, hgc⟩, hhiz⟩, hdev⟩, -⟩ := h
  exact ⟨hsto, hgc, hhiz, hdev⟩

/-- The end of a command brings the pins and the brake outputs in line with the rest, whatever the command left. -/
theorem pinned_settle (s : State) : Pinned s.settle := by
  obtain ⟨rel, hcond, hon, happlied⟩ := settle_brake s
  exact
    { fault := by rw [← faultPin_iff, settle_eq, levelled_faultLow, levelled_faultPin]
      alert := by rw [settle_eq, levelled_alertLow, levelled_flt]
      ready := by rw [← spiReady_iff, settle_eq, levelled_spiRdy]
      waiting := by rw [← bne_iff_ne, settle_eq, levelled_spiIrqLow]
      debug := by rw [settle_eq]; exact levelled_debug _
      outputs := by
        rw [hon]
        cases rel
        · exact .inl rfl
        · exact .inr rfl
      released := fun h3 => by
        rw [hon] at h3
        cases rel
        · contradiction
        · exact brakeCond_needs (hcond rfl)
      applied := by
        rw [hon, happlied]
        cases rel <;> decide
      feedback := fun h1 => by
        rw [settle_stoFb] at h1
        cases hfb : s.settle.stoFb
        · rw [hfb] at h1
          contradiction
        · exact stoFb_needs hfb
      idle := by rw [settle_eq]; exact levelled_idle _ }

/-- A tick with no command waiting moves no pin. -/
theorem Pinned.elapse {s : State} (h : Pinned s) (n : Nat) : Pinned (s.elapse n) :=
  { fault := h.fault, alert := h.alert, ready := h.ready, waiting := h.waiting, debug := h.debug, outputs := h.outputs
    released := h.released, applied := h.applied, feedback := h.feedback, idle := h.idle }

end Sys2Proof.Machine
end

section
/-! Proofs of the power family, second part: every command comes to its end, and so the pins follow it. -/
open Sys2Proof Sys2Proof.Machine

namespace Sys2Proof.Machine

/-! ## Every command comes to its end -/

/-- An outcome is the end of a command: its state has been settled. -/
def Settles (o : Host.Outcome State Fault Refusal) : Prop := ∃ x, o = endWith x

namespace Settles

variable {o o' : Host.Outcome State Fault Refusal}

theorem ends (x : State) : Settles (endWith x) := ⟨x, rfl⟩

theorem ite {p : Prop} [Decidable p] (h : Settles o) (h' : Settles o') : Settles (if p then o else o') := by
  split
  · exact h
  · exact h'

end Settles

/-- The meaning of every command ends in `endWith`: most have one end; the others are taken by the conditions and matches that lead to
their ends. -/
theorem exec_settles (c : Instr) (s : State) : Settles (exec c s) := by
  cases c
  case auxOvercurrent | encoderEdge | pulseEdge | indexEvent | ssiFrame | encoderLineFault | encSupplyRetry | hallEdge | aiConversion
    | linkReset | credit | stclkLost | ptpSync | ptpDelayReq | ptpPdelayReq | meridianUnlocked | meridianHoldoverExpired |
    ppsOutPulse | homeComplete | canInitReleaseDone | actionLateLaunch | beaconTx | replanPeriodic | candleCounterSave |
    stoReleaseAccepted | safetyPduTx | safetyPduRx | safetyWdExpiry | lockstepResyncDone | clockSupervisionWindow | pwmRefReturn |
    pwmTimeCompare | sw1Poll | dieTempSample | cutThroughForward | logicSupplyBack | resetPin | resetRelease | bootEnd |
    leverHostTimeout | droopRestore | keMeasureWindowEnd | canErrorFrame | canTxdDominant | arpRequest | icmpEchoRequest |
    safetyRecordCommitted | fieldFrameTx | fieldInputSample | vfRestored | barrierTimeout | fieldLinkLost | logicSupplyLost =>
    exact .ite (.ends _) (.ends _)
  case ptpAnnounce | stoLowAccepted | sbcTestPulse | sbcOutputFault | lockstepDigest | canTtCycleStart | canFrameRx =>
    apply_rules [Settles.ite, Settles.ends]
  case taskRelease | taskStart | taskDeadline | blankWindowEnd | offSeqInner | commandEdge | npImbalance | comparePulseEnd |
    streamFrameStart | captureComplete | staticCheckDone | merSetDrop | rcCounterRead | leMdataAccess | canLockTimeout |
    actionLaunch | actionRetainExpiry | powerHoldExpiry | roleDead | replanComplete | stoDiscrepancy | ss1End | deviceResetApply |
    sampleInstant | relockRampEnd | alignComplete | sourceHoldExpiry | torqueProvingEnd | shareImbalance | circulatingCurrent |
    canArbitrationLost | canTxComplete | canTtWindowEnd | funcReinitDone | sessionAuthTimeout | authLockoutEnd | fwVerifyDone |
    canCmdSegmentTimeout =>
    dsimp only [exec, execTaskRelease, execTaskStart, execTaskDeadline, execBlankWindowEnd, execOffSeqInner, execCommandEdge, execNpImbalance,
      execComparePulseEnd, execStreamFrameStart, execCaptureComplete, execStaticCheckDone, execMerSetDrop, execRcCounterRead,
      execLeMdataAccess, execCanLockTimeout, execActionLaunch, execActionRetainExpiry, execPowerHoldExpiry, execRoleDead,
      execReplanComplete, execStoDiscrepancy, execSs1End, execDeviceResetApply, execSampleInstant, execRelockRampEnd,
      execAlignComplete, execSourceHoldExpiry, execTorqueProvingEnd, execShareImbalance, execCirculatingCurrent,
      execCanArbitrationLost, execCanTxComplete, execCanTtWindowEnd, execFuncReinitDone, execSessionAuthTimeout,
      execAuthLockoutEnd, execFwVerifyDone, execCanCmdSegmentTimeout]
    split
    all_goals apply_rules [Settles.ite, Settles.ends]
  case ptpFollowUp | ptpDelayResp | ptpPdelayResp | ptpPdelayRespFollowUp | canStartOfFrame | canTtColumnStart | relockDecision |
    auxCurrentSample =>
    refine .ite (.ends _) ?_
    split
    all_goals apply_rules [Settles.ite, Settles.ends]
  case nak =>
    refine .ite (.ends _) ?_
    split
    · refine .ite (.ite (.ends _) (.ends _)) ?_
      split
      all_goals exact .ends _
    · split
      all_goals exact .ends _
  case ppsInEdge =>
    refine .ite (.ends _) ?_
    split
    · split
      all_goals exact .ends _
    · exact .ite (.ends _) (.ends _)
    · exact .ends _
  case memberJoinListenEnd =>
    dsimp only [exec, execMemberJoinListenEnd]
    split
    · exact .ends _
    · split
      all_goals exact .ends _
  case bridgeStart | renderEnd =>
    dsimp only [exec, execBridgeStart, execRenderEnd]
    split
    · exact .ends _
    · refine .ite (.ends _) ?_
      split
      all_goals apply_rules [Settles.ite, Settles.ends]
  case stopComplete =>
    dsimp only [exec, execStopComplete]
    split
    · exact .ends _
    · refine .ite (.ends _) (.ite (.ends _) ?_)
      split
      all_goals apply_rules [Settles.ite, Settles.ends]
  case fieldFrameRx =>
    refine .ite (.ends _) ?_
    split
    · exact .ends _
    · exact .ite (.ends _) (.ends _)
  case catchEnd =>
    refine .ite (.ends _) (.ite ?_ (.ite (.ends _) (.ite ?_ (.ends _))))
    · split
      all_goals exact .ends _
    · dsimp only
      split
      all_goals exact .ends _
  all_goals exact .ends _

theorem exec_next {c : Instr} {s t : State} (h : exec c s = .next t) : ∃ x : State, t = x.settle := by
  obtain ⟨x, hx⟩ := exec_settles c s
  exact ⟨x, (Host.Outcome.next.inj (hx.symm.trans h)).symm⟩

/-! ## The obligations -/

/-- Settles O3: every meaning ends in `endWith` (`exec_settles`), and that end shows FAULT# and ALERT# (`settle_faults`). -/
theorem everyCommandCompletes : Obligations.EveryCommandCompletes := by
  unfold Obligations.EveryCommandCompletes
  refine ⟨fun c s => ?_, fun c s t h => ?_⟩
  · obtain ⟨x, hx⟩ := exec_settles c s
    exact ⟨x.settle, hx⟩
  · obtain ⟨x, rfl⟩ := exec_next h
    exact settle_faults x

/-- Settles O4: a command ends in `endWith`, which puts every pin right whatever went before; a tick moves none. -/
theorem pinsFollowEveryStep : Obligations.PinsFollowEveryStep := by
  unfold Obligations.PinsFollowEveryStep
  intro s t hs h
  unfold step at h
  split at h
  · obtain rfl := Host.Outcome.next.inj h
    exact hs.elapse 1
  · obtain ⟨x, rfl⟩ := exec_next h
    exact pinned_settle x

/-- Settles O5: at reset each of the pins stands as its rule computes it. -/
theorem pinsFollowAtReset : Obligations.PinsFollowAtReset :=
  { fault := by decide
    alert := rfl
    ready := by decide
    waiting := by decide
    debug := by decide
    outputs := by decide
    released := by decide
    applied := by decide
    feedback := by decide
    idle := ⟨rfl, rfl⟩ }

end Sys2Proof.Machine
end

section
/-! Proofs of the power family, third part: the watchers whose reports start no reaction. -/
open Sys2Proof Sys2Proof.Machine

namespace Sys2Proof.Machine

/-! ## Faults below FR2 (R10, R82, R453) -/

theorem Kept.flt (s : State) (f : Faults) : Kept [.logs, .latched] [] s { s with flt := f } :=
  ⟨fun p hp => by cases p <;> simp_all [Part.same], fun _ _ _ _ => rfl⟩

/-- An FR0 that names no axis changes only the logs and SYS_FAULT. -/
theorem Kept.raise_note (s : State) {code : Nat} (d : List Word) (h0 : faultClass code = 0) :
    Kept [.logs, .latched] [(.SYS_FAULT, 0)] s (s.raise code 7 d) := by
  have hshown := (Kept.setF s F.SYS_FAULT_LAST_CODE code 0 (by decide)).trans
    (Kept.setF _ F.SYS_FAULT_LAST_CLASS (faultClass code) 0 (by decide))
  have hrec : ∀ f, Kept [.logs, .latched] [(.SYS_FAULT, 0)] s
      { (s.setF F.SYS_FAULT_LAST_CODE code).setF F.SYS_FAULT_LAST_CLASS (faultClass code) with flt := f } := fun f =>
    (hshown.trans (Kept.flt _ f)).mono (by simp) (by simp)
  unfold State.raise State.react State.note
  rw [h0]
  show Kept _ _ s (s.logFault code 7 d)
  unfold State.logFault
  dsimp only
  split
  · split
    · exact hrec _
    · exact hrec _
  · exact hrec _

/-- No fault numbers the audit log. -/
theorem raise_nextAudit (s : State) {code : Nat} (d : List Word) (h1 : faultClass code = 1) :
    (s.raise code 7 d).flt.nextAudit = s.flt.nextAudit := by
  have hlog : (s.logFault code 7 d).flt.nextAudit = s.flt.nextAudit := by
    unfold State.logFault
    dsimp only
    split
    · split
      · rfl
      · rfl
    · rfl
  unfold State.raise State.react State.note
  rw [h1]
  exact hlog

/-! ## VDRV with the auxiliary bridge unused, and its return (R66, R307) -/

/-- VDRV as GATE_AUX_STAT shows it, and Wick with it. -/
def vdrvAt (s : State) (v : Nat) : State := (s.setF F.GATE_AUX_STAT_VDRV_OK v).showWick

theorem vdrvAt_kept (s : State) (v : Nat) : Kept [] [(.GATE_AUX_STAT, 0)] s (vdrvAt s v) :=
  ((Kept.setF s F.GATE_AUX_STAT_VDRV_OK v 0 (by decide)).trans (Kept.setF _ F.GATE_AUX_STAT_WICK_ON _ 0 (by decide))).mono (by simp)
    (by simp)

theorem vdrvAt_shows (s : State) (v : Nat) : (vdrvAt s v).fld F.GATE_AUX_STAT_VDRV_OK = v % 2 := by
  unfold vdrvAt State.showWick
  rw [State.fld_setF_bits _ F.GATE_AUX_STAT_WICK_ON F.GATE_AUX_STAT_VDRV_OK _ _ rfl (by decide),
    State.fld_setF_same _ _ _ _ (by decide)]
  rfl

theorem vdrvAt_auxMode (s : State) (v : Nat) : (vdrvAt s v).auxMode = s.auxMode :=
  (vdrvAt_kept s v).fld F.GATE_AUX_CFG_MODE 0 (by decide) (by simp) (by decide)

theorem exec_vdrvUndervoltage (s : State) (dt : Nat) : exec (.vdrvUndervoltage dt) s =
    endWith (if (s.on F.GATE_AUX_STAT_VDRV_OK && s.auxMode != 0) = true then (vdrvAt (s.elapse dt) 0).auxFault 0x1060
      else vdrvAt (s.elapse dt) 0) := by
  have hmode : (vdrvAt (s.elapse dt) 0).auxMode = s.auxMode := vdrvAt_auxMode (s.elapse dt) 0
  rw [← hmode]
  rfl

theorem vdrvUndervoltage_unused {s : State} (dt : Nat) (hc : Calm s) (hmode : s.auxMode = 0) : Ends (.vdrvUndervoltage dt) s fun t =>
    t.fld F.GATE_AUX_STAT_VDRV_OK = 0 ∧ t.tick = s.tick + dt ∧ Kept [] [(.GATE_AUX_STAT, 0)] s t := by
  have he := exec_vdrvUndervoltage s dt
  rw [if_neg (by simp [hmode])] at he
  refine ends_over he hc fun t ht hct => ⟨?_, hct.1, ((Kept.elapse s dt).trans ((vdrvAt_kept _ 0).trans ht)).mono (by simp) (by simp)⟩
  rw [ht.fld F.GATE_AUX_STAT_VDRV_OK 0 (by decide) (by simp) (by decide), vdrvAt_shows]

theorem vdrvRestored_ends {s : State} (dt : Nat) (hc : Calm s) : Ends (.vdrvRestored dt) s fun t =>
    t.fld F.GATE_AUX_STAT_VDRV_OK = 1 ∧ t.tick = s.tick + dt ∧ Kept [] [(.GATE_AUX_STAT, 0)] s t := by
  have he : exec (.vdrvRestored dt) s = endWith (vdrvAt (s.elapse dt) 1) := rfl
  refine ends_over he hc fun t ht hct => ⟨?_, hct.1, ((Kept.elapse s dt).trans ((vdrvAt_kept _ 1).trans ht)).mono (by simp) (by simp)⟩
  rw [ht.fld F.GATE_AUX_STAT_VDRV_OK 0 (by decide) (by simp) (by decide), vdrvAt_shows]

end Sys2Proof.Machine
end

section
/-! Proofs of the power family, fourth part: the switch word, the die temperature, the scrubber and test access. -/
open Sys2Proof Sys2Proof.Machine

namespace Sys2Proof.Machine

/-! ## The switches (R60) -/

/-- The switch word shown as it was read, before what a poll remembers. -/
def swShown (s : State) (dt : Nat) (word : BitVec 12) : State :=
  ((s.elapseFrom dt (s.sys.swAt + 10 * ticksPerMs)).setF F.SYS_SW1_LIVE word.toNat).setF F.SYS_SW1_CHANGED
    (b2n (word.toNat != s.sw))

/-- A poll remembers its word, and the word that has been reported. -/
def swPolled (s : State) (dt : Nat) (word : BitVec 12) (raised : Option Nat) : State :=
  let u := swShown s dt word
  { u with sys := { u.sys with swAt := u.tick, swPrev := word.toNat, swSeen := true, swRaised := raised } }

/-- What a poll has reported: a word read twice is, while it differs from the accepted one. -/
def swReported (s : State) (word : BitVec 12) : Option Nat :=
  if (s.sys.swSeen && s.sys.swPrev == word.toNat) = true then (if (word.toNat == s.sw) = true then none else some word.toNat)
  else s.sys.swRaised

theorem exec_sw1Poll {s : State} (dt : Nat) (word : BitVec 12) (hph : s.sys.phase = .up) (hboot : s.sys.updBootsel = false) :
    exec (.sw1Poll dt word) s =
      endWith (if (s.sys.swSeen && s.sys.swPrev == word.toNat && s.sw != 0 && word.toNat != s.sw && s.sys.swRaised != some word.toNat) = true
        then ((swPolled s dt word (swReported s word)).audit byDevice 0x000C 0 (wd s.sw) (wd word.toNat)).raise 0x5002 7
          [wd s.sw, wd word.toNat]
        else swPolled s dt word (swReported s word)) := by
  have hgo : (s.sys.phase != .up || s.sys.updBootsel) = false := by simp [hph, hboot]
  show (if (s.sys.phase != .up || s.sys.updBootsel) = true then _ else _) = _
  rw [hgo]
  rfl

theorem swPolled_kept (s : State) (dt : Nat) (word : BitVec 12) (raised : Option Nat) :
    Kept [.sys] [(.SYS_SW1, 0)] s (swPolled s dt word raised) := by
  have hshown := ((Kept.elapseFrom s dt (s.sys.swAt + 10 * ticksPerMs)).trans (Kept.setF _ F.SYS_SW1_LIVE word.toNat 0 (by decide))).trans
    (Kept.setF _ F.SYS_SW1_CHANGED (b2n (word.toNat != s.sw)) 0 (by decide))
  exact (hshown.trans (Kept.sys _ (swPolled s dt word raised).sys ⟨rfl, rfl⟩)).mono (by simp) (by simp)

theorem swPolled_fld (s : State) (dt : Nat) (word : BitVec 12) (raised : Option Nat) (f : Fld) :
    (swPolled s dt word raised).fld f = (swShown s dt word).fld f := rfl

/-- SYS_SW1 after a poll: the word read, whether it differs, the accepted word. -/
theorem swShown_shows (s : State) (dt : Nat) (word : BitVec 12) :
    (swShown s dt word).fld F.SYS_SW1_LIVE = word.toNat ∧ (swShown s dt word).fld F.SYS_SW1_CHANGED = b2n (word.toNat != s.sw) ∧
      (swShown s dt word).sw = s.sw := by
  unfold swShown
  refine ⟨?_, ?_, ?_⟩
  · rw [State.fld_setF_bits _ F.SYS_SW1_CHANGED F.SYS_SW1_LIVE _ _ rfl (by decide), State.fld_setF_same _ _ _ _ (by decide)]
    exact Nat.mod_eq_of_lt word.isLt
  · rw [State.fld_setF_same _ _ _ _ (by decide)]
    exact b2n_mod _
  · unfold State.sw
    rw [State.fld_setF_bits _ F.SYS_SW1_CHANGED F.SYS_SW1_ACCEPTED _ _ rfl (by decide),
      State.fld_setF_bits _ F.SYS_SW1_LIVE F.SYS_SW1_ACCEPTED _ _ rfl (by decide)]
    exact State.fld_elapseFrom s _ _ _ 0

theorem sys_same_switches {s t : State} (h : Part.sys.same s t) :
    t.sys.swPrev = s.sys.swPrev ∧ t.sys.swRaised = s.sys.swRaised := by
  have hprev := congrArg Sys.swPrev h.1
  have hraised := congrArg Sys.swRaised h.1
  exact ⟨hprev, hraised⟩

/-- What SYS_SW1 shows of a poll goes on showing. -/
theorem swPolled_stays {ps : List Part} {rs : List (RegId × Nat)} {s t : State} {dt : Nat} {word : BitVec 12} {raised : Option Nat}
    (hk : Kept ps rs (swPolled s dt word raised) t) (hr : (RegId.SYS_SW1, 0) ∉ rs) :
    t.fld F.SYS_SW1_LIVE = word.toNat ∧ t.fld F.SYS_SW1_CHANGED = b2n (word.toNat != s.sw) ∧ t.sw = s.sw := by
  obtain ⟨hlive, hchanged, hsw⟩ := swShown_shows s dt word
  unfold State.sw at hsw ⊢
  rw [hk.fld F.SYS_SW1_LIVE 0 (by decide) hr (by decide), hk.fld F.SYS_SW1_CHANGED 0 (by decide) hr (by decide),
    hk.fld F.SYS_SW1_ACCEPTED 0 (by decide) hr (by decide), swPolled_fld, swPolled_fld, swPolled_fld]
  exact ⟨hlive, hchanged, hsw⟩

theorem sw1Poll_same {s : State} (dt : Nat) (word : BitVec 12) (hc : Calm s) (hph : s.sys.phase = .up) (hboot : s.sys.updBootsel = false)
    (hw : word.toNat = s.sw) : Ends (.sw1Poll dt word) s fun t =>
      t.fld F.SYS_SW1_LIVE = word.toNat ∧ t.fld F.SYS_SW1_CHANGED = 0 ∧ t.sys.swPrev = word.toNat ∧
        t.tick = max (s.tick + dt) (s.sys.swAt + 10 * ticksPerMs) ∧ Kept [.sys] [(.SYS_SW1, 0)] s t := by
  have he := exec_sw1Poll dt word hph hboot
  rw [if_neg (by simp [hw])] at he
  refine ends_over he hc fun t ht hct => ?_
  obtain ⟨hlive, hchanged, -⟩ := swPolled_stays ht (by simp)
  refine ⟨hlive, ?_, (sys_same_switches (ht.1 .sys (by simp))).1, hct.1.trans (State.elapseFrom_tick s _ _), ?_⟩
  · rw [hchanged, hw]
    simp
  · exact ((swPolled_kept s dt word _).trans ht).mono (by simp) (by simp)

theorem sw1Poll_differs {s : State} (dt : Nat) (word : BitVec 12) (hc : Calm s) (hph : s.sys.phase = .up)
    (hboot : s.sys.updBootsel = false) (hseen : s.sys.swSeen = true) (hprev : s.sys.swPrev = word.toNat) (hacc : s.sw ≠ 0)
    (hw : word.toNat ≠ s.sw) (hraised : s.sys.swRaised ≠ some word.toNat) : Ends (.sw1Poll dt word) s fun t =>
      t.fld F.SYS_SW1_LIVE = word.toNat ∧ t.fld F.SYS_SW1_CHANGED = 1 ∧ t.sw = s.sw ∧ Raised t 0x5002 7 ∧
        t.flt.nextAudit = s.flt.nextAudit + 1 ∧ t.sys.swRaised = some word.toNat ∧
        t.tick = max (s.tick + dt) (s.sys.swAt + 10 * ticksPerMs) ∧
        Kept [.sys, .logs, .latched] [(.SYS_SW1, 0), (.SYS_FAULT, 0)] s t := by
  have hreported : swReported s word = some word.toNat := by simp [swReported, hseen, hprev, hw]
  have he := exec_sw1Poll dt word hph hboot
  rw [if_pos (by simp [hseen, hprev, hacc, hw, hraised]), hreported] at he
  have haudit : Kept [.logs, .latched] [] (swPolled s dt word (some word.toNat))
      ((swPolled s dt word (some word.toNat)).audit byDevice 0x000C 0 (wd s.sw) (wd word.toNat)) := Kept.flt _ _
  have hcount : ((swPolled s dt word (some word.toNat)).audit byDevice 0x000C 0 (wd s.sw) (wd word.toNat)).flt.nextAudit =
      s.flt.nextAudit + 1 := rfl
  have htick : ((swPolled s dt word (some word.toNat)).audit byDevice 0x000C 0 (wd s.sw) (wd word.toNat)).tick =
      max (s.tick + dt) (s.sys.swAt + 10 * ticksPerMs) := State.elapseFrom_tick s _ _
  have hcalm : Calm ((swPolled s dt word (some word.toNat)).audit byDevice 0x000C 0 (wd s.sw) (wd word.toNat)) := hc
  generalize (swPolled s dt word (some word.toNat)).audit byDevice 0x000C 0 (wd s.sw) (wd word.toNat) = u at he haudit hcount htick hcalm
  have hraise := Handled.raise u 0x5002 7 [wd s.sw, wd word.toNat] [] (by simp)
  have hkept := haudit.trans (Kept.raise_alert u [wd s.sw, wd word.toNat] (by decide : faultClass 0x5002 = 1))
  refine ends_over he (hraise.calm hcalm) fun t ht hct => ?_
  have hall := hkept.trans ht
  obtain ⟨hlive, hchanged, hsw⟩ := swPolled_stays hall (by simp)
  refine ⟨hlive, ?_, hsw, ?_, ?_, ?_, ?_, ?_⟩
  · rw [hchanged, bne_iff_ne.2 hw]
    rfl
  · exact (raise_raised u 0x5002 7 _ _ (by simp)).kept ht (by simp) (by simp)
  · rw [(ht.1 .logs (by simp)).2.2.2, raise_nextAudit u _ (by decide), hcount]
  · exact (sys_same_switches (hall.1 .sys (by simp))).2
  · exact (hct.1.trans hraise.clocks.1).trans htick
  · exact ((swPolled_kept s dt word _).trans hall).mono (by simp) (by simp)

/-! ## The die temperature (R490) -/

/-- The die temperature judged: past 110 °C or 125 °C, until it is below 105 °C again. -/
def dieJudged (s : State) (dt : Nat) (deci : Int) : State :=
  let u := s.elapseFrom dt (s.sys.dieAt + 10 * ticksPerMs)
  { u with sys := { u.sys with
    dieAt := u.tick, dieHot := 1100 < deci || (s.sys.dieHot && 1050 ≤ deci), dieLimit := 1250 < deci || (s.sys.dieLimit && 1050 ≤ deci) } }

/-- The FR1 of a die that has become hot. -/
def dieWarned (s : State) (dt : Nat) (deci : Int) : State :=
  if (1100 < deci && !s.sys.dieHot) = true then (dieJudged s dt deci).raise 0x7090 7 [wi deci] else dieJudged s dt deci

theorem exec_dieTempSample {s : State} (dt : Nat) (deci : Int) (hph : s.sys.phase ≠ .unpowered) : exec (.dieTempSample dt deci) s =
    endWith (if (1250 < deci && !s.sys.dieLimit) = true then (dieWarned s dt deci).raise 0x7091 7 [wi deci] else dieWarned s dt deci) := by
  show (if (s.sys.phase == .unpowered) = true then _ else _) = _
  rw [if_neg (by simpa using hph)]
  rfl

theorem dieJudged_kept (s : State) (dt : Nat) (deci : Int) : Kept [.sys] [] s (dieJudged s dt deci) :=
  (Kept.elapseFrom s dt (s.sys.dieAt + 10 * ticksPerMs)).trans (Kept.sys _ (dieJudged s dt deci).sys ⟨rfl, rfl⟩)

theorem sys_same_die {s t : State} (h : Part.sys.same s t) : t.sys.dieHot = s.sys.dieHot ∧ t.sys.dieLimit = s.sys.dieLimit := by
  have hhot := congrArg Sys.dieHot h.1
  have hlimit := congrArg Sys.dieLimit h.1
  exact ⟨hhot, hlimit⟩

theorem dieTempSample_hot {s : State} (dt : Nat) {deci : Int} (hc : Calm s) (hph : s.sys.phase ≠ .unpowered)
    (hhot : s.sys.dieHot = false) (h110 : 1100 < deci) (h125 : deci ≤ 1250) : Ends (.dieTempSample dt deci) s fun t =>
      t.sys.dieHot = true ∧ Raised t 0x7090 7 ∧ t.tick = max (s.tick + dt) (s.sys.dieAt + 10 * ticksPerMs) ∧
        Kept [.sys, .logs, .latched] [(.SYS_FAULT, 0)] s t := by
  have he := exec_dieTempSample dt deci hph
  have hwarn : dieWarned s dt deci = (dieJudged s dt deci).raise 0x7090 7 [wi deci] := if_pos (by simp [h110, hhot])
  rw [if_neg (by simp; omega), hwarn] at he
  have hraise := Handled.raise (dieJudged s dt deci) 0x7090 7 [wi deci] [] (by simp)
  have hkept := Kept.raise_alert (dieJudged s dt deci) [wi deci] (by decide : faultClass 0x7090 = 1)
  refine ends_over he (hraise.calm hc) fun t ht hct => ⟨?_, ?_, ?_, ?_⟩
  · rw [(sys_same_die ((hkept.trans ht).1 .sys (by simp))).1]
    simp [dieJudged, h110]
  · exact (raise_raised _ 0x7090 7 _ _ (by simp)).kept ht (by simp) (by simp)
  · exact (hct.1.trans hraise.clocks.1).trans (State.elapseFrom_tick s _ _)
  · exact (((dieJudged_kept s dt deci).trans hkept).trans ht).mono (by simp) (by simp)

theorem dieWarned_handled (s : State) (dt : Nat) (deci : Int) : Handled [.logs, .latched] (dieJudged s dt deci) (dieWarned s dt deci) := by
  unfold dieWarned
  split
  · exact Handled.raise _ _ _ _ _ (by simp)
  · exact Handled.refl _

theorem dieTempSample_limit {s : State} (dt : Nat) {deci : Int} (hc : Calm s) (hph : s.sys.phase ≠ .unpowered)
    (hlimit : s.sys.dieLimit = false) (h125 : 1250 < deci) : Ends (.dieTempSample dt deci) s fun t =>
      t.sys.dieLimit = true ∧ Raised t 0x7091 7 ∧ t.fld F.LAN_STAT_STO_ACTIVE ≠ 0 ∧
        t.tick = max (s.tick + dt) (s.sys.dieAt + 10 * ticksPerMs) ∧ Spared [.sys] [] s t := by
  have he := exec_dieTempSample dt deci hph
  rw [if_pos (by simp [h125, hlimit])] at he
  have hwarned := dieWarned_handled s dt deci
  refine ends_raise he (hwarned.calm hc) (by simp) fun t hraised hspared hclocks hsto _ =>
    ⟨?_, hraised, hsto (by decide) (by decide), ?_, ?_⟩
  · have hsys := Part.same_trans (hwarned.parts .sys (by decide) (by decide) (by decide))
      (hspared.1 .sys (by simp) (by decide) (by decide))
    rw [(sys_same_die hsys).2]
    simp [dieJudged, h125]
  · exact (hclocks.1.trans hwarned.clocks.1).trans (State.elapseFrom_tick s _ _)
  · exact (((dieJudged_kept s dt deci).spared.trans (hwarned.spared (by simp))).trans hspared).mono (by simp) (by simp)

end Sys2Proof.Machine
end

section
/-! Proofs of the power family, fifth part: the scrubber and test access. -/
open Sys2Proof Sys2Proof.Machine

namespace Sys2Proof.Machine

/-! ## The scrubber (R27, R28, R123) -/

/-- The scrubber at its next word. -/
def scrubbed (s : State) (dt : Nat) : State :=
  let u := s.elapseFrom dt (s.sys.scrubAt + 8)
  { u with sys := { u.sys with scrubAt := u.tick, scrubWord := (s.sys.scrubWord + 1) % 262144 } }

theorem exec_scrubRead (s : State) (dt flips : Nat) : exec (.scrubRead dt flips) s =
    endWith (State.sramFlips (if (s.sys.scrubWord == 262143) = true then (scrubbed s dt).bump F.FAB_SCRUB_PASSES else scrubbed s dt) flips
      (wd s.sys.scrubWord)).1 := rfl

theorem sramFlips_one (s : State) (d : Word) : (s.sramFlips 1 d).1 = (s.bump F.FAB_SECDED_CORR).raise 0x7001 7 [d] := rfl

theorem sramFlips_two (s : State) (d : Word) : (s.sramFlips 2 d).1 = (s.bump F.FAB_SECDED_UNCORR).raise 0x7002 7 [d] := by
  unfold State.sramFlips
  split
  · contradiction
  · contradiction
  · with_reducible rfl

theorem scrubbed_kept (s : State) (dt : Nat) : Kept [.sys] [] s (scrubbed s dt) :=
  (Kept.elapseFrom s dt (s.sys.scrubAt + 8)).trans (Kept.sys _ (scrubbed s dt).sys ⟨rfl, rfl⟩)

theorem scrubbed_tick (s : State) (dt : Nat) : (scrubbed s dt).tick = max (s.tick + dt) (s.sys.scrubAt + 8) := State.elapseFrom_tick s _ _

theorem scrubbed_fld (s : State) (dt : Nat) (f : Fld) : (scrubbed s dt).fld f = s.fld f :=
  State.fld_elapseFrom s dt (s.sys.scrubAt + 8) f 0

theorem sys_same_scrub {s t : State} (h : Part.sys.same s t) : t.sys.scrubWord = s.sys.scrubWord := by
  have hword := congrArg Sys.scrubWord h.1
  exact hword

theorem scrubRead_right {s : State} (dt : Nat) (hc : Calm s) : Ends (.scrubRead dt 0) s fun t =>
    t.fld F.FAB_SCRUB_PASSES = (if s.sys.scrubWord = 262143 then min (s.fld F.FAB_SCRUB_PASSES + 1) 0xFFFFFFFF
        else s.fld F.FAB_SCRUB_PASSES) ∧
      t.sys.scrubWord = (s.sys.scrubWord + 1) % 262144 ∧ t.tick = max (s.tick + dt) (s.sys.scrubAt + 8) ∧
      Kept [.sys] [(.FAB_SCRUB, 0)] s t := by
  have he := exec_scrubRead s dt 0
  have hkept := scrubbed_kept s dt
  by_cases hlast : s.sys.scrubWord = 262143
  · rw [if_pos (by simpa using hlast)] at he
    have hall : Kept [.sys] [(.FAB_SCRUB, 0)] s ((scrubbed s dt).bump F.FAB_SCRUB_PASSES) :=
      (hkept.trans (Kept.setF _ F.FAB_SCRUB_PASSES _ 0 (by decide))).mono (by simp) (by simp)
    refine ends_over he hc fun t ht hct => ⟨?_, ?_, hct.1.trans (scrubbed_tick s dt), (hall.trans ht).mono (by simp) (by simp)⟩
    · rw [if_pos hlast, ht.fld F.FAB_SCRUB_PASSES 0 (by decide) (by simp) (by decide), ← scrubbed_fld s dt]
      exact State.fld_bump_same (scrubbed s dt) F.FAB_SCRUB_PASSES 0 (by decide)
    · exact sys_same_scrub (ht.1 .sys (by simp))
  · rw [if_neg (by simpa using hlast)] at he
    refine ends_over he hc fun t ht hct => ⟨?_, ?_, hct.1.trans (scrubbed_tick s dt), (hkept.trans ht).mono (by simp) (by simp)⟩
    · rw [if_neg hlast, ← scrubbed_fld s dt]
      exact ht.fld F.FAB_SCRUB_PASSES 0 (by decide) (by simp) (by decide)
    · exact sys_same_scrub (ht.1 .sys (by simp))

theorem scrubRead_corrects {s : State} (dt : Nat) (hc : Calm s) (hword : s.sys.scrubWord ≠ 262143) : Ends (.scrubRead dt 1) s fun t =>
    t.fld F.FAB_SECDED_CORR = min (s.fld F.FAB_SECDED_CORR + 1) 0xFFFF ∧ Raised t 0x7001 7 ∧ t.sram = s.sram ∧
      t.tick = max (s.tick + dt) (s.sys.scrubAt + 8) ∧ Kept [.sys, .logs, .latched] [(.FAB_SECDED, 0), (.SYS_FAULT, 0)] s t := by
  have he : exec (.scrubRead dt 1) s = endWith (((scrubbed s dt).bump F.FAB_SECDED_CORR).raise 0x7001 7 [wd s.sys.scrubWord]) := by
    rw [exec_scrubRead, if_neg (by simpa using hword), sramFlips_one]
  have hcount := State.fld_bump_same (scrubbed s dt) F.FAB_SECDED_CORR 0 (by decide)
  rw [scrubbed_fld] at hcount
  have hbump : Kept [.sys] [(.FAB_SECDED, 0)] s ((scrubbed s dt).bump F.FAB_SECDED_CORR) :=
    ((scrubbed_kept s dt).trans (Kept.setF _ F.FAB_SECDED_CORR _ 0 (by decide))).mono (by simp) (by simp)
  have hraise := Handled.raise ((scrubbed s dt).bump F.FAB_SECDED_CORR) 0x7001 7 [wd s.sys.scrubWord] [] (by simp)
  have hkept := Kept.raise_note ((scrubbed s dt).bump F.FAB_SECDED_CORR) [wd s.sys.scrubWord] (by decide : faultClass 0x7001 = 0)
  refine ends_over he (hraise.calm hc) fun t ht hct => ⟨?_, ?_, ?_, ?_, ?_⟩
  · rw [(hkept.trans ht).fld F.FAB_SECDED_CORR 0 (by decide) (by simp) (by decide)]
    exact hcount
  · exact (raise_raised _ 0x7001 7 _ _ (by simp)).kept ht (by simp) (by simp)
  · exact (hkept.trans ht).1 .sram (by simp)
  · exact (hct.1.trans hraise.clocks.1).trans (scrubbed_tick s dt)
  · exact ((hbump.trans hkept).trans ht).mono (by simp) (by simp)

theorem scrubRead_fails {s : State} (dt : Nat) (hc : Calm s) (hword : s.sys.scrubWord ≠ 262143) : Ends (.scrubRead dt 2) s fun t =>
    t.fld F.FAB_SECDED_UNCORR = min (s.fld F.FAB_SECDED_UNCORR + 1) 0xFFFF ∧ Raised t 0x7002 7 ∧ t.sram = s.sram ∧
      t.tick = max (s.tick + dt) (s.sys.scrubAt + 8) ∧ Spared [.sys] [.FAB_SECDED] s t := by
  have he : exec (.scrubRead dt 2) s = endWith (((scrubbed s dt).bump F.FAB_SECDED_UNCORR).raise 0x7002 7 [wd s.sys.scrubWord]) := by
    rw [exec_scrubRead, if_neg (by simpa using hword), sramFlips_two]
  have hcount := State.fld_bump_same (scrubbed s dt) F.FAB_SECDED_UNCORR 0 (by decide)
  rw [scrubbed_fld] at hcount
  have hbump : Kept [.sys] [(.FAB_SECDED, 0)] s ((scrubbed s dt).bump F.FAB_SECDED_UNCORR) := 
    ((scrubbed_kept s dt).trans (Kept.setF _ F.FAB_SECDED_UNCORR _ 0 (by decide))).mono (by simp) (by simp)
  have htick : ((scrubbed s dt).bump F.FAB_SECDED_UNCORR).tick = max (s.tick + dt) (s.sys.scrubAt + 8) := scrubbed_tick s dt
  have hcalm : Calm ((scrubbed s dt).bump F.FAB_SECDED_UNCORR) := hc
  generalize (scrubbed s dt).bump F.FAB_SECDED_UNCORR = u at he hcount hbump htick hcalm
  refine ends_raise he hcalm (by simp) fun t hraised hspared hclocks _ _ => ⟨?_, hraised, ?_, ?_, ?_⟩
  · have hword : t.rd .FAB_SECDED 0 = u.rd .FAB_SECDED 0 := hspared.2 .FAB_SECDED 0 (by decide) (by simp) (by decide) (by decide)
    refine Eq.trans ?_ hcount
    unfold State.fld
    rw [hword]
  · exact (hspared.1 .sram (by simp) (by decide) (by decide)).trans (hbump.1 .sram (by simp))
  · exact hclocks.1.trans htick
  · exact (hbump.spared.trans hspared).mono (by simp) (by simp)

/-! ## Test access (R54) -/

/-- The instruction that a JTAG access selects. -/
def scanned (s : State) (dt : Nat) (ins : JtagIns) : State :=
  let u := s.elapse dt
  { u with sys := { u.sys with debugOpen := ins == .debug, jtagIr := ins } }

theorem lanes_off {s : State} (h : s.str.clk = false) : s.lanes = (List.replicate 5 false, s) := by
  unfold State.lanes
  rw [h]
  rfl

/-- With STCLK running the levels of the lanes are free values, and nothing else is touched. -/
theorem lanes_on {s : State} (h : s.str.clk = true) : s.lanes =
    ([Config.freeBit s.free, Config.freeBit (s.free + 1), Config.freeBit (s.free + 2), Config.freeBit (s.free + 3),
      Config.freeBit (s.free + 4)], { s with free := s.free + 5 }) := by
  unfold State.lanes
  rw [h]
  rfl

/-- A boundary scan shifts out the cells as they stand before it, and may take free values for the lanes. -/
theorem scan_eq (s : State) : ∃ n, s.scan = { s with free := n, outs := .scan (s.observedCells s.lanes.1) :: s.outs } := by
  have hscan : s.scan = s.lanes.2.emit (.scan (s.lanes.2.observedCells s.lanes.1)) := rfl
  cases h : s.str.clk with
  | false =>
    rw [hscan, lanes_off h]
    exact ⟨s.free, rfl⟩
  | true =>
    rw [hscan, lanes_on h]
    exact ⟨s.free + 5, rfl⟩

/-- The levels of the lanes are the same whatever instruction looks at them. -/
theorem lanes_scanned (s : State) (dt : Nat) (ins : JtagIns) : (scanned s dt ins).lanes.1 = s.lanes.1 := by
  cases h : s.str.clk with
  | false => rw [lanes_off (s := scanned s dt ins) h, lanes_off h]
  | true =>
    rw [lanes_on (s := scanned s dt ins) h, lanes_on h]
    rfl

/-- The state that a JTAG access leaves to the end of the command. -/
def accessed (s : State) (dt : Nat) (ins : JtagIns) (n : Nat) : State :=
  { scanned s dt ins with
    free := n, outs := if ins = .boundaryScan then .scan (s.observedCells s.lanes.1) :: s.outs else s.outs }

theorem exec_jtagAccess (s : State) (dt : Nat) (ins : JtagIns) : ∃ n, exec (.jtagAccess dt ins) s = endWith (accessed s dt ins n) := by
  have he : exec (.jtagAccess dt ins) s =
      endWith (if (ins == .boundaryScan) = true then (scanned s dt ins).scan else scanned s dt ins) := rfl
  have hcells : (scanned s dt ins).observedCells s.lanes.1 = s.observedCells s.lanes.1 := rfl
  unfold accessed
  by_cases hb : ins = .boundaryScan
  · obtain ⟨n, hn⟩ := scan_eq (scanned s dt ins)
    rw [lanes_scanned, hcells] at hn
    rw [he, if_pos (by simpa using hb), hn]
    simp only [if_pos hb]
    exact ⟨n, rfl⟩
  · rw [he, if_neg (by simpa using hb)]
    simp only [if_neg hb]
    exact ⟨s.free, rfl⟩

theorem accessed_kept (s : State) (dt : Nat) (ins : JtagIns) (n : Nat) : Kept [.sys, .outs, .free] [] s (accessed s dt ins n) :=
  ⟨fun p hp => by cases p <;> simp_all [Part.same, accessed, scanned], fun _ _ _ _ => rfl⟩

theorem Kept.debugAllowed {s t : State} (h : Kept [] [] s t) : t.debugAllowed = s.debugAllowed := by
  have hsessions : t.hst.sessions = s.hst.sessions := (h.1 .sessions (by simp)).1
  unfold State.debugAllowed
  rw [h.sw, hsessions]

theorem brakeEval_eq (s : State) : ∃ m n, s.brakeEval = { s with regs := m, lan := { s.lan with sbcTestAt := n } } := by
  unfold State.brakeEval
  dsimp only
  generalize (s.brakeCond && _) = rel
  split
  · exact ⟨_, _, rfl⟩
  · exact ⟨_, s.lan.sbcTestAt, rfl⟩

/-- The levels of the pins are set from a state that differs in the registers and in the times of the brake and of SLS alone. -/
theorem settle_from {s : State} (hc : Calm s) : ∃ u : State, s.settle = levelled u ∧ Kept [] [] s u ∧ u.sys = s.sys ∧ u.flt = s.flt := by
  have hdone : s.demandDone = s := by
    unfold State.demandDone
    rw [hc]
    rfl
  have hkept := ((Kept.brakeEval s).trans (Kept.slsTrack _)).trans (Kept.displayed _)
  refine ⟨displayed s.brakeEval.slsTrack, by rw [settle_eq, hdone], hkept, ?_⟩
  obtain ⟨m, n, hbrake⟩ := brakeEval_eq s
  rw [hbrake]
  exact ⟨rfl, rfl⟩

/-- The end of a command leaves the instruction selected unless it is a debug instruction that is not allowed (R54). -/
theorem settle_jtag {s : State} (hc : Calm s) :
    s.settle.sys.jtagIr = (if s.sys.jtagIr = .debug ∧ s.debugAllowed = false then .bypass else s.sys.jtagIr) ∧
      s.settle.sys.debugOpen = (s.sys.debugOpen && !(s.sys.jtagIr == .debug && !s.debugAllowed)) := by
  obtain ⟨u, hu, hkept, hsys, -⟩ := settle_from hc
  have hir : (levelled u).sys.jtagIr = if (u.sys.jtagIr == .debug && !u.debugAllowed) = true then JtagIns.bypass else u.sys.jtagIr := rfl
  have hopen : (levelled u).sys.debugOpen = (u.sys.debugOpen && !(u.sys.jtagIr == .debug && !u.debugAllowed)) := rfl
  rw [hu, hir, hopen, hsys, hkept.debugAllowed]
  simp

theorem jtagAccess_ends {s : State} (dt : Nat) (ins : JtagIns) (hc : Calm s) : Ends (.jtagAccess dt ins) s fun t =>
    t.sys.jtagIr = (if ins = .debug ∧ s.debugAllowed = false then .bypass else ins) ∧
      t.sys.debugOpen = (ins == .debug && s.debugAllowed) ∧ t.gate = s.gate ∧
      t.outs = (if ins = .boundaryScan then .scan (s.observedCells s.lanes.1) :: s.outs else s.outs) ∧
      Kept [.sys, .outs, .free] [] s t := by
  obtain ⟨n, he⟩ := exec_jtagAccess s dt ins
  have hcalm : Calm (accessed s dt ins n) := hc
  have hend := Kept.settle _ hcalm
  have hall := (accessed_kept s dt ins n).trans hend
  have hallowed : (accessed s dt ins n).debugAllowed = s.debugAllowed := rfl
  obtain ⟨hir, hdebug⟩ := settle_jtag hcalm
  rw [hallowed] at hir hdebug
  refine ⟨_, he, hir, hdebug.trans ?_, hall.1 .gate (by simp), hend.1 .outs (by simp), hall.mono (by simp) (by simp)⟩
  show (ins == .debug && !(ins == .debug && !s.debugAllowed)) = _
  cases ins == .debug <;> simp

end Sys2Proof.Machine
end

section
/-! Proofs of the power family, sixth part: what the reactions on an axis leave alone beside it. -/
open Sys2Proof Sys2Proof.Machine

namespace Sys2Proof.Machine

/-- The registers in which a fault of an axis and the reactions on it show, the device state between ARMED and RUN apart. -/
abbrev axisRegs : List RegId :=
  [.SYS_FAULT, .AX_STAT, .AX_FAULT, .AX_EM_STAT, .AX_SP_ACTIVE, .AX_T_OUT, .AX_SH_STAT, .BR_STAT, .PWM_STAT, .PWM_CTRL, .CHOP_STAT, .GATE_STAT,
    .STR_STAT, .STR_DROP, .STR_CAP_FILL, .LAN_STAT, .LAN_SBC]

/-- What stands beside the axes is the same: the motion engines, the phase, every register but those of the axes; the device state moves
between ARMED and RUN alone (R77). -/
structure Aside (s t : State) : Prop where
  me : t.mot.me = s.mot.me
  phase : t.sys.phase = s.sys.phase
  regs : ∀ r i, i < 65536 → r ∉ axisRegs → r ≠ .SYS_STATE → t.rd r i = s.rd r i
  dev : s.dev ≠ dARMED → s.dev ≠ dRUN → t.rd .SYS_STATE = s.rd .SYS_STATE

namespace Aside

variable {s t u : State}

theorem refl (s : State) : Aside s s := ⟨rfl, rfl, fun _ _ _ _ _ => rfl, fun _ _ => rfl⟩

theorem trans (h : Aside s t) (h' : Aside t u) : Aside s u := by
  refine ⟨h'.me.trans h.me, h'.phase.trans h.phase, fun r i hi hr hs => (h'.regs r i hi hr hs).trans (h.regs r i hi hr hs), fun ha hr => ?_⟩
  have hword := h.dev ha hr
  have hdev : t.dev = s.dev := by
    unfold State.dev State.fld
    rw [hword]
  rw [h'.dev (hdev ▸ ha) (hdev ▸ hr), hword]

/-- A step that changes neither the registers, the motion engines nor the phase. -/
theorem of_same (hr : t.regs = s.regs) (hm : t.mot.me = s.mot.me) (hp : t.sys.phase = s.sys.phase) : Aside s t := by
  have hrd : ∀ r i, t.rd r i = s.rd r i := fun r i => by
    unfold State.rd
    rw [hr]
  exact ⟨hm, hp, fun r i _ _ _ => hrd r i, fun _ _ => hrd _ _⟩

theorem wr (s : State) (r : RegId) (w : Word) (i : Nat) (hr : r ∈ axisRegs) (hi : i < 65536) : Aside s (s.wr r w i) := by
  have hne : RegId.SYS_STATE ≠ r := by
    rintro rfl
    exact absurd hr (by decide)
  exact ⟨rfl, rfl, fun r' i' hi' hn _ => State.rd_wr_other s r r' w i i' hi hi' (.inl fun e => hn (e ▸ hr)),
    fun _ _ => State.rd_wr_other s r _ w i 0 hi (by decide) (.inl hne)⟩

theorem setF (s : State) (f : Fld) (v i : Nat) (hr : f.reg ∈ axisRegs) (hi : i < 65536) : Aside s (s.setF f v i) := wr s _ _ i hr hi

theorem setBit (s : State) (f : Fld) (k : Nat) (v : Bool) (i : Nat) (hr : f.reg ∈ axisRegs) (hi : i < 65536) :
    Aside s (s.setBit f k v i) := wr s _ _ i hr hi

/-- A condition that takes such a step or none. -/
theorem step_if (p : Prop) [Decidable p] (h : Aside s t) : Aside s (if p then t else s) := by
  split
  · exact h
  · exact refl s

theorem foldl {α : Type} (l : List α) (f : State → α → State) (h : ∀ s, ∀ a ∈ l, Aside s (f s a)) (s : State) : Aside s (l.foldl f s) := by
  induction l generalizing s with
  | nil => exact refl s
  | cons a l ih => exact (h s a (by simp)).trans (ih (fun s b hb => h s b (by simp [hb])) _)

theorem forN (s : State) (n : Nat) (f : Nat → State → State) (h : ∀ k, k < n → ∀ s, Aside s (f k s)) : Aside s (s.forN n f) :=
  foldl _ _ (fun s a ha => h a (by simpa [upTo] using ha) s) s

theorem forL {α : Type} (s : State) (l : List α) (f : α → State → State) (h : ∀ a ∈ l, ∀ s, Aside s (f a s)) : Aside s (s.forL l f) :=
  foldl _ _ (fun s a ha => h a ha s) s

theorem gate (s : State) (x : Gate) : Aside s { s with gate := x } := of_same rfl rfl rfl

theorem pwm (s : State) (x : Pwm) : Aside s { s with pwm := x } := of_same rfl rfl rfl

theorem updBridge (s : State) (n : Nat) (f : Bridge → Bridge) : Aside s (s.updBridge n f) := of_same rfl rfl rfl

theorem em (s : State) (x : List Em) : Aside s { s with em := x } := of_same rfl rfl rfl

theorem obs (s : State) (x : List Obs) : Aside s { s with obs := x } := of_same rfl rfl rfl

theorem share (s : State) (x : List Share) : Aside s { s with share := x } := of_same rfl rfl rfl

theorem str (s : State) (x : Str) : Aside s { s with str := x } := of_same rfl rfl rfl

theorem hst (s : State) (x : Hst) : Aside s { s with hst := x } := of_same rfl rfl rfl

theorem updAxis (s : State) (n : Nat) (f : Axis → Axis) : Aside s (s.updAxis n f) := of_same rfl rfl rfl

theorem quot (s : State) (n d : Int) : Aside s (s.quot n d).2 := by
  unfold State.quot
  split
  · exact of_same rfl rfl rfl
  · split
    · exact refl s
    · exact of_same rfl rfl rfl

/-! ## Gates -/

theorem drive (s : State) (g : Nat) (v : Bool) : Aside s (s.drive g v) := by
  unfold State.drive State.driveAt
  split
  · exact refl s
  · exact of_same rfl rfl rfl

theorem driveChop (s : State) (k : Nat) (v : Bool) : Aside s (s.driveChop k v) := by
  unfold State.driveChop
  dsimp only
  split
  · exact refl s
  · exact ((drive s _ v).trans (gate _ _)).trans (setBit _ F.CHOP_STAT_ON k v 0 (by decide) (by decide))

theorem notRunning (s : State) (b : Nat) (hb : b < 65536) : Aside s (s.notRunning b) :=
  ((setF s F.BR_STAT_RUNNING 0 b (by decide) hb).trans (setBit _ F.PWM_STAT_RUNNING b false 0 (by decide) (by decide))).trans
    (updBridge _ _ _)

theorem tseqTimed (s : State) (b : Nat) : Aside s (s.tseqTimed b).2 := by
  unfold State.tseqTimed
  split
  · exact of_same rfl rfl rfl
  · exact refl s

theorem offSeq (s : State) (b : Nat) (hb : b < 65536) : Aside s (s.offSeq b) := by
  have houter : ∀ u : State, Aside u (u.forL (u.outerSlots b) fun k s => if s.slot b k < 48 then s.drive (s.slot b k) false else s) :=
    fun u => forL u _ _ fun k _ v => step_if _ (drive v _ _)
  have hchop : ∀ u : State, Aside u (u.forL (u.choppersOf b) fun k s => s.driveChop k false) := fun u => forL u _ _ fun k _ v => driveChop v k false
  have hinner : ∀ (u : State) (c : Bool), Aside u (if (u.fld F.BR_CFG_TYPE b == 2 && c) = true then
      match u.tseqTimed b with
      | (n, u) => ({ u with gate := { u.gate with offDue := upd u.gate.offDue b fun _ => some (u.tick + n) } }).setBit F.GATE_STAT_OFFSEQ b true
      else u) := fun u c => by
    split
    · exact ((tseqTimed u b).trans (gate _ _)).trans (setBit _ F.GATE_STAT_OFFSEQ b true 0 (by decide) (by decide))
    · exact refl u
  unfold State.offSeq
  split
  · exact refl s
  · exact ((((pwm s _).trans (houter _)).trans (hchop _)).trans (notRunning _ b hb)).trans (hinner _ _)

theorem runBitsOff (s : State) (a : Nat) : Aside s (s.runBitsOff a) :=
  forL s _ _ fun b hb u => (setBit u F.PWM_CTRL_RUN b false 0 (by decide) (by decide)).trans (offSeq _ b (by
    have hb8 : b < 8 := by simpa [State.bridgesOf, upTo] using (List.mem_filter.1 hb).1
    omega))

theorem offAll (s : State) : Aside s s.offAll := forN s 8 _ fun k hk u => offSeq u k (by omega)

/-! ## Replies of commands in flight, captures -/

theorem sendReply (s : State) (p : Pkt) (r : Reply) : Aside s (s.sendReply p r) := by
  have hcan : ∀ c, Aside s (s.queueCan c r) := fun c => by
    unfold State.queueCan
    split
    · exact refl s
    · exact of_same rfl rfl rfl
  unfold State.sendReply
  split
  · split
    · exact of_same rfl rfl rfl
    · exact of_same rfl rfl rfl
  · exact of_same rfl rfl rfl
  · exact hcan 0
  · exact hcan 1

theorem conclude (s : State) (o : BitVec 16) (p : Pkt) (r : Bool) (a : Answer) : Aside s (s.conclude o p r a) := by
  unfold State.conclude
  split
  · split
    · exact refl s
    · exact of_same rfl rfl rfl
  · refine Aside.trans ?_ (sendReply _ _ _)
    split
    · exact refl s
    · exact of_same rfl rfl rfl

theorem finish (s : State) (o : BitVec 16) (n : Nat) (a : Answer) : Aside s (s.finish o n a) :=
  (hst s _).trans (forL _ _ _ fun _ _ u => conclude u _ _ _ _)

theorem capPush (s : State) (ws : List Word) (c : Bool) : Aside s (s.capPush ws c) := by
  unfold State.capPush
  split
  · exact ((setF s F.STR_DROP_COUNT _ 0 (by decide) (by decide)).trans (setF _ F.STR_STAT_OVERFLOW _ 0 (by decide) (by decide))).trans
      (of_same rfl rfl rfl)
  · exact of_same rfl rfl rfl

theorem capClose (s : State) (b : Bool) : Aside s (s.capClose b) := by
  unfold State.capClose
  split
  · exact refl s
  · split
    · exact refl s
    · dsimp only
      refine Aside.trans (Aside.trans ?_ (capPush _ _ _)) (((str _ _).trans (setF _ F.STR_STAT_CAPTURE 3 0 (by decide) (by decide))).trans
        (setF _ F.STR_CAP_FILL_WORDS _ 0 (by decide) (by decide)))
      split
      · exact refl s
      · exact (capPush s _ _).trans (capPush _ _ _)

theorem capDisabled (s : State) : Aside s s.capDisabled := by
  unfold State.capDisabled
  split
  · split
    · exact capClose s _
    · exact refl s
  · exact refl s

/-! ## The loops of an axis -/

theorem speedTarget (s : State) (a : Nat) (v : Int) : Aside s (s.speedTarget a v).2 := by
  unfold State.speedTarget
  dsimp only
  split
  · exact quot s _ _
  · exact refl s
  · split
    · exact quot s _ _
    · exact refl s

theorem presetPi (s : State) (a : Nat) (ha : a < 65536) : Aside s (s.presetPi a) := by
  have hgain : ∀ (u : State) (k : Nat) (v : Int), Aside u (u.gain a k v).2 := fun u _ _ => quot u _ _
  exact (((((speedTarget s a (s.sg .AX_T_REF a)).trans (hgain _ State.gKpSpd _)).trans (hgain _ State.gKpTen _)).trans (updAxis _ _ _))).trans
    (step_if _ (wr _ .AX_T_OUT _ a (by decide) ha))

theorem rampFrom (s : State) (a was : Nat) (ha : a < 65536) : Aside s (s.rampFrom a was) :=
  ((wr s .AX_SP_ACTIVE _ a (by decide) ha).trans (updAxis _ _ _)).trans (presetPi _ a ha)

theorem reaim (s : State) (a was : Nat) (ha : a < 65536) : Aside s (s.reaim a was) := by
  unfold State.reaim
  dsimp only
  split
  · exact presetPi s a ha
  · exact ((wr s .AX_SP_ACTIVE _ a (by decide) ha).trans (updAxis _ _ _)).trans (presetPi _ a ha)

/-! ## Transitions -/

/-- Between ARMED and RUN the device state alone changes (R77). -/
theorem setDev_moving (s : State) (d c : Nat) (e : Bool) (hold : s.dev = dARMED ∨ s.dev = dRUN) (hd : d = dARMED ∨ d = dRUN) :
    Aside s (s.setDev d c e) := by
  have hstate : Aside s ((s.setF F.SYS_STATE_PREV_STATE s.dev).setF F.SYS_STATE_STATE d) :=
    ⟨rfl, rfl, fun r i hi _ hr =>
      (State.rd_setF_other _ F.SYS_STATE_STATE d 0 r i (by decide) hi (.inl hr)).trans
        (State.rd_setF_other s F.SYS_STATE_PREV_STATE s.dev 0 r i (by decide) hi (.inl hr)),
      fun ha hr => absurd hold (not_or.2 ⟨ha, hr⟩)⟩
  have hlast : ∀ u : State, Aside u (if e = true then { u with sys := { u.sys with lastTrans := some u.tick } } else u) := fun u =>
    step_if _ (of_same rfl rfl rfl)
  have hhiz : ∀ (u : State) (b : Bool), Aside u (if b = true then { u with mot := { u.mot with hiz := false } } else u) := fun u b =>
    step_if _ (of_same rfl rfl rfl)
  have hwick : ∀ u : State, u.wickFrom s.dev = u := fun u => by
    unfold State.wickFrom
    rcases hold with h | h <;> rw [h] <;> rfl
  have hgone : ((s.dev == dARMED || s.dev == dRUN) && d != dARMED && d != dRUN) = false := by
    rcases hd with h | h <;> rw [h] <;> simp
  have hchop : (d == dARMED || d == dRUN || d == dFAULT) = true := by rcases hd with h | h <;> rw [h] <;> rfl
  have hsafe : (d == dSAFE || d == dQUARANTINE || d == dUPDATE) = false := by rcases hd with h | h <;> rw [h] <;> rfl
  unfold State.setDev
  dsimp only
  split
  · exact refl s
  · generalize (d == dARMED || d == dRUN || d == dFAULT) = chop at hchop ⊢
    generalize (d == dSAFE || d == dQUARANTINE || d == dUPDATE) = safe at hsafe ⊢
    generalize ((s.dev == dARMED || s.dev == dRUN) && d != dARMED && d != dRUN) = gone at hgone ⊢
    subst hchop hsafe hgone
    rw [if_neg Bool.false_ne_true, hwick]
    exact (hstate.trans (hlast _)).trans (hhiz _ _)

theorem axisTo (s : State) (a st : Nat) (ha : a < 65536) : Aside s (s.axisTo a st) := by
  have hgrid : Aside s (if (st == aDISABLED) = true then s.gridOff a else if (s.axSt a == aDISABLED) = true then s.gridOn a else s) := by
    split
    · exact updAxis s _ _
    · exact step_if _ (updAxis s _ _)
  have hmove : ∀ (u : State) (c d : Bool), Aside u (if (u.dev == dARMED && c) = true then u.setDev dRUN 0 true
      else if (u.dev == dRUN && d) = true then u.setDev dARMED 0 true else u) := fun u c d => by
    split
    · rename_i h
      exact setDev_moving u _ _ _ (.inl (by simpa using (Bool.and_eq_true_iff.1 h).1)) (.inr rfl)
    · split
      · rename_i h
        exact setDev_moving u _ _ _ (.inr (by simpa using (Bool.and_eq_true_iff.1 h).1)) (.inl rfl)
      · exact refl u
  exact ((hgrid.trans (setF _ F.AX_STAT_STATE st a (by decide) ha)).trans (capDisabled _)).trans (hmove _ _ _)

theorem modesEnd (s : State) (a : Nat) (ha : a < 65536) : Aside s (s.modesEnd a) :=
  ((((setF s F.AX_EM_STAT_OPMODE 0 a (by decide) ha).trans (setF _ F.AX_EM_STAT_LIMP 0 a (by decide) ha)).trans
    (setF _ F.AX_EM_STAT_SENSORLESS 0 a (by decide) ha)).trans (em _ _)).trans (setF _ F.AX_EM_STAT_PROVING 0 a (by decide) ha)

theorem obsEnd (s : State) (a : Nat) : Aside s (s.obsEnd a) := of_same rfl rfl rfl

theorem toDisabled (s : State) (a : Nat) (ha : a < 65536) : Aside s (s.toDisabled a) := by
  have hshare : ∀ u : State, Aside u (u.shareEnd a) := fun u =>
    ((share u _).trans (setF _ F.AX_SH_STAT_MEMBERS 0 a (by decide) ha)).trans (setF _ F.AX_SH_STAT_REMOTE_N 0 a (by decide) ha)
  exact ((((((runBitsOff s a).trans (modesEnd _ a ha)).trans (obsEnd _ a)).trans (hshare _)).trans (updAxis _ _ _)).trans
    (axisTo _ a _ ha)).trans ((finish _ _ _ _).trans (finish _ _ _ _))

theorem toStopping (s : State) (a : Nat) (why : StopCause) (ha : a < 65536) : Aside s (s.toStopping a why) :=
  (((((((updAxis s _ _).trans (em _ _)).trans (obs _ _)).trans (setF _ F.AX_EM_STAT_OPMODE 0 a (by decide) ha)).trans
    (setF _ F.AX_EM_STAT_PROVING 0 a (by decide) ha)).trans (axisTo _ a _ ha)).trans (rampFrom _ a _ ha)).trans
    (finish _ _ _ _)

theorem toFaulted (s : State) (a code : Nat) (ramp : Bool) (ha : a < 65536) : Aside s (s.toFaulted a code ramp) := by
  have hbits : Aside s (if ramp = true then s else s.runBitsOff a) := by
    split
    · exact refl s
    · exact runBitsOff s a
  have hramp : ∀ u : State, Aside u (if ramp = true then u.rampFrom a (s.modeOf a) else u) := fun u => step_if _ (rampFrom u a _ ha)
  exact ((((((hbits.trans (modesEnd _ a ha)).trans (obsEnd _ a)).trans (updAxis _ _ _)).trans (axisTo _ a _ ha)).trans (hramp _)).trans
    (finish _ _ _ _)).trans ((finish _ _ _ _).trans (finish _ _ _ _))

/-- An FR2 of an axis (R227, R229). -/
theorem react2 (s : State) (code a : Nat) (ha : a < 65536) : Aside s (s.react2 code a) := by
  have hfault : Aside s (s.setF F.AX_FAULT_CODE code a) := setF s _ _ a (by decide) ha
  unfold State.react2
  dsimp only
  generalize s.setF F.AX_FAULT_CODE code a = u at hfault ⊢
  refine hfault.trans ?_
  have hstart : Aside u (if (nth u.obs a).relock.isSome = true then
      { u with obs := upd u.obs a fun o => { o with relock := o.relock.map fun r => { r with heldFr2 := some (r.heldFr2.getD code) } } }
      else (u.obsEnd a).toStopping a (.fr2 code)) := by
    split
    · exact of_same rfl rfl rfl
    · exact (obsEnd u a).trans (toStopping _ a _ ha)
  split
  · exact hstart
  · exact hstart
  · exact (finish u _ _ _).trans (toStopping _ a _ ha)
  · exact updAxis u _ _
  · split
    · exact (em u _).trans (reaim _ a _ ha)
    · exact (setF u F.LAN_SBC_REQ 0 0 (by decide) (by decide)).trans (toFaulted _ a _ _ ha)
    · exact of_same rfl rfl rfl
    · exact toStopping u a _ ha
  · exact step_if _ (toFaulted u a _ _ ha)
  · exact refl u

theorem logFault (s : State) (c a : Nat) (d : List Word) (b : Bool) : Aside s (s.logFault c a d b) := by
  have hshown : Aside s ((s.setF F.SYS_FAULT_LAST_CODE c).setF F.SYS_FAULT_LAST_CLASS (faultClass c)) :=
    (setF s _ _ 0 (by decide) (by decide)).trans (setF _ _ _ 0 (by decide) (by decide))
  unfold State.logFault
  dsimp only
  split
  · split
    · exact hshown.trans (of_same rfl rfl rfl)
    · exact hshown.trans (of_same rfl rfl rfl)
  · exact hshown.trans (of_same rfl rfl rfl)

theorem note (s : State) (code axis : Nat) (d : List Word) : Aside s (s.note code axis d) := by
  have haxis : ∀ u : State, Aside u (if axis < 4 then u.setF F.AX_FAULT_CODE code axis else u) := fun u => by
    split
    · exact setF u _ _ axis (by decide) (by omega)
    · exact refl u
  have hflt : ∀ (u : State) (f : Faults), Aside u { u with flt := f } := fun u f => of_same rfl rfl rfl
  have hnoted := (logFault s code axis d false).trans (haxis _)
  unfold State.note
  dsimp only
  split
  · exact hnoted.trans (hflt _ _)
  · split
    · exact hnoted.trans (hflt _ _)
    · exact hnoted

/-- An FR2 raised touches nothing beside its record and its axes. -/
theorem raise2 (s : State) {code : Nat} (axis : Nat) (d : List Word) (axes : List Nat) (h2 : faultClass code = 2)
    (ha : ∀ a ∈ axes, a < 65536) : Aside s (s.raise code axis d axes) := by
  unfold State.raise State.react
  rw [h2]
  exact (note s code axis d).trans (forL _ _ _ fun a h u => react2 u code a (ha a h))

end Aside

end Sys2Proof.Machine
end

section
/-! Proofs of the power family, seventh part: VDRV fails with the auxiliary bridge in use. -/
open Sys2Proof Sys2Proof.Machine

namespace Sys2Proof.Machine

/-! ## The auxiliary bridge goes high impedance (R305) -/

/-- Both switches of half-bridge k are low. -/
def HalfLow (s : State) (k : Nat) : Prop := (nth s.gate.halves k).ho = false ∧ (nth s.gate.halves k).lo = false

theorem setHalf_gate (s : State) (x : Nat) (h l : Bool) : (s.setHalf x h l).gate = { s.gate with
    halves := upd s.gate.halves x fun y => { y with
      ho := h, lo := l, offAt := if (y.ho && !h) || (y.lo && !l) then s.tick else y.offAt } } := rfl

theorem setHalf_low (s : State) (x : Nat) : HalfLow (s.setHalf x false false) x := by
  unfold HalfLow
  rw [setHalf_gate]
  by_cases h : x < s.gate.halves.length
  · rw [nth_upd_same _ _ _ h]
    exact ⟨rfl, rfl⟩
  · have hnone : ∀ l : List Half, l.length = s.gate.halves.length → nth l x = default := fun l hl => by
      simp [nth, List.getD, List.getElem?_eq_none (by omega : l.length ≤ x)]
    rw [hnone _ (length_upd _ _ _)]
    exact ⟨rfl, rfl⟩

theorem setHalf_keeps_low {s : State} {k : Nat} (h : HalfLow s k) (x : Nat) : HalfLow (s.setHalf x false false) k := by
  by_cases hk : k = x
  · subst hk
    exact setHalf_low s k
  · unfold HalfLow
    rw [setHalf_gate, nth_upd_other _ _ hk]
    exact h

/-- HIZ shows the four half-bridges high impedance once they all are. -/
theorem showHiz_all {s : State} (h : ∀ k, k < 4 → HalfLow s k) : s.showHiz.fld F.GATE_AUX_STAT_HIZ = 15 := by
  have hbits : ((upTo 4).map fun x => let h := nth s.gate.halves x; if (h.ho || h.lo) = true then 0 else 2 ^ x) = (upTo 4).map (2 ^ ·) := by
    refine List.map_congr_left fun k hk => ?_
    obtain ⟨hho, hlo⟩ := h k (by simpa [upTo] using hk)
    simp [hho, hlo]
  unfold State.showHiz
  rw [State.fld_setF_same _ _ _ _ (by decide), hbits]
  rfl

/-- The auxiliary bridge high impedance: HIZ shows it, and the supply of its gates shows as before. -/
theorem auxHiZ_shows (s : State) : s.auxHiZ.fld F.GATE_AUX_STAT_HIZ = 15 ∧
    s.auxHiZ.fld F.GATE_AUX_STAT_VDRV_OK = s.fld F.GATE_AUX_STAT_VDRV_OK := by
  have hhiz : ∀ (u : State) x, (∀ k, k < 4 → HalfLow (u.setHalf x false false) k) → (u.setHalf x false false).fld F.GATE_AUX_STAT_HIZ = 15 :=
    fun _ _ h => showHiz_all h
  have hvdrv : ∀ (u : State) x, (u.setHalf x false false).fld F.GATE_AUX_STAT_VDRV_OK = u.fld F.GATE_AUX_STAT_VDRV_OK := fun _ _ =>
    State.fld_setF_bits _ F.GATE_AUX_STAT_HIZ F.GATE_AUX_STAT_VDRV_OK _ _ rfl (by decide)
  have hfld : ∀ f, s.auxHiZ.fld f =
      ((((s.setHalf 0 false false).setHalf 1 false false).setHalf 2 false false).setHalf 3 false false).fld f := fun _ => rfl
  refine ⟨(hfld _).trans (hhiz _ 3 fun k hk => ?_), ?_⟩
  · have hcases : k = 0 ∨ k = 1 ∨ k = 2 ∨ k = 3 := by omega
    rcases hcases with rfl | rfl | rfl | rfl
    · exact setHalf_keeps_low (setHalf_keeps_low (setHalf_keeps_low (setHalf_low _ _) _) _) _
    · exact setHalf_keeps_low (setHalf_keeps_low (setHalf_low _ _) _) _
    · exact setHalf_keeps_low (setHalf_low _ _) _
    · exact setHalf_low _ _
  · rw [hfld, hvdrv, hvdrv, hvdrv, hvdrv]

/-! ## The motion engines stop one by one (R316, R317) -/

theorem fld_of_rd {s t : State} (f : Fld) {i : Nat} (h : t.rd f.reg i = s.rd f.reg i) : t.fld f i = s.fld f i := by
  unfold State.fld
  rw [h]

/-- The registers of the motion engines in which a stop shows. -/
abbrev engineRegs : List RegId := [.ME_STAT, .ME_SPEED, .ME_UNC_CNT]

/-- Of the motion engines n alone is touched, and of the registers beside them those of the axes' faults; an uncertain position stays
uncertain. -/
structure EngineOnly (n : Nat) (s t : State) : Prop where
  tick : t.tick = s.tick
  me : ∀ k, k ≠ n → nth t.mot.me k = nth s.mot.me k
  regs : ∀ r i, i < 65536 → r ∉ axisRegs → r ≠ .SYS_STATE → r ∉ engineRegs ∨ i ≠ n → t.rd r i = s.rd r i
  uncertain : s.fld F.ME_STAT_UNCERTAIN n ≠ 0 → t.fld F.ME_STAT_UNCERTAIN n ≠ 0

namespace EngineOnly

variable {n : Nat} {s t u : State}

theorem trans (h : EngineOnly n s t) (h' : EngineOnly n t u) : EngineOnly n s u :=
  ⟨h'.tick.trans h.tick, fun k hk => (h'.me k hk).trans (h.me k hk),
    fun r i hi hr hs hn => (h'.regs r i hi hr hs hn).trans (h.regs r i hi hr hs hn), fun e => h'.uncertain (h.uncertain e)⟩

theorem of_aside (hn : n < 65536) (h : Aside s t) (ht : t.tick = s.tick) : EngineOnly n s t := by
  refine ⟨ht, fun k _ => by rw [h.me], fun r i hi hr hs _ => h.regs r i hi hr hs, fun e => ?_⟩
  unfold State.fld
  rwa [h.regs .ME_STAT n hn (by decide) (by decide)]

theorem finish (hn : n < 65536) (s : State) (o : BitVec 16) (k : Nat) (a : Answer) : EngineOnly n s (s.finish o k a) :=
  of_aside hn (Aside.finish s o k a) (Steady.finish (L := []) (W := []) s o k a).clocks.1

theorem logFault (hn : n < 65536) (s : State) (c a : Nat) (d : List Word) (b : Bool) : EngineOnly n s (s.logFault c a d b) :=
  of_aside hn (Aside.logFault s c a d b) (Steady.logFault (W := []) s c a d b).clocks.1

/-- A field of the engine's own registers, UNCERTAIN apart. -/
theorem setF (hn : n < 65536) (s : State) (f : Fld) (v : Nat) (hr : f.reg ∈ engineRegs) (hf : f.reg ≠ .ME_STAT ∨ f.hi < 31) :
    EngineOnly n s (s.setF f v n) := by
  refine ⟨rfl, fun _ _ => rfl, fun r i hi _ _ hother => ?_, fun e => ?_⟩
  · refine State.rd_setF_other s f v n r i hn hi (hother.imp (fun h => ?_) id)
    rintro rfl
    exact h hr
  · by_cases hm : f.reg = .ME_STAT
    · rwa [State.fld_setF_bits s f F.ME_STAT_UNCERTAIN v n hm.symm (.inl (hf.resolve_left (not_not_intro hm)))]
    · rwa [State.fld_setF_reg s f F.ME_STAT_UNCERTAIN v n n hn hn (.inl (Ne.symm hm))]

theorem uncertainShown (s : State) (n : Nat) : (s.setF F.ME_STAT_UNCERTAIN 1 n).fld F.ME_STAT_UNCERTAIN n ≠ 0 := by
  rw [State.fld_setF_same _ _ _ _ (by decide)]
  decide

theorem setUncertain (hn : n < 65536) (s : State) : EngineOnly n s (s.setF F.ME_STAT_UNCERTAIN 1 n) := by
  refine ⟨rfl, fun _ _ => rfl, fun r i hi _ _ hother => ?_, fun _ => uncertainShown s _⟩
  refine State.rd_setF_other s F.ME_STAT_UNCERTAIN 1 n r i hn hi (hother.imp (fun h => ?_) id)
  rintro rfl
  exact h (by decide)

theorem meRest (hn : n < 65536) (s : State) (h : Bool) : EngineOnly n s (s.meRest n h) := by
  have hme : ∀ f : Me → Me, EngineOnly n s { s with mot := { s.mot with me := upd s.mot.me n f } } := fun f =>
    ⟨rfl, fun k hk => nth_upd_other _ _ hk, fun _ _ _ _ _ _ => rfl, id⟩
  have hspeed : ∀ u : State, EngineOnly n u (u.wr .ME_SPEED 0 n) := fun u =>
    ⟨rfl, fun _ _ => rfl, fun r i hi _ _ hother => State.rd_wr_other u .ME_SPEED r 0 n i hn hi (hother.imp (fun h => by
      rintro rfl
      exact h (by decide)) id), by
      rw [State.fld_wr_other u F.ME_STAT_UNCERTAIN .ME_SPEED 0 n n hn hn (.inl (by decide))]
      exact id⟩
  exact ((((hme _).trans (setF hn _ F.ME_STAT_AT_REST 1 (by decide) (.inr (by decide)))).trans
    (setF hn _ F.ME_STAT_PROFILE 0 (by decide) (.inr (by decide)))).trans
    (setF hn _ F.ME_STAT_HOMING 0 (by decide) (.inr (by decide)))).trans
    ((setF hn _ F.ME_STAT_GEARED 0 (by decide) (.inr (by decide))).trans (hspeed _))

/-- What is left of a stop once an uncertain position shows: the engine at rest, its commands answered. -/
theorem meStop_rest (hn : n < 65536) (s : State) (h : Bool) (a : Answer) :
    EngineOnly n s (((s.meRest n h).finish 0x0400 n a).finish 0x0402 n a) :=
  ((meRest hn s h).trans (finish hn _ _ _ _)).trans (finish hn _ _ _ _)

/-- The state in which a stop in mid-move has made the position uncertain. -/
theorem meStop_lost (hn : n < 65536) (s : State) :
    EngineOnly n s (((s.setF F.ME_STAT_UNCERTAIN 1 n).bump F.ME_UNC_CNT_COUNT n).logFault 0x3056 7 [wd n]) :=
  ((setUncertain hn s).trans (setF hn _ F.ME_UNC_CNT_COUNT _ (by decide) (.inl (by decide)))).trans (logFault hn _ _ _ _ _)

theorem meStop (hn : n < 65536) (s : State) (a : Answer) : EngineOnly n s (s.meStop n a) := by
  unfold State.meStop
  split
  · exact (meRest hn s false).trans (finish hn _ _ _ _)
  · dsimp only
    split
    · exact (meStop_lost hn s).trans (meStop_rest hn _ _ a)
    · exact meStop_rest hn s _ a

end EngineOnly

/-- A stop in mid-move makes the position uncertain (R316). -/
theorem meStop_uncertain {n : Nat} (hn : n < 65536) {s : State} (a : Answer) (harr : s.meArrived n = false) (hmid : s.meMid n = true) :
    (s.meStop n a).fld F.ME_STAT_UNCERTAIN n ≠ 0 := by
  have hshown := EngineOnly.uncertainShown s n
  unfold State.meStop
  rw [harr, if_neg Bool.false_ne_true, hmid]
  dsimp only
  rw [if_pos rfl]
  refine EngineOnly.uncertain (EngineOnly.trans (EngineOnly.trans ?_ (EngineOnly.logFault hn _ _ _ _ _)) (EngineOnly.meStop_rest hn _ _ a)) hshown
  exact EngineOnly.setF hn _ F.ME_UNC_CNT_COUNT _ (by decide) (.inl (by decide))

/-- What decides the stop of engine k: whether it has arrived, and whether it is in mid-move. -/
def SameMove (k : Nat) (s t : State) : Prop := t.meMid k = s.meMid k ∧ t.meArrived k = s.meArrived k

theorem sameMove_of {k : Nat} {s t : State} (htick : t.tick = s.tick)
    (hme : ∃ h, nth t.mot.me k = { nth s.mot.me k with held := h }) (hstat : t.rd .ME_STAT k = s.rd .ME_STAT k)
    (hpos : t.rd .ME_POS k = s.rd .ME_POS k) : SameMove k s t := by
  obtain ⟨h, hme⟩ := hme
  unfold SameMove State.meMid State.meArrived State.mePos State.on State.fld State.sg
  rw [hme, hstat, hpos, htick]
  exact ⟨rfl, rfl⟩

theorem SameMove.trans {k : Nat} {s t u : State} (h : SameMove k s t) (h' : SameMove k t u) : SameMove k s u :=
  ⟨h'.1.trans h.1, h'.2.trans h.2⟩

/-- The stop of another engine does not decide that of engine k. -/
theorem EngineOnly.sameMove {n k : Nat} {s t : State} (h : EngineOnly n s t) (hk : k < 65536) (hne : k ≠ n) : SameMove k s t :=
  sameMove_of h.tick ⟨_, h.me k hne⟩ (h.regs .ME_STAT k hk (by decide) (by decide) (.inr hne))
    (h.regs .ME_POS k hk (by decide) (by decide) (.inr hne))

/-- A step beside the motion engines does not decide their stops. -/
theorem Aside.sameMove {k : Nat} {s t : State} (h : Aside s t) (htick : t.tick = s.tick) (hk : k < 65536) : SameMove k s t :=
  sameMove_of htick ⟨_, by rw [h.me]⟩ (h.regs .ME_STAT k hk (by decide) (by decide)) (h.regs .ME_POS k hk (by decide) (by decide))

theorem nth_map_held (l : List Me) (k : Nat) : ∃ h, nth (l.map fun m => { m with held := false }) k = { nth l k with held := h } := by
  unfold nth
  simp only [List.getD, List.getElem?_map]
  cases l[k]? with
  | none => exact ⟨_, rfl⟩
  | some m => exact ⟨false, rfl⟩

/-- Going high impedance holds no angle any more, and decides no stop. -/
theorem auxHiZ_sameMove (s : State) (k : Nat) (hk : k < 65536) : SameMove k s s.auxHiZ := by
  have hsteady := Steady.auxHiZ (L := []) (W := []) s
  have hhalf : ∀ (u : State) x r, r ≠ .GATE_AUX_STAT → (u.setHalf x false false).rd r k = u.rd r k := fun u x r hr =>
    State.rd_setF_other _ F.GATE_AUX_STAT_HIZ _ 0 r k (by decide) hk (.inl hr)
  have hregs : ∀ r, r ≠ .GATE_AUX_STAT → s.auxHiZ.rd r k = s.rd r k := fun r hr => by
    have hrd : s.auxHiZ.rd r k =
        ((((s.setHalf 0 false false).setHalf 1 false false).setHalf 2 false false).setHalf 3 false false).rd r k := rfl
    rw [hrd, hhalf _ _ _ hr, hhalf _ _ _ hr, hhalf _ _ _ hr, hhalf _ _ _ hr]
  exact sameMove_of hsteady.clocks.1 (nth_map_held s.mot.me k) (hregs _ (by decide)) (hregs _ (by decide))

/-! ## The auxiliary bridge's fault (R66, R317) -/

/-- The stops of engines one by one: an engine found in mid-move is left with its position uncertain. -/
theorem forL_meStop_uncertain (a : Answer) (l : List Nat) (hl : ∀ k ∈ l, k < 65536) {n : Nat} (hn : n < 65536) :
    ∀ s : State, s.fld F.ME_STAT_UNCERTAIN n ≠ 0 ∨ n ∈ l ∧ s.meArrived n = false ∧ s.meMid n = true →
      (s.forL l fun k s => s.meStop k a).fld F.ME_STAT_UNCERTAIN n ≠ 0 := by
  induction l with
  | nil => exact fun s h => h.elim id fun h => absurd h.1 (by simp)
  | cons k l ih =>
    intro s h
    have hk : k < 65536 := hl k (by simp)
    have hstop := EngineOnly.meStop hk s a
    have hkeeps : s.fld F.ME_STAT_UNCERTAIN n ≠ 0 → (s.meStop k a).fld F.ME_STAT_UNCERTAIN n ≠ 0 := fun hshown => by
      by_cases hkn : n = k
      · subst hkn
        exact hstop.uncertain hshown
      · rwa [fld_of_rd F.ME_STAT_UNCERTAIN (hstop.regs .ME_STAT n hn (by decide) (by decide) (.inr hkn))]
    refine ih (fun j hj => hl j (by simp [hj])) (s.meStop k a) ?_
    rcases h with h | ⟨hmem, harr, hmid⟩
    · exact .inl (hkeeps h)
    · by_cases hkn : n = k
      · subst hkn
        exact .inl (meStop_uncertain hn a harr hmid)
      · obtain ⟨hm, ha⟩ := hstop.sameMove hn hkn
        exact .inr ⟨(List.mem_cons.1 hmem).resolve_left hkn, ha.trans harr, hm.trans hmid⟩

/-- The stops of the engines leave the auxiliary gates as they show. -/
theorem forL_meStop_auxStat (a : Answer) (l : List Nat) (hl : ∀ k ∈ l, k < 65536) :
    ∀ s : State, (s.forL l fun k s => s.meStop k a).rd .GATE_AUX_STAT = s.rd .GATE_AUX_STAT := by
  induction l with
  | nil => exact fun s => rfl
  | cons k l ih =>
    exact fun s => Eq.trans (ih (fun j hj => hl j (by simp [hj])) (s.meStop k a))
      ((EngineOnly.meStop (hl k (by simp)) s a).regs .GATE_AUX_STAT 0 (by decide) (by decide) (by decide) (.inl (by decide)))

theorem forL_meStop_steady (a : Answer) (l : List Nat) (hl : ∀ k ∈ l, k < 65536) :
    ∀ s : State, Steady [.logs] [] s (s.forL l fun k s => s.meStop k a) := by
  induction l with
  | nil => exact fun s => Steady.refl s
  | cons k l ih => exact fun s => (Steady.meStop s k a (hl k (by simp))).trans (ih (fun j hj => hl j (by simp [hj])) _)

theorem forL_meStop_logged (a : Answer) {c : Nat} (l : List Nat) (hl : ∀ k ∈ l, k < 65536) :
    ∀ (s : State) (m : Nat), Logged c m s → m + l.length < 8192 → Logged c (m + l.length) (s.forL l fun k s => s.meStop k a) := by
  induction l with
  | nil => exact fun s m h _ => h
  | cons k l ih =>
    intro s m h hm
    have hlen : m + (k :: l).length = m + 1 + l.length := by
      rw [List.length_cons]
      omega
    rw [hlen] at hm ⊢
    exact ih (fun j hj => hl j (by simp [hj])) _ _ (h.meStop (by omega) k a (hl k (by simp))) hm

/-- The motion engines that drive the auxiliary bridge. -/
def auxEngines (s : State) : List Nat := (upTo 2).filter fun n => s.on F.ME_CFG_OUT n

/-- The axes linked to them. -/
def auxAxes (s : State) : List Nat := ((auxEngines s).map fun n => s.fld F.ME_CFG_LINK_AXIS n).filter (· < 4)

theorem auxFault_eq (s : State) (code : Nat) : s.auxFault code =
    ((s.raise code ((auxAxes s).headD 7) [] (auxAxes s)).auxHiZ).forL (auxEngines s) fun n s => s.meStop n (ans cINTERNAL code) := rfl

theorem auxEngines_lt (s : State) : ∀ k ∈ auxEngines s, k < 65536 := fun k hk => by
  have hk2 : k < 2 := by simpa [upTo] using (List.mem_filter.1 hk).1
  omega

theorem auxEngines_length (s : State) : (auxEngines s).length ≤ 2 := List.length_filter_le _ _

theorem auxAxes_lt (s : State) : ∀ k ∈ auxAxes s, k < 65536 := fun k hk => by
  have hk4 : k < 4 := by simpa using (List.mem_filter.1 hk).2
  omega

section
variable (s : State) {code : Nat} (h2 : faultClass code = 2)
include h2

/-- What the auxiliary bridge's fault leaves beside its engines and their axes (R66, R317). -/
theorem auxFault_shows : (s.auxFault code).fld F.GATE_AUX_STAT_HIZ = 15 ∧
    (s.auxFault code).fld F.GATE_AUX_STAT_VDRV_OK = s.fld F.GATE_AUX_STAT_VDRV_OK := by
  have hraise := Aside.raise2 s ((auxAxes s).headD 7) [] (auxAxes s) h2 (auxAxes_lt s)
  have hword := hraise.regs .GATE_AUX_STAT 0 (by decide) (by decide) (by decide)
  obtain ⟨hhiz, hvdrv⟩ := auxHiZ_shows (s.raise code ((auxAxes s).headD 7) [] (auxAxes s))
  have hstops := forL_meStop_auxStat (ans cINTERNAL code) (auxEngines s) (auxEngines_lt s)
    (s.raise code ((auxAxes s).headD 7) [] (auxAxes s)).auxHiZ
  rw [auxFault_eq]
  exact ⟨(fld_of_rd F.GATE_AUX_STAT_HIZ hstops).trans hhiz,
    ((fld_of_rd F.GATE_AUX_STAT_VDRV_OK hstops).trans hvdrv).trans (fld_of_rd F.GATE_AUX_STAT_VDRV_OK hword)⟩

/-- An engine that drives the bridge and is stopped in mid-move has its position uncertain (R316). -/
theorem auxFault_uncertain {n : Nat} (hn : n < 2) (hout : s.on F.ME_CFG_OUT n = true) (harr : s.meArrived n = false)
    (hmid : s.meMid n = true) : (s.auxFault code).fld F.ME_STAT_UNCERTAIN n ≠ 0 := by
  have hn' : n < 65536 := by omega
  have hraise := Aside.raise2 s ((auxAxes s).headD 7) [] (auxAxes s) h2 (auxAxes_lt s)
  have htick := (Handled.raise s code ((auxAxes s).headD 7) [] (auxAxes s) (auxAxes_lt s)).clocks.1
  obtain ⟨hm, ha⟩ := (hraise.sameMove htick hn').trans (auxHiZ_sameMove _ n hn')
  have hmem : n ∈ auxEngines s := List.mem_filter.2 ⟨by simpa [upTo] using hn, hout⟩
  rw [auxFault_eq]
  exact forL_meStop_uncertain _ _ (auxEngines_lt s) hn' _ (.inr ⟨hmem, ha.trans harr, hm.trans hmid⟩)

theorem auxFault_logged : ∃ r ∈ (s.auxFault code).flt.log, r.code = code := by
  have hnote := Logged.note s (by omega : 2 ≤ faultClass code) ((auxAxes s).headD 7) []
  have hreact := Handled.react2s (L := []) (s.note code ((auxAxes s).headD 7) []) code (auxAxes s) (auxAxes_lt s)
  have hraise : Logged code 1 (s.raise code ((auxAxes s).headD 7) [] (auxAxes s)) := by
    unfold State.raise State.react
    rw [h2]
    exact hnote.of_log (hreact.parts .logs (by simp) (by decide) (by decide)).1
  have hlen := auxEngines_length s
  rw [auxFault_eq]
  exact (forL_meStop_logged _ _ (auxEngines_lt s) _ _ (hraise.of_steady (Steady.auxHiZ (W := []) _)) (by omega)).mem

end

/-- The fault of the auxiliary bridge touches nothing beyond the reactions and the logs. -/
theorem auxFault_handled (s : State) (code : Nat) : Handled [.logs, .latched] s (s.auxFault code) := by
  have hstops := forL_meStop_steady (ans cINTERNAL code) (auxEngines s) (auxEngines_lt s)
    (s.raise code ((auxAxes s).headD 7) [] (auxAxes s)).auxHiZ
  rw [auxFault_eq]
  exact (Handled.raise s code _ _ _ (auxAxes_lt s)).trans (Handled.of ((Steady.auxHiZ _).trans (hstops.mono (by simp) (by simp))))

theorem vdrvUndervoltage_used {s : State} (dt : Nat) (hc : Calm s) (hmode : s.auxMode ≠ 0) (hok : s.on F.GATE_AUX_STAT_VDRV_OK = true) :
    Ends (.vdrvUndervoltage dt) s fun t =>
      t.fld F.GATE_AUX_STAT_VDRV_OK = 0 ∧ t.fld F.GATE_AUX_STAT_HIZ = 15 ∧ (∃ r ∈ t.flt.log, r.code = 0x1060) ∧
        (∀ n, n < 2 → s.on F.ME_CFG_OUT n = true → s.meArrived n = false → (s.elapse dt).meMid n = true →
          t.fld F.ME_STAT_UNCERTAIN n ≠ 0) ∧ t.tick = s.tick + dt ∧ Spared [] [] s t := by
  have he := exec_vdrvUndervoltage s dt
  rw [if_pos (by simp [hok, hmode])] at he
  have hkept : Kept [] [(.GATE_AUX_STAT, 0)] s (vdrvAt (s.elapse dt) 0) :=
    ((Kept.elapse s dt).trans (vdrvAt_kept _ 0)).mono (by simp) (by simp)
  have hoff : (vdrvAt (s.elapse dt) 0).fld F.GATE_AUX_STAT_VDRV_OK = 0 := vdrvAt_shows _ 0
  have harrived : ∀ n, n < 2 → (vdrvAt (s.elapse dt) 0).meArrived n = s.meArrived n := fun n hn => by
    unfold State.meArrived State.mePos State.sg
    rw [hkept.rd .ME_POS n (by omega) (by simp) (by decide)]
    rfl
  have hmidway : ∀ n, n < 2 → (vdrvAt (s.elapse dt) 0).meMid n = (s.elapse dt).meMid n := fun n hn => by
    unfold State.meMid State.on
    rw [(vdrvAt_kept (s.elapse dt) 0).fld F.ME_STAT_GEARED n (by omega) (by simp) (by decide)]
    rfl
  have hout : ∀ n, n < 2 → (vdrvAt (s.elapse dt) 0).on F.ME_CFG_OUT n = s.on F.ME_CFG_OUT n := fun n hn => by
    unfold State.on
    rw [hkept.fld F.ME_CFG_OUT n (by omega) (by simp) (by decide)]
  have htick : (vdrvAt (s.elapse dt) 0).tick = s.tick + dt := rfl
  have hcalm : Calm (vdrvAt (s.elapse dt) 0) := hc
  generalize vdrvAt (s.elapse dt) 0 = u at *
  have hhandled := auxFault_handled u 0x1060
  obtain ⟨hhiz, hvdrv⟩ := auxFault_shows u (by decide : faultClass 0x1060 = 2)
  have hspared : Spared [] [] s u := ⟨fun p _ _ _ => hkept.1 p (by simp), fun r i hi _ hm hr => hkept.spared.2 r i hi (fun h => hr (by
    have : r = .GATE_AUX_STAT := by simpa using h
    subst this
    decide)) hm hr⟩
  refine ends_over he (hhandled.calm hcalm) fun t ht hct => ⟨?_, ?_, ?_, fun n hn ho harr hmid => ?_, ?_, ?_⟩
  · rw [ht.fld F.GATE_AUX_STAT_VDRV_OK 0 (by decide) (by simp) (by decide), hvdrv, hoff]
  · rw [ht.fld F.GATE_AUX_STAT_HIZ 0 (by decide) (by simp) (by decide), hhiz]
  · rw [(ht.1 .logs (by simp)).1]
    exact auxFault_logged u (by decide)
  · rw [ht.fld F.ME_STAT_UNCERTAIN n (by omega) (by simp) (by decide)]
    exact auxFault_uncertain u (by decide) hn ((hout n hn).trans ho) ((harrived n hn).trans harr) ((hmidway n hn).trans hmid)
  · exact (hct.1.trans hhandled.clocks.1).trans htick
  · exact ((hspared.trans (hhandled.spared (by simp))).trans ht.spared).mono (by simp) (by simp)

/-- Settles O11: each thing the part watches has a lemma of its own above, its report read off the state that the command leaves. -/
theorem watchersReport : Obligations.WatchersReport := by
  unfold Obligations.WatchersReport
  intro s dt hc
  refine ⟨vdrvUndervoltage_unused dt hc, vdrvUndervoltage_used dt hc, vdrvRestored_ends dt hc, ?_, ?_, ?_, ?_,
    scrubRead_corrects dt hc, scrubRead_fails dt hc, scrubRead_right dt hc, fun ins => jtagAccess_ends dt ins hc⟩
  · intro word hph hboot hseen hprev hacc hw hraised
    exact sw1Poll_differs dt word hc hph hboot hseen hprev hacc hw hraised
  · intro word hph hboot hw
    exact sw1Poll_same dt word hc hph hboot hw
  · intro deci hph hhot h110 h125
    exact dieTempSample_hot dt hc hph hhot h110 h125
  · intro deci hph hlimit h125
    exact dieTempSample_limit dt hc hph hlimit h125

end Sys2Proof.Machine
end

section
/-! Proofs of the power family, eighth part: the resets that keep the supply. -/
open Sys2Proof Sys2Proof.Machine

namespace Sys2Proof.Machine

/-! ## A reset without loss of the supply (R71, R72) -/

/-- What a reset leaves of a state: the stores and the logs kept, the command lines low, the host's sessions and commands gone. -/
structure ResetFrom (s t : State) : Prop where
  dev : t.dev = dBOOT
  lines : t.gate.gc = 0
  sessions : t.hst.sessions = []
  flight : t.hst.flight = []
  cache : t.hst.cache = []
  latched : t.flt.latched = []
  log : t.flt.log = s.flt.log
  mem : t.nv.mem = s.nv.mem
  kept : t.nv.kept = s.nv.kept
  pend : t.sys.resetPend = none
  calm : Calm t

theorem resetAll_from (s : State) : ResetFrom s (s.resetAll false) := by
  have hdev : (s.resetAll false).dev = dBOOT := by
    have hword : (s.resetAll false).rd .SYS_STATE = State.reset.rd .SYS_STATE :=
      State.rd_wr_other _ .SYS_CLK_STAT .SYS_STATE _ 0 0 (by decide) (by decide) (.inl (by decide))
    exact (fld_of_rd F.SYS_STATE_STATE hword).trans (by decide)
  exact ⟨hdev, rfl, rfl, rfl, rfl, rfl, rfl, rfl, rfl, rfl, rfl⟩

theorem resetAll_tick (s : State) : (s.resetAll false).tick = s.tick := rfl

/-- A reset runs the off sequence first, which keeps the stores and the logs and takes its time. -/
theorem offNow_stores (s : State) : s.offNow.flt.log = s.flt.log ∧ s.offNow.nv = s.nv ∧ s.tick ≤ s.offNow.tick := by
  obtain ⟨hparts, htick, -⟩ := offNow_keeps s
  exact ⟨(hparts .logs (by decide)).1, hparts .nv (by decide), htick⟩

namespace ResetFrom

variable {s u t : State}

/-- The module held by RESET#, or any time passing, keeps what the reset has left. -/
theorem of_same (h : ResetFrom s u) (hr : t.regs = u.regs) (hg : t.gate = u.gate) (hh : t.hst = u.hst) (hf : t.flt = u.flt)
    (hn : t.nv = u.nv) (hp : t.sys.resetPend = u.sys.resetPend) (hl : t.lan = u.lan) : ResetFrom s t := by
  have hdev : t.dev = u.dev := by
    unfold State.dev State.fld State.rd
    rw [hr]
  refine ⟨hdev.trans h.dev, ?_, ?_, ?_, ?_, ?_, ?_, ?_, ?_, hp.trans h.pend, ?_⟩
  · rw [hg, h.lines]
  · rw [hh, h.sessions]
  · rw [hh, h.flight]
  · rw [hh, h.cache]
  · rw [hf, h.latched]
  · rw [hf, h.log]
  · rw [hn, h.mem]
  · rw [hn, h.kept]
  · unfold Calm
    rw [hl]
    exact h.calm

theorem beginBoot (h : ResetFrom s u) : ResetFrom s u.beginBoot := by
  obtain ⟨hflt, hnv, hhst, hlan, hsys, -⟩ := beginBoot_keeps u
  have hgate : u.beginBoot.gate = u.gate := by
    obtain ⟨m, hm⟩ := bootRecord_regs u
    unfold State.beginBoot
    rw [hm]
    rfl
  refine ⟨(beginBoot_shows u).1, ?_, ?_, ?_, ?_, ?_, ?_, ?_, ?_, ?_, ?_⟩
  · rw [hgate, h.lines]
  · rw [hhst, h.sessions]
  · rw [hhst, h.flight]
  · rw [hhst, h.cache]
  · rw [hflt, h.latched]
  · rw [hflt, h.log]
  · rw [hnv, h.mem]
  · rw [hnv, h.kept]
  · rw [hsys]
    exact h.pend
  · unfold Calm
    rw [hlan]
    exact h.calm

/-- The end of the command keeps it. -/
theorem settled (h : ResetFrom s u) (ht : Kept [] [] u t) : ResetFrom s t := by
  have hpend := congrArg Sys.resetPend (ht.1 .sys (by simp)).1
  have hwait := congrArg Lan.doneWait (ht.1 .lan (by simp))
  have hgate : t.gate = u.gate := ht.1 .gate (by simp)
  have hnv : t.nv = u.nv := ht.1 .nv (by simp)
  refine ⟨(ht.fld F.SYS_STATE_STATE 0 (by decide) (by simp) (by decide)).trans h.dev, ?_, (ht.1 .sessions (by simp)).1.trans h.sessions,
    (ht.1 .flight (by simp) : _ = _).trans h.flight, (ht.1 .cache (by simp)).1.trans h.cache, (ht.1 .latched (by simp)).1.trans h.latched,
    (ht.1 .logs (by simp)).1.trans h.log, ?_, ?_, ?_, hwait.trans h.calm⟩
  · rw [hgate, h.lines]
  · rw [hnv, h.mem]
  · rw [hnv, h.kept]
  · exact hpend.trans h.pend

end ResetFrom

/-- The state in which RESET# holds the module after the reset of z. -/
def heldFrom (z : State) : State := { z.resetAll false with sys := { (z.resetAll false).sys with phase := .held } }

theorem heldFrom_from (z : State) : ResetFrom z (heldFrom z) := (resetAll_from z).of_same rfl rfl rfl rfl rfl rfl rfl

theorem heldFrom_shows (z : State) : (heldFrom z).sys.phase = .held ∧ (heldFrom z).tick = z.tick := ⟨rfl, rfl⟩

theorem exec_resetPin {s : State} (dt : Nat) {nanos : Nat} {taken : Bool} (hph : s.sys.phase = .up ∨ s.sys.phase = .booting)
    (hlow : 10000 ≤ nanos ∨ 1000 ≤ nanos ∧ taken = true) : exec (.resetPin dt nanos taken) s = endWith (heldFrom (s.elapse dt).offNow) := by
  show (if (s.sys.phase == .unpowered || s.sys.phase == .held || nanos < 1000 || (nanos < 10000 && !taken)) = true then _ else _) = _
  rw [if_neg]
  · rfl
  · have hnanos : ¬nanos < 1000 ∧ ¬(nanos < 10000 ∧ taken = false) := by
      rcases hlow with h | ⟨h, htaken⟩
      · omega
      · simp [htaken, h]
    rcases hph with h | h
    · simpa [h] using hnanos
    · simpa [h] using hnanos

theorem resetPin_holds {s : State} (dt : Nat) {nanos : Nat} {taken : Bool} (hph : s.sys.phase = .up ∨ s.sys.phase = .booting)
    (hlow : 10000 ≤ nanos ∨ 1000 ≤ nanos ∧ taken = true) : Ends (.resetPin dt nanos taken) s fun t =>
      t.sys.phase = .held ∧ t.dev = dBOOT ∧ t.gate.gc = 0 ∧ t.hst.sessions = [] ∧ t.hst.flight = [] ∧ t.hst.cache = [] ∧
        t.flt.latched = [] ∧ t.flt.log = s.flt.log ∧ t.nv.mem = s.nv.mem ∧ t.nv.kept = s.nv.kept ∧ s.tick + dt ≤ t.tick := by
  have he := exec_resetPin dt hph hlow
  obtain ⟨hlog, hnv, htick⟩ := offNow_stores (s.elapse dt)
  generalize (s.elapse dt).offNow = z at he hlog hnv htick
  have hheld := heldFrom_from z
  obtain ⟨hphase, hnow⟩ := heldFrom_shows z
  generalize heldFrom z = u at he hheld hphase hnow
  refine ends_over he hheld.calm fun t ht hct => ?_
  have h := hheld.settled ht
  refine ⟨(ht.1 .trans (by simp)).1.trans hphase, h.dev, h.lines, h.sessions, h.flight, h.cache, h.latched, h.log.trans hlog, ?_, ?_, ?_⟩
  · rw [h.mem, hnv]
    rfl
  · rw [h.kept, hnv]
    rfl
  · rw [hct.1, hnow]
    exact htick

/-! ## RESET# released (R71) -/

/-- The state in which the module lets BOOT start. -/
def released (s : State) (dt : Nat) : State :=
  let u := (s.elapse dt).elapseTo (s.sys.bootAt + 20 * ticksPerUs)
  { u with sys := { u.sys with bootAt := u.tick } }

theorem exec_resetRelease {s : State} (dt : Nat) (hph : s.sys.phase = .held) :
    exec (.resetRelease dt) s = endWith (released s dt).beginBoot := by
  show (if (s.sys.phase != .held) = true then _ else _) = _
  rw [if_neg (by simp [hph])]
  rfl

theorem resetRelease_boots {s : State} (dt : Nat) (hc : Calm s) (hph : s.sys.phase = .held) : Ends (.resetRelease dt) s fun t =>
    t.sys.phase = .booting ∧ t.dev = dBOOT ∧ t.tick = max (s.tick + dt) (s.sys.bootAt + 20 * ticksPerUs) ∧ t.sys.bootAt = t.tick ∧
      t.fld F.SYS_STATE_ACTIVE_BANK = b2n s.nv.bootB ∧ t.nv = s.nv ∧ t.flt = s.flt := by
  obtain ⟨hflt, hnv, -, hlan, hsys, hclk⟩ := beginBoot_keeps (released s dt)
  obtain ⟨hdev, hbank⟩ := beginBoot_shows (released s dt)
  have htick : (released s dt).tick = max (s.tick + dt) (s.sys.bootAt + 20 * ticksPerUs) := State.elapseTo_tick _ _
  have hsame : (released s dt).nv = s.nv ∧ (released s dt).flt = s.flt ∧ (released s dt).lan = s.lan ∧
      (released s dt).sys.bootAt = (released s dt).tick := ⟨rfl, rfl, rfl, rfl⟩
  have hcalm : Calm (released s dt).beginBoot := by
    unfold Calm
    rw [hlan]
    exact hc
  have he := exec_resetRelease dt hph
  obtain ⟨u, hu, -, -, huflt⟩ := settle_from hcalm
  have hend : (released s dt).beginBoot.settle.flt = s.flt := by
    rw [hu, levelled_flt, huflt, hflt, hsame.2.1]
  have ht := Kept.settle _ hcalm
  have hct := settle_clocks _ hcalm
  have hbootAt := congrArg Sys.bootAt (ht.1 .sys (by simp)).1
  have hphase := (ht.1 .trans (by simp)).1
  rw [hsys] at hbootAt hphase
  have hnow := hct.1.trans hclk.1
  refine ⟨_, he, hphase, ?_, hnow.trans htick, ?_, ?_, ?_, hend⟩
  · exact (ht.fld F.SYS_STATE_STATE 0 (by decide) (by simp) (by decide)).trans hdev
  · exact hbootAt.trans (hsame.2.2.2.trans hnow.symm)
  · exact (ht.fld F.SYS_STATE_ACTIVE_BANK 0 (by decide) (by simp) (by decide)).trans (hbank.trans (by rw [hsame.1]))
  · exact (ht.1 .nv (by simp) : _ = _).trans (hnv.trans hsame.1)

/-! ## DEVICE_RESET (R72) -/

/-- The state in which BOOT starts after a DEVICE_RESET whose off sequence has left z. -/
def rebooted (z : State) : State :=
  let u := (z.resetAll false).beginBoot.elapse (20 * ticksPerUs)
  { u with sys := { u.sys with bootAt := u.tick } }

theorem rebooted_from (z : State) : ResetFrom z (rebooted z) :=
  (resetAll_from z).beginBoot.of_same rfl rfl rfl rfl rfl rfl rfl

theorem rebooted_shows (z : State) : (rebooted z).sys.phase = .booting ∧ (rebooted z).sys.bootAt = (rebooted z).tick ∧
    (rebooted z).tick = z.tick + 20 * ticksPerUs := by
  obtain ⟨-, -, -, -, hsys, hclk⟩ := beginBoot_keeps (z.resetAll false)
  have hphase : (rebooted z).sys.phase = (z.resetAll false).beginBoot.sys.phase := rfl
  have htick : (rebooted z).tick = (z.resetAll false).beginBoot.tick + 20 * ticksPerUs := rfl
  refine ⟨?_, rfl, ?_⟩
  · rw [hphase, hsys]
  · rw [htick, hclk.1, resetAll_tick]

theorem exec_deviceResetApply {s : State} (dt : Nat) {t0 : Nat} (hpend : s.sys.resetPend = some t0) (hsaid : s.resetUnsaid = false) :
    exec (.deviceResetApply dt) s = endWith (rebooted (s.elapse (min dt (t0 + ticksPerMs - s.tick))).offNow) := by
  unfold exec execDeviceResetApply
  rw [hpend, hsaid]
  rfl

theorem deviceResetApply_boots {s : State} (dt : Nat) {t0 : Nat} (hpend : s.sys.resetPend = some t0) (hsaid : s.resetUnsaid = false) :
    Ends (.deviceResetApply dt) s fun t =>
      t.sys.phase = .booting ∧ t.sys.resetPend = none ∧ t.dev = dBOOT ∧ t.gate.gc = 0 ∧ t.hst.sessions = [] ∧ t.hst.flight = [] ∧
        t.hst.cache = [] ∧ t.flt.latched = [] ∧ t.flt.log = s.flt.log ∧ t.nv.mem = s.nv.mem ∧ t.nv.kept = s.nv.kept ∧
        t.sys.bootAt = t.tick ∧ s.tick + 20 * ticksPerUs ≤ t.tick := by
  have he := exec_deviceResetApply dt hpend hsaid
  have hlater : s.tick ≤ (s.elapse (min dt (t0 + ticksPerMs - s.tick))).tick := Nat.le_add_right _ _
  have hstores : (s.elapse (min dt (t0 + ticksPerMs - s.tick))).flt.log = s.flt.log ∧
      (s.elapse (min dt (t0 + ticksPerMs - s.tick))).nv = s.nv := ⟨rfl, rfl⟩
  obtain ⟨hlog, hnv, htick⟩ := offNow_stores (s.elapse (min dt (t0 + ticksPerMs - s.tick)))
  generalize s.elapse (min dt (t0 + ticksPerMs - s.tick)) = v at he hlater hstores hlog hnv htick
  generalize v.offNow = z at he hlog hnv htick
  have hboot := rebooted_from z
  obtain ⟨hphase, hat, hnow⟩ := rebooted_shows z
  generalize rebooted z = u at he hboot hphase hat hnow
  refine ends_over he hboot.calm fun t ht hct => ?_
  have h := hboot.settled ht
  have hbootAt := congrArg Sys.bootAt (ht.1 .sys (by simp)).1
  refine ⟨(ht.1 .trans (by simp)).1.trans hphase, h.pend, h.dev, h.lines, h.sessions, h.flight, h.cache, h.latched, ?_, ?_, ?_, ?_, ?_⟩
  · rw [h.log, hlog, hstores.1]
  · rw [h.mem, hnv, hstores.2]
  · rw [h.kept, hnv, hstores.2]
  · exact hbootAt.trans (hat.trans hct.1.symm)
  · rw [hct.1, hnow]
    omega

/-! ## RESET# still low for want of PGOOD (R70) -/

theorem bootEnd_waits {s : State} (dt : Nat) (x : BootSeen) (hc : Calm s) (hrst : s.sys.rstAt = none) :
    Ends (.bootEnd dt x) s fun t => t.tick = s.tick + dt ∧ Kept [] [] s t := by
  have he : exec (.bootEnd dt x) s = endWith (s.elapse dt) := by
    show (if (s.sys.phase != .booting || s.sys.rstAt.isNone) = true then _ else _) = _
    rw [if_pos (by simp [hrst])]
  exact ends_over he hc fun t ht hct => ⟨hct.1, ((Kept.elapse s dt).trans ht).mono (by simp) (by simp)⟩

end Sys2Proof.Machine
end

section
/-! Proofs of the power family, ninth part: BOOT begins, and ends in UPDATE or halted. -/
open Sys2Proof Sys2Proof.Machine

namespace Sys2Proof.Machine

/-! ## What a transition of the device leaves of SYS_STATE and of the phase (R77) -/

/-- SYS_STATE shows the same, in the same phase. -/
def SameShown (s t : State) : Prop := t.rd .SYS_STATE = s.rd .SYS_STATE ∧ t.sys.phase = s.sys.phase

namespace SameShown

variable {s t u : State}

theorem refl (s : State) : SameShown s s := ⟨rfl, rfl⟩

theorem trans (h : SameShown s t) (h' : SameShown t u) : SameShown s u := ⟨h'.1.trans h.1, h'.2.trans h.2⟩

theorem of_steady (h : Steady [.logs] [] s t) (hp : t.sys.phase = s.sys.phase) : SameShown s t :=
  ⟨h.regs .SYS_STATE 0 (by decide) (by simp) (by decide), hp⟩

theorem step_if (p : Prop) [Decidable p] (h : SameShown s t) : SameShown s (if p then t else s) := by
  split
  · exact h
  · exact refl s

theorem forN (s : State) (n : Nat) (f : Nat → State → State) (h : ∀ k, k < n → ∀ s, SameShown s (f k s)) : SameShown s (s.forN n f) := by
  have hl : ∀ (l : List Nat), (∀ k ∈ l, k < n) → ∀ s, SameShown s (l.foldl (fun s k => f k s) s) := by
    intro l
    induction l with
    | nil => exact fun _ s => refl s
    | cons k l ih => exact fun hl s => (h k (hl k (by simp)) s).trans (ih (fun j hj => hl j (by simp [hj])) _)
  exact hl _ (fun k hk => by simpa [upTo] using hk) s

theorem finish (s : State) (o : BitVec 16) (n : Nat) (a : Answer) : SameShown s (s.finish o n a) :=
  of_steady (Steady.finish s o n a) (Aside.finish s o n a).phase

theorem meRest (s : State) (n : Nat) (b : Bool) (hn : n < 65536) : SameShown s (s.meRest n b) := of_steady (Steady.meRest s n b hn) rfl

theorem meStop (s : State) (n : Nat) (a : Answer) (hn : n < 65536) : SameShown s (s.meStop n a) := by
  unfold State.meStop
  split
  · exact (meRest s n false hn).trans (finish _ _ _ _)
  · dsimp only
    refine SameShown.trans ?_ (((meRest _ n _ hn).trans (finish _ _ _ _)).trans (finish _ _ _ _))
    have hcount : SameShown s ((s.setF F.ME_STAT_UNCERTAIN 1 n).bump F.ME_UNC_CNT_COUNT n) :=
      of_steady ((Steady.setF s _ _ n (.inr (by decide)) hn).trans (Steady.bump _ _ n (.inr (by decide)) hn)) rfl
    exact step_if _ (hcount.trans (of_steady (Steady.logFault _ _ _ _ _) (Aside.logFault _ _ _ _ _).phase))

theorem auxStop (s : State) (c : Nat) (b : Bool) : SameShown s (s.auxStop c b) :=
  (of_steady (Steady.auxHiZ s) rfl : SameShown s s.auxHiZ).trans
    (forN _ 2 _ fun k hk u => step_if _ (meStop u k _ (by omega)))

theorem driveChop (s : State) (k : Nat) (v : Bool) : SameShown s (s.driveChop k v) :=
  of_steady (Steady.driveChop s k v) (Aside.driveChop s k v).phase

theorem showWick (s : State) : SameShown s s.showWick := of_steady (Steady.showWick s) rfl

/-- After a transition SYS_STATE shows the new state and the one before, or what it showed. -/
theorem setDev (s : State) (d c : Nat) (e : Bool) : ∃ v, (v = s ∨ v = (s.setF F.SYS_STATE_PREV_STATE s.dev).setF F.SYS_STATE_STATE d) ∧
    SameShown v (s.setDev d c e) := by
  unfold State.setDev
  dsimp only
  split
  · exact ⟨s, .inl rfl, refl s⟩
  · refine ⟨_, .inr rfl, ?_⟩
    have hlast : ∀ u : State, SameShown u (if e = true then { u with sys := { u.sys with lastTrans := some u.tick } } else u) := fun u =>
      step_if _ ⟨rfl, rfl⟩
    have hhiz : ∀ (b : Bool) (u : State), SameShown u (if b = true then { u with mot := { u.mot with hiz := false } } else u) := fun b u =>
      step_if _ ⟨rfl, rfl⟩
    have hchop : ∀ (b : Bool) (u : State), SameShown u (if b = true then u else u.forN 8 fun k s => s.driveChop k false) := fun b u => by
      split
      · exact refl u
      · exact forN u 8 _ fun k _ v => driveChop v k false
    have hwick : ∀ u : State, SameShown u (u.wickFrom s.dev) := fun u => step_if _ (showWick u)
    have hsafe : ∀ (b : Bool) (u : State), SameShown u (if b = true then u.doSafe else u) := fun b u => step_if _ ⟨rfl, rfl⟩
    exact (((((hlast _).trans (hhiz _ _)).trans (step_if _ (auxStop _ c true))).trans (hchop _ _)).trans (hwick _)).trans (hsafe _ _)

end SameShown

theorem setDev_phase (s : State) (d c : Nat) (e : Bool) : (s.setDev d c e).sys.phase = s.sys.phase := by
  obtain ⟨v, hv, h⟩ := SameShown.setDev s d c e
  rw [h.2]
  rcases hv with rfl | rfl
  · rfl
  · rfl

/-- What SYS_STATE shows beside STATE and PREV_STATE outlasts a transition. -/
theorem setDev_fld (s : State) (d c : Nat) (e : Bool) (f : Fld) (hr : f.reg = .SYS_STATE) (hlo : 8 ≤ f.lo) :
    (s.setDev d c e).fld f = s.fld f := by
  obtain ⟨v, hv, h⟩ := SameShown.setDev s d c e
  have hsame : (s.setDev d c e).fld f = v.fld f := fld_of_rd f (hr ▸ h.1)
  have hbits : ∀ (u : State) (g : Fld) x, g.reg = .SYS_STATE → g.hi < 8 → (u.setF g x).fld f = u.fld f := fun u g x hg hhi =>
    State.fld_setF_bits u g f x 0 (hr.trans hg.symm) (.inl (by omega))
  rw [hsame]
  rcases hv with rfl | rfl
  · rfl
  · rw [hbits _ F.SYS_STATE_STATE _ rfl (by decide), hbits _ F.SYS_STATE_PREV_STATE _ rfl (by decide)]

/-! ## The end of a command in a state of rest (R77) -/

/-- With the device neither ARMED nor in RUN the end of a command changes the pins, and of Lantern a waiting demand. -/
theorem settle_resting {s : State} (harmed : s.dev ≠ dARMED) (hrun : s.dev ≠ dRUN) : Kept [.lan] [] s s.settle ∧ s.settle.tick = s.tick := by
  have hdone : Kept [.lan] [] s s.demandDone ∧ s.demandDone.tick = s.tick := by
    have hlan : ∀ l : Lan, Kept [.lan] [] s { s with lan := l } := fun l =>
      ⟨fun p hp => by cases p <;> simp_all [Part.same], fun _ _ _ _ => rfl⟩
    unfold State.demandDone
    split
    · dsimp only
      rw [if_neg]
      · exact ⟨hlan _, rfl⟩
      · have hdev : ({ s with lan := { s.lan with doneWait := false } } : State).dev = s.dev := rfl
        simp [hdev, harmed, hrun]
    · exact ⟨Kept.refl _ _ s, rfl⟩
  have htick : ∀ u : State, (levelled (displayed u.brakeEval.slsTrack)).tick = u.tick := fun u => by
    obtain ⟨m, n, hbrake⟩ := brakeEval_eq u
    rw [hbrake]
    rfl
  rw [settle_eq, htick]
  exact ⟨((((hdone.1.trans (Kept.brakeEval _)).trans (Kept.slsTrack _)).trans (Kept.displayed _)).trans (Kept.levelled _)).mono (by simp)
    (by simp), hdone.2⟩

/-! ## BOOT begins (R70, R73, R74) -/

/-- The boot record is read, and what BOOTSEL and VDRV are found at shows. -/
def bootRead (s : State) (x : BootSeen) : State :=
  (({ s with sys := { s.sys with powerLost := false } }.bootRecord).setF F.SYS_STATE_BOOTSEL (b2n x.bootsel)).setF F.GATE_AUX_STAT_VDRV_OK
    (b2n x.vdrv)

/-- The state in which BOOT reads the switches: a loss of the supply is noted. -/
def bootStart (s : State) (x : BootSeen) : State := if s.sys.powerLost then (bootRead s x).raise 0x7031 else bootRead s x

theorem boot_bootsel (s : State) {x : BootSeen} (h : x.bootsel = true) : s.boot x =
    (({ bootStart s x with sys := { (bootStart s x).sys with phase := .up, updBootsel := true } } : State).setDev dUPDATE).showWick := by
  have he : s.boot x = (if x.bootsel = true then
      ({ bootStart s x with sys := { (bootStart s x).sys with phase := .up, updBootsel := true } } : State).setDev dUPDATE
    else (bootStart s x).bootSwitches x).showWick := rfl
  rw [he, if_pos h]

theorem boot_runs (s : State) {x : BootSeen} (h : x.bootsel = false) : s.boot x = ((bootStart s x).bootSwitches x).showWick := by
  have he : s.boot x = (if x.bootsel = true then
      ({ bootStart s x with sys := { (bootStart s x).sys with phase := .up, updBootsel := true } } : State).setDev dUPDATE
    else (bootStart s x).bootSwitches x).showWick := rfl
  rw [he, if_neg (by simp [h])]

theorem bootRead_keeps (s : State) (x : BootSeen) : (bootRead s x).nv = s.nv ∧ (bootRead s x).sys.phase = s.sys.phase ∧
    (bootRead s x).tick = s.tick ∧ (bootRead s x).fld F.SYS_STATE_BOOTSEL = b2n x.bootsel := by
  have hsel : ∀ u : State, ((u.setF F.SYS_STATE_BOOTSEL (b2n x.bootsel)).setF F.GATE_AUX_STAT_VDRV_OK (b2n x.vdrv)).fld F.SYS_STATE_BOOTSEL =
      b2n x.bootsel := fun u => by
    rw [State.fld_setF_reg _ _ _ _ _ _ (by decide) (by decide) (.inl (by decide)), State.fld_setF_same _ _ _ _ (by decide)]
    exact b2n_mod x.bootsel
  have hread : ∀ (u v : State), (∃ m, v = { u with regs := m }) →
      ((v.setF F.SYS_STATE_BOOTSEL (b2n x.bootsel)).setF F.GATE_AUX_STAT_VDRV_OK (b2n x.vdrv)).nv = u.nv ∧
        ((v.setF F.SYS_STATE_BOOTSEL (b2n x.bootsel)).setF F.GATE_AUX_STAT_VDRV_OK (b2n x.vdrv)).sys = u.sys ∧
        ((v.setF F.SYS_STATE_BOOTSEL (b2n x.bootsel)).setF F.GATE_AUX_STAT_VDRV_OK (b2n x.vdrv)).tick = u.tick := by
    rintro u _ ⟨m, rfl⟩
    exact ⟨rfl, rfl, rfl⟩
  obtain ⟨hnv, hsys, htick⟩ := hread _ _ (bootRecord_regs { s with sys := { s.sys with powerLost := false } })
  have hphase := congrArg Sys.phase hsys
  exact ⟨hnv, hphase, htick, hsel _⟩

theorem bootStart_keeps (s : State) (x : BootSeen) : (bootStart s x).nv = s.nv ∧ (bootStart s x).sys.phase = s.sys.phase ∧
    (bootStart s x).tick = s.tick ∧ (bootStart s x).fld F.SYS_STATE_BOOTSEL = b2n x.bootsel := by
  obtain ⟨hnv, hphase, htick, hsel⟩ := bootRead_keeps s x
  unfold bootStart
  generalize bootRead s x = u at hnv hphase htick hsel ⊢
  split
  · have hkept := Kept.raise_note u [] (by decide : faultClass 0x7031 = 0)
    exact ⟨(hkept.1 .nv (by simp) : _ = _).trans hnv, (hkept.1 .trans (by simp)).1.trans hphase,
      (Handled.raise u 0x7031 7 [] _ (by simp)).clocks.1.trans htick,
      (hkept.fld F.SYS_STATE_BOOTSEL 0 (by decide) (by simp) (by decide)).trans hsel⟩
  · exact ⟨hnv, hphase, htick, hsel⟩

theorem exec_bootEnd {s : State} (dt : Nat) (x : BootSeen) {t0 : Nat} (hph : s.sys.phase = .booting) (hrst : s.sys.rstAt = some t0) :
    exec (.bootEnd dt x) s = endWith ((s.elapse (s.bootTime x dt)).boot x) := by
  show (if (s.sys.phase != .booting || s.sys.rstAt.isNone) = true then _ else _) = _
  rw [if_neg (by simp [hph, hrst])]

/-- BOOT ends after the release of RESET# (R70, R71, R74). -/
theorem bootTime_released (s : State) (x : BootSeen) (dt : Nat) {t0 : Nat} (hrst : s.sys.rstAt = some t0) :
    t0 ≤ (s.elapse (s.bootTime x dt)).tick ∧ s.sys.bootAt ≤ (s.elapse (s.bootTime x dt)).tick := by
  have hrelease : s.bootRelease = max s.sys.bootAt t0 := by
    unfold State.bootRelease
    rw [hrst]
    rfl
  have htick : (s.elapse (s.bootTime x dt)).tick = s.tick + (max s.bootRelease (min (s.tick + dt) (s.bootRelease + s.bootMost x)) - s.tick) :=
    rfl
  rw [htick, hrelease]
  generalize min (s.tick + dt) (max s.sys.bootAt t0 + s.bootMost x) = m
  omega

/-! ## BOOTSEL high (R73) -/

theorem bootEnd_updates {s : State} (dt : Nat) {x : BootSeen} {t0 : Nat} (hph : s.sys.phase = .booting) (hrst : s.sys.rstAt = some t0)
    (hsel : x.bootsel = true) : Ends (.bootEnd dt x) s fun t =>
      t.dev = dUPDATE ∧ t.sys.phase = .up ∧ t.sys.updBootsel = true ∧ t.fld F.SYS_STATE_BOOTSEL = 1 ∧ t.nv.mem = s.nv.mem ∧
        t0 ≤ t.tick ∧ s.sys.bootAt ≤ t.tick := by
  have he := exec_bootEnd dt x hph hrst
  obtain ⟨hlate, hlateBoot⟩ := bootTime_released s x dt hrst
  have hnv : (s.elapse (s.bootTime x dt)).nv = s.nv := rfl
  generalize s.elapse (s.bootTime x dt) = v at he hlate hlateBoot hnv
  rw [boot_bootsel v hsel] at he
  obtain ⟨knv, -, ktick, ksel⟩ := bootStart_keeps v x
  rw [hsel] at ksel
  have hup : ∀ u : State, u.sys.phase = .up → u.sys.updBootsel = true → u.fld F.SYS_STATE_BOOTSEL = 1 → u.nv = s.nv → u.tick = v.tick →
      (u.setDev dUPDATE).showWick.dev = dUPDATE ∧ (u.setDev dUPDATE).showWick.sys.phase = .up ∧
        (u.setDev dUPDATE).showWick.sys.updBootsel = true ∧ (u.setDev dUPDATE).showWick.fld F.SYS_STATE_BOOTSEL = 1 ∧
        (u.setDev dUPDATE).showWick.nv = s.nv ∧ (u.setDev dUPDATE).showWick.tick = v.tick := fun u hp hb hf hn ht => by
    have hsteady := (Steady.setDev u dUPDATE 0 true).trans (Steady.showWick _)
    have hshown := SameShown.showWick (u.setDev dUPDATE)
    have hothers := (hsteady.parts .sys (by simp) (by decide)).1
    have hbootsel := congrArg Sys.updBootsel hothers
    exact ⟨(fld_of_rd F.SYS_STATE_STATE hshown.1).trans (Steady.setDev_dev u dUPDATE 0 true (by decide)),
      hshown.2.trans ((setDev_phase u dUPDATE 0 true).trans hp), hbootsel.trans hb,
      (fld_of_rd F.SYS_STATE_BOOTSEL hshown.1).trans ((setDev_fld u dUPDATE 0 true F.SYS_STATE_BOOTSEL rfl (by decide)).trans hf),
      (hsteady.parts .nv (by simp) (by decide) : _ = _).trans hn, hsteady.clocks.1.trans ht⟩
  obtain ⟨hdev, hphase, hbootsel, hfld, hstore, htick⟩ :=
    hup { bootStart v x with sys := { (bootStart v x).sys with phase := .up, updBootsel := true } } rfl rfl ksel (knv.trans hnv) ktick
  generalize State.showWick _ = w at he hdev hphase hbootsel hfld hstore htick
  obtain ⟨ht, hnow⟩ := settle_resting (s := w) (by rw [hdev]; decide) (by rw [hdev]; decide)
  have hselEnd := congrArg Sys.updBootsel (ht.1 .sys (by simp)).1
  have hnvEnd : w.settle.nv = w.nv := ht.1 .nv (by simp)
  refine ⟨_, he, ?_, (ht.1 .trans (by simp)).1.trans hphase, hselEnd.trans hbootsel, ?_, ?_, ?_, ?_⟩
  · exact (ht.fld F.SYS_STATE_STATE 0 (by decide) (by simp) (by decide)).trans hdev
  · exact (ht.fld F.SYS_STATE_BOOTSEL 0 (by decide) (by simp) (by decide)).trans hfld
  · rw [hnvEnd, hstore]
  · rw [hnow, htick]
    exact hlate
  · rw [hnow, htick]
    exact hlateBoot

end Sys2Proof.Machine
end

section
/-! Proofs of the power family, tenth part: no step of BOOT but a write takes time. -/
open Sys2Proof Sys2Proof.Machine

namespace Sys2Proof.Machine

/-! ## Runs of steps -/

theorem State.foldl_tick {α : Type} (l : List α) (f : State → α → State) (h : ∀ s a, (f s a).tick = s.tick) (s : State) :
    (l.foldl f s).tick = s.tick := by
  induction l generalizing s with
  | nil => rfl
  | cons a l ih => exact (ih (f s a)).trans (h s a)

@[simp] theorem State.forN_tick (s : State) (n : Nat) (f : Nat → State → State) (h : ∀ k, ∀ u : State, (f k u).tick = u.tick) :
    (s.forN n f).tick = s.tick := State.foldl_tick _ _ (fun u k => h k u) s

@[simp] theorem State.forL_tick {α : Type} (s : State) (l : List α) (f : α → State → State) (h : ∀ a, ∀ u : State, (f a u).tick = u.tick) :
    (s.forL l f).tick = s.tick := State.foldl_tick _ _ (fun u a => h a u) s

@[simp] theorem State.raise_tick (s : State) (code axis : Nat) (d : List Word) (axes : List Nat) (h : ∀ a ∈ axes, a < 65536) :
    (s.raise code axis d axes).tick = s.tick := (Handled.raise s code axis d axes h).clocks.1

@[simp] theorem State.raise_axis_tick (s : State) (code axis : Nat) (d : List Word) :
    (s.raise code axis d (if axis < 4 then [axis] else [])).tick = s.tick := State.raise_tick s code axis d _ fun a ha => by
  split at ha
  · have haxis : a = axis := by simpa using ha
    omega
  · simp at ha

/-! ## Shared operations -/

@[simp] theorem State.finish_tick (s : State) (opcode : BitVec 16) (target : Nat) (a : Answer) : (s.finish opcode target a).tick = s.tick :=
  (Steady.finish (L := []) (W := []) s opcode target a).clocks.1

@[simp] theorem State.logFault_tick (s : State) (code axis : Nat) (detail : List Word) (cont : Bool) :
    (s.logFault code axis detail cont).tick = s.tick :=
  (Steady.logFault (W := []) s code axis detail cont).clocks.1

@[simp] theorem State.drive_tick (s : State) (g : Nat) (v : Bool) : (s.drive g v).tick = s.tick :=
  (Steady.drive (L := []) (W := []) s g v).clocks.1

@[simp] theorem State.driveChop_tick (s : State) (k : Nat) (v : Bool) : (s.driveChop k v).tick = s.tick :=
  (Steady.driveChop (L := []) (W := []) s k v).clocks.1

@[simp] theorem State.capClose_tick (s : State) (trunc : Bool) : (s.capClose trunc).tick = s.tick :=
  (Steady.capClose (L := []) (W := []) s trunc).clocks.1

@[simp] theorem State.wrSat_tick (s : State) (r : RegId) (v : Int) (i : Nat) : (s.wrSat r v i).tick = s.tick := rfl

@[simp] theorem State.freeBit_tick (s : State) : s.freeBit.2.tick = s.tick := rfl

@[simp] theorem State.freeWord_tick (s : State) : s.freeWord.2.tick = s.tick := rfl

@[simp] theorem State.freeBelow_tick (s : State) (n : Nat) : (s.freeBelow n).2.tick = s.tick := rfl

@[simp] theorem State.quot_tick (s : State) (n : Int) (d : Int) : (s.quot n d).2.tick = s.tick :=
  (Steady.quot (L := []) (W := []) s n d).clocks.1

@[simp] theorem State.tseqTimed_tick (s : State) (b : Nat) : (s.tseqTimed b).2.tick = s.tick :=
  (Steady.tseqTimed (L := []) (W := []) s b).clocks.1

@[simp] theorem State.notRunning_tick (s : State) (b : Nat) : (s.notRunning b).tick = s.tick := rfl

@[simp] theorem State.offSeq_tick (s : State) (b : Nat) : (s.offSeq b).tick = s.tick := by
  unfold State.offSeq
  simp [apply_ite State.tick]

@[simp] theorem State.updMe_tick (s : State) (n : Nat) (f : Me → Me) : (s.updMe n f).tick = s.tick := rfl

@[simp] theorem State.updEnc_tick (s : State) (c : Nat) (f : Enc → Enc) : (s.updEnc c f).tick = s.tick := rfl

@[simp] theorem State.updCan_tick (s : State) (c : Nat) (f : Can → Can) : (s.updCan c f).tick = s.tick := rfl

@[simp] theorem State.updOb_tick (s : State) (a : Nat) (f : Obs → Obs) : (s.updOb a f).tick = s.tick := rfl

@[simp] theorem State.updWear_tick (s : State) (b : Nat) (f : Wear → Wear) : (s.updWear b f).tick = s.tick := rfl

@[simp] theorem State.gridOn_tick (s : State) (a : Nat) : (s.gridOn a).tick = s.tick := rfl

@[simp] theorem State.showWick_tick (s : State) : s.showWick.tick = s.tick := rfl

@[simp] theorem State.audit_tick (s : State) (by_ : By) (event : Nat) (object old new : Word) :
    (s.audit by_ event object old new).tick = s.tick :=
  rfl

@[simp] theorem State.keep_tick (s : State) (r : RegId) (i : Nat) : (s.keep r i).tick = s.tick := rfl

/-! ## Candle (R457 to R464) -/

@[simp] theorem State.showGuard_tick (s : State) (a : Nat) : (s.showGuard a).tick = s.tick := rfl

@[simp] theorem State.showBudget_tick (s : State) (k : Nat) : (s.showBudget k).tick = s.tick := rfl

@[simp] theorem State.meanSteer_tick (s : State) : s.meanSteer.2.tick = s.tick := by
  unfold State.meanSteer
  dsimp only
  split <;> simp

@[simp] theorem State.devDrift_tick (s : State) (ro osc : Int) (nv : Nat) : (s.devDrift ro osc nv).tick = s.tick := by
  unfold State.devDrift
  dsimp only
  split <;> simp

@[simp] theorem State.rebase_tick (s : State) : s.rebase.tick = s.tick := by
  unfold State.rebase
  simp

@[simp] theorem State.marginLimit_tick (s : State) (over_ : Bool) : (s.marginLimit over_).tick = s.tick := by
  unfold State.marginLimit
  split <;> simp

@[simp] theorem State.planDt_tick (s : State) (relax : Bool) (b : Nat) : (s.planDt relax b).tick = s.tick := by
  unfold State.planDt
  simp

@[simp] theorem State.planGuard_tick (s : State) (relax : Bool) (a : Nat) : (s.planGuard relax a).tick = s.tick := by
  unfold State.planGuard
  simp

@[simp] theorem State.planDerate_tick (s : State) (relax : Bool) (a : Nat) : (s.planDerate relax a).tick = s.tick := by
  unfold State.planDerate
  simp

@[simp] theorem State.planBudget_tick (s : State) (relax : Bool) (k : Nat) : (s.planBudget relax k).tick = s.tick := by
  unfold State.planBudget
  simp

@[simp] theorem State.keepMargins_tick (s : State) : s.keepMargins.tick = s.tick := by
  have hkeep : ∀ (n : Nat) (r : RegId) (u : State), (u.forN n fun k s => s.keep r k).tick = u.tick := fun n r u =>
    State.forN_tick u n (fun k s => s.keep r k) fun _ _ => rfl
  unfold State.keepMargins
  dsimp only
  rw [hkeep, State.forN_tick _ 4 (fun a s => (s.keep .CDL_MARGIN_GUARD a).keep .CDL_MARGIN_DERATE a) fun _ _ => rfl, hkeep]

@[simp] theorem State.margins_tick (s : State) (relax : Bool) : (s.margins relax).tick = s.tick := by
  unfold State.margins
  simp

@[simp] theorem State.deviceWarn_tick (s : State) (k : Nat) (on_ : Bool) (f : Fld) (code : Nat) :
    (s.deviceWarn k on_ f code).tick = s.tick := by
  unfold State.deviceWarn
  dsimp only
  split <;> simp

@[simp] theorem State.warnings_tick (s : State) : s.warnings.tick = s.tick := by
  unfold State.warnings
  simp [apply_ite State.tick]

@[simp] theorem State.streamSeries_tick (s : State) (source : Nat) (ws : List Word) : (s.streamSeries source ws).tick = s.tick := rfl

@[simp] theorem State.condition_tick (s : State) : s.condition.tick = s.tick := by
  unfold State.condition
  split <;> simp

@[simp] theorem State.replanEnd_tick (s : State) (ro osc : Int) (nv : Nat) (atBoot : Bool) :
    (s.replanEnd ro osc nv atBoot).tick = s.tick := by
  have hdrift : ((s.devDrift ro osc nv).forN 8 fun b s => s.showRt b).tick = s.tick :=
    (State.forN_tick _ 8 (fun b s => s.showRt b) fun _ _ => rfl).trans (State.devDrift_tick s ro osc nv)
  unfold State.replanEnd
  dsimp only
  generalize (s.devDrift ro osc nv).forN 8 (fun b s => s.showRt b) = u at hdrift ⊢
  split <;> simp [hdrift]

@[simp] theorem State.restoreKept_tick (s : State) (which : Nat → Bool) : (s.restoreKept which).tick = s.tick := rfl

@[simp] theorem State.bootCandle_tick (s : State) (x : BootSeen) : (s.bootCandle x).tick = s.tick := by
  unfold State.bootCandle
  split
  · exact State.replanEnd_tick s _ _ _ true
  · rw [State.raise_tick _ _ _ _ _ (by simp), State.forN_tick _ 40 (fun k s => s.showBudget k) fun _ _ => rfl,
      State.forN_tick _ 4 (fun a s => s.showGuard a) fun _ _ => rfl, State.restoreKept_tick]

/-! ## The first steps of BOOT (R74, R75) -/

@[simp] theorem State.bootSplit_tick (s : State) : s.bootSplit.tick = s.tick := rfl

@[simp] theorem State.bootMeridian_tick (s : State) : s.bootMeridian.tick = s.tick := rfl

@[simp] theorem State.applyParam_tick (s : State) (body : List Word) : (s.applyParam body).tick = s.tick :=
  (Commits.applyParam s body).clocks.1

@[simp] theorem State.applyEnvelope_tick (s : State) (body : List Word) : (s.applyEnvelope body).tick = s.tick :=
  (Commits.applyEnvelope s body).clocks.1

@[simp] theorem State.bootRecordOf_tick (s : State) (kind : Nat) (crcOk : Bool) : (s.bootRecordOf kind crcOk).tick = s.tick := by
  unfold State.bootRecordOf
  simp [apply_ite State.tick]

@[simp] theorem State.showSafety_tick (s : State) : s.showSafety.tick = s.tick := rfl

@[simp] theorem State.bootLantern_tick (s : State) (paramOk envOk : Bool) : (s.bootLantern paramOk envOk).tick = s.tick := by
  unfold State.bootLantern
  dsimp only
  split <;> simp

@[simp] theorem State.baseDone_tick (s : State) : s.baseDone.tick = s.tick := by
  unfold State.baseDone
  dsimp only
  split <;> simp

@[simp] theorem State.loadEngine_tick (s : State) (e : Nat) : (s.loadEngine e).tick = s.tick := rfl

@[simp] theorem State.bootLinks_tick (s : State) (x : BootSeen) : (s.bootLinks x).tick = s.tick := rfl

end Sys2Proof.Machine
end

section
/-! Proofs of the power family, eleventh part: no effect of a write takes time. -/
open Sys2Proof Sys2Proof.Machine

namespace Sys2Proof.Machine

/-! ## The fabric (R24, R25, R113, R123, R124) -/

@[simp] theorem State.fabErr_tick (s : State) (code : Option Nat) (flag : Fld) (addr : Nat) : (s.fabErr code flag addr).tick = s.tick := by
  unfold State.fabErr
  split <;> simp

@[simp] theorem State.replays_tick (s : State) (code : Option Nat) (addr fails : Nat) : (s.replays code addr fails).tick = s.tick := by
  unfold State.replays
  split <;> simp

@[simp] theorem State.errTo_tick (s : State) (w : Writer) (addr : Nat) : (s.errTo w addr).tick = s.tick := by
  unfold State.errTo
  split <;> simp

@[simp] theorem State.writeErr_tick (s : State) (w : Writer) (flag : Fld) (addr : Nat) : (s.writeErr w flag addr).tick = s.tick := by
  unfold State.writeErr
  split <;> simp

@[simp] theorem State.early_tick (s : State) (r : RegId) (i : Nat) (q : Req) : (s.early r i q).1.tick = s.tick := by
  unfold State.early
  dsimp only
  repeat' split
  all_goals simp

@[simp] theorem State.arbDomain_tick (s : State) (a : Nat) : (s.arbDomain a).2.tick = s.tick := by
  unfold State.arbDomain
  dsimp only
  repeat' split
  all_goals simp

@[simp] theorem State.recordLoser_tick (s : State) (w : Writer) (winner addr : Nat) : (s.recordLoser w winner addr).tick = s.tick := by
  unfold State.recordLoser
  simp

@[simp] theorem State.lossReg_tick (s : State) (rank : Nat) : (s.lossReg rank).tick = s.tick := rfl

@[simp] theorem State.lose_tick (s : State) (q : Req) (addr : Nat) : (s.lose q addr).tick = s.tick := by
  unfold State.lose
  dsimp only
  repeat' split
  all_goals simp

@[simp] theorem State.recordLosses_tick (s : State) (losers : List Req) (winner : Req → Nat) (addr : Nat) :
    (s.recordLosses losers winner addr).tick = s.tick := by
  unfold State.recordLosses
  split <;> simp [apply_ite State.tick]

@[simp] theorem State.won_tick (s : State) (w : Writer) : (s.won w).tick = s.tick := by
  unfold State.won
  split <;> simp

/-! ## Bridges and gates (R153, R158, R177, R284) -/

@[simp] theorem State.commitOne_tick (s : State) (b : Nat) : (s.commitOne b).tick = s.tick := by
  unfold State.commitOne
  dsimp only
  split <;> simp

@[simp] theorem State.commit_tick (s : State) (b : Nat) : (s.commit b).tick = s.tick := by
  unfold State.commit
  simp [apply_ite State.tick]

@[simp] theorem State.startBridge_tick (s : State) (b : Nat) : (s.startBridge b).tick = s.tick := by
  unfold State.startBridge
  simp [apply_ite State.tick]

@[simp] theorem State.enterFault_tick (s : State) (g kind ts : Nat) : (s.enterFault g kind ts).tick = s.tick := by
  unfold State.enterFault
  dsimp only
  repeat' split
  all_goals simp

@[simp] theorem State.recordFault_tick (s : State) (g kind ts : Nat) : (s.recordFault g kind ts).tick = s.tick := by
  unfold State.recordFault
  simp

@[simp] theorem State.gateFaults_tick (s : State) (fs : List (Nat × Nat × Nat)) : (s.gateFaults fs).tick = s.tick := by
  unfold State.gateFaults
  split <;> simp

@[simp] theorem State.judgeStanding_tick (s : State) : s.judgeStanding.tick = s.tick := by
  unfold State.judgeStanding
  simp

@[simp] theorem State.dropWins_tick (s : State) (g : Nat) : (s.dropWins g).tick = s.tick := by
  unfold State.dropWins
  split <;> simp

/-! ## Engines (R192, R197, R203) -/

@[simp] theorem State.scheduleCheck_tick (s : State) (e : Nat) : (s.scheduleCheck e).1.tick = s.tick := by
  unfold State.scheduleCheck
  dsimp only
  split <;> simp

@[simp] theorem State.engineOn_tick (s : State) (e : Nat) : (s.engineOn e).tick = s.tick := rfl

@[simp] theorem State.engineRun_tick (s : State) (e : Nat) : (s.engineRun e).tick = s.tick := by
  unfold State.engineRun
  simp [apply_ite State.tick]

@[simp] theorem State.engineOff_tick (s : State) (e : Nat) : (s.engineOff e).tick = s.tick := rfl

@[simp] theorem State.memWrite_tick (s : State) (e : Nat) (w : Word) : (s.memWrite e w).tick = s.tick := by
  unfold State.memWrite
  simp [apply_ite State.tick]

@[simp] theorem State.drainOut_tick (s : State) (e : Nat) : (s.drainOut e).tick = s.tick := rfl

@[simp] theorem State.sramFlips_tick (s : State) (flips : Nat) (detail : Word) : (s.sramFlips flips detail).1.tick = s.tick := by
  unfold State.sramFlips
  split <;> simp

@[simp] theorem State.fillIn_tick (s : State) (e : Nat) : (s.fillIn e).tick = s.tick := rfl

@[simp] theorem State.firstMail_tick (s : State) (e : Nat) (m : Moved) : (s.firstMail e m).1.tick = s.tick := by
  unfold State.firstMail
  dsimp only
  repeat' split
  all_goals simp

@[simp] theorem State.moveMail_tick (s : State) (e : Nat) (m : Moved) : (s.moveMail e m).tick = s.tick := by
  unfold State.moveMail
  simp [apply_ite State.tick]

/-! ## Feedback (R126, R132, R145, R147) -/

@[simp] theorem State.cmpRearm_tick (s : State) (c : Nat) : (s.cmpRearm c).tick = s.tick := rfl

@[simp] theorem State.gearJump_tick (s : State) (c : Nat) (d : Int) : (s.gearJump c d).tick = s.tick := by
  unfold State.gearJump
  simp [apply_ite State.tick]

@[simp] theorem State.jumped_tick (s : State) (c : Nat) (d : Int) : (s.jumped c d).tick = s.tick := by
  unfold State.jumped
  simp [apply_ite State.tick]

@[simp] theorem State.preset_tick (s : State) (c : Nat) (d : Word) : (s.preset c d).tick = s.tick := by
  unfold State.preset
  simp

@[simp] theorem State.showAngle_tick (s : State) (c : Nat) : (s.showAngle c).tick = s.tick := by
  unfold State.showAngle
  simp [apply_ite State.tick]

@[simp] theorem State.speedBreak_tick (s : State) (c : Nat) : (s.speedBreak c).tick = s.tick := rfl

@[simp] theorem State.encReturn_tick (s : State) (c : Nat) : (s.encReturn c).tick = s.tick := by
  unfold State.encReturn
  split <;> simp

@[simp] theorem State.encRestart_tick (s : State) (c : Nat) : (s.encRestart c).tick = s.tick := by
  unfold State.encRestart
  dsimp only
  split <;> simp

@[simp] theorem State.cmpLeave_tick (s : State) (c first last : Nat) : (s.cmpLeave c first last).tick = s.tick := rfl

@[simp] theorem State.limitSwitch_tick (s : State) (a : Nat) : (s.limitSwitch a).tick = s.tick := by
  unfold State.limitSwitch
  dsimp only
  split <;> simp

@[simp] theorem State.showActive_tick (s : State) : s.showActive.tick = s.tick := by
  unfold State.showActive
  simp

@[simp] theorem State.showSector_tick (s : State) (n : Nat) : (s.showSector n).tick = s.tick := by
  unfold State.showSector
  simp

@[simp] theorem State.newSector_tick (s : State) (old : Option Nat) (code : Nat) : (s.newSector old code).tick = s.tick := by
  unfold State.newSector
  simp [apply_ite State.tick]

@[simp] theorem State.newHallCfg_tick (s : State) : s.newHallCfg.tick = s.tick := by
  unfold State.newHallCfg
  dsimp only
  split <;> simp

@[simp] theorem State.newHallOfs_tick (s : State) : s.newHallOfs.tick = s.tick := by
  unfold State.newHallOfs
  split <;> simp [apply_ite State.tick]

@[simp] theorem State.sdRestart_tick (s : State) (c : Nat) : (s.sdRestart c).tick = s.tick := rfl

/-! ## Axes and observers (R254, R269) -/

@[simp] theorem State.holdStart_tick (s : State) (a : Nat) (gen : Bool) (w : Word) : (s.holdStart a gen w).tick = s.tick := rfl

@[simp] theorem State.holdEnd_tick (s : State) (a : Nat) (ends : Nat → Bool) : (s.holdEnd a ends).tick = s.tick := rfl

@[simp] theorem State.updEm_tick (s : State) (a : Nat) (f : Em → Em) : (s.updEm a f).tick = s.tick := rfl

@[simp] theorem State.keUnconfirmed_tick (s : State) (a : Nat) : (s.keUnconfirmed a).tick = s.tick := rfl

@[simp] theorem State.measureKe_tick (s : State) (a : Nat) : (s.measureKe a).tick = s.tick := by
  unfold State.measureKe
  split <;> simp

/-! ## Meridian, Lamplighter, CAN and captures (R336, R362, R368) -/

@[simp] theorem State.setStatus_tick (s : State) (i st : Nat) : (s.setStatus i st).tick = s.tick := rfl

@[simp] theorem State.tatReport_tick (s : State) (st : Nat) (i : Nat) : (s.tatReport st i).tick = s.tick := by
  unfold State.tatReport
  split <;> simp

@[simp] theorem State.showLamp_tick (s : State) : s.showLamp.tick = s.tick := by
  unfold State.showLamp
  dsimp only
  split <;> simp

@[simp] theorem State.tatFinal_tick (s : State) (i st : Nat) : (s.tatFinal i st).tick = s.tick := by
  unfold State.tatFinal
  simp

@[simp] theorem State.passOver_tick (s : State) : s.passOver.tick = s.tick := by
  unfold State.passOver
  dsimp only
  split <;> simp

@[simp] theorem State.merStep_tick (s : State) (d : Int) : (s.merStep d).tick = s.tick := by
  unfold State.merStep
  simp [apply_ite State.tick]

@[simp] theorem State.merSet_tick (s : State) (t : Time) : (s.merSet t).tick = s.tick := by
  unfold State.merSet
  simp

@[simp] theorem State.merSetWrite_tick (s : State) : s.merSetWrite.tick = s.tick := by
  unfold State.merSetWrite
  split <;> simp

@[simp] theorem State.merTo_tick (s : State) (m : Nat) : (s.merTo m).tick = s.tick := (Supervised.merTo s m).tick

@[simp] theorem State.setFreq_tick (s : State) (f : Int) : (s.setFreq f).tick = s.tick := rfl

@[simp] theorem State.merFree_tick (s : State) : s.merFree.tick = s.tick := by
  unfold State.merFree
  simp

@[simp] theorem State.canStop_tick (s : State) (c : Nat) : (s.canStop c).tick = s.tick := rfl

@[simp] theorem State.canInitWrite_tick (s : State) (c : Nat) (on_ : Bool) : (s.canInitWrite c on_).tick = s.tick := by
  unfold State.canInitWrite
  simp [apply_ite State.tick]

@[simp] theorem State.capStop_tick (s : State) : s.capStop.tick = s.tick := by
  unfold State.capStop
  split <;> simp [apply_ite State.tick]

@[simp] theorem State.setMb0_tick (s : State) (c k hi lo v : Nat) : (s.setMb0 c k hi lo v).tick = s.tick := rfl

@[simp] theorem State.setReq_tick (s : State) (c k : Nat) (v : Bool) : (s.setReq c k v).tick = s.tick := by
  unfold State.setReq
  split <;> simp

@[simp] theorem State.endReq_tick (s : State) (c k res : Nat) : (s.endReq c k res).tick = s.tick := by
  unfold State.endReq
  simp

@[simp] theorem State.cancelTx_tick (s : State) (c k : Nat) : (s.cancelTx c k).tick = s.tick := by
  unfold State.cancelTx
  split
  · rfl
  · split
    · split <;> simp
    · simp

@[simp] theorem State.askTx_tick (s : State) (c k : Nat) : (s.askTx c k).tick = s.tick := by
  unfold State.askTx
  simp [apply_ite State.tick]

@[simp] theorem State.txReqs_tick (s : State) (c : Nat) (hi : Bool) (sets clrs : Word) : (s.txReqs c hi sets clrs).tick = s.tick := by
  unfold State.txReqs
  simp [apply_ite State.tick]

@[simp] theorem State.txWrite_tick (s : State) (r : RegId) (i : Nat) (sets clrs : Word) : (s.txWrite r i sets clrs).tick = s.tick := by
  unfold State.txWrite
  simp

/-! ## A write (R29 to R34, R115 to R119) -/

@[simp] theorem State.onRefused_tick (s : State) (r : RegId) (i : Nat) (new : Word) : (s.onRefused r i new).tick = s.tick := by
  unfold State.onRefused
  split <;> simp [apply_ite State.tick]

@[simp] theorem State.effect_tick (s : State) (r : RegId) (i : Nat) (q : Req) (old new : Word) :
    (s.effect r i q old new).tick = s.tick := by
  unfold State.effect
  split <;> simp [apply_ite State.tick]

@[simp] theorem State.markClip_tick (s : State) (r : RegId) (i : Nat) : (s.markClip r i).tick = s.tick := by
  unfold State.markClip
  split
  · split <;> simp
  · rfl

@[simp] theorem State.auditRl_tick (s : State) (by_ : Option By) (r : RegId) (i : Nat) (old new : Word) :
    (s.auditRl by_ r i old new).tick = s.tick := by
  unfold State.auditRl
  split <;> simp [apply_ite State.tick]

@[simp] theorem State.applyWrite_tick (s : State) (r : RegId) (i : Nat) (q : Req) (v sets clrs hwSet : Word) (opt : WOpt) :
    (s.applyWrite r i q v sets clrs hwSet opt).1.tick = s.tick := by
  unfold State.applyWrite
  dsimp only
  repeat' split
  all_goals simp

@[simp] theorem State.meet_tick (s : State) (r : RegId) (i : Nat) (l : List Req) (hwSet : Word) (opt : WOpt) :
    (s.meet r i l hwSet opt).1.tick = s.tick := by
  have hwon : ∀ (l : List Req) (u : State), (l.foldl (fun s q => s.won q.who) u).tick = u.tick :=
    fun l => State.foldl_tick l _ fun u q => State.won_tick u q.who
  unfold State.meet
  dsimp only
  split
  · simp
  · simp [hwon]

end Sys2Proof.Machine
end

section
/-! Proofs of the power family, twelfth part: BOOT runs to its end. -/
open Sys2Proof Sys2Proof.Machine

namespace Sys2Proof.Machine

/-! ## The steps of BOOT only take time (R74, R448) -/

theorem State.forN_later (s : State) (n : Nat) (f : Nat → State → State) (h : ∀ k, ∀ u : State, u.tick ≤ (f k u).tick) :
    s.tick ≤ (s.forN n f).tick :=
  List.foldlRecOn (motive := fun u : State => s.tick ≤ u.tick) _ _ (Nat.le_refl _) fun u hu k _ => Nat.le_trans hu (h k u)

/-- Writes that leave in one cycle arrive in it or later (R25). -/
theorem State.cycle_later (s : State) (r : RegId) (i : Nat) (l : List (Req × Nat)) (hw : Word) (opt : WOpt) :
    s.tick ≤ (s.cycle r i l hw opt).1.tick := by
  unfold State.cycle
  dsimp only
  refine List.foldlRecOn (motive := fun p : State × List Verdict => s.tick ≤ p.1.tick) _ _ ?_ fun p hp k _ => ?_
  · refine List.foldlRecOn (motive := fun p : State × List (Option Answer) => s.tick ≤ p.1.tick) _ _ (Nat.le_refl _) fun p hp q _ => ?_
    split
    · simpa using hp
    · simpa using hp
  · split
    · exact hp
    · simp only [State.meet_tick]
      split
      · exact hp
      · rw [State.elapseTo_tick]
        exact Nat.le_trans hp (Nat.le_max_left _ _)

theorem State.slotPair_later (s : State) (addr value : Word) : s.tick ≤ (s.slotPair addr value).1.tick := by
  unfold State.slotPair
  split
  · split
    · exact Nat.le_refl _
    · exact State.cycle_later s _ _ _ _ _
  · exact Nat.le_refl _

theorem State.slotPairs_later (k : Nat) : ∀ (n j : Nat) (s : State), s.tick ≤ (s.slotPairs k j n).1.tick := by
  intro n
  induction n with
  | zero => exact fun _ _ => Nat.le_refl _
  | succ n ih =>
    intro j s
    unfold State.slotPairs
    dsimp only
    split
    · exact Nat.le_trans (State.slotPair_later s _ _) (ih (j + 1) _)
    · exact Nat.le_refl _

theorem State.bootSlot_later (s : State) (k : Nat) : s.tick ≤ (s.bootSlot k).tick := by
  have hbad : ∀ (v : Nv) d, (({ s with nv := v } : State).raise 0x7048 7 d).tick = s.tick := fun v d => State.raise_tick _ _ _ _ _ (by simp)
  unfold State.bootSlot
  dsimp only
  split
  · exact Nat.le_refl _
  · split
    · exact Nat.le_of_eq (hbad _ _).symm
    · split
      · rename_i t hpairs
        have hlater := State.slotPairs_later k (bitsOf (s.slotWord k 0) 31 16) 0 s
        rwa [hpairs] at hlater
      · exact Nat.le_of_eq (hbad _ _).symm

theorem State.bootConfig_later (s : State) (x : BootSeen) : s.tick ≤ (s.bootConfig x).tick := by
  have hslots : ∀ u : State, u.tick ≤ ((u.forN 59 fun k s => s.bootSlot k).baseDone).tick := fun u => by
    rw [State.baseDone_tick]
    exact State.forN_later u 59 _ fun k v => State.bootSlot_later v k
  exact Nat.le_trans (Nat.le_of_eq (State.bootLantern_tick { s with nv := { s.nv with badSlots := [] } } _ _).symm) (hslots _)

/-- BOOT from the verified image to the start of the links. -/
def bootRun (s : State) (x : BootSeen) : State :=
  ((((s.bootSplit.bootCandle x).bootMeridian.bootConfig x).forN 10 fun e s => s.loadEngine e).bootLinks x)

theorem bootRun_later (s : State) (x : BootSeen) : s.tick ≤ (bootRun s x).tick := by
  have hconfig := State.bootConfig_later (s.bootSplit.bootCandle x).bootMeridian x
  rw [State.bootMeridian_tick, State.bootCandle_tick, State.bootSplit_tick] at hconfig
  unfold bootRun
  rwa [State.bootLinks_tick, State.forN_tick _ 10 _ fun e u => State.loadEngine_tick u e]

/-- With every self-test passed, the PLLs locked and the programs accepted BOOT runs to its exit. -/
theorem bootRest_exits (s : State) {x : BootSeen} (hf : x.failed = none) (hp : x.pllLocked = true) (he : x.enginesOk = true) :
    s.bootSplit.bootRest x = (bootRun s x).bootExit := by
  unfold State.bootRest
  rw [hf]
  dsimp only
  rw [if_neg (by simp [hp]), if_neg (by simp [he])]
  rfl

/-! ## The switches and the banks (R59, R75) -/

/-- The state in which the switch word is accepted. -/
def switched (s : State) (w : Nat) : State :=
  let u := (s.setF F.SYS_SW1_ACCEPTED w).setF F.SYS_SW1_LIVE w
  { u with sys := { u.sys with swPrev := w, swSeen := true } }

theorem switched_keeps (s : State) (w : Nat) : (switched s w).nv = s.nv ∧ (switched s w).sys.phase = s.sys.phase ∧
    (switched s w).tick = s.tick := ⟨rfl, rfl, rfl⟩

theorem bootSwitches_boots {s u : State} {x : BootSeen} {w : Nat} (hw : acceptWord x.switches = some w)
    (hu : (switched s w).bootBank = some u) : s.bootSwitches x = u.bootSplit.bootRest x := by
  unfold switched at hu
  unfold State.bootSwitches
  rw [hw]
  dsimp only at hu ⊢
  rw [hu]

theorem bootSwitches_halts {s : State} {x : BootSeen} {w : Nat} (hw : acceptWord x.switches = some w)
    (hu : (switched s w).bootBank = none) : s.bootSwitches x = (switched s w).raise 0x7041 := by
  unfold State.bootSwitches
  rw [hw]
  unfold switched at hu ⊢
  dsimp only at hu ⊢
  rw [hu]

theorem bootBank_takes {s : State} (h : s.bankOk s.nv.bootB = true ∨ s.bankOk (!s.nv.bootB) = true) :
    ∃ u, s.bootBank = some u ∧ u.tick = s.tick := by
  unfold State.bootBank
  dsimp only
  split
  · exact ⟨_, rfl, rfl⟩
  · rename_i hactive
    rw [if_pos (h.resolve_left hactive)]
    exact ⟨_, rfl, State.raise_tick _ _ _ _ _ (by simp)⟩

theorem bootBank_none {s : State} (h : ¬(s.bankOk s.nv.bootB = true ∨ s.bankOk (!s.nv.bootB) = true)) : s.bootBank = none := by
  obtain ⟨hactive, hother⟩ := not_or.1 h
  unfold State.bootBank
  dsimp only
  rw [if_neg hactive, if_neg hother]

/-! ## The exit of BOOT (R77, R79) -/

/-- What the exit of BOOT shows. -/
structure Exited (s t : State) : Prop where
  phase : t.sys.phase = .up
  dev : t.dev = (if s.nv.quarantine = true then dQUARANTINE else dSAFE)
  version : t.rd .SYS_FW_VER = s.bankVersion s.nv.bootB
  nv : t.nv = s.nv
  tick : t.tick = s.tick

/-- The registers of the own record in the domain and of the gates' supply do not show the device. -/
theorem Exited.of_other {s u t : State} (h : Exited s u) (hs : t.sys = u.sys) (hn : t.nv = u.nv) (ht : t.tick = u.tick)
    (hr : ∀ r, r ≠ .MEM_STAT → r ≠ .GATE_AUX_STAT → t.rd r = u.rd r) : Exited s t := by
  refine ⟨?_, ?_, ?_, hn.trans h.nv, ht.trans h.tick⟩
  · rw [hs, h.phase]
  · exact (fld_of_rd F.SYS_STATE_STATE (hr .SYS_STATE (by decide) (by decide))).trans h.dev
  · rw [hr .SYS_FW_VER (by decide) (by decide), h.version]

theorem setDev_exits {s u : State} {d : Nat} (hd : d < 16) (hq : (if s.nv.quarantine = true then dQUARANTINE else dSAFE) = d)
    (hp : u.sys.phase = .up) (hv : u.rd .SYS_FW_VER = s.bankVersion s.nv.bootB) (hn : u.nv = s.nv) (ht : u.tick = s.tick) :
    Exited s (u.setDev d) := by
  have hsteady := Steady.setDev u d 0 true
  exact ⟨(setDev_phase u d 0 true).trans hp, (Steady.setDev_dev u d 0 true hd).trans hq.symm,
    (hsteady.regs .SYS_FW_VER 0 (by decide) (by decide) (by decide)).trans hv,
    (hsteady.parts .nv (by simp) (by decide) : _ = _).trans hn, hsteady.clocks.1.trans ht⟩

theorem rd_setF_reg (s : State) (f : Fld) (v : Nat) (r : RegId) (h : r ≠ f.reg) : (s.setF f v).rd r = s.rd r :=
  State.rd_setF_other s f v 0 r 0 (by decide) (by decide) (.inl h)

theorem joinStart_exits {s u : State} (h : Exited s u) (role : Nat) (spare : Bool) : Exited s (u.joinStart role spare) :=
  h.of_other rfl rfl rfl fun r hr _ => rd_setF_reg _ F.MEM_STAT_STATE 1 r hr

theorem bootExit_exits (s : State) : Exited s s.bootExit := by
  have hver : (s.wr .SYS_FW_VER (s.bankVersion s.nv.bootB)).rd .SYS_FW_VER = s.bankVersion s.nv.bootB :=
    State.rd_wr_same s .SYS_FW_VER _ 0
  have hdev : ∀ u : State, u.nv = s.nv → u.sys.phase = .up → u.rd .SYS_FW_VER = s.bankVersion s.nv.bootB → u.tick = s.tick →
      Exited s (if u.nv.quarantine = true then (u.setF F.MEM_STAT_STATE 4).setDev dQUARANTINE else u.setDev dSAFE) := fun u hn hp hv ht => by
    rw [hn]
    split
    · rename_i hq
      exact setDev_exits (by decide) (if_pos hq) hp ((rd_setF_reg _ _ _ _ (by decide)).trans hv) hn ht
    · rename_i hq
      exact setDev_exits (by decide) (if_neg hq) hp hv hn ht
  have hjoin : ∀ (u : State) (b : Bool) (r : Nat × Nat), Exited s u → Exited s (if b = true then u.joinStart r.1 false else u) :=
    fun u b r hu => by
      split
      · exact joinStart_exits hu _ _
      · exact hu
  have hexit := hdev { s.wr .SYS_FW_VER (s.bankVersion s.nv.bootB) with
    sys := { (s.wr .SYS_FW_VER (s.bankVersion s.nv.bootB)).sys with phase := .up } } rfl rfl hver rfl
  unfold State.bootExit
  dsimp only
  split
  · exact hjoin _ _ _ hexit
  · exact hexit

/-! ## Neither bank valid (R75, R77) -/

/-- STO leaves what stands beside the axes, and a device that neither is ARMED nor runs. -/
theorem Aside.stoTake (s : State) : Aside s s.stoTake := by
  have hshown : ∀ u : State, Aside u ((u.setF F.LAN_STAT_STO_ACTIVE 1).setF F.LAN_STAT_SS1_RUN 0) := fun u =>
    (setF u _ _ 0 (by decide) (by decide)).trans (setF _ _ _ 0 (by decide) (by decide))
  have hchop : ∀ u : State, Aside u (u.forN 8 fun k s => s.driveChop k false) := fun u => forN u 8 _ fun k _ v => Aside.driveChop v k false
  have hbrake : ∀ u : State, Aside u ((u.setF F.LAN_SBC_ON 0).setF F.LAN_STAT_SBC_APPLIED 1) := fun u =>
    (setF u _ _ 0 (by decide) (by decide)).trans (setF _ _ _ 0 (by decide) (by decide))
  have hlan : Aside s { s with lan := { s.lan with ss1 := none } } := of_same rfl rfl rfl
  unfold State.stoTake
  split
  · exact refl s
  · refine ((((hlan.trans (hshown _)).trans (Aside.offAll _)).trans (hchop _)).trans (hbrake _)).trans (forN _ 4 _ fun a ha v => ?_)
    have ha' : a < 65536 := by omega
    split
    · exact (Aside.finish v _ _ _).trans (Aside.toDisabled _ a ha')
    · exact (Aside.finish v _ _ _).trans (Aside.toDisabled _ a ha')
    · exact Aside.toStopping v a _ ha'
    · exact Aside.toStopping v a _ ha'
    · exact (Aside.runBitsOff v a).trans (Aside.updAxis _ _ _)
    · exact refl v

/-- The axes under an FR5, before the device's own transition. -/
def axesFaulted (s : State) (code : Nat) : State :=
  s.offAll.forN 4 fun a s =>
    if (s.axSt a == aDISABLED && !s.justLeft a) || s.axSt a == aFAULTED then s else s.toFaulted a code false

theorem axesFaulted_aside (s : State) (code : Nat) : Aside s (axesFaulted s code) :=
  (Aside.offAll s).trans (Aside.forN _ 4 _ fun a ha u => by
    split
    · exact Aside.refl u
    · exact Aside.toFaulted u a code false (by omega))

/-- The device halts; BOOT is abandoned. -/
def haltedFrom (s : State) : State :=
  let s := s.setF F.SYS_STATE_HALTED 1
  { s with sys := { s.sys with
    lastTrans := some s.tick, phase := if s.sys.phase == .booting then .up else s.sys.phase } }

theorem react5_eq (s : State) (code : Nat) : s.react5 code = haltedFrom ((axesFaulted s code).setDev dSAFE code).stoTake := by
  unfold State.react5 axesFaulted haltedFrom
  rfl

theorem haltedFrom_dev (s : State) : (haltedFrom s).dev = s.dev :=
  State.fld_setF_bits s F.SYS_STATE_HALTED F.SYS_STATE_STATE 1 0 rfl (.inr (by decide))

theorem haltedFrom_phase {s : State} (h : s.sys.phase = .booting) : (haltedFrom s).sys.phase = .up := by
  have hphase : (haltedFrom s).sys.phase = if (s.sys.phase == .booting) = true then .up else s.sys.phase := rfl
  rw [hphase, h]
  rfl

theorem raise_eq_react5 (s : State) {code : Nat} (h : faultClass code = 5) : s.raise code = (s.note code 7 []).react5 code := by
  unfold State.raise State.react
  rw [h]
  rfl

/-- An FR5 in BOOT ends BOOT in SAFE, halted (R75, R77). -/
theorem raise5_booting (s : State) {code : Nat} (h5 : faultClass code = 5) (hph : s.sys.phase = .booting) :
    (s.raise code).dev = dSAFE ∧ (s.raise code).sys.phase = .up ∧ (s.raise code).fld F.SYS_STATE_HALTED = 1 ∧
      (s.raise code).tick = s.tick := by
  have hfaulted := (Aside.note s code 7 []).trans (axesFaulted_aside _ code)
  refine ⟨?_, ?_, (raise5_halts s code 7 [] _ h5).2, State.raise_tick s code 7 [] _ (by simp)⟩
  all_goals
    rw [raise_eq_react5 s h5, react5_eq]
    generalize axesFaulted (s.note code 7 []) code = u at hfaulted ⊢
    have hsafe : (u.setDev dSAFE code).dev = dSAFE := Steady.setDev_dev u dSAFE code true (by decide)
    have hsto := Aside.stoTake (u.setDev dSAFE code)
  · rw [haltedFrom_dev]
    exact (fld_of_rd F.SYS_STATE_STATE (hsto.dev (by rw [hsafe]; decide) (by rw [hsafe]; decide))).trans hsafe
  · exact haltedFrom_phase (hsto.phase.trans ((setDev_phase u dSAFE code true).trans (hfaulted.phase.trans hph)))

/-! ## The end of BOOT (R70, R73 to R77, R79) -/

/-- What BOOT has come to at its end, however it ends, stands through the end of the command. -/
theorem ends_rested {c : Instr} {s w : State} {P : State → Prop} (he : exec c s = endWith w.showWick) (harmed : w.dev ≠ dARMED)
    (hrun : w.dev ≠ dRUN) (hp : ∀ t : State, t.sys.phase = w.sys.phase → t.tick = w.tick → t.nv = w.nv → t.dev = w.dev →
      t.fld F.SYS_STATE_HALTED = w.fld F.SYS_STATE_HALTED → t.rd .SYS_FW_VER = w.rd .SYS_FW_VER → P t) : Ends c s P := by
  have hshown := SameShown.showWick w
  have hsteady := Steady.showWick (L := []) (W := []) w
  have hdev : w.showWick.dev = w.dev := fld_of_rd F.SYS_STATE_STATE hshown.1
  have hnv : w.showWick.nv = w.nv := hsteady.parts .nv (by simp) (by decide)
  have hver : w.showWick.rd .SYS_FW_VER = w.rd .SYS_FW_VER := hsteady.regs .SYS_FW_VER 0 (by decide) (by simp) (by decide)
  obtain ⟨ht, htick⟩ := settle_resting (s := w.showWick) (hdev ▸ harmed) (hdev ▸ hrun)
  refine ⟨_, he, hp _ ((ht.1 .trans (by simp)).1.trans hshown.2) (htick.trans hsteady.clocks.1) ?_ ?_ ?_ ?_⟩
  · exact (ht.1 .nv (by simp) : _ = _).trans hnv
  · exact (ht.fld F.SYS_STATE_STATE 0 (by decide) (by simp) (by decide)).trans hdev
  · exact (ht.fld F.SYS_STATE_HALTED 0 (by decide) (by simp) (by decide)).trans (fld_of_rd F.SYS_STATE_HALTED hshown.1)
  · exact (ht.rd .SYS_FW_VER 0 (by decide) (by simp) (by decide)).trans hver

theorem exited_bankVersion {s t : State} (h : t.nv = s.nv) (b : Bool) : t.bankVersion b = s.bankVersion b := by
  unfold State.bankVersion State.bank
  rw [h]

theorem bootEnd_finishes {s : State} (dt : Nat) {x : BootSeen} {t0 w : Nat} (hph : s.sys.phase = .booting) (hrst : s.sys.rstAt = some t0)
    (hsel : x.bootsel = false) (hf : x.failed = none) (hpll : x.pllLocked = true) (hok : x.enginesOk = true)
    (hw : acceptWord x.switches = some w) : Ends (.bootEnd dt x) s fun t =>
      t.sys.phase = .up ∧ t0 ≤ t.tick ∧ s.sys.bootAt ≤ t.tick ∧
        (if s.bankOk s.nv.bootB = true ∨ s.bankOk (!s.nv.bootB) = true then
          t.dev = (if t.nv.quarantine = true then dQUARANTINE else dSAFE) ∧ t.rd .SYS_FW_VER = t.bankVersion t.nv.bootB
         else t.dev = dSAFE ∧ t.fld F.SYS_STATE_HALTED = 1) := by
  have he := exec_bootEnd dt x hph hrst
  obtain ⟨hlate, hlateBoot⟩ := bootTime_released s x dt hrst
  have hstart : (s.elapse (s.bootTime x dt)).nv = s.nv ∧ (s.elapse (s.bootTime x dt)).sys.phase = .booting := ⟨rfl, hph⟩
  generalize s.elapse (s.bootTime x dt) = v at he hlate hlateBoot hstart
  rw [boot_runs v hsel] at he
  obtain ⟨knv, kphase, ktick, -⟩ := bootStart_keeps v x
  generalize bootStart v x = u at he knv kphase ktick
  obtain ⟨wnv, wphase, wtick⟩ := switched_keeps u w
  have hnv : (switched u w).nv = s.nv := wnv.trans (knv.trans hstart.1)
  have hbanks : ∀ b, (switched u w).bankOk b = s.bankOk b := fun b => by
    unfold State.bankOk State.bank
    rw [hnv]
  have hphase : (switched u w).sys.phase = .booting := wphase.trans (kphase.trans hstart.2)
  have htick : (switched u w).tick = v.tick := wtick.trans ktick
  by_cases hbank : s.bankOk s.nv.bootB = true ∨ s.bankOk (!s.nv.bootB) = true
  · obtain ⟨b, hb, hbtick⟩ := bootBank_takes (s := switched u w) (by rwa [hnv, hbanks, hbanks])
    rw [bootSwitches_boots hw hb, bootRest_exits b hf hpll hok] at he
    have hrun := bootRun_later b x
    generalize bootRun b x = y at he hrun
    have hexit := bootExit_exits y
    have hdev := hexit.dev
    refine ends_rested he ?_ ?_ fun t hp ht hn hd _ hv => ⟨hp.trans hexit.phase, ?_, ?_, ?_⟩
    · rw [hdev]
      split <;> decide
    · rw [hdev]
      split <;> decide
    · rw [ht, hexit.tick]
      omega
    · rw [ht, hexit.tick]
      omega
    · rw [if_pos hbank, hd, hv, hdev, hexit.version, exited_bankVersion (hn.trans hexit.nv), hn, hexit.nv]
      exact ⟨rfl, rfl⟩
  · have hnone := bootBank_none (s := switched u w) (by rwa [hnv, hbanks, hbanks])
    rw [bootSwitches_halts hw hnone] at he
    obtain ⟨hdev, hup, hhalt, hnow⟩ := raise5_booting (switched u w) (by decide : faultClass 0x7041 = 5) hphase
    refine ends_rested he (by rw [hdev]; decide) (by rw [hdev]; decide) fun t hp ht _ hd hh _ => ⟨hp.trans hup, ?_, ?_, ?_⟩
    · rw [ht, hnow]
      omega
    · rw [ht, hnow]
      omega
    · rw [if_neg hbank, hd, hh]
      exact ⟨hdev, hhalt⟩

/-- Settles O9: each reset and each end of BOOT has a lemma of its own, by the state that it leaves to the end of the command. -/
theorem resetsRunAndBootEnds : Obligations.ResetsRunAndBootEnds := by
  unfold Obligations.ResetsRunAndBootEnds
  refine ⟨fun s dt hc => ⟨?_, ?_, ?_⟩, ?_, ?_⟩
  · intro nanos taken hph hlow
    exact resetPin_holds dt hph hlow
  · exact resetRelease_boots dt hc
  · intro t0 hpend hsaid
    exact deviceResetApply_boots dt hpend hsaid
  · intro s dt x hc _ hrst
    exact bootEnd_waits dt x hc hrst
  · intro s dt x t0 _ hph hrst
    refine ⟨bootEnd_updates dt hph hrst, ?_⟩
    intro w hsel hf hpll hok hw
    exact bootEnd_finishes dt hph hrst hsel hf hpll hok hw

end Sys2Proof.Machine
end
